-- ==== Sys2Proof/Word.lean ====
section
/-!
DEFINITION. The words and tables the model is written over: bytes and 32-bit words, bit fields as the manual writes
them ([msb:lsb] of a little-endian word), and `Tab`, a sparse table in one canonical form (keys strictly rising, no
entry equal to what an unlisted key reads as), which holds memories and register files as plain data.
-/

namespace Sys2Proof

/-- A byte. -/
abbrev Byte := BitVec 8

/-- A 32-bit word, the unit of packet payloads and RESULTs. -/
abbrev W32 := BitVec 32

/-- Field of `n` bits whose lowest bit is bit `lo` of the number `w`. -/
def bitsOf (w lo n : Nat) : Nat := w / 2 ^ lo % 2 ^ n

/-- Bit `i` of the number `w`. -/
def bitOf (w i : Nat) : Bool := w / 2 ^ i % 2 == 1

/-- `b` as a one-bit field. -/
def b2n (b : Bool) : Nat := if b then 1 else 0

/-- Fields packed from bit 0 upwards; each field is a value and its width, and the value is cut to the width. -/
def pack : List (Nat × Nat) → Nat
  | [] => 0
  | (v, n) :: fs => v % 2 ^ n + 2 ^ n * pack fs

/-- A number as one 32-bit word. -/
def w32 (n : Nat) : W32 := BitVec.ofNat 32 n

/-- A number as two 32-bit words, low word first (little-endian, 00 Notation). -/
def w64 (n : Nat) : List W32 := [w32 n, w32 (n / 2 ^ 32)]

/-- A number as `k` little-endian bytes. -/
def leBytes : Nat → Nat → List Byte
  | 0, _ => []
  | k + 1, n => BitVec.ofNat 8 n :: leBytes k (n / 256)

/-- The number that little-endian bytes spell. -/
def leNat : List Byte → Nat
  | [] => 0
  | b :: bs => b.toNat + 256 * leNat bs

/-- The bytes of 32-bit words in order, each little-endian. -/
def wordBytes : List W32 → List Byte
  | [] => []
  | w :: ws => leBytes 4 w.toNat ++ wordBytes ws

/-- 32-bit words from bytes in order; a last part of fewer than four bytes is dropped (every payload is a multiple
of 4, R105). -/
def bytesWords : List Byte → List W32
  | b0 :: b1 :: b2 :: b3 :: bs => w32 (leNat [b0, b1, b2, b3]) :: bytesWords bs
  | _ => []

/-- The two's-complement reading of an `n`-bit field. -/
def signed (n v : Nat) : Int := if v % 2 ^ n < 2 ^ (n - 1) then (v % 2 ^ n : Nat) else (v % 2 ^ n : Nat) - (2 ^ n : Nat)

/-- An integer as an `n`-bit two's-complement field. -/
def ofSigned (n : Nat) (v : Int) : Nat := (v % (2 ^ n : Nat)).toNat

/-- `v` held within `lo` and `hi`. -/
def clampN (lo hi v : Nat) : Nat := if v < lo then lo else if hi < v then hi else v

/-- `v` held within `lo` and `hi`, for signed values. -/
def clampI (lo hi v : Int) : Int := if v < lo then lo else if hi < v then hi else v

/-- `n` plus one, held at `2^k - 1` (a saturating counter of `k` bits). -/
def satInc (k n : Nat) : Nat := if n + 1 < 2 ^ k then n + 1 else 2 ^ k - 1

/-- Number of set bits among the low `n` bits of `w`. -/
def popcount : Nat → Nat → Nat
  | 0, _ => 0
  | n + 1, w => w % 2 + popcount n (w / 2)

/-- Indices of the set bits among the low `n` bits of `w`, rising. -/
def maskBits (n w : Nat) : List Nat := (List.range n).filter (bitOf w)

/-! ### Sparse tables -/

/-- A sparse table with natural keys and default value `d`: what an unlisted key reads as. `cells` is kept with keys
strictly rising and no value equal to `d` (`Tab.wf`), so that equal tables are equal data. -/
structure Tab {α : Type} (d : α) where
  cells : List (Nat × α)
deriving DecidableEq, Repr

/-- The table in which every key reads as the default. -/
def Tab.empty {α : Type} {d : α} : Tab d := { cells := [] }

/-- Look a key up in an association list. -/
def cellsGet {α : Type} (d : α) (k : Nat) : List (Nat × α) → α
  | [] => d
  | (k', v) :: r => if k' = k then v else cellsGet d k r

/-- Write a key in a rising association list: the default removes the entry. -/
def cellsSet {α : Type} [DecidableEq α] (d : α) (k : Nat) (v : α) : List (Nat × α) → List (Nat × α)
  | [] => if v = d then [] else [(k, v)]
  | (k', v') :: r =>
    if k < k' then (if v = d then (k', v') :: r else (k, v) :: (k', v') :: r)
    else if k' = k then (if v = d then r else (k, v) :: r)
    else (k', v') :: cellsSet d k v r

/-- All keys of an association list are above `k`. -/
def cellsAbove {α : Type} (k : Nat) : List (Nat × α) → Bool
  | [] => true
  | (k', _) :: r => decide (k < k') && cellsAbove k r

/-- The canonical form: keys strictly rising and no default listed. -/
def cellsWf {α : Type} [DecidableEq α] (d : α) : List (Nat × α) → Bool
  | [] => true
  | (k, v) :: r => decide (v ≠ d) && cellsAbove k r && cellsWf d r

/-- What a key reads as. -/
def Tab.get {α : Type} {d : α} (t : Tab d) (k : Nat) : α := cellsGet d k t.cells

/-- The table with one key written. -/
def Tab.set {α : Type} [DecidableEq α] {d : α} (t : Tab d) (k : Nat) (v : α) : Tab d :=
  { cells := cellsSet d k v t.cells }

/-- The table with one key changed by a function of its value. -/
def Tab.upd {α : Type} [DecidableEq α] {d : α} (t : Tab d) (k : Nat) (f : α → α) : Tab d := t.set k (f (t.get k))

/-- The canonical form of a table. -/
def Tab.wf {α : Type} [DecidableEq α] {d : α} (t : Tab d) : Bool := cellsWf d t.cells

/-- The listed keys, rising. -/
def Tab.keys {α : Type} {d : α} (t : Tab d) : List Nat := t.cells.map Prod.fst

/-- Every key of a list written with one value. -/
def Tab.setAll {α : Type} [DecidableEq α] {d : α} (t : Tab d) (ks : List Nat) (v : α) : Tab d :=
  ks.foldl (fun u k => u.set k v) t

/-! ### Byte memories -/

/-- A byte memory: sparse, and an unlisted address reads as zero. -/
abbrev Mem := Tab (0#8 : Byte)

/-- Write bytes at rising addresses from `a`. -/
def Mem.write (m : Mem) (a : Nat) : List Byte → Mem
  | [] => m
  | b :: bs => Mem.write (Tab.set m a b) (a + 1) bs

/-- Read `n` bytes at rising addresses from `a`. -/
def Mem.read (m : Mem) (a : Nat) : Nat → List Byte
  | 0 => []
  | n + 1 => Tab.get m a :: Mem.read m (a + 1) n

/-- Read a little-endian number of `n` bytes at `a`. -/
def Mem.readNat (m : Mem) (a n : Nat) : Nat := leNat (Mem.read m a n)

/-- Remove every listed byte whose address lies in `[a, a + n)`: the range then reads as zero. -/
def Mem.zero (m : Mem) (a n : Nat) : Mem :=
  { cells := m.cells.filter (fun c => ¬ (a ≤ c.1 ∧ c.1 < a + n)) }

end Sys2Proof
end

