-- ==== Sys2Proof/Config.lean ====
section
/-!
DEFINITION. What an implementation fixes and what the spec leaves open. First the member of the family and the unit
counts its fuses give (00 R1, R3; 19 R533). Then the free values: opaque constants with no body, applied to their
operands or to the state's counter, so that no proof can see a value (each named in the assumption log).
-/

namespace Sys2Proof

/-- The members of the family (00 R1). -/
inductive Member where
  | zl8808 | zl8804 | zl8802
deriving DecidableEq, Repr

namespace Member

/-- One figure of the table of R1: the value on each member. -/
def pick (m : Member) (a b c : Nat) : Nat :=
  match m with
  | .zl8808 => a
  | .zl8804 => b
  | .zl8802 => c

def pipes (m : Member) : Nat := m.pick 8 4 2
def dptx (m : Member) : Nat := m.pick 4 2 1
def dsi (m : Member) : Nat := m.pick 2 2 1
def dsc (m : Member) : Nat := m.pick 4 2 1
def clusters (m : Member) : Nat := m.pick 16 8 4
def geoFrontEnds (m : Member) : Nat := m.pick 4 2 1
def gpuL2MiB (m : Member) : Nat := m.pick 8 4 2
def safeClusters (m : Member) : Nat := m.pick 4 4 2
def channels (m : Member) : Nat := m.pick 8 4 2
def dramMaxMiB (m : Member) : Nat := m.pick 32768 16384 8192
def slcWays (m : Member) : Nat := m.pick 16 8 4
def bandMiB (m : Member) : Nat := m.pick 16 8 4
def instances (m : Member) : Nat := m.pick 16 8 4
def ports (m : Member) : Nat := m.pick 4 4 2
def vfs (m : Member) : Nat := m.pick 16 8 4
def touchChannels (m : Member) : Nat := m.pick 256 128 0
def touchPanels (m : Member) : Nat := m.pick 4 4 0
def haptics (m : Member) : Nat := m.pick 8 4 0
def videoSlots (m : Member) : Nat := m.pick 16 8 4
def graphicSlots (m : Member) : Nat := m.pick 48 24 12
def clockDomains (m : Member) : Nat := m.pick 31 25 18
/-- The sense die is fitted (R1, R9). -/
def sense (m : Member) : Bool := decide (m ≠ .zl8802)
/-- The zero-crossing gain mode is present (R1, R8). -/
def zcGain (m : Member) : Bool := decide (m = .zl8808)

/-- The first clock domain index of HOST, SENSE, PIX, DPL and DSI domains (R533). -/
def domHost (_ : Member) : Nat := 12
def domSense (m : Member) : Nat := 12 + m.ports
def domPix (m : Member) : Nat := m.domSense + b2n m.sense
def domDpl (m : Member) : Nat := m.domPix + m.pipes
def domDsi (m : Member) : Nat := m.domDpl + m.dptx

/-- Layer slots of the member: video slots 0 to V - 1, then graphic slots V to V + G - 1 (R318). -/
def slots (m : Member) : Nat := m.videoSlots + m.graphicSlots

/-- How many units of a defined class the member has, where the class is numbered contiguously from 0
(01 Unit handles, R1, R3); `none` for a reserved class (R19). -/
def classCount (m : Member) : Nat → Option Nat
  | 0x00 => some 1
  | 0x01 => some m.ports
  | 0x02 => some (m.instances + 1)
  | 0x03 => some 4
  | 0x04 => some 1
  | 0x05 => some 1
  | 0x06 => some m.channels
  | 0x07 => some 1
  | 0x08 => some 8
  | 0x09 => some m.clusters
  | 0x0A => some 1
  | 0x0B => some 1
  | 0x0C => some 1
  | 0x0D => some m.slots
  | 0x0E => some m.pipes
  | 0x0F => some m.pipes
  | 0x10 => some m.dptx
  | 0x11 => some m.dsi
  | 0x12 => some m.dsc
  | 0x13 => some (16 * m.pipes)
  | 0x14 => some m.touchPanels
  | 0x15 => some m.haptics
  | 0x16 => some (b2n m.sense)
  | 0x17 => some 1
  | 0x18 => some 1
  | 0x19 => some 1
  | 0x1A => some m.clockDomains
  | 0x1B => some 1
  | 0x1C => some (b2n m.sense)
  | _ => none

/-- The unit that a handle names is present in the member (R5, R19). -/
def present (m : Member) (handle : Nat) : Bool :=
  match m.classCount (handle / 256) with
  | none => false
  | some n => decide (handle % 256 < n)

/-- The handle's class is one of the table of 01 Unit handles (R19). -/
def classDefined (m : Member) (handle : Nat) : Bool := (m.classCount (handle / 256)).isSome

end Member

namespace Config

/-! The free values. Each is a constant without a body; `Nat` first arguments are the state's counter. -/

/-- What host memory holds at an address (by port * 2^64 + address) when the device reads it (log 4). -/
opaque hostByte (ctr key : Nat) : Byte

/-- The TRNG seed of the neighbour-refresh generators (R176, log 5). -/
opaque seed (ctr : Nat) : Nat

/-- The code of a trained rate between those of MAX_RATE, in LINK_STATE (R402, R417; log 29). -/
opaque rateCode (mbps : Nat) : Nat

/-- Whether the sink's DSC capabilities, read from DPCD, allow the settings: by the sink's EDID CRC and the packet's
word (R410, log 30). -/
opaque sinkAdmitsDsc (edidCrc word : Nat) : Bool

/-- What OTP and fuses hold: word `k` of a calibration item (R621, R624; log 34). -/
opaque factory (item index k : Nat) : Nat

/-- DEVICE_ID and the attestation certificate's bytes (R511, R624; log 34). -/
opaque deviceId : Nat
opaque certificate : List Byte

/-- What a measurement of analogue hardware finds: electrode tests, actuator sweeps, noise of microphones. By the
state's counter, the unit and the quantity (R438, R454, R625; log 35). -/
opaque measure (ctr unit k : Nat) : Nat

/-- The force in mN of a charge difference under a gain, before clamping (R463: FORCE_GAIN's scale is not stated;
log 36). -/
opaque forceMn (gain : Nat) (delta : Nat) (diff : Int) : Int

/-- Positions near faulty lines are interpolated; how is not stated (R439, log 37). -/
opaque interpolate (ctr k : Nat) : Nat

/-- Output of the DRBG (R499, log 38). -/
opaque random (ctr k : Nat) : Byte

/-- The crypto engine (R499): SHA-384, ECDSA P-384 signatures made and verified, AES Key Wrap (log 39). -/
opaque sha384 (bs : List Byte) : List Byte
opaque signature (key : Nat) (bs : List Byte) : List Byte
opaque verifies (pubkey sig bs : List Byte) : Bool
opaque unwrap (bs : List Byte) : Option Nat

/-- Fused key slots: the hash of each, and whether it is revoked; the hash of the debug key (R514, R518; log 39). -/
opaque keyHash (slot : Nat) : List Byte
opaque keyRevoked (slot : Nat) : Bool
opaque debugKeyHash : List Byte

/-- Cupper's entry table: bit 0 MARKED, bits [2:1] ORIGIN, [6:3] WINDOWS, [14:7] ARG_BYTES (R502, log 40). -/
opaque entryTable (e : Nat) : Nat

/-- Whether an image's declared formats equal the running image's (R617 step 3, log 41). -/
opaque formatsMatch (unit : Nat) (body : List Byte) : Bool

/-- Group delay of a rate converter and bridge, in us (R475, log 42). -/
opaque latencyUs (rate mixDomain mixRate : Nat) : Nat

/-- Samples that a capture stream delivers, and how frames fall to a stream's buffers in time (R477, log 43). -/
opaque sample (ctr k : Nat) : Byte

/-- DETAIL of LOOP_CONSTRAINED and LOOP_OVERRIDE, which no chapter lays out (R32, R35, R147; log 44). -/
opaque loopDetail (code unit loop : Nat) (enter : Bool) : Nat

/-- SHA-256 (R244, R248; log 39). -/
opaque sha256 (bs : List Byte) : List Byte

/-- What the validation of a SPIR-V module finds, under the SPIR-V 1.5 standard that R242 and R251 name: the ERROR code, 0
where the module is accepted, the WORD, ITEM and TEXT of R251, and the number of entry points (log 58). -/
opaque spirvError (bs : List Byte) : Nat
opaque spirvWord (bs : List Byte) : Nat
opaque spirvItem (bs : List Byte) : Nat
opaque spirvText (bs : List Byte) : List Byte
opaque spirvEntries (bs : List Byte) : Nat

/-- WORD, ITEM and TEXT of a failed compilation (R251, log 58). -/
opaque compileWord (ctr : Nat) : Nat
opaque compileItem (ctr : Nat) : Nat
opaque compileText (ctr : Nat) : List Byte

/-- WAVES where the resident waves do not fit its eight bits (R245, log 59), and the conversion of a NaN clear colour or a
NaN depth to an integer format (R280, log 60). -/
opaque wavesOver (regs : Nat) : Nat
opaque nanColour (bits : Nat) : Nat

/-- FACT_CODE of a Roaster cluster that is offline, and of an instance whose reservation is short: no chapter gives them
(R239, R262; log 61). -/
opaque factCode (cls : Nat) : Nat

/-- The member codes of `FN_ID.MEMBER`, which fuses give (R100, R157; log 53). -/
opaque memberCode (m : Member) : Nat

/-- The JTAG IDCODE (R517), and bytes of Cupper's SRAM and region as a debugger with S_INVASIVE reads them (R517;
log 54). -/
opaque idcode : Nat
opaque secureByte (ctr k : Nat) : Byte

/-- The bytes of a refusal that Cupper writes (R503; log 55). -/
opaque refusalByte (ctr k : Nat) : Byte

/-- How far the device's colour arithmetic lies from the exact value, within the tolerance that R358, R364, R366 and R368
state: by the stage and its inputs (log 64). -/
opaque deviceError (stage : Nat) (inputs : List Nat) : Nat

/-- The source position of a pixel of a rotated layer, in 1/2^20 pixel on an axis (R346: two shears, not given exactly;
log 66). -/
opaque rotated (axis : Nat) (inputs : List Int) : Int

/-- The blend result that a BLEND monitor takes for a pixel whose strip was abandoned, and the CRC that REGION_MON shows for
a missing frame (R393, R394, R385; log 67). -/
opaque missing (ctr key : Nat) : Nat

/-- The bytes of a section of an instance image, which no chapter lays out; AES-256-GCM of the sections under a key and
nonce, its tag, and whether a sealed image's tag fits the key (R91, R92; log 41). -/
opaque imageSection (ctr kind : Nat) : List Byte
opaque gcmSeal (key nonce k : Nat) (bs : List Byte) : Byte
opaque gcmTag (key nonce k : Nat) (bs : List Byte) : Byte
opaque gcmOpens (key : Nat) (image : List Byte) : Bool

/-- How many 64 KiB pieces, or tiles, a cancelled descriptor had moved when it stopped (R592, R197; log 69). -/
opaque piecesMoved (ctr : Nat) : Nat

/-- The gain in 0.01 dB at `num / den` of a linear ramp of the gain factor between two gains: between them (R484; the
logarithm is not carried out in the model, log 49). -/
opaque rampDb (start target : Int) (num den : Nat) : Int

/-- The header and data credits that a port advertised in its last flow-control initialisation (R37, R158, PCIe; log
72). -/
opaque fcCredits (port : Nat) : Nat

/-- The facts that a fact sweep finds to differ from the hardware: units with their facts, 0 for none (R604, R610; log 73). -/
opaque sweepFacts (ctr : Nat) : List (Nat × Nat)

/-- Words of the INTENT (`part` 0) and FACT (`part` 1) of an entry whose chapter lays out none (R160, log 74). -/
opaque ledgerWords (ctr unit part : Nat) : List W32

/-- Transfers that the bean counters have checked (R606): which moves count as one message is not laid down for each
command (log 75). -/
opaque transfers (ctr : Nat) : Nat

/-- The GPU back-end version that a Barista firmware image brings (R252; log 83). -/
opaque backEnd (body : List Byte) : Nat

/-- The PCI Vendor ID of the device's configuration space, and the Endpoint UUID derived from DEVICE_ID (R640, R641; log
84). -/
opaque vendorId : Nat
opaque uuid : List Byte

end Config

end Sys2Proof
end

