-- ==== Sys2Proof/Syntax.lean ====
section
/-!
DEFINITION. The commands of the block, one constructor for each row of spec/opcode_table.json. Rows 1-125 are Ibnov
packets (05 R155): their one operand is the packet as the ledger applies it, header fields and payload words. The
other rows are what hosts, engines, timers and pins do: their operands name the unit and carry what comes from outside
the model (host data, measured values, the moment's choice of work).
-/

namespace Sys2Proof

/-- Where a packet came from (03 Rings, R127): a submission ring of a function, or the management port under a tag. -/
inductive Source where
  | sq (port fn ring : Nat)
  | mgmt (tag : Nat)
deriving DecidableEq, Repr

/-- The ring number that a reply shows (R110). A management packet is checked as from a P2 ring (R127).
DEDUCED (log 8): its replies show RING 2. -/
def Source.ring : Source → Nat
  | .sq _ _ r => r
  | .mgmt _ => 2

/-- An accepted packet that has passed steps 1 to 3 of R107: its sender, its header fields (R105) and its payload as
32-bit words. `LENGTH` is four times the number of words. -/
structure Packet where
  inst : Nat
  src : Source
  seq : W32
  barrier : Bool
  barrierAll : Bool
  interim : Bool
  notify : Bool
  target : Nat
  basegen : W32
  words : List W32
deriving DecidableEq, Repr

/-- A host access through BAR2 or BAR4: a read of so many bytes, or a write of bytes. -/
inductive Access where
  | read (len : Nat)
  | write (data : List Byte)
deriving DecidableEq, Repr

/-- The AtomicOps of R203. -/
inductive AtomicOp where
  | fetchAdd | swap | cas
deriving DecidableEq, Repr

/-- Which waiting reply is written: those of a function's reply ring, or those of the management port (R128). -/
inductive Path where
  | fn (port fn : Nat)
  | mgmt
deriving DecidableEq, Repr

/-- What a configuration request touches: a read of the configuration space, or a write of a field the block holds
(02 R47, R81; 04 R146; 21 R593). -/
inductive CfgField where
  | read | busMaster | memorySpace | vfEnable | numVfs | completionTimeout | msixEnable | functionMask
deriving DecidableEq, Repr

/-- A JTAG instruction or a debugger's action (18 R517): IDCODE and BYPASS, another instruction, trace and read-only
registers of a world, halting a Barista core or Cupper, memory of the Barista cores, Cupper's SRAM and region. -/
inductive JtagOp where
  | idcode | bypass | other | trace (secure : Bool)
  | haltCore (core : Nat) (on : Bool) | haltCupper (on : Bool)
  | readMem (addr len : Nat) | writeMem (addr : Nat) (data : List Byte)
  | readSecure (len : Nat) | writeSecure (len : Nat)
deriving DecidableEq, Repr

/-- One access of the Roaster array to instance memory (09 R272): by the raster output of a render pass into its
attachments or by a shader, a write of `data` or a read of `len` bytes at an instance address, on a cluster. -/
structure GpuAccess where
  raster : Bool
  write : Bool
  addr : Nat
  len : Nat
  data : List Byte
  cluster : Nat
deriving DecidableEq, Repr

/-- A descriptor that a draw or dispatch found unusable (08 R254). -/
structure DescFault where
  pipeline : Nat
  set : Nat
  binding : Nat
  cause : Nat
  count : Nat
deriving DecidableEq, Repr

/-- What shaders and rasteriser made of a work item, which no rule of the spec computes: accesses in their order,
descriptors found unusable, samples passed by each occlusion query in token order, accesses out of range (R255), draws
split (R300). -/
structure GpuWork where
  accesses : List GpuAccess
  descs : List DescFault
  samples : List Nat
  outOfRange : Nat
  splits : Nat
deriving DecidableEq, Repr

/-- A fault as its unit's chapter raises it (21 R580, R581). -/
structure ErrArg where
  code : Nat
  severity : Nat
  unit : Nat
  inst : Nat
  seq : Nat
  detail : Nat
deriving DecidableEq, Repr


/-- The commands: one constructor per row of the opcode table, in its order. -/
inductive Instr where
  /-- R156. Returns the payload unchanged with ST_OK and changes nothing. -/
  | nop (p : Packet)
  /-- R157. Returns the capability report with unit counts and pool totals taken at one instant. -/
  | deviceCaps (p : Packet)
  /-- R160. Returns the generation, agreement state, loop state, intention and facts of one ledger entry. -/
  | ledgerRead (p : Packet)
  /-- R161. Removes up to MAX records, oldest first, from instance 0's holding queue and returns them. -/
  | eventFetch (p : Packet)
  /-- R162. LOOP_SET OP 0 sets a loop's lower and upper bounds and advances the generation. -/
  | loopSetBounds (p : Packet)
  /-- R33. LOOP_SET OP 1 pins a loop at its present output. -/
  | loopSetPinPresent (p : Packet)
  /-- R33. LOOP_SET OP 2 pins a loop at VALUE, clamped into its bounds. -/
  | loopSetPinValue (p : Packet)
  /-- R162. LOOP_SET OP 3 releases a pin so that the loop moves freely within its bounds again. -/
  | loopSetUnpin (p : Packet)
  /-- R163. Sets the BAR2 and BAR4 sizes of a port's PF and VFs as one step, refused with ST_BUSY where R48 forbids it. -/
  | portConfig (p : Packet)
  /-- R164. With a correct CONFIRM, replies ST_OK, stops acceptance and starts the full reset within 1 ms. -/
  | deviceReset (p : Packet)
  /-- R58. Creates an instance in QUIESCED, unbound, with its class and the grants of its quota list. -/
  | instCreate (p : Packet)
  /-- R58. Binds a QUIESCED or FROZEN instance to a function and releases any earlier binding. -/
  | instBind (p : Packet)
  /-- R70. Applies a quota list to an instance as one indivisible step, checked in the order of R71. -/
  | instQuotaSet (p : Packet)
  /-- R61. Stops intake, drains or cancels the instance's work in every engine and returns its holdings. -/
  | instQuiesce (p : Packet)
  /-- R65. Empties the slots, unmaps memory, zero-fills the grants and returns a quiesced bound instance to BOUND. -/
  | instReset (p : Packet)
  /-- R66. Stops intake, finishes the host copy descriptors and saves every context, leaving the instance FROZEN. -/
  | instFreeze (p : Packet)
  /-- R86. Writes the image of a frozen instance into host memory, sealed where SEAL is set. -/
  | instSave (p : Packet)
  /-- R87. Creates a FROZEN, unbound instance from an image after checking its CRC, tag, units and pools. -/
  | instRestore (p : Packet)
  /-- R69. Restores the saved contexts, delivers owed replies, sends INST_THAWED and resumes intake. -/
  | instThaw (p : Packet)
  /-- R58. Zero-fills a quiesced instance's grants, returns them to the free lists and makes it ABSENT. -/
  | instDestroy (p : Packet)
  /-- R191. Maps a range of 64 KiB or 2 MiB pages from the instance's grant as one step. -/
  | memMap (p : Packet)
  /-- R192. Removes a range from the instance's map and returns the pages once earlier work and scan-out release them. -/
  | memUnmap (p : Packet)
  /-- R193. Queues 1 to 127 copy descriptors of one instance to run in order on one copy engine. -/
  | copy (p : Packet)
  /-- R205. MEM_CONFIG OP 0 replaces interleave regions 1 to 3 and re-forms the DRAM quota pool in one step. -/
  | memConfigRegions (p : Packet)
  /-- R205. MEM_CONFIG OP 1 sets the neighbour-refresh probability and radius. -/
  | memConfigNeighbourRefresh (p : Packet)
  /-- R205. MEM_CONFIG OP 2 sets the age limit, row-hit cap and S3 queue limit. -/
  | memConfigScheduler (p : Packet)
  /-- R205. MEM_CONFIG OP 3 assigns SLC ways and allocation policies to service classes. -/
  | memConfigClassWays (p : Packet)
  /-- R211. Creates a CLOSED surface at generation 1 with a zeroed side-table and returns its ID and sizes. -/
  | surfaceCreate (p : Packet)
  /-- R232. Removes a CLOSED surface at once, or with ST_PINNED while it is in scan-out. -/
  | surfaceDestroy (p : Packet)
  /-- R214. Opens a CLOSED surface for writing and advances its generation. -/
  | writeBegin (p : Packet)
  /-- R215. Requests that an OPEN surface close once every writer bound to its window has finished. -/
  | writeEnd (p : Packet)
  /-- R220. Reads tile rows of an OPEN surface on a copy engine and seals them under the current generation. -/
  | seal (p : Packet)
  /-- R233. Places a fence that signals once scan-out has stopped reading a surface generation. -/
  | retireFence (p : Packet)
  /-- R244. Reads and validates a SPIR-V module and holds it in the shader cache. -/
  | shaderLoad (p : Packet)
  /-- R245. Compiles a graphics or compute pipeline, or takes it from the shader cache, and returns its ID. -/
  | pipelineCreate (p : Packet)
  /-- R247. Removes a pipeline or shader module from further use, freeing it when its accepted work completes. -/
  | pipelineDestroy (p : Packet)
  /-- R256. QUEUE_CONFIG OP 0 sets a queue's depth and cluster limit. -/
  | queueConfigDepth (p : Packet)
  /-- R256. QUEUE_CONFIG OP 1 sets the shader cache limit and evicts entries above it. -/
  | queueConfigCache (p : Packet)
  /-- R256. QUEUE_CONFIG OP 2 evicts every cache entry that no live pipeline uses. -/
  | queueConfigEvict (p : Packet)
  /-- R306. QUEUE_CONFIG OP 3 sets a queue's workgroup time limit and urgency margin. -/
  | queueConfigLimits (p : Packet)
  /-- R268. Parses a command buffer, binds its attachments as writers and queues its work on the ring's GPU queue. -/
  | submit (p : Packet)
  /-- R292. Moves pages from the allotment's free list to a binning pass and raises its budget. -/
  | hopperGrant (p : Packet)
  /-- R322. Replaces a slot's staged state after checking its fields. -/
  | layerSet (p : Packet)
  /-- R324. Resets a slot's staged state to its intended state, or to an empty state with EMPTY set. -/
  | layerRelease (p : Packet)
  /-- R327. Makes the staged states of a group of slots their intended states, after the checks of R326. -/
  | commit (p : Packet)
  /-- R344. Sets a slot's motion hint for re-projection, subject to the composition budget. -/
  | motionHint (p : Packet)
  /-- R362. Loads a video slot's scaler coefficient bank, which takes effect whole at the next latch line. -/
  | coefLoad (p : Packet)
  /-- R321. Sets a pipe's safety z-floor, which takes effect at the next latch line. -/
  | zfloorSet (p : Packet)
  /-- R363. Sets a colour stage's output encoding, primaries, levels, sensor and tone curve. -/
  | toneSet (p : Packet)
  /-- R367. Reads a panel LUT, or loads the identity, which takes effect at the first latch line after the read. -/
  | panelLutSet (p : Packet)
  /-- R379. Sets a pipe's timing, which a running pipe takes after its current frame and a relock. -/
  | pipeTiming (p : Packet)
  /-- R380. PIPE_TIMING with LEAD_ONLY changes only the latch lead and quiet windows, from the next frame. -/
  | pipeTimingLeadOnly (p : Packet)
  /-- R377. Sets a pipe's intended state to OFF, BLANK or RUN. -/
  | pipeEnable (p : Packet)
  /-- R388. Replaces an instance's subscription to the events of one pipe. -/
  | lineMatchSet (p : Packet)
  /-- R392. Configures a region monitor, which takes effect at the next frame start. -/
  | regionMonSet (p : Packet)
  /-- R404. Sets the intention of a DisplayPort/eDP transmitter or DSI port. -/
  | linkConfig (p : Packet)
  /-- R406. Routes pipes to the streams of a link, subject to the admission rule. -/
  | routeSet (p : Packet)
  /-- R410. Assigns a DSC encoder to a stream, or releases it, from the pipe's next line 0. -/
  | dscAssign (p : Packet)
  /-- R414. PANEL_POWER OP 0 runs the panel power-off sequence. -/
  | panelPowerOff (p : Packet)
  /-- R414. PANEL_POWER OP 1 runs the panel power-on sequence. -/
  | panelPowerOn (p : Packet)
  /-- R413. PANEL_POWER OP 2 sets the panel's GPIOs, PWM output and sequence times. -/
  | panelPowerConfigure (p : Packet)
  /-- R415. Sets a panel's backlight duty, ramp and PWM frequency. -/
  | backlightSet (p : Packet)
  /-- R409. Sets a stream's depth, colorimetry and transfer-function signalling from the next latch line. -/
  | streamSet (p : Packet)
  /-- R419. Sets a touch panel's lines, mapping, frequencies and frame rate, and restarts an enabled panel. -/
  | touchPanelConfig (p : Packet)
  /-- R433. Sets glove, water, hover, thresholds and freeze regions from the next touch frame. -/
  | touchMode (p : Packet)
  /-- R442. TOUCH_REPORT_RETURN with SETUP sets a guest's report area on a panel and hands every buffer to the device. -/
  | touchReportSetup (p : Packet)
  /-- R442. Returns report buffers to the device, which then writes any pending merged report. -/
  | touchReportReturn (p : Packet)
  /-- R438. Pauses the panel and classifies each channel as good, open or shorted. -/
  | touchSelftest (p : Packet)
  /-- R448. Sets a panel's four wake zones, which take effect at the next Steep entry. -/
  | wakeZoneSet (p : Packet)
  /-- R456. Loads records into the shared haptic effect library. -/
  | effectLoad (p : Packet)
  /-- R458. Takes charge tokens and schedules an effect on an owned channel 150 µs plus DELAY_US later. -/
  | effectPlay (p : Packet)
  /-- R458. Moves a running effect to braking, or ends it, at the next zero crossing. -/
  | effectStop (p : Packet)
  /-- R465. Arms or disarms a local click region on a zoned channel and reserves its tokens. -/
  | clickRegionSet (p : Packet)
  /-- R454. ACTUATOR_CHECK OP 0 applies a test pulse and classifies the actuator. -/
  | actuatorCheck (p : Packet)
  /-- R454. ACTUATOR_CHECK OP 1 sweeps the actuator and measures capacitance, resonance, Q and force zero. -/
  | actuatorCharacterise (p : Packet)
  /-- R454. ACTUATOR_CHECK OP 2 applies bridging, zone and V_MAX, then characterises the actuator. -/
  | actuatorConfigure (p : Packet)
  /-- R475. Opens a host audio stream and returns its domain and latency. -/
  | streamOpen (p : Packet)
  /-- R476. Queues host buffers on a stream, one buffer token each, with an optional start time. -/
  | streamBuffers (p : Packet)
  /-- R478. Ramps a stream to silence and returns its queued buffers as cancelled. -/
  | streamClose (p : Packet)
  /-- R484. Sets a stream, input, crosspoint or output gain, by ramp or at a zero crossing. -/
  | gainSet (p : Packet)
  /-- R482. MIX_ROUTE OP 0 sets the source of a mixer input. -/
  | mixRouteInput (p : Packet)
  /-- R482. MIX_ROUTE OP 1 sets the mixer output that feeds a destination. -/
  | mixRouteDest (p : Packet)
  /-- R480. TDM_CONFIG OP 0 configures a TDM port. -/
  | tdmConfigPort (p : Packet)
  /-- R480. TDM_CONFIG OP 1 sets the mixer domain, the AUDX source and MCLK_OUT. -/
  | tdmConfigMixer (p : Packet)
  /-- R480. TDM_CONFIG OP 2 sets the PDM domain, the enabled microphones and the wind filters. -/
  | tdmConfigPdm (p : Packet)
  /-- R494. Enables or disables a low-latency path from a microphone to a TDM output slot. -/
  | lowlatSet (p : Packet)
  /-- R489. Marks or unmarks a mixer input as an alarm source with an alarm mask. -/
  | alarmSourceSet (p : Packet)
  /-- R492. Starts a tone voice on a pattern, replacing a sounding voice with a crossfade. -/
  | tonePlay (p : Packet)
  /-- R492. TONE_PLAY with STOP stops a voice with a 2 ms ramp. -/
  | toneStop (p : Packet)
  /-- R559. Orders the whole device into Brew, Steep, Warm or Shelf. -/
  | powerState (p : Packet)
  /-- R556. Steeps or wakes one pipe whose display the sender owns. -/
  | powerStatePipe (p : Packet)
  /-- R558. Sets or clears an instance's keep-awake hold. -/
  | keepAwake (p : Packet)
  /-- R567. POWER_CONFIG OP 0 sets the rail and power-good GPIOs, STEEP_AUTO, the sag threshold, the thermal target and the PMIC. -/
  | powerConfig (p : Packet)
  /-- R575. POWER_CONFIG OP 2 erases last-pour slots. -/
  | powerConfigRelease (p : Packet)
  /-- R608. Returns one counter set taken at a single instant. -/
  | telemetryRead (p : Packet)
  /-- R591. Acknowledges the oldest handled records and returns up to MAX error records. -/
  | errorRead (p : Packet)
  /-- R606. Returns a snapshot of the bean counters of one pool or of every pool. -/
  | beanRead (p : Packet)
  /-- R610. DIAG_RUN TEST 1 runs an immediate bean-counter sweep. -/
  | beanAudit (p : Packet)
  /-- R610. DIAG_RUN TEST 2 runs an immediate fact sweep. -/
  | factSweep (p : Packet)
  /-- R610. DIAG_RUN TEST 3 raises an error record marked INJECTED. -/
  | inject (p : Packet)
  /-- R506. SEC_SERVICE STATUS returns availability, arming, debug enables and ALARM_N causes. -/
  | status (p : Packet)
  /-- R506. SEC_SERVICE RANDOM returns bytes from the DRBG. -/
  | random (p : Packet)
  /-- R511. SEC_SERVICE ATTEST returns firmware versions and the nonce, signed with the attestation key. -/
  | attest (p : Packet)
  /-- R508. SEC_SERVICE FALLBACK_SET copies a protected fallback image for a safety slot into Cupper's region. -/
  | fallbackSet (p : Packet)
  /-- R509. SEC_SERVICE LAYER_ESCALATE sets a layer's ESCALATE value. -/
  | layerEscalate (p : Packet)
  /-- R509. SEC_SERVICE PIPE_ESCALATE sets a pipe's ESCALATE value. -/
  | pipeEscalate (p : Packet)
  /-- R510. SEC_SERVICE TONE_PATTERN defines a loadable tone pattern. -/
  | tonePattern (p : Packet)
  /-- R511. SEC_SERVICE ALARM_TEST asserts ALARM_N for MS milliseconds. -/
  | alarmTest (p : Packet)
  /-- R512. MIGRATION_KEY OP 0 unwraps and installs the migration key. -/
  | migrationKeyInstall (p : Packet)
  /-- R512. MIGRATION_KEY OP 1 erases the migration key. -/
  | migrationKeyErase (p : Packet)
  /-- R518. Issues a nonce for a debug unlock request. -/
  | debugChallenge (p : Packet)
  /-- R518. Verifies a signed debug response and adds the requested enables. -/
  | debugResponse (p : Packet)
  /-- R614. Opens a Refill for one firmware unit. -/
  | refillBegin (p : Packet)
  /-- R615. Stores the next bytes of the open Refill image. -/
  | refillData (p : Packet)
  /-- R617. Verifies the staged image, writes it to flash, carries it into the unit and optionally advances the counter. -/
  | refillCommit (p : Packet)
  /-- R616. Discards the open Refill. -/
  | refillAbort (p : Packet)
  /-- R618. Verifies a flash slot and makes it preferred from the next full reset. -/
  | slotSelect (p : Packet)
  /-- R624. Returns an item of factory or user calibration. -/
  | calRead (p : Packet)
  /-- R623. USERCAL_WRITE OP 0 stores the unit's calibration now in use. -/
  | usercalStore (p : Packet)
  /-- R623. USERCAL_WRITE OP 1 erases the unit's user-cal record. -/
  | usercalErase (p : Packet)
  /-- R623. USERCAL_WRITE OP 2 writes a user-cal record read from host memory. -/
  | usercalWrite (p : Packet)
  /-- R625. Recalibrates a touch panel or one region of it. -/
  | recalTouch (p : Packet)
  /-- R625. Recharacterises a haptic channel, and stores the result where STORE is set. -/
  | recalHaptic (p : Packet)
  /-- R625. Retrains one DRAM channel, or each channel in turn. -/
  | recalDram (p : Packet)
  /-- R625. Sets microphone gain trims by comparison with a reference microphone. -/
  | recalMic (p : Packet)
  /-- R97. A host write of a submission-ring tail, ignored and counted when invalid, which may make a BOUND instance ACTIVE. -/
  | sqTailDoorbell (port fn ring tail : Nat)
  /-- R109. A write of 1 to SQ_STATUS.RESUME resumes a halted submission ring. -/
  | sqResume (port fn ring : Nat)
  /-- R101. A write of a ring SIZE latches its BASE, resets its counters and, for EQ_SIZE, empties the holding queue. -/
  | ringSizeWrite (port fn ring value : Nat)
  /-- R103. A host write of RQ_HEAD or EQ_HEAD frees ring space, or is ignored when misaligned or past the tail. -/
  | ringHeadWrite (port fn : Nat) (event : Bool) (value : Nat)
  /-- R145. A write of EVT_MASK; clearing a bit writes the latched record of that code. -/
  | evtMaskWrite (port fn k value : Nat)
  /-- R45. A 32-bit read of the lower half of DEV_TIME copies the upper half into the function's shadow. -/
  | devTimeLowRead (port fn : Nat)
  /-- R100. An access to BAR0 that is not naturally aligned or of the wrong width reads all ones or is discarded, and is counted. -/
  | bar0BadAccess (port fn : Nat) (write : Bool)
  /-- R102. A write to a register without a row of its own, taken or ignored and counted by the state rules. -/
  | registerWrite (port fn offset value : Nat)
  /-- R79. A host read or write through BAR2; an unmapped page reads all ones or discards the write and sends ADDR_FAULT. -/
  | hostBar2Access (port fn addr : Nat) (acc : Access)
  /-- R80. A host read or write of the scratchpad grant through BAR4. -/
  | hostBar4Access (port fn addr : Nat) (acc : Access)
  /-- R203. A host AtomicOp, served as a scratchpad atomic for FetchAdd and Swap on BAR4, or answered Unsupported Request otherwise. -/
  | hostAtomicop (port fn bar addr : Nat) (op : AtomicOp) (wide : Bool) (operand : Nat)
  /-- R131. A rising edge of an internal event source sets its pending bit. -/
  | eicSourceEdge (source : Nat)
  /-- R133. A read of EIC_CLAIM puts the lowest eligible source into service, or returns 0 or the spurious number. -/
  | eicClaim (target : Nat)
  /-- R134. A write of the number in service to EIC_COMPLETE ends that service. -/
  | eicComplete (target id : Nat)
  /-- R137. A firmware write of 1 to EIC_PEND withdraws a pending bit. -/
  | eicPendWithdraw (target source : Nat)
  /-- R501. Setting FULL on a mailbox slot raises the receiver's mailbox source. -/
  | mailboxFullSet (toCupper : Bool) (slot : Nat) (data : List Byte)
  /-- R502. A Barista gateway instruction hands an entry and its argument slot to Cupper, which accepts or refuses it. -/
  | gatewayCall (core slot entry inst : Nat) (data : List Byte) (cause : Option Packet) (opcode : Nat)
  /-- R504. Cupper returns a call; the Barista L2 invalidates the window lines before source 63 rises. -/
  | gatewayReturn (slot : Nat) (data : List Byte)
  /-- R505. A gateway call not returned within 5 ms lets the firmware answer its packet ST_TIMEOUT. -/
  | gatewayTimeout (slot : Nat)
  /-- R107. The device takes a complete packet from a ring, charges it a credit and checks it in the order of R107. -/
  | packetAccept (port fn ring : Nat) (bytes : List Byte)
  /-- R98. A final reply is written once the reply ring has room, then the shadow and vector, and the credit returns. -/
  | replyWrite (path : Path)
  /-- R142. An event record is written to the function's event ring, or held in the holding queue or discarded when space is lacking. -/
  | eventWrite (port fn : Nat)
  /-- R126. An SMBus transaction reaches the management port and its PEC is checked; a failure NACKs and discards the message. -/
  | smbusTransaction (bytes : List Byte)
  /-- R127. A vendor-defined MCTP message with KIND 0x01 carries an Ibnov packet for instance 0. -/
  | mctpIbnovMessage (tag : Nat) (integrity : Bool) (bytes : List Byte)
  /-- R641. A vendor-defined message of KIND 0x02 reads the basic status registers through the Warmer. -/
  | basicRegisterRead (reg len : Nat)
  /-- R641. A vendor-defined message of KIND 0x03 writes the recovery registers through the Warmer. -/
  | basicRegisterWrite (reg : Nat) (data : List Byte)
  /-- R643. Setting RECOVERY_CTRL.START erases slot A of the named unit. -/
  | recoveryStart (unit : Nat)
  /-- R643. A full write of RECOVERY_DATA programs a page at RECOVERY_OFFSET and advances it. -/
  | recoveryData (data : List Byte)
  /-- R643. Setting RECOVERY_CTRL.COMMIT verifies slot A and, on success, makes it preferred. -/
  | recoveryCommit
  /-- R640. The MCTP control command Set Endpoint ID assigns the device's EID. -/
  | setEndpointId (op eid : Nat)
  /-- R640. The MCTP control command Get Endpoint ID returns the EID. -/
  | getEndpointId
  /-- R640. The MCTP control command Get Endpoint UUID returns the UUID derived from DEVICE_ID. -/
  | getEndpointUuid
  /-- R640. The MCTP control command Get MCTP Version Support returns the versions supported. -/
  | getMctpVersionSupport (msgType : Nat)
  /-- R640. The MCTP control command Get Message Type Support returns the message types supported. -/
  | getMessageTypeSupport
  /-- R640. The MCTP control command Get Vendor Defined Message Support returns the vendor message support. -/
  | getVendorDefinedMessageSupport (selector : Nat)
  /-- R640. Any other MCTP control command is answered ERROR_UNSUPPORTED_CMD. -/
  | errorUnsupportedCmd (command : Nat)
  /-- R641. A message whose next packet does not arrive within 100 ms is discarded and counted. -/
  | mctpMessageTimeout (tag : Nat)
  /-- R81. A Function Level Reset fences the function and quiesces its instance with cause FENCE. -/
  | functionLevelReset (port fn : Nat)
  /-- R81. Clearing Bus Master Enable fences the function. -/
  | busMasterEnableCleared (port fn : Nat)
  /-- R81. Clearing VF Enable, or lowering NumVFs, fences the VFs that cease to exist. -/
  | vfEnableCleared (port : Nat) (enable : Bool) (numVfs : Nat)
  /-- R85. A PERST_N assertion fences every function of the port. -/
  | perstNAsserted (port : Nat)
  /-- R636. A PERST_N deassertion starts link training on the port. -/
  | perstNDeasserted (port : Nat)
  /-- R636. A port's PCIe link completes training. -/
  | hostLinkUp (port : Nat)
  /-- R543. A port loses its link through its reference or PHY clock and is fenced as if PERST_N had been asserted. -/
  | hostLinkDown (port : Nat)
  /-- R637. A configuration request completes with Request Retry Status before boot step 5, and is served afterwards. -/
  | configRequest (port fn : Nat) (field : CfgField) (value : Nat)
  /-- R61. Once every engine has drained, replies are written, events withdrawn, holdings returned and the instance enters QUIESCED. -/
  | quiesceDrained (inst : Nat)
  /-- R66. Once every context is saved, the instance enters FROZEN and INST_FREEZE is answered. -/
  | freezeSaved (inst : Nat)
  /-- R65. Once the zero-fill of INST_RESET is complete, the instance reaches BOUND. -/
  | resetScrubbed (inst : Nat)
  /-- R82. An instance quiesced by a fence is reset by the device once its function exists. -/
  | autoreset (inst : Nat)
  /-- R63. The drain bound expires with an engine undrained, and the instance becomes WEDGED. -/
  | drainBoundExpiry (inst : Nat) (undrained : List Nat)
  /-- R595. The wedged instance's work on a copy engine ends or times out, and the engine takes other work again. -/
  | wedgedEngineFree (unit : Nat)
  /-- R26. A fact contradicts an intention; the device follows it, sets CONTRADICTED and advances the generation. -/
  | ledgerFact (unit fact : Nat)
  /-- R27. A contradicting fact clears, and the device realises the intention again. -/
  | ledgerFactCleared (unit : Nat)
  /-- R21. The hardware reaches a newly set intention, and the entry moves from SETTLING to AGREED. -/
  | settled (unit : Nat)
  /-- R604. The 100 ms fact sweep compares every entry's facts with the hardware and applies differences. -/
  | ledgerResync (facts : List (Nat × Nat))
  /-- R32. A loop held at a bound for its report delay enters CONSTRAINED, or leaves it after the same delay within bounds. -/
  | loopConstrained (unit loop : Nat)
  /-- R605. Every 1 ms the bean counters recount every free list and holder table and compare them. -/
  | beanSweep (mismatched : List Nat)
  /-- R177. A scheduled neighbour-row refresh is issued as ACTIVATE-PRECHARGE pairs. -/
  | neighbourRefresh (channel bank row : Nat)
  /-- R176. Every 1 s the TRNG reseeds the neighbour-refresh generators. -/
  | neighbourReseed
  /-- R181. A DRAM request that has waited AGE becomes promoted. -/
  | requestPromoted (channel request : Nat)
  /-- R184. A channel retrains every 256 ms or after an 8 °C change. -/
  | dramRetrain (channel : Nat) (converged : Bool)
  /-- R175. A read meets an ECC error: corrected and counted, or handled as FATAL or INST where uncorrectable. -/
  | dramEccError (channel : Nat) (double : Bool) (region inst iaddr : Nat)
  /-- R174. The controller's background scrub completes a pass over every ECC region. -/
  | scrubPass
  /-- R200. An uncorrectable scratchpad error is FATAL in device-private blocks and INST in an instance's block. -/
  | spadEccUncorr (block offset : Nat)
  /-- R197. A COPY packet starts on the engine with the fewest queued descriptors once tokens are free. -/
  | copyPacketStart (inst seq : Nat)
  /-- R196. A copy descriptor completes and returns its token; the packet replies after its last one. -/
  | copyDescriptorDone (engine : Nat) (hostData : List Byte)
  /-- R199. A host read completes with Unsupported Request or Completer Abort and the descriptor fails. -/
  | hostCompletionError (engine moved : Nat)
  /-- R593. A host completion times out under the Completion Timeout Value and the descriptor fails. -/
  | hostCompletionTimeout (engine moved : Nat)
  /-- R548. An on-die access not completed after 10 µs completes with an error response. -/
  | busTimeout (inst initiator unit : Nat) (write : Bool) (len : Nat)
  /-- R549. A request to stop a block's clock or power waits for pending accesses and closes within 10 µs. -/
  | gateRequest (unit : Nat) (pending : Bool)
  /-- R215. Every writer of a window has finished; the carry-forward runs, the surface is CLOSED and WRITE_END is answered. -/
  | writeWindowClosed (inst surface : Nat)
  /-- R250. A compilation on the Barista cores completes and the pipeline is answered. -/
  | shaderCompileDone (inst seq error : Nat) (stages : List (Nat × Nat)) (components : Nat)
  /-- R250. A compilation unfinished after 2 s is abandoned with error 11. -/
  | compileAbandoned (inst seq : Nat)
  /-- R270. The next SUBMIT of a queue starts once the previous one finished, after its instance's L2 lines are invalidated. -/
  | submitStart (inst queue : Nat) (work : GpuWork)
  /-- R258. At a pre-emption point or pass end, freed clusters are given by priority, urgency and virtual time. -/
  | schedulingDecision
  /-- R312. At least every 50 µs the slack of each deadline SUBMIT is reckoned and urgency set. -/
  | urgencyEvaluation
  /-- R299. The scheduler requests a cluster, which starts no new unit of its work. -/
  | preemptRequest (cluster : Nat)
  /-- R299. The unit in progress ends, the context is saved, and the cluster is free. -/
  | clusterFree (cluster : Nat)
  /-- R291. A binning pass needs a page it cannot take; binning stops and HOPPER_FAULT is sent or the pass flushes. -/
  | hopperFault (inst queue prims : Nat)
  /-- R291. GRANT_US expires without a grant and the pass makes a partial flush. -/
  | hopperGrantWaitExpiry (inst queue : Nat)
  /-- R293. A partial flush completes; pages return and binning resumes. -/
  | hopperFlushed (inst queue : Nat)
  /-- R290. A bin tile is rendered and written out, sealing the seal tile whose four bin tiles are done. -/
  | binTileDone (inst queue tile : Nat) (touched : Bool) (data : List (List Byte))
  /-- R305. A workgroup running past its queue's limit is stopped and the SUBMIT ends with ST_TIMEOUT. -/
  | workgroupTimeLimit (inst queue cluster : Nat)
  /-- R271. A SUBMIT's writes reach the SLC, VALUE is stored where set, and the final reply is written. -/
  | submitComplete (inst queue : Nat) (work : GpuWork)
  /-- R239. An uncorrectable error in a cluster faults its work, makes it offline and raises CLUSTER_OFFLINE. -/
  | clusterOffline (cluster token : Nat)
  /-- R378. Line 0 of a frame: FRAME advances, the touch map takes effect, and pending pipe replies are written. -/
  | frameStart (pipe : Nat)
  /-- R382. At the latch instant the applied commits and surface states are sampled and the next frame's current states taken. -/
  | latchLine (pipe : Nat)
  /-- R337. A band's composition window opens. -/
  | bandWindowOpen (pipe band : Nat)
  /-- R338. The Blend engine composes a strip of the earliest-closing band, fetching and checking tiles. -/
  | bandCompose (faults : List (Nat × Nat × Nat))
  /-- R339. A band's scan-out ends; incomplete strips are abandoned and BAND_LATE counted. -/
  | bandScanoutEnd (pipe : Nat)
  /-- R385. The pipe reaches a column whose strip is incomplete and repeats the last pixel for the line. -/
  | scanoutUnderrun (pipe line column : Nat)
  /-- R230. A surface leaves scan-out and its storage and side-table are unpinned. -/
  | scanoutRelease (inst surface : Nat)
  /-- R389. The pipe reaches the line start of a subscribed LINE and sends LINE_MATCH. -/
  | lineMatch (pipe line : Nat)
  /-- R389. The last active pixel of the frame is sent; FRAME_DONE and any UNDERRUN record go out. -/
  | frameDone (pipe : Nat)
  /-- R389. The pipe reaches line VACT and sends VBLANK_START. -/
  | vblankStart (pipe period : Nat)
  /-- R391. The pipe sends a quiet-window edge over the die-to-die link. -/
  | quietWindow (pipe : Nat) (opens : Bool)
  /-- R378. PLL_PIXn locks on a starting pipe and the timing generator runs a lead-in frame. -/
  | pixelPllLocked (pipe : Nat)
  /-- R397. PLL_PIXn loses lock; the pipe enters HELD on its bypass clock. -/
  | pixHeld (pipe : Nat)
  /-- R397. A relock attempt at 50 µs intervals; after three failures the pipe enters OFFLINE. -/
  | pixRelockAttempt (pipe : Nat) (locked : Bool)
  /-- R398. An OFFLINE pipe retries lock once every second. -/
  | pixOfflineRetry (pipe : Nat) (locked : Bool)
  /-- R665. PLL_PIXn loses lock during the last frame before OFF; the pipe stops at once. -/
  | pixUnlockAtStop (pipe : Nat)
  /-- R394. A monitor frame completes and Cupper compares its CRC with the expected values. -/
  | regionMonFrame (monitor : Nat)
  /-- R394. A monitor frame does not complete within two frame periods and counts as a mismatch. -/
  | regionMonMissing (monitor : Nat)
  /-- R412. HPD low for more than 2 ms records LINK_DOWN. -/
  | hpdLow (unit : Nat)
  /-- R412. A short HPD pulse makes the device read link status and retrain where lock is lost. -/
  | hpdIrq (unit : Nat) (lockLost : Bool)
  /-- R416. HPD rises; the EDID is read and training starts to the standing intention. -/
  | hpdRise (unit : Nat) (edid : List Byte)
  /-- R411. Link training completes or fails; admission is rechecked and streams dropped where short. -/
  | linkTrainingDone (unit : Nat) (ok : Bool) (lanes mbps : Nat)
  /-- R411. After three failed trainings the link retries every second while HPD is high. -/
  | trainRetry (unit : Nat)
  /-- R414. A panel power sequence time elapses and the next step runs. -/
  | panelSequenceStep (unit : Nat)
  /-- R13. A die receives a die-to-die link frame and checks it. -/
  | d2dFrame (main valid : Bool)
  /-- R15. 16 µs without a valid frame, or eight failing frames, declares the link lost. -/
  | d2dLinkLost (main : Bool)
  /-- R15. Every 100 ms the main die tries to re-establish the link. -/
  | d2dLinkRetry
  /-- R15. The link is up again and the sense-die configuration is reloaded from the ledger. -/
  | d2dLinkUp
  /-- R431. A panel starts, runs two unreported frames and sets its baselines. -/
  | touchPanelStart (panel : Nat) (temp : Int) (raw self : List Nat) (codes : List (Nat × Nat))
  /-- R423. A drive burst completes its integration, or is deferred or discarded around HV edges. -/
  | touchBurst (panel edge : Nat)
  /-- R424. A touch frame's last burst ends; contacts are resolved, tracked and routed. -/
  | touchFrame (panel : Nat) (raw self : List Nat)
  /-- R430. A contact that has lasted LONG_S seconds sends TOUCH_LONG. -/
  | touchLong (panel id : Nat)
  /-- R431. A non-touch-shaped cluster still present after 10 s is absorbed into the baseline. -/
  | touchAbsorbed (panel : Nat)
  /-- R435. Automatic glove mode ends after 5 s without a glove contact. -/
  | gloveModeExit (panel : Nat)
  /-- R436. The panel leaves WET after 1 s below the wet share. -/
  | wetExit (panel : Nat)
  /-- R449. Every PERIOD_MS in Steep the sense die scans wake zones; a hit wakes the device. -/
  | steepWakeScan (panel : Nat) (deltas : List Nat)
  /-- R458. A played effect's first drive sample goes out, truncating any running effect. -/
  | effectStart (channel r64 : Nat) (limit : Bool) (capPf motion : Nat)
  /-- R459. An effect's braking ends, its tokens return, and EFFECT_DONE is sent where asked. -/
  | effectDone (channel : Nat)
  /-- R452. VHV reaches its set value and waiting effects start. -/
  | boostReady
  /-- R452. The boost turns off 50 ms after the last effect or armed region ends. -/
  | boostOff
  /-- R452. VHV low or current limit for 1 ms stops every channel and raises HV_FAULT. -/
  | hvFault (cause vhv current : Nat)
  /-- R452. The boost retries 1 s after an HV fault. -/
  | hvRetry (ok : Bool) (vhv current : Nat)
  /-- R463. Every 50 µs an idle channel samples its actuator's force. -/
  | forceSample (channel counts : Nat)
  /-- R477. A stream buffer is fully read or written; its token returns and BUFFER_DONE is sent. -/
  | bufferDone (k : Nat)
  /-- R477. A stream's shortfall ends and STREAM_XRUN reports the frames concerned. -/
  | streamXrun (k frames : Nat)
  /-- R476. A stream with START_AT starts at START_TIME. -/
  | streamStart (k : Nat)
  /-- R472. AUDX shows no edge for 100 µs or drifts; slave ports stop and the mixer moves to AUDA. -/
  | audxLost (rateMhz : Nat)
  /-- R472. After 100 ms within tolerance, slave ports resume and the mixer returns to AUDX. -/
  | audxRestored (rateMhz : Nat)
  /-- R485. No zero crossing occurs within TIME_MS and the gain change runs as a 1 ms ramp. -/
  | zcTimeout (kind a b : Nat)
  /-- R492. A tone voice reaches the end of REPEAT and stops. -/
  | toneEnd (voice : Nat)
  /-- R487. Clipped samples on an output are reported at most once per second. -/
  | audioClip (output : Nat) (samples : List Int)
  /-- R488. An output limiter moves its gain reduction, entering CONSTRAINED or OVERRIDDEN. -/
  | limiterStep (output : Nat) (peak : Int) (us : Nat)
  /-- R491. The alarm floor clamps each alarm path's attenuation into bounds with a 10 ms ramp. -/
  | alarmFloorStep
  /-- R369. Every 100 ms the sun-mode loop reads the sensor and moves s towards its target. -/
  | sunLoopStep (stage : Nat) (reading : Option Nat)
  /-- R372. The safety colour guard moves G within bounds and never below 8,192. -/
  | colourGuardStep (stage : Nat)
  /-- R178. The refresh interval follows the DRAM temperature report within bounds. -/
  | refreshDerating (channel required : Nat)
  /-- R569. Every 1 ms the hottest sensor is read and the throttle level moved. -/
  | thermalSample (temps : List (Nat × Int))
  /-- R571. The adaptive voltage loop writes VDD_GPU to the PMIC and limits the GPU clock. -/
  | adaptiveVoltageStep (passMv level : Nat)
  /-- R525. Cupper firmware restarts the watchdog count. -/
  | secureWdogKick
  /-- R526. The watchdog period elapses; Cupper is held in reset and ALARM_N and a full reset follow when armed. -/
  | secureWdog
  /-- R500. An uncorrectable Cupper SRAM error stops Cupper as a watchdog expiry. -/
  | cupperSramUncorr
  /-- R529. 100 ms after a loss, Cupper restarts once from flash. -/
  | cupperRestart
  /-- R498. A normal-world access to Cupper's region or secure ways is blocked and recorded. -/
  | secViolation (initiator inst : Nat) (write : Bool) (len : Nat)
  /-- R524. ALARM_TEST's time elapses and cause TEST clears. -/
  | alarmTestEnd
  /-- R538. A reference shows no edge and every internal PLL enters holdover. -/
  | pllHoldover (port : Nat)
  /-- R536. A reference's window count leaves range and the reference fails. -/
  | refclkFail (failed : List (Nat × Nat)) (warmrc : Nat)
  /-- R536. A failed reference shows 16 healthy windows and becomes healthy again. -/
  | refclkHealthy (port khz : Nat)
  /-- R544. A higher-priority reference healthy for 1 s, or at once in degraded mode, is selected again. -/
  | refSwitchBack (port : Nat)
  /-- R539. Every 1 ms WARMRC is checked against WARM32 and a fault recorded over 3 %. -/
  | warmrcCheck (counts : Nat)
  /-- R539. WARM32 shows no edge for 1 ms and XTAL_LOST is recorded. -/
  | xtalLost
  /-- R545. An internal PLL loses lock and its domain moves to its bypass. -/
  | pllUnlock (domain : Nat)
  /-- R546. A relock attempt of a domain; success returns it from bypass, failure may make it offline or FATAL. -/
  | pllRelockAttempt (domain : Nat) (locked : Bool)
  /-- R557. Every 100 ms with every pipe steeped, the device tries to enter Steep on its own. -/
  | steepAutoCheck
  /-- R565. A wake source is latched and the device exits Steep or Warm in the fixed order. -/
  | wakeSource (source arg wakeUs : Nat)
  /-- R553. A memory request, L1 exit or a host holding WAKEn_N low raises the port's host wake. -/
  | hostWake (port : Nat)
  /-- R654. A WAKE pin or RTC alarm in Shelf asserts the rail GPIO and, at power-good, boots. -/
  | shelfExit (source arg : Nat) (powerGood : Bool)
  /-- R654. Power-good does not rise within 100 ms; the rails are released and the device stays in Shelf. -/
  | pgoodTimeout
  /-- R573. A sag sheds load, saves the sag record and commits its core to flash, then holds every unit in reset. -/
  | supplySag (cause vsense : Nat) (late fatal : Bool)
  /-- R573. The supply stands restored for 10 ms and the full reset runs with wake source 6. -/
  | supplyRestored
  /-- R655. A rail falls below its range outside reset and is handled as sag, sense-die reset or Warmer reset. -/
  | railFall (rail vsense : Nat)
  /-- R583. An error record is raised, merged or queued and handled in order. -/
  | errorRecord (record : Option ErrArg)
  /-- R599. RESET_N found low on 15 consecutive WARMRC edges starts the full reset sequence. -/
  | resetNLow
  /-- R598. RESET_N rises and the boot sequence begins. -/
  | resetNRise
  /-- R598. The full reset sequence sheds load, drops links, parks DRAM and holds units in reset. -/
  | fullReset
  /-- R631. The boot sequence samples straps, selects a reference, verifies and loads images and builds the ledger; `pause`
  leaves it in STAGE 4 while the next commands come. -/
  | boot (healthy : Nat) (mismatch : Option Nat) (pause : Bool)
  /-- R632. No reference is healthy at boot; after 100 ms the device continues in degraded mode. -/
  | bootNoReference (mismatch : Option Nat)
  /-- R633. The flash does not answer its SFDP read within 10 ms and the boot halts. -/
  | flashSfdpTimeout (healthy : Nat)
  /-- R635. A sag during boot sheds load, writes a sag mark and restarts the boot after 10 ms restored. -/
  | supplySagAtBoot
  /-- R601. The scrubber finishes zero-filling blocks and frees them, letting waiting creates proceed. -/
  | scrubDone
  /-- R615. A Refill that receives no packet for 10 s is discarded. -/
  | refillTimeout
  /-- R620. A deferred image is taken at the next retrain or link training. -/
  | refillDeferredTaken (unit part : Nat)
  /-- R485. A channel with a waiting zero-crossing gain change meets a sample whose sign differs from the previous one, or is zero, and takes the new gain. -/
  | zeroCrossing (kind a b : Nat)
  /-- R186. The background zero-fill of granted blocks in dropped Warm segments completes, the blocks become accessible and MEM_LOST goes to the manager. -/
  | memLost
  /-- R570. After a THERMAL_TRIP the hottest sensor reads 100 °C or less and the device leaves the full reset it was held in and boots. -/
  | thermalTripRelease (temp : Int)
  /-- R517. A JTAG instruction, or a debugger halt of a core or of Cupper, is served or refused according to the debug enables in force. -/
  | jtagAccess (op : JtagOp)
  /-- R136. A firmware write to EIC_EN masks or enables a source, leaving a pending source latched or making it eligible and raising the notification line. -/
  | eicEnableWrite (target source : Nat) (enable : Bool)
  /-- R130. A firmware write to EIC_ROUTE sets a source's target, and a normal-world write to a fixed Cupper route is ignored and counted. -/
  | eicRouteWrite (source target : Nat)
deriving DecidableEq, Repr

end Sys2Proof
end

