-- ==== Sys2Proof/Machine/Flags.lean ====
section
/-!
DEFINITION. Check values (03 R121 to R125, 07 R217, R221): the CRCs of packets, replies, event records, images, tile
seals and the SMBus PEC. The block has no arithmetic flags; these are the values it computes beside its data.
-/

namespace Sys2Proof.Machine

open Sys2Proof

/-- One bit of CRC-32C on a register held reflected: polynomial 0x1EDC_6F41 with its bits reversed (R121). -/
def crcBit (r : W32) : W32 := if r.getLsbD 0 then (r >>> 1) ^^^ 0x82F63B78#32 else r >>> 1

/-- One byte fed to the CRC-32C register (R121, R123). The register is held reflected, so that reading it applies no
further reflection and R221's linearity holds: DEDUCED (log 20). -/
def crcByte (r : W32) (b : Byte) : W32 :=
  crcBit (crcBit (crcBit (crcBit (crcBit (crcBit (crcBit (crcBit (r ^^^ b.setWidth 32))))))))

/-- Bytes fed to a CRC-32C register. -/
def crcFeed (r : W32) (bs : List Byte) : W32 := bs.foldl crcByte r

/-- CRC-32C of bytes with a seed in place of the initial value (R121, R124, R217). -/
def crc32cSeed (seed : W32) (bs : List Byte) : W32 := crcFeed seed bs ^^^ 0xFFFFFFFF#32

/-- CRC-32C of bytes (R121, R122). -/
def crc32c (bs : List Byte) : W32 := crc32cSeed 0xFFFFFFFF#32 bs

/-- One byte fed to CRC-16/CCITT, polynomial 0x1021, not reflected (R121). -/
def crc16Byte (r : BitVec 16) (b : Byte) : BitVec 16 :=
  let step (x : BitVec 16) : BitVec 16 := if x.getLsbD 15 then (x <<< 1) ^^^ 0x1021#16 else x <<< 1
  step (step (step (step (step (step (step (step (r ^^^ (b.setWidth 16 <<< 8)))))))))

/-- CRC-16/CCITT of bytes (R121). -/
def crc16 (bs : List Byte) : BitVec 16 := bs.foldl crc16Byte 0xFFFF#16

/-- One byte fed to CRC-32 (IEEE): polynomial 0x04C1_1DB7, reflected (R121). -/
def crc32Byte (r : W32) (b : Byte) : W32 :=
  let step (x : W32) : W32 := if x.getLsbD 0 then (x >>> 1) ^^^ 0xEDB88320#32 else x >>> 1
  step (step (step (step (step (step (step (step (r ^^^ b.setWidth 32))))))))

/-- CRC-32 (IEEE) of bytes (R121). -/
def crc32 (bs : List Byte) : W32 := bs.foldl crc32Byte 0xFFFFFFFF#32 ^^^ 0xFFFFFFFF#32

/-- One byte fed to CRC-8, polynomial 0x07 (R121). -/
def crc8Byte (r b : Byte) : Byte :=
  let step (x : Byte) : Byte := if x.getLsbD 7 then (x <<< 1) ^^^ 0x07#8 else x <<< 1
  step (step (step (step (step (step (step (step (r ^^^ b))))))))

/-- The SMBus PEC of bytes: CRC-8 from 0 (R121, R126). -/
def crc8 (bs : List Byte) : Byte := bs.foldl crc8Byte 0#8

/-- The seal of a tile (R217): CRC-32C over its bytes, seeded with surface ID xor generation. -/
def tileSeal (id gen : W32) (tile : List Byte) : W32 := crc32cSeed (id ^^^ gen) tile

/-- The carry-forward constant of R221: the register loaded with `d` and fed `n` zero bytes. -/
def crcZeros (d : W32) : Nat → W32
  | 0 => d
  | n + 1 => crcZeros (crcByte d 0#8) n

end Sys2Proof.Machine
end

