-- ==== Sys2Proof/Machine/State.lean ====
section
/-!
DEFINITION. The state of the ZL-8808 as plain data: every register, table, queue, mode and pin that the spec gives it,
grouped by chapter, with the queue of waiting commands (`pending`). Tables are `Tab`s keyed by unit number or handle,
so that equal states are equal data. `State.reset` is the machine at power-on, before the boot sequence has run.
-/

namespace Sys2Proof.Machine

open Sys2Proof

/-! ### How a step stops -/

/-- The faults of the model. -/
inductive Fault where
  /-- Raised by event rows that name a unit the member does not have: an absent unit raises no event (R2), so no such
  command can come. Safe: the block does nothing instead of something. -/
  | absentUnit (handle : Nat)
deriving DecidableEq, Repr

/-- The refusals of the model. -/
inductive Refusal where
  /-- Raised by `exec` for a row of the opcode table that has no meaning yet. Safe: nothing is claimed of it. -/
  | notModelled (mnemonic : String)
deriving DecidableEq, Repr

/-! ### Statuses, replies, events -/

/-- The status codes of R153. -/
inductive Status where
  | ok | pending | badCrc | badOpcode | badParam | staleState | noUnit | denied | quota | pinned | busy
  | quiesceRequired | secureUnavailable | secureHold | timeout | wedged | cancelled | offline | compileError
  | imageRejected | notReady
deriving DecidableEq, Repr

/-- The value of a status code (R153). -/
def Status.code : Status → Nat
  | .ok => 0x0000
  | .pending => 0x0001
  | .badCrc => 0x0101
  | .badOpcode => 0x0102
  | .badParam => 0x0103
  | .staleState => 0x0104
  | .noUnit => 0x0105
  | .denied => 0x0106
  | .quota => 0x0107
  | .pinned => 0x0108
  | .busy => 0x0109
  | .quiesceRequired => 0x010A
  | .secureUnavailable => 0x010B
  | .secureHold => 0x010C
  | .timeout => 0x010D
  | .wedged => 0x010E
  | .cancelled => 0x010F
  | .offline => 0x0110
  | .compileError => 0x0111
  | .imageRejected => 0x0112
  | .notReady => 0x0113

/-- A reply waiting to be written (R110, R98): the packet it answers, and its fields. -/
structure Reply where
  inst : Nat
  src : Source
  opcode : Nat
  status : Status
  seq : W32
  newgen : W32
  result : List W32
  notify : Bool
  stalled : Bool
deriving DecidableEq, Repr

/-- An accepted packet that holds a credit until its final reply is written (R117). For a long packet that has been applied,
`newgen` is the generation of its TARGET's entry immediately after (R24). -/
structure Accepted where
  p : Packet
  opcode : Nat
  applied : Bool
  newgen : Option W32
deriving DecidableEq, Repr

/-- An event record (R140); DETAIL is a 128-bit number whose lowest byte stands at offset 12. -/
structure EvRec where
  code : Nat
  inst : Nat
  unit : Nat
  time : Nat
  detail : Nat
deriving DecidableEq, Repr

/-- A long packet waiting for its final reply, with its opcode. -/
structure Owed where
  opcode : Nat
  p : Packet
deriving DecidableEq, Repr

/-! ### The board, the fuses and time (00, 01, 05, 23) -/

/-- Fuses, board fitting and straps: MEMBER (R1, R100), fitted DRAM in MiB (R169), the straps as pins and as sampled
(R629). -/
structure Board where
  member : Member
  dramMiB : Nat
  refsel : Nat
  mgrport : Nat
  smbaddr : Nat
  flash1s : Bool
  mgrPortInForce : Nat
deriving DecidableEq, Repr

/-! ### The ledger (01) -/

/-- The agreement state of R21. -/
inductive Agree where
  | agreed | settling | contradicted
deriving DecidableEq, Repr

/-- A ledger entry: generation (R20), agreement (R21), contradicting fact code (R26, R160). The intention itself is
held in the unit's own record. -/
structure Entry where
  gen : W32
  agree : Agree
  fact : Nat
deriving DecidableEq, Repr

/-- After a full reset: generation 1, AGREED, no fact (R20; DEDUCED, log 9). -/
def Entry.reset : Entry := { gen := 1, agree := .agreed, fact := 0 }

/-- Loop states as coded by R160 (0 is no such loop). -/
inductive LoopState where
  | free | pinned | constrained | overridden
deriving DecidableEq, Repr

/-- A hardware loop: bounds, pin, output, target, state, whose setting it was, and whether the report delay's condition
was last reported (R31 to R36, R162). -/
structure Loop where
  low : Nat
  high : Nat
  pin : Option Nat
  out : Nat
  target : Nat
  state : LoopState
  setter : Nat
deriving DecidableEq, Repr

/-! ### Instances (02) -/

/-- The instance states of R56. -/
inductive InstState where
  | absent | bound | active | quiescing | quiesced | frozen | resetting | wedged
deriving DecidableEq, Repr

/-- The code of a state in INST_STATE (R56). -/
def InstState.code : InstState → Nat
  | .absent => 0
  | .bound => 1
  | .active => 2
  | .quiescing => 3
  | .quiesced => 4
  | .frozen => 5
  | .resetting => 6
  | .wedged => 7

/-- A rectangle on a pipe (a pipe region, R74) or on a touch panel (a touch region, kind 0x0D). -/
structure Region where
  unit : Nat
  left : Nat
  top : Nat
  width : Nat
  height : Nat
deriving DecidableEq, Repr

/-- A mapped page: its number in units of 64 KiB, its size, HOST_RO, and the DRAM address of its first byte
(R77, R190). -/
structure Page where
  va : Nat
  big : Bool
  hostRo : Bool
  phys : Nat
deriving DecidableEq, Repr

/-- Pages taken from the map that work or scan-out still uses (R192): the range, the pages, the packet that awaits its
reply, the packets of earlier work that may use them, and whether PAGES_RELEASED is due. -/
structure DeadPages where
  iaddr : Nat
  count : Nat
  big : Bool
  pages : List Page
  waiting : Option Owed
  jobs : List Packet
  notifyRelease : Bool
deriving DecidableEq, Repr

/-- What a frozen instance keeps (R66, R69, R90): the time of the freeze, records discarded, the function it was bound
to, the ring heads and last sequence numbers, and whether it came from an image. -/
structure Frozen where
  time : Nat
  discarded : Nat
  fn : Option Nat
  heads : List Nat
  lastSeqs : List W32
  restored : Bool
deriving DecidableEq, Repr

/-- What an instance in QUIESCING is draining for. -/
inductive Drain where
  | none | quiesce | fence | freeze
deriving DecidableEq, Repr

/-- One instance (02). `fn` is the bound function as port * 32 + function. Quotas are those of R70; `blocks` and
`spadBlocks` are the granted blocks in the order in which the device placed them (R77, R200); `stopped` is when intake last
stopped (R63), `wedge` the wedging engine's handle. -/
structure Inst where
  state : InstState
  safety : Bool
  fn : Option Nat
  cause : Nat
  drainMs : Nat
  autoreset : Bool
  deferred : Bool
  drain : Drain
  wedge : Nat
  stopped : Nat
  waiting : Option Owed
  freezeWaiting : Option Owed
  blocks : List Nat
  spadBlocks : List Nat
  hopper : Nat
  weight : Nat
  reserved : Nat
  ways : Nat
  credits : Nat
  streams : Nat
  tokens : Nat
  touchBufs : Nat
  haptics : Nat
  hvTokens : Nat
  descs : Nat
  regions : List Region
  tregions : List Region
  pages : List Page
  dead : List DeadPages
  frozen : Option Frozen
deriving DecidableEq, Repr

/-- An instance number that no instance has: ABSENT, with the defaults of R70. -/
def Inst.none : Inst :=
  { state := .absent, safety := false, fn := .none, cause := 0, drainMs := 20, autoreset := true, deferred := false,
    drain := .none, wedge := 0, stopped := 0, waiting := .none, freezeWaiting := .none, blocks := [], spadBlocks := [], hopper := 0,
    weight := 16, reserved := 0, ways := 0, credits := 64, streams := 0, tokens := 0, touchBufs := 0, haptics := 0,
    hvTokens := 0, descs := 64, regions := [], tregions := [], pages := [], dead := [], frozen := .none }

/-! ### Ports and functions (02, 03, 04) -/

/-- One host port: BAR sizes as log2 (R48), VF Enable and NumVFs (R47), PERST_N and the link (R46, R636), a raised host
wake (R553), and whether flow control was ever initialised (R158). -/
structure Port where
  bar2Pf : Nat
  bar2Vf : Nat
  bar4Pf : Nat
  bar4Vf : Nat
  vfEnable : Bool
  numVfs : Nat
  perst : Bool
  training : Bool
  linkUp : Bool
  hostWake : Bool
  fcDone : Bool
deriving DecidableEq, Repr

/-- A port at power-on: the default sizes of R48, no link. -/
def Port.reset : Port :=
  { bar2Pf := 32, bar2Vf := 32, bar4Pf := 20, bar4Vf := 20, vfEnable := false, numVfs := 0, perst := true,
    training := false, linkUp := false, hostWake := false, fcDone := false }

/-- A submission ring's registers (R100). `base` is the register, `latched` the base that SIZE latched (R101). -/
structure Sq where
  base : Nat
  latched : Nat
  size : Nat
  halted : Bool
  cause : Nat
  badDoor : Nat
  head : W32
  lastSeq : W32
  tail : W32
deriving DecidableEq, Repr

/-- Reset values of R100. -/
def Sq.reset : Sq :=
  { base := 0, latched := 0, size := 0, halted := false, cause := 0, badDoor := 0, head := 0, lastSeq := 0, tail := 0 }

/-- An MSI-X table entry of R100: address, data, mask. -/
structure Msix where
  addr : Nat
  data : Nat
  masked : Bool
deriving DecidableEq, Repr

/-- PCIe's value: masked (PRESUMED, log 10). -/
def Msix.reset : Msix := { addr := 0, data := 0, masked := true }

/-- A latched record of a masked code and the number of records merged into it (R145). -/
structure Latch where
  record : EvRec
  merged : Nat
deriving DecidableEq, Repr

/-- The registers and queues of one function (R100, R142 to R147), and the PCIe bits the rules test (R47, R81). -/
structure Fn where
  sq : Tab Sq.reset
  rqBase : Nat
  rqLatched : Nat
  rqSize : Nat
  rqVector : Nat
  rqNotify : Bool
  rqTail : W32
  rqStalls : Nat
  rqShadow : Nat
  rqHead : W32
  eqBase : Nat
  eqLatched : Nat
  eqSize : Nat
  eqTail : W32
  eqOverflow : Nat
  eqShadow : Nat
  eqHead : W32
  evtMask : Nat
  evtVec : Tab (0 : Nat)
  msix : Tab Msix.reset
  pba : Nat
  fnMask : Bool
  msixEnable : Bool
  busMaster : Bool
  memorySpace : Bool
  cplTimeout : Nat
  holding : List EvRec
  lost : Nat
  lostCode : Nat
  latches : Tab (none : Option Latch)
  shadowHi : Option Nat
deriving DecidableEq, Repr

/-- Reset values of R100; the PCIe command bits clear (PRESUMED, log 10). -/
def Fn.reset : Fn :=
  { sq := Tab.empty, rqBase := 0, rqLatched := 0, rqSize := 0, rqVector := 0, rqNotify := false, rqTail := 0,
    rqStalls := 0, rqShadow := 0, rqHead := 0, eqBase := 0, eqLatched := 0, eqSize := 0, eqTail := 0, eqOverflow := 0,
    eqShadow := 0, eqHead := 0, evtMask := 0, evtVec := Tab.empty, msix := Tab.empty, pba := 0, fnMask := false,
    msixEnable := false, busMaster := false, memorySpace := false, cplTimeout := 0, holding := [], lost := 0,
    lostCode := 0, latches := Tab.empty, shadowHi := none }

/-- Transport (03): accepted packets with their credits, waiting replies, raised event records that no ring has seen
yet, the management port's replies to its requester, packets whose later answer is discarded because a quiesce, a fence
or a wedge has disposed of them (R61, R81, R594), and the MSI-X messages sent (function, vector). -/
structure Transport where
  accepted : List Accepted
  replies : List Reply
  raised : List EvRec
  mgmtOut : List (List Byte)
  voided : List Packet
  msixSent : List (Nat × Nat)
deriving DecidableEq, Repr

/-- The internal event controller (04): pending bits of sources (1-3 per target, key 1024 * target + source; others
under target 7), enables by target, routes by source, in service by target, NOTICE by target, and the counted misuse. -/
structure Eic where
  pend : Tab false
  en : Tab false
  route : Tab (0 : Nat)
  service : Tab (0 : Nat)
  notice : Tab false
  counted : Nat
deriving DecidableEq, Repr

/-! ### Memory (06) -/

/-- An interleave region (R171, R205). -/
structure MemRegion where
  chmask : Nat
  grain : Nat
  ecc : Bool
  retain : Bool
  sizeMiB : Nat
deriving DecidableEq, Repr

/-- An empty region. -/
def MemRegion.empty : MemRegion := { chmask := 0, grain := 12, ecc := false, retain := false, sizeMiB := 0 }

/-- DRAM channel records (R178, R184): consecutive retrain failures, retrains, deferred training image. -/
structure Channel where
  fails : Nat
  retrains : Nat
deriving DecidableEq, Repr

/-- The memory controller's settings and block pools (06). `zeroing` lists blocks being zero-filled before they are free
or accessible, `lost` the granted blocks that a Warm
exit zero-fills (R186); `wayOwner` gives each SLC way its class plus 1, or 0 (R187); instances' ways are in their quotas. -/
structure Memc where
  regions : List MemRegion
  plog2 : Nat
  radius2 : Bool
  seeds : Nat
  ageUs : Nat
  rowHitCap : Nat
  s3Max : Nat
  classWays : List Nat
  alloc : List Nat
  channels : Tab ({ fails := 0, retrains := 0 } : Channel)
  promoted : List (Nat × Nat)
  scrubPasses : Nat
  zeroing : List Nat
  lost : List Nat
  waitingCreates : List Owed
  gateWaiting : List Nat
deriving DecidableEq, Repr

/-- A copy descriptor (R193), fields as in its layout. -/
structure CopyDesc where
  kind : Nat
  cls : Nat
  toHost : Bool
  srcSpad : Bool
  dstSpad : Bool
  inst : Nat
  length : Nat
  src : Nat
  dst : Nat
  surface : Nat
  tileRow : Nat
  tileRows : Nat
deriving DecidableEq, Repr

/-- A COPY or SEAL packet at the copy engines: descriptors still to run, the engine once started (R197), how many there were. `surface` and `isSeal` describe a SEAL; `convert` marks one
that makes an UNSEALED surface SEALED (R224). -/
structure CopyJob where
  owed : Owed
  inst : Nat
  descs : List CopyDesc
  total : Nat
  isSeal : Bool
  convert : Bool
  surface : Nat
  engine : Option Nat
deriving DecidableEq, Repr

/-! ### Surfaces (07) -/

/-- A surface (R206, R218): `dead` marks one destroyed while in scan-out (R232) and
`silent` one whose release tells nobody (R237), `keep` is KEEP of the open window,
`writers` counts writers bound to it, `closing` is the WRITE_END that waits (R215). `table` is the seal side-table by
tile: SEAL in the low 32 bits and WGEN above. -/
structure Surface where
  iaddr : Nat
  width : Nat
  height : Nat
  format : Nat
  isSealed : Bool
  gen : W32
  isOpen : Bool
  keep : Bool
  writers : Nat
  closing : Option Owed
  dead : Bool
  silent : Bool
  table : Tab (0 : Nat)
deriving DecidableEq, Repr

/-- A retire fence (R233). -/
structure Fence where
  inst : Nat
  id : Nat
  surface : Nat
  gen : W32
  spad : Bool
  offset : Nat
  value : Nat
deriving DecidableEq, Repr

/-- Surfaces by instance * 2^32 + ID, the next IDs of each instance (R206), unsignalled fences, next fence IDs. -/
structure Surf where
  table : Tab (none : Option Surface)
  nextId : Tab (1 : Nat)
  fences : List Fence
  nextFence : Tab (1 : Nat)
deriving DecidableEq, Repr

/-! ### The Roaster array (08, 09, 10) -/

/-- A loaded shader module (R244): its size, the SHA-256 of its bytes as a number, its entry points. -/
structure Module where
  bytes : Nat
  sha : Nat
  entries : Nat
  removed : Bool
deriving DecidableEq, Repr

/-- What the cache key of compiled code covers (R248): the module's SHA-256, the entry point, the specialisation constants,
the state fields that change code, the back-end version. -/
structure CodeKey where
  sha : Nat
  entry : Nat
  specs : List Nat
  fields : List Nat
  backEnd : Nat
deriving DecidableEq, Repr

/-- A pipeline (R245, R246): topology, colour formats, depth format, whether it tests depth or stencil, output components
of its vertex stage, the keys of its code, registers and code bytes once compiled. -/
structure Pipeline where
  compute : Bool
  topology : Nat
  formats : List Nat
  depthFmt : Nat
  depthOn : Bool
  components : Nat
  keys : List CodeKey
  regs : Nat
  codeBytes : Nat
  removed : Bool
deriving DecidableEq, Repr

/-- A shader cache entry (R248, R249): key, registers, size, components, last use. -/
structure CacheEntry where
  key : CodeKey
  regs : Nat
  components : Nat
  size : Nat
  used : Nat
deriving DecidableEq, Repr

/-- A compilation in progress (R250). -/
structure Compile where
  owed : Owed
  inst : Nat
  pipeline : Pipeline
deriving DecidableEq, Repr

/-- A parsed token of a command buffer (R274): its byte offset, OP and payload words. -/
structure Token where
  offset : Nat
  op : Nat
  words : List Nat
deriving DecidableEq, Repr

/-- What a SUBMIT's work item under way is (R270, R284 to R293): none, a binned pass in one of its phases, an immediate
pass, a dispatch. -/
inductive Phase where
  | none | binning | waiting | flushing | rendering | immediate | dispatch
deriving DecidableEq, Repr

/-- An accepted SUBMIT (09, 10). `tokens` are as read for execution, `surfaces` those it is a writer of, `pos` the token of
the work item under way or next, `passes` the passes in the buffer and `pass` the index of the next or present one. The
Hopper fields belong to that pass: budget, pages held, MINPAGES, pages granted during a flush, bin tiles processed and
bin tiles written in the phase under way. `ran` counts passes run; `used` is cluster-time in ns; `missAt` the first
deadline missed. -/
structure Submit where
  owed : Owed
  inst : Nat
  queue : Nat
  pipe : Nat
  tagged : Bool
  grantUs : Nat
  spad : Bool
  offset : Nat
  value : Nat
  tokens : List Token
  surfaces : List Nat
  pos : Nat
  started : Bool
  startTime : Nat
  passes : Nat
  pass : Nat
  ran : Nat
  phase : Phase
  budget : Nat
  held : Nat
  minPages : Nat
  granted : Nat
  noFault : Bool
  prims : Nat
  passFlushes : Nat
  tilesDone : List Nat
  tilesWritten : List Nat
  binned : Nat
  flushes : Nat
  demoted : Nat
  faults : Nat
  peak : Nat
  failOffset : Nat
  abort : Nat
  deadline : Option Nat
  misses : Nat
  missAt : Option Nat
  used : Nat
  urgent : Bool
  preempted : Bool
deriving DecidableEq, Repr

/-- A GPU queue of an instance (R256, R263, R306). -/
structure Queue where
  depth : Nat
  clusterMax : Nat
  wgLimit : Nat
  urgentUs : Nat
  submits : List Submit
  waiting : List Owed
  saveArea : Bool
deriving DecidableEq, Repr

/-- Defaults of R256 and R306. -/
def Queue.reset : Queue :=
  { depth := 16, clusterMax := 0, wgLimit := 2000, urgentUs := 500, submits := [], waiting := [], saveArea := false }

/-- A Roaster cluster (R239, R260, R299): offline fact, holder of the reservation, work (instance, queue), since when its
time is not yet charged, and the time of a pre-emption request. -/
structure Cluster where
  offline : Bool
  reserved : Option Nat
  work : Option (Nat × Nat)
  since : Nat
  request : Option Nat
deriving DecidableEq, Repr

/-- An idle online shared cluster. -/
def Cluster.reset : Cluster := { offline := false, reserved := none, work := none, since := 0, request := none }

/-- The Roaster array: modules and pipelines by instance * 2^32 + ID, next IDs, cache limit and entries by instance,
compilations, queues by instance * 4 + priority, clusters, virtual times by instance * 4 + priority (R258), E by
(instance * 4 + queue) * 8 + pipe (R312), the P0 round-robin place (R257), reservations in order, and the back-end
version (R252). -/
structure Gpu where
  modules : Tab (none : Option Module)
  nextModule : Tab (1 : Nat)
  pipelines : Tab (none : Option Pipeline)
  nextPipeline : Tab (1 : Nat)
  cacheMiB : Tab (16 : Nat)
  cache : Tab ([] : List CacheEntry)
  compiles : List Compile
  queues : Tab Queue.reset
  clusters : Tab Cluster.reset
  vtime : Tab (0 : Nat)
  lastE : Tab (0 : Nat)
  p0Last : Nat
  backEnd : Nat
deriving DecidableEq, Repr

/-! ### The Blend engine, colour and pipes (11, 12, 13) -/

/-- A layer state: the fields of LAYER_SET (R322). -/
structure LayerState where
  pipe : Nat
  enable : Bool
  alphaMode : Nat
  zpos : Nat
  layerAlpha : Nat
  touchOff : Bool
  coefBank : Nat
  surface : Nat
  srcX : Nat
  srcY : Nat
  srcW : Nat
  srcH : Nat
  dstX : Nat
  dstY : Nat
  dstW : Nat
  dstH : Nat
  hold : Nat
  eotf : Nat
  matrix : Nat
  fullRange : Bool
deriving DecidableEq, Repr

/-- An empty, disabled state. -/
def LayerState.empty : LayerState :=
  { pipe := 0, enable := false, alphaMode := 0, zpos := 0, layerAlpha := 0, touchOff := false, coefBank := 0,
    surface := 0, srcX := 0, srcY := 0, srcW := 0, srcH := 0, dstX := 0, dstY := 0, dstW := 0, dstH := 0, hold := 0,
    eotf := 0, matrix := 0, fullRange := false }

/-- A motion hint (R344); signed values as integers. -/
structure Hint where
  dx : Int
  dy : Int
  scale : Int
  angle : Int
  maxFrames : Nat
deriving DecidableEq, Repr

/-- The zero hint with the default MAXFRAMES 4. -/
def Hint.zero : Hint := { dx := 0, dy := 0, scale := 0, angle := 0, maxFrames := 4 }

/-- Seal results of a layer in the frame under composition (R226 to R229). -/
structure SealRun where
  failed : List Nat
  causes : Nat
  fallback : List Nat
  gen : W32
  consecutive : Nat
  clean : Nat
deriving DecidableEq, Repr

/-- No failure. -/
def SealRun.zero : SealRun := { failed := [], causes := 0, fallback := [], gen := 0, consecutive := 0, clean := 0 }

/-- The settings of a colour stage: the TONE_SET payload (R363). `curve` is the list of 1,024 points when CURVE is
set, else empty. -/
structure Tone where
  outEotf : Nat
  primaries : Nat
  curve : List Nat
  sdrWhite : Nat
  blendPeak : Nat
  panelPeak : Nat
  rate : Nat
  alsBus : Nat
  alsEn : Bool
  alsAddr : Nat
  alsReg : Nat
  luxScale : Nat
deriving DecidableEq, Repr

/-- A layer of a frame, as its latch line took it (R331, R340): the slot, its owner and class, the state, the coefficients of
its bank (empty for bank 0), and the accumulated re-projection (R345, R346). -/
structure FLayer where
  slot : Nat
  owner : Nat
  safety : Bool
  st : LayerState
  gen : W32
  coefs : List Int
  accX : Int
  accY : Int
  accScale : Int
  accAngle : Int
deriving DecidableEq, Repr

/-- What a latch line takes for the following frame (R340, R382): the enabled layers in blending order, the tone settings,
the panel LUT, and the sun stage's s and G. -/
structure FrameSet where
  layers : List FLayer
  tone : Option Tone
  lut : List Nat
  sun : Nat
  guard : Nat
deriving DecidableEq, Repr

/-- Nothing taken yet. -/
def FrameSet.empty : FrameSet := { layers := [], tone := none, lut := [], sun := 16384, guard := 8192 }

/-- A tile fetched for a band (R338): layer slot and tile, how its check ended (0 passed, else the cause bit plus 1), and
the bytes. -/
structure Fetched where
  slot : Nat
  tile : Nat
  fail : Nat
  data : List Byte
deriving DecidableEq, Repr

/-- A layer slot (R318, R319): its holder, staged, intended and current states, the surface generation at
its latch line (R234), the commit it waits for, its hint, the re-projection
run (R343 to R346), coefficient banks 1 to 3 in force and pending (R361, R362), ESCALATE (R229). -/
structure Slot where
  holder : Option Nat
  staged : LayerState
  intended : LayerState
  current : LayerState
  curGen : W32
  pending : Bool
  waiting : Bool
  commit : Nat
  hint : Hint
  hintNext : Option Hint
  run : Nat
  accN : Nat
  accX : Int
  accY : Int
  accScale : Int
  accAngle : Int
  banks : Tab ([] : List Int)
  banksNext : Tab ([] : List Int)
  sealRun : SealRun
  escalate : Nat
deriving DecidableEq, Repr

/-- A slot after a full reset: held by nobody, empty (R318); ESCALATE 3 (R229). -/
def Slot.reset : Slot :=
  { holder := none, staged := .empty, intended := .empty, current := .empty, curGen := 0, pending := false,
    waiting := false, commit := 0, hint := .zero, hintNext := none, run := 0, accN := 0, accX := 0, accY := 0,
    accScale := 0, accAngle := 0, banks := Tab.empty, banksNext := Tab.empty, sealRun := .zero, escalate := 3 }

/-- A commit group's part on one pipe, not yet taken (R325 to R329). -/
structure Part where
  id : Nat
  inst : Nat
  pipe : Nat
  event : Bool
  atomic : Bool
  slots : List Nat
  judged : Bool
  dropped : Nat
deriving DecidableEq, Repr

/-- The Blend engine: slots, parts of commits, the next COMMIT_ID, frames with the touch map by pipe (R349). -/
structure Blend where
  slots : Tab Slot.reset
  parts : List Part
  nextCommit : Nat
deriving DecidableEq, Repr

/-- What a payload of zeros gives (R363). -/
def Tone.reset : Tone :=
  { outEotf := 0, primaries := 0, curve := [], sdrWhite := 203, blendPeak := 203, panelPeak := 203, rate := 1024,
    alsBus := 0, alsEn := false, alsAddr := 0, alsReg := 0, luxScale := 0 }

/-- A colour stage (12): settings in force and pending, panel LUT in use (empty is the identity) and pending with the
reply that follows its latch line, s in force, sensor readings and failed reads (R363 to R372). -/
structure Colour where
  tone : Tone
  toneNext : Option Tone
  lut : List Nat
  lutNext : Option (List Nat)
  lutWaiting : List Owed
  sInForce : Nat
  gInForce : Nat
  readings : List Nat
  failedReads : Nat
deriving DecidableEq, Repr

/-- A colour stage after a full reset (R363, R366); s and G DEDUCED (log 13). -/
def Colour.reset : Colour :=
  { tone := .reset, toneNext := none, lut := [], lutNext := none, lutWaiting := [], sInForce := 16384,
    gInForce := 8192, readings := [], failedReads := 0 }

/-- A pipe's timing: the PIPE_TIMING payload (R374). `pclk` 0 means none is configured. -/
structure Timing where
  pclk : Nat
  hact : Nat
  hfp : Nat
  hsync : Nat
  hbp : Nat
  vact : Nat
  vfp : Nat
  vsync : Nat
  vbp : Nat
  hpos : Bool
  vpos : Bool
  lead : Nat
  qwMode : Nat
  qwGuard : Nat
deriving DecidableEq, Repr

/-- No timing. -/
def Timing.none : Timing :=
  { pclk := 0, hact := 0, hfp := 0, hsync := 0, hbp := 0, vact := 0, vfp := 0, vsync := 0, vbp := 0, hpos := false,
    vpos := false, lead := 2, qwMode := 0, qwGuard := 0 }

/-- The states of a pipe (R377, R399). -/
inductive PipeState where
  | off | starting | run | blank | held | offline
deriving DecidableEq, Repr

/-- A subscription to a pipe's events (R388). -/
structure Subscription where
  line : Nat
  lineEn : Bool
  vblankEn : Bool
  doneEn : Bool
  underrunEn : Bool
deriving DecidableEq, Repr

/-- A band being composed or scanned out: its index, whether it belongs to the next frame, strips composed, and the
words of the band slot and of the blend by line * 4096 + column (R336, R393). -/
structure Band where
  k : Nat
  next : Bool
  strips : Nat
  words : Tab (0 : Nat)
  blend : Tab (0 : Nat)
  fetched : List Fetched
  underruns : Tab (none : Option Nat)
deriving DecidableEq, Repr

/-- A layer as the touch-ownership map holds it (R348). -/
structure TouchLayer where
  slot : Nat
  owner : Nat
  safety : Bool
  touchOff : Bool
  x : Nat
  y : Nat
  w : Nat
  h : Nat
deriving DecidableEq, Repr

/-- A display pipe (13): timing intended and in force, intention (0 OFF, 1 BLANK, 2 RUN), state, lead-in frame,
FRAME, the last line event, waiting replies, a change that waits for the end of the frame, band slots taken, open
bands, touch map in force, z-floor, region and underrun bookkeeping, ESCALATE. -/
structure Pipe where
  timing : Timing
  timingNext : Option Timing
  leadOnly : Bool
  intent : Nat
  state : PipeState
  leadIn : Bool
  composeNext : Bool
  restartZero : Bool
  latched : Bool
  frame : Nat
  frameDone : Bool
  enableWaiting : Option Owed
  timingWaiting : List Owed
  attempts : Nat
  bandSlots : Bool
  bands : List Band
  nextBand : Nat
  openNext : Bool
  touchMap : List TouchLayer
  zfloor : Nat
  zfloorNext : Option Nat
  lastPixel : Nat
  ulines : Nat
  ufirstLine : Nat
  ufirstCol : Nat
  abandoned : Nat
  bandLate : Nat
  uconsec : Nat
  uclean : Nat
  escalate : Nat
  commitsTaken : Nat
  steeped : Bool
  steepWaiting : Option Owed
  heldSince : Nat
  frameSet : FrameSet
  nextSet : FrameSet
  lastFrameStart : Nat
deriving DecidableEq, Repr

/-- A pipe after a full reset: OFF without a timing, floor 128 (R321), ESCALATE 3 (R387). -/
def Pipe.reset : Pipe :=
  { timing := .none, timingNext := none, leadOnly := false, intent := 0, state := .off, leadIn := false,
    composeNext := false, restartZero := true, latched := false, frame := 0, frameDone := false, enableWaiting := none,
    timingWaiting := [], attempts := 0, bandSlots := false, bands := [], nextBand := 0, openNext := false,
    touchMap := [], zfloor := 128, zfloorNext := none, lastPixel := 0, ulines := 0, ufirstLine := 0, ufirstCol := 0,
    abandoned := 0, bandLate := 0, uconsec := 0, uclean := 0, escalate := 3, commitsTaken := 0, steeped := false,
    steepWaiting := none, heldSince := 0,
    frameSet := .empty, nextSet := .empty, lastFrameStart := 0 }

/-- A region monitor's configuration (R392). -/
structure MonCfg where
  enable : Bool
  tapBlend : Bool
  alarm : Bool
  nexp : Nat
  learn : Bool
  limit : Nat
  x : Nat
  y : Nat
  w : Nat
  h : Nat
  exp : List Nat
deriving DecidableEq, Repr

/-- A disabled monitor. -/
def MonCfg.off : MonCfg :=
  { enable := false, tapBlend := false, alarm := false, nexp := 0, learn := false, limit := 2, x := 0, y := 0, w := 0,
    h := 0, exp := [] }

/-- A region monitor (R392 to R396): configuration in force and pending, owner, the running CRC register and the pixels
fed in the frame, the runs of mismatching and matching frames, its alarm assertion. -/
structure Mon where
  cfg : MonCfg
  next : Option MonCfg
  owner : Nat
  crc : W32
  fed : Nat
  mismatches : Nat
  matches_ : Nat
  limitReached : Bool
deriving DecidableEq, Repr

/-- A monitor after a full reset. -/
def Mon.reset : Mon :=
  { cfg := .off, next := none, owner := 0, crc := 0xFFFFFFFF, fed := 0, mismatches := 0, matches_ := 0,
    limitReached := false }

/-- The pipes: pipe records, subscriptions by instance * 8 + pipe (R388), region monitors by index. -/
structure Pipes where
  pipe : Tab Pipe.reset
  subs : Tab (none : Option Subscription)
  mons : Tab Mon.reset
deriving DecidableEq, Repr

/-! ### Display links and panels (14) -/

/-- The settings of LINK_CONFIG (R404): `lanes` and `rate` of a transmitter (MAX_LANES, MAX_RATE), or `lanes`, `vmode`,
`pixfmt`, `mbps` and the copied initialisation list of a DSI port; `words` is the payload as sent. -/
structure LinkCfg where
  enable : Bool
  edp : Bool
  mst : Bool
  ssc : Bool
  lanes : Nat
  rate : Nat
  vmode : Nat
  pixfmt : Nat
  mbps : Nat
  init : List Byte
  words : List W32
deriving DecidableEq, Repr

/-- A link that is not operated. -/
def LinkCfg.off : LinkCfg :=
  { enable := false, edp := false, mst := false, ssc := false, lanes := 1, rate := 0, vmode := 0, pixfmt := 0, mbps := 0,
    init := [], words := [] }

/-- The signalling attributes of a stream (R409); `bpc` is the number of bits per component. -/
structure Attr where
  bpc : Nat
  colorimetry : Nat
  tf : Nat
  maxCll : Nat
  maxFall : Nat
deriving DecidableEq, Repr

/-- Eight bits per component, BT.709, SDR (DESIGN CHOICE, log 22). -/
def Attr.reset : Attr := { bpc := 8, colorimetry := 0, tf := 0, maxCll := 0, maxFall := 0 }

/-- A stream: the pipe that ROUTE_SET gives it and the pipe it carries now (R406, R408), its attributes in force and
those of the next latch line (R409), and whether admission dropped it (R407). -/
structure Stream where
  route : Option Nat
  active : Option Nat
  attr : Attr
  attrNext : Option Attr
  dropped : Bool
deriving DecidableEq, Repr

/-- A stream without a pipe. -/
def Stream.reset : Stream := { route := none, active := none, attr := .reset, attrNext := none, dropped := false }

/-- The panel's balls and times (R413). -/
structure PanelCfg where
  vddGpio : Nat
  vddPol : Bool
  blenGpio : Nat
  blenPol : Bool
  rstGpio : Nat
  rstUsed : Bool
  rstPol : Bool
  pwm : Nat
  tVdd : Nat
  tBlon : Nat
  tBloff : Nat
  tOff : Nat
  blMin : Nat
deriving DecidableEq, Repr

/-- Panel power and backlight (R413 to R415): configuration, the sequence under way (its OP, the step reached, its
reply and its start), the outputs VDD, reset, video and BLEN, the time VDD went off, and the backlight: target duty,
duty and time at which the ramp began, its length, the PWM frequency (0: none set). -/
structure Panel where
  cfg : Option PanelCfg
  on : Bool
  seqOp : Option Nat
  step : Nat
  waiting : Option Owed
  start : Nat
  vdd : Bool
  inReset : Bool
  video : Bool
  blen : Bool
  offTime : Option Nat
  duty : Nat
  rampFrom : Nat
  rampStart : Nat
  rampMs : Nat
  freq : Nat
deriving DecidableEq, Repr

/-- A panel that nothing has configured: off. -/
def Panel.reset : Panel :=
  { cfg := none, on := false, seqOp := none, step := 0, waiting := none, start := 0, vdd := false, inReset := false,
    video := false, blen := false, offTime := none, duty := 0, rampFrom := 0, rampStart := 0, rampMs := 0, freq := 0 }

/-- A transmitter or DSI port (R404 to R412): its intention, hot-plug level, whether it is training, whether the link
is up and with how many lanes and which rate in Mbps, failed trainings in a row, EDID CRCs read and of the last
successful training, its two streams (a DSI port uses the first), and the ROUTE_SET that awaits its reply. -/
structure LinkUnit where
  cfg : LinkCfg
  hpd : Bool
  training : Bool
  up : Bool
  lanes : Nat
  mbps : Nat
  fails : Nat
  edidCrc : Option Nat
  goodCrc : Option Nat
  stream0 : Stream
  stream1 : Stream
  routeWaiting : Option Owed
  panel : Panel
deriving DecidableEq, Repr

/-- A link after a full reset. -/
def LinkUnit.reset : LinkUnit :=
  { cfg := .off, hpd := false, training := false, up := false, lanes := 0, mbps := 0, fails := 0, edidCrc := none,
    goodCrc := none, stream0 := .reset, stream1 := .reset, routeWaiting := none, panel := .reset }

/-- A DSC assignment (R410): stream number, slices, 10 bpc, bits per pixel in 1/16. -/
structure DscSet where
  stream : Nat
  slices : Nat
  bpc10 : Bool
  bppX16 : Nat
deriving DecidableEq, Repr

/-- An encoder: the assignment in force, and the one of the next line 0 (`some none` releases). -/
structure Dsc where
  cur : Option DscSet
  next : Option (Option DscSet)
deriving DecidableEq, Repr

/-- An unassigned encoder. -/
def Dsc.reset : Dsc := { cur := none, next := none }

/-- The links: transmitters and DSI ports by handle, encoders by index. -/
structure Links where
  unit : Tab LinkUnit.reset
  dsc : Tab Dsc.reset
deriving DecidableEq, Repr

/-- Every link off. -/
def Links.reset : Links := { unit := Tab.empty, dsc := Tab.empty }

/-! ### Touch sensing (15) and the die-to-die link (01 R13 to R15) -/

/-- The settings of TOUCH_PANEL_CONFIG (R419), with its payload words. -/
structure TouchCfg where
  enable : Bool
  mapped : Bool
  qwEn : Bool
  pipe : Nat
  ntx : Nat
  nrx : Nat
  frameHz : Nat
  width : Nat
  height : Nat
  originX : Nat
  originY : Nat
  fBase : Nat
  fStep : Nat
  nfreq : Nat
  nacc : Nat
  channels : List Nat
  words : List W32
deriving DecidableEq, Repr

/-- A panel that nothing has configured. -/
def TouchCfg.off : TouchCfg :=
  { enable := false, mapped := false, qwEn := false, pipe := 0, ntx := 0, nrx := 0, frameHz := 0, width := 0, height := 0,
    originX := 0, originY := 0, fBase := 0, fStep := 0, nfreq := 1, nacc := 1, channels := [], words := [] }

/-- The settings of TOUCH_MODE (R433); `freeze` holds the used freeze regions as (x, y, w, h). -/
structure TouchMode where
  glove : Nat
  water : Bool
  hover : Bool
  maxContacts : Nat
  thr : Nat
  hoverThr : Nat
  longS : Nat
  freeze : List (Nat × Nat × Nat × Nat)
  words : List W32
deriving DecidableEq, Repr

/-- What a payload of zeros gives (R433). -/
def TouchMode.reset : TouchMode :=
  { glove := 0, water := false, hover := false, maxContacts := 10, thr := 400, hoverThr := 60, longS := 600,
    freeze := [], words := [] }

/-- The states of a contact in a report (R443). -/
inductive CState where
  | down | move | up | tap | hover | hoverLeave | cancel
deriving DecidableEq, Repr

/-- STATE codes of R443. -/
def CState.code : CState → Nat
  | .down => 1
  | .move => 2
  | .up => 3
  | .tap => 4
  | .hover => 5
  | .hoverLeave => 6
  | .cancel => 7

/-- A contact record as reported (R443). `x` and `y` are in 1/8 unit. -/
structure CRec where
  id : Nat
  state : CState
  typ : Nat
  x : Nat
  y : Nat
  size : Nat
  force : Nat
  z : Nat
  layer : Nat
  safety : Bool
  long : Bool
  degraded : Bool
  durationMs : Nat
deriving DecidableEq, Repr

/-- A tracked contact (R434): its latest record, its owner, the time of DOWN, whether LONG was sent, and the peak node
(receive line, drive line). -/
structure Contact where
  last : CRec
  owner : Nat
  down : Nat
  longSent : Bool
  col : Nat
  row : Nat
deriving DecidableEq, Repr

/-- A pending merged report of a guest on a panel (R444). -/
structure TReport where
  frame : Nat
  merged : Nat
  time : Nat
  flags : Nat
  recs : List CRec
deriving DecidableEq, Repr

/-- A guest's report area on a panel (R442): offset of buffer 0, the buffers it holds, its pending report. -/
structure TArea where
  offset : Nat
  held : Nat
  pending : Option TReport
deriving DecidableEq, Repr

/-- A wake zone (R448). -/
structure WakeZone where
  kind : Nat
  hch : Nat
  threshold : Nat
  x : Nat
  y : Nat
  w : Nat
  h : Nat
deriving DecidableEq, Repr

/-- The state of a zone in Steep (R449): consecutive scans above and below its threshold, and whether it is armed. -/
structure ZoneRun where
  above : Nat
  below : Nat
  armed : Bool
deriving DecidableEq, Repr

/-- What a panel is doing (R450). -/
inductive TState where
  | off | starting | scanning | paused | offline
deriving DecidableEq, Repr

/-- A touch panel (15): intention and modes (those of the next frame), state, FACT bits, faulty channels as (panel
index, code, other), frame counter, bursts of the frame done, start of the last frame, baselines by node
row * 128 + column with the fractions of tracking (R428), self baselines by line, compensation codes by panel channel,
nodes that wait to be absorbed (R431), contacts and candidates of the last frame, the next contact ID, counters of wet
and glove, wake zones, whether the calibration in use is a stored one. -/
structure TPanel where
  cfg : TouchCfg
  mode : TouchMode
  modeNext : Option TouchMode
  state : TState
  ownWindows : Bool
  wet : Bool
  wetBelow : Nat
  glove : Bool
  gloveSeen : Nat
  gloveRun : Nat
  uncalibrated : Bool
  stored : Bool
  faulty : List (Nat × Nat × Nat)
  frame : Nat
  bursts : Nat
  frameStart : Nat
  rate16 : Nat
  base : Tab (0 : Nat)
  frac : Tab (0 : Nat)
  selfBase : Tab (0 : Nat)
  raw : Tab (0 : Nat)
  codes : Tab (0 : Nat)
  absorb : List Nat
  contacts : List Contact
  cands : List (Nat × Nat)
  nextId : Nat
  resetCause : Nat
  zones : List WakeZone
  runs : List ZoneRun
deriving DecidableEq, Repr

/-- A panel after a full reset: off. -/
def TPanel.reset : TPanel :=
  { cfg := .off, mode := .reset, modeNext := none, state := .off, ownWindows := false, wet := false,
    wetBelow := 0, glove := false, gloveSeen := 0, gloveRun := 0, uncalibrated := false, stored := false, faulty := [],
    frame := 0, bursts := 0, frameStart := 0, rate16 := 0, base := Tab.empty, frac := Tab.empty, selfBase := Tab.empty,
    raw := Tab.empty, codes := Tab.empty, absorb := [], contacts := [], cands := [], nextId := 1, resetCause := 0,
    zones := [], runs := [] }

/-- Touch: panels by index, report areas by instance * 4 + panel, quiet windows open now by pipe as the sense die saw
their edges (R391), HV edges that blank bursts are the commands' operands; the die-to-die link as the main die and as the sense
die hold it: up, failing frames in a row, time of the last valid frame. -/
structure Touch where
  panel : Tab TPanel.reset
  areas : Tab (none : Option TArea)
  d2dUp : Bool
  d2dBad : Nat
  d2dSeen : Nat
  senseUp : Bool
  senseBad : Nat
  window : Tab false
deriving DecidableEq, Repr

/-- Panels off; the link up (DEDUCED, log 23). -/
def Touch.reset : Touch :=
  { panel := Tab.empty, areas := Tab.empty, d2dUp := true, d2dBad := 0, d2dSeen := 0, senseUp := true, senseBad := 0, window := Tab.empty }

/-! ### Piezo haptics (16) -/

/-- An effect of the library (R456). -/
structure Effect where
  shape : Nat
  freq : Nat
  attack : Nat
  overdrive : Nat
  sustain : Nat
  ampl : Nat
  brake : Nat
  brakeLvl : Nat
deriving DecidableEq, Repr

/-- An effect that nothing has loaded: no drive (DESIGN CHOICE, log 24). -/
def Effect.empty : Effect :=
  { shape := 0, freq := 0, attack := 0, overdrive := 64, sustain := 0, ampl := 0, brake := 0, brakeLvl := 0 }

/-- A played effect (R458, R459): its owner, record as at the play, SCALE, tokens held, planned start, whether it has
started and is in braking, the OUTCOME its EFFECT_DONE will show, the attack gain in 1/64 after R461, and for a local
click the DETAIL of its CLICK_FIRED without the last field. -/
structure Play where
  inst : Nat
  effect : Nat
  rec_ : Effect
  scale : Nat
  event : Bool
  tokens : Nat
  planned : Nat
  started : Nat
  running : Bool
  braking : Bool
  immediate : Bool
  outcome : Nat
  gain64 : Nat
  click : Option Nat
deriving DecidableEq, Repr

/-- A click region (R465, R466): armed by the channel's owner with its tokens; `pressed` is a press that has fired. -/
structure Click where
  inst : Nat
  release : Bool
  effect : Nat
  relEffect : Nat
  on : Nat
  off : Nat
  x : Nat
  y : Nat
  w : Nat
  h : Nat
  tokens : Nat
  pressed : Bool
  contact : Option (Nat × Nat)
deriving DecidableEq, Repr

/-- A haptic channel (R454, R455, R463): configuration; characterisation; force; the effect that drives and those that
wait; armed regions 0 to 3; HV tokens that braking holds as a device-private holder (R592). -/
structure HChan where
  bridge : Bool
  panel : Nat
  zoned : Bool
  vmax : Nat
  zx : Nat
  zy : Nat
  zw : Nat
  zh : Nat
  capPf : Nat
  fres : Nat
  q : Nat
  forceZero : Nat
  force : Nat
  forceTime : Nat
  contactTime : Nat
  play : Option Play
  queued : List Play
  clicks : Tab (none : Option Click)
  devTokens : Nat
deriving DecidableEq, Repr

/-- A channel after a full reset without user calibration: unbridged, unzoned, V_MAX 1,200, 2 uF and 200 Hz (R455). -/
def HChan.reset : HChan :=
  { bridge := false, panel := 0, zoned := false, vmax := 1200, zx := 0, zy := 0, zw := 0, zh := 0, capPf := 2000000,
    fres := 200, q := 0, forceZero := 0, force := 0, forceTime := 0, contactTime := 0, play := none, queued := [],
    clicks := Tab.empty, devTokens := 0 }

/-- Haptics: channels, the effect library, the boost: on, at its set value, the set value in 0.1 V, and when its last
user ended (R452). -/
structure Haptics where
  chan : Tab HChan.reset
  library : Tab Effect.empty
  boostOn : Bool
  boostReady : Bool
  vset : Nat
  idleSince : Nat
deriving DecidableEq, Repr

/-- The boost off. -/
def Haptics.reset : Haptics :=
  { chan := Tab.empty, library := Tab.empty, boostOn := false, boostReady := false, vset := 0, idleSince := 0 }

/-! ### Audio (17) -/

/-- A queued stream buffer (R476). -/
structure ABuf where
  addr : Nat
  bytes : Nat
deriving DecidableEq, Repr

/-- A host stream (R475 to R479): its parameters while open, queued buffers oldest first, START_AT, whether it has
started, the frames of the shortfall under way, shortfalls so far, frames moved, closing, and frozen silence. -/
structure AStream where
  isOpen : Bool
  capture : Bool
  format : Nat
  channels : Nat
  rate : Nat
  bufs : List ABuf
  startAt : Option Nat
  started : Bool
  dry : Bool
  shortfalls : Nat
  moved : Nat
  closing : Bool
  paused : Bool
deriving DecidableEq, Repr

/-- A stream that is not open. -/
def AStream.reset : AStream :=
  { isOpen := false, capture := false, format := 0, channels := 1, rate := 0, bufs := [], startAt := none,
    started := false, dry := false, shortfalls := 0, moved := 0, closing := false, paused := false }

/-- A gain (R483 to R485) in 0.01 dB, −32,768 for mute: the value a ramp started from, its target, start time and
length; and a zero-crossing change that waits, with its first request's time and timeout. The values live in tables
keyed by kind, A and B; `isSet` tells a gain that some packet has set from one at its reset value. -/
structure Gain where
  isSet : Bool
  start : Int
  target : Int
  time : Nat
  rampMs : Nat
  zcTarget : Option Int
  zcSince : Nat
  zcMs : Nat
deriving DecidableEq, Repr

/-- A gain that nothing has set. -/
def Gain.reset : Gain :=
  { isSet := false, start := 0, target := 0, time := 0, rampMs := 0, zcTarget := none, zcSince := 0, zcMs := 0 }

/-- A TDM port (R480). -/
structure TdmPort where
  enable : Bool
  master : Bool
  domain : Nat
  i2s : Bool
  slots : Nat
  slotBits : Nat
  dataBits : Nat
  fsPol : Bool
  bclkEdge : Bool
  fsDelay : Bool
  fsHz : Nat
  inSlots : Nat
  outSlots : Nat
deriving DecidableEq, Repr

/-- A disabled port. -/
def TdmPort.off : TdmPort :=
  { enable := false, master := false, domain := 0, i2s := false, slots := 1, slotBits := 0, dataBits := 0, fsPol := false,
    bclkEdge := false, fsDelay := false, fsHz := 48000, inSlots := 0, outSlots := 0 }

/-- An alarm source mark (R489): who marked the input, and the alarm mask. -/
structure Mark_ where
  inst : Nat
  outputs : Nat
deriving DecidableEq, Repr

/-- A tone voice (R492): who started it, pattern, level, REPEAT. -/
structure Voice where
  inst : Nat
  pattern : Nat
  level : Int
  repeat_ : Nat
deriving DecidableEq, Repr

/-- A low-latency path (R494). -/
structure LowLat where
  mic : Nat
  dest : Nat
  gain : Int
deriving DecidableEq, Repr

/-- The audio subsystem: streams, gains by (kind * 256 + A) * 256 + B, input sources, destinations (output + 1, 0 for
none), TDM ports, the mixer's domain and AUDX's source and rate,
MCLK_OUT, PDM domain, microphones, wind filters and trims, whether AUDX is lost and the mixer stands on AUDA, alarm
marks by input, voices, low-latency paths, the limiters' ceiling and release, samples clipped since the last AUDIO_CLIP
and its time by output. -/
structure Audio where
  stream : Tab AStream.reset
  gain : Tab Gain.reset
  source : Tab (0 : Nat)
  dest : Tab (0 : Nat)
  tdm : Tab TdmPort.off
  mixDomain : Nat
  xport : Nat
  xsrc : Bool
  mclkOut : Nat
  xrate : Nat
  pdmB : Bool
  mics : Nat
  wind : Nat
  trims : Tab (0 : Int)
  audxLost : Bool
  onAuda : Bool
  marks : Tab (none : Option Mark_)
  voices : Tab (none : Option Voice)
  lowlat : Tab (none : Option LowLat)
  ceiling : Tab (10 : Nat)
  releaseMs : Tab (100 : Nat)
  clipped : Tab (0 : Nat)
  clipTime : Tab (none : Option Nat)
deriving DecidableEq, Repr

/-- After a full reset: nothing routed, the mixer in AUDA (DESIGN CHOICE, log 25). -/
def Audio.reset : Audio :=
  { stream := Tab.empty, gain := Tab.empty, source := Tab.empty, dest := Tab.empty, tdm := Tab.empty,
    mixDomain := 0, xport := 0, xsrc := false, mclkOut := 0, xrate := 48000, pdmB := false,
    mics := 0, wind := 0, trims := Tab.empty, audxLost := false, onAuda := false, marks := Tab.empty, voices := Tab.empty,
    lowlat := Tab.empty, ceiling := Tab.empty, releaseMs := Tab.empty, clipped := Tab.empty, clipTime := Tab.empty }

/-! ### Cupper and the secure world (18) -/

/-- A mailbox slot (R501, R502): FULL, its bytes, the entry, the calling core, whether a
return is owed, and the packet that caused the call and awaits its answer (R503 to R505). -/
structure Mbox where
  full : Bool
  data : List Byte
  entry : Nat
  core : Nat
  owed : Bool
  cause : Option Owed
deriving DecidableEq, Repr

/-- An empty slot. -/
def Mbox.empty : Mbox := { full := false, data := [], entry := 0, core := 0, owed := false, cause := none }

/-- A challenge that may still be answered (R518). -/
structure Challenge where
  nonce : List Byte
  request : Nat
  time : Nat
deriving DecidableEq, Repr

/-- A loaded tone pattern (R510): segments of (FREQ_HZ, DUR_MS). -/
abbrev Segments := List (Nat × Nat)

/-- Cupper and what it guards (18). `alarms` are the ALARM_N causes now holding as (bit of R524, unit). `awaiting`
lists the monitors whose first complete frame Cupper must still compare before cause WATCHDOG is released (R526);
`escLayer` and `escPipe` hold ESCALATE values that wait for the next frame (R509); `halted` and `coresHalted` are what a debugger has
halted, Cupper and the Barista cores as a mask (R517, R519). -/
structure Sec where
  available : Bool
  unavail : Nat
  wdogMs : Nat
  wdogKick : Nat
  lastRestart : Option Nat
  wasArmed : Bool
  wdogFatal : Bool
  alarms : List (Nat × Nat)
  awaiting : List Nat
  holdRefusals : Nat
  holds : Bool
  toCupper : Tab Mbox.empty
  toBarista : Tab Mbox.empty
  discarded : Nat
  refusals : Nat
  violations : Nat
  keyFused : Bool
  key : Option Nat
  keyCtr : Nat
  fuseDebug : Nat
  addedDebug : Nat
  challenge : Option Challenge
  debugFails : Nat
  patterns : Tab (none : Option Segments)
  fallback : Tab (none : Option (List Byte))
  fallbackNext : Tab (none : Option (List Byte))
  escLayer : Tab (none : Option Nat)
  escPipe : Tab (none : Option Nat)
  halted : Bool
  coresHalted : Nat
deriving DecidableEq, Repr

/-- Cupper before boot; production fuses: no debug enable (R517), no fleet key fused (DESIGN CHOICE, log 26). -/
def Sec.reset : Sec :=
  { available := false, unavail := 0, wdogMs := 50, wdogKick := 0, lastRestart := none, wasArmed := false,
    wdogFatal := false, alarms := [], awaiting := [], holdRefusals := 0, holds := false, toCupper := Tab.empty,
    toBarista := Tab.empty, discarded := 0, refusals := 0, violations := 0, keyFused := false, key := none, keyCtr := 0,
    fuseDebug := 0, addedDebug := 0, challenge := none, debugFails := 0, patterns := Tab.empty, fallback := Tab.empty,
    fallbackNext := Tab.empty, escLayer := Tab.empty, escPipe := Tab.empty, halted := false, coresHalted := 0 }

/-! ### Clocks (19) -/

/-- A reference (R536): healthy, and since when. -/
structure Ref where
  healthy : Bool
  since : Nat
deriving DecidableEq, Repr

/-- No edge seen yet. -/
def Ref.reset : Ref := { healthy := false, since := 0 }

/-- The states of a domain (R550). -/
inductive DomState where
  | gated | running | bypass | offline
deriving DecidableEq, Repr

/-- A clock domain (R545, R550): its state, relock attempts since the last loss, losses, and whether the error record
of the loss under way has been raised (R581). -/
structure Dom where
  state : DomState
  relocks : Nat
  losses : Nat
  logged : Bool
  holdover : Bool
  since : Nat
deriving DecidableEq, Repr

/-- A domain before boot: running (DESIGN CHOICE, log 27). -/
def Dom.reset : Dom := { state := .running, relocks := 0, losses := 0, logged := true, holdover := false, since := 0 }

/-- References by port, the selected source (0xF for WARMRC), degraded mode, monitoring suspended by a WARMRC fault,
domains by index. -/
structure Clocks where
  refs : Tab Ref.reset
  selected : Nat
  degraded : Bool
  suspended : Bool
  xtalLost : Bool
  dom : Tab Dom.reset
deriving DecidableEq, Repr

/-- Before boot: port 0 named, nothing healthy (CLOCK_STATUS resets to 0, R642). -/
def Clocks.reset : Clocks :=
  { refs := Tab.empty, selected := 0, degraded := false, suspended := false, xtalLost := false, dom := Tab.empty }

/-! ### Errors and resets (21) -/

/-- An error record (R580); `seq` is its SEQ field, `detail` its DETAIL as a number whose lowest byte stands at
offset 28. `offlineAt` and `downAt` are the firmware copy's marks of R585: the unit held an offline fact, and the instance
was already stopped, when the record was raised. -/
structure ErrRec where
  code : Nat
  severity : Nat
  escalated : Bool
  superseded : Bool
  prior : Bool
  injected : Bool
  handled : Bool
  inst : Nat
  unit : Nat
  count : Nat
  time : Nat
  seqno : Nat
  related : Nat
  seq : Nat
  detail : Nat
  offlineAt : Bool
  downAt : Bool
deriving DecidableEq, Repr

/-- The error queue and the reset bookkeeping: records in arrival order, records awaiting handling and pre-empted ones
as firmware copies (R583 to R588), losses (R589, R591), the next SEQNO, the cause of the reset under way (R597),
the full resets since power-on and by cause, the RTC times of those of cause 5 or 6, whether the device stopped under the
last row of R600, bean counter sweeps (R605). -/
structure Err where
  queue : List ErrRec
  toHandle : List ErrRec
  handling : Option ErrRec
  preempted : List ErrRec
  lost : Nat
  lostTotal : Nat
  nextSeqno : Nat
  resetCause : Nat
  resetWanted : Bool
  held : Bool
  causeSeqno : Nat
  retainDisplay : Bool
  resets : Nat
  byCause : Tab (0 : Nat)
  recent : List Nat
  audits : Nat
deriving DecidableEq, Repr

/-! ### Power (20) -/

/-- The power states of R552. -/
inductive PState where
  | brew | steep | warm | shelf
deriving DecidableEq, Repr

/-- STATE codes of R555. -/
def PState.code : PState → Nat
  | .brew => 0
  | .steep => 1
  | .warm => 2
  | .shelf => 3

/-- A refused or aborted entry (R561): reason, unit, instance, ARG. -/
structure Refused where
  reason : Nat
  unit : Nat
  inst : Nat
  arg : Nat
deriving DecidableEq, Repr

/-- The core of a sag record (R575): CAUSE, STATE, TIME, RTC seconds, SEQUENCE, FATAL, LATE_SHED, TJ, VSENSE_MV, the error
queue, the instances (state, class, generation, credits held), the pools (TOTAL, FREE), the ALARM_N causes and monitors in
mismatch, and the telemetry. -/
structure Pour where
  cause : Nat
  state : Nat
  time : Nat
  rtc : Nat
  sequence : Nat
  fatal : Bool
  lateShed : Bool
  tj : Int
  vsense : Nat
  errors : List ErrRec
  insts : List (Nat × Bool × Nat × Nat)
  pools : List (Nat × Nat)
  causes : List (Nat × Nat)
  mismatches : List Nat
  tele : List (Nat × Nat)
deriving DecidableEq, Repr

/-- An entry under way (R559), from its checks to the point of no return: the state ordered, whether Steep was automatic,
the sender, the order's packet while its reply of step 3 is owed, whether step 3 has passed, and RTC_ALARM. -/
structure PEntry where
  target : PState
  auto : Bool
  sender : Nat
  owed : Option Owed
  started : Bool
  alarm : Nat
deriving DecidableEq, Repr

/-- POWER_CONFIG OP 0 (R567): threshold code 30 and T_TARGET 105 at reset. -/
structure PowerCfg where
  railGpio : Nat
  railPol : Bool
  pgoodGpio : Nat
  pgoodPol : Bool
  autoSteep : Bool
  vsenseThr : Nat
  tTarget : Nat
  pmicBus : Nat
  pmicEn : Bool
  pmicAddr : Nat
  pmicReg : Nat
deriving DecidableEq, Repr

/-- Reset values. -/
def PowerCfg.reset : PowerCfg :=
  { railGpio := 0, railPol := false, pgoodGpio := 0, pgoodPol := false, autoSteep := false, vsenseThr := 30, tTarget := 105, pmicBus := 0, pmicEn := false, pmicAddr := 0, pmicReg := 0 }

/-- WAKE_STATUS (R566): 0 at power-on; WAKE_TIME in 10 µs units. -/
structure Wake where
  vreg : Bool
  osc : Bool
  memRdy : Bool
  logic : Bool
  last : Nat
  source : Nat
  arg : Nat
  wakeTime : Nat
deriving DecidableEq, Repr

/-- Reset values. -/
def Wake.reset : Wake :=
  { vreg := false, osc := false, memRdy := false, logic := false, last := 0, source := 0, arg := 0, wakeTime := 0 }

/-- Supply sag (R572 to R576): last-pour slots in flash, saves since first boot, CAUSE of the save under way, whether a FATAL
fault arose during it, the record in the save area, and a sag mark. -/
structure Sag where
  pours : Tab (none : Option Pour)
  saves : Nat
  sag : Option Nat
  sagFatal : Bool
  sagRecord : Option Pour
  sagMark : Bool
deriving DecidableEq, Repr

/-- Reset values. -/
def Sag.reset : Sag :=
  { pours := Tab.empty, saves := 0, sag := none, sagFatal := false, sagRecord := none, sagMark := false }

/-- The power control unit (20): the state and the entry under way (R559), whether the Steep in force was automatic, the
wake-scan period, the RTC as nanoseconds of WARM32 and its alarm in seconds, keep-awake holds as a mask by instance
(R558), throttle bookkeeping (milliseconds cool and at 120 C, the last THERMAL time), a THERMAL_TRIP that holds the device,
the temperatures in 0.1 C and their maxima, VDD_GPU, the level to which adaptive voltage limits the GPU clock, refusal
counters oldest first with the overflow and the last 16 (R561), display configuration area valid (R562), load shed,
RESET_N low, units held after a Last-pour save, RAIL_EN asserted toward a Shelf exit and its wake source, WAKEn_N pins that
the device drives and since when (R554), the settings, WAKE_STATUS, and the sag bookkeeping. -/
structure Power where
  state : PState
  entry : Option PEntry
  steepAuto : Bool
  periodMs : Nat
  rtcNs : Nat
  rtcAlarm : Option Nat
  keepAwake : Nat
  coolMs : Nat
  hotMs : Nat
  thermalTime : Option Nat
  tripped : Bool
  temps : Tab (0 : Int)
  tempMax : Tab (0 : Int)
  vddMv : Nat
  gpuLevelV : Nat
  refusals : List (Refused × Nat)
  overflow : Nat
  recent : List (Refused × Nat)
  retained : Bool
  shed : Bool
  resetPin : Bool
  poured : Bool
  railOn : Bool
  railWake : Nat × Nat
  wakeLow : Nat
  wakeLowSince : Nat
  cfg : PowerCfg
  wake : Wake
  sag : Sag
deriving DecidableEq, Repr

/-- At power-on: Brew, WAKE_STATUS 0 (R566), threshold code 30, T_TARGET 105 (R567), every last-pour slot erased, no
configuration retained (R562; DESIGN CHOICE where the spec gives none, log 28). -/
def Power.reset : Power :=
  { state := .brew, entry := none, steepAuto := false, periodMs := 100, rtcNs := 0, rtcAlarm := none, keepAwake := 0,
    coolMs := 0, hotMs := 0, thermalTime := none, tripped := false, temps := Tab.empty, tempMax := Tab.empty, vddMv := 850,
    gpuLevelV := 0, refusals := [], overflow := 0, recent := [], retained := false, shed := false, resetPin := false,
    poured := false, railOn := false, railWake := (0, 0), wakeLow := 0, wakeLowSince := 0, cfg := .reset, wake := .reset,
    sag := .reset }

/-! ### Refill, flash and calibration (22, 23) -/

/-- A flash slot of a firmware unit (R513, R514): what its image's header says, and whether it verifies. -/
structure FwSlot where
  version : Nat
  secVer : Nat
  wdogMs : Nat
  good : Bool
deriving DecidableEq, Repr

/-- An empty or spoilt slot. -/
def FwSlot.empty : FwSlot := { version := 0, secVer := 0, wdogMs := 0, good := false }

/-- The open Refill (R614 to R617). -/
structure Refill where
  unit : Nat
  live : Bool
  flash : Bool
  length : Nat
  data : List Byte
deriving DecidableEq, Repr

/-- Firmware and calibration: slots by unit * 2 + slot, preferred slot B as a mask by unit, the preference blocks'
SEQUENCE, the slot that SLOT_SELECT makes preferred from the next full reset (R618), running versions by unit, fused security counters by unit, versions booted at the last full reset
(R613), live images that wait for the next retrain or training (R620: version by unit, and the parts that have not taken
it), the open Refill, user-cal records by kind * 16 + index (R622). -/
structure Firmware where
  slots : Tab FwSlot.empty
  prefB : Nat
  prefSeq : Nat
  selected : Tab (none : Option Nat)
  running : Tab (0 : Nat)
  booted : Tab (0 : Nat)
  counter : Tab (0 : Nat)
  deferred : Tab (none : Option Nat)
  parts : List (Nat × Nat)
  refill : Option Refill
  userCal : Tab ([] : List Byte)
deriving DecidableEq, Repr

/-- The flash as the board is delivered: slot A of each unit holds a good image of version 1, slot B is empty
(DESIGN CHOICE, log 14). -/
def Firmware.reset : Firmware :=
  { slots := (List.range 7).foldl (fun t u => t.set (2 * (u + 1)) { version := 1, secVer := 0, wdogMs := 0, good := true })
      Tab.empty,
    prefB := 0, prefSeq := 0, selected := Tab.empty, running := Tab.empty, booted := Tab.empty, counter := Tab.empty, deferred := Tab.empty, parts := [], refill := none,
    userCal := Tab.empty }

/-! ### Boot and the management port (23) -/

/-- BOOT_STATUS (R642), the recovery registers (R643), the latch of DEV_TIME's high half (R642), the assigned EID
(R640), messages under assembly by tag, whole messages that wait for service, whether packets are discarded up to the next
start of message (R126), whether the last transaction was NACKed, and messages discarded and counted. -/
structure Boot where
  stage : Nat
  fail : Nat
  cupperB : Bool
  baristaB : Bool
  restored : Bool
  lastCause : Nat
  recUnit : Nat
  recResult : Nat
  recOffset : Nat
  recData : List Byte
  timeHi : Option Nat
  eid : Option Nat
  asm : List (Nat × List Byte)
  arrived : List (Nat × List Byte)
  skipping : Bool
  nacked : Bool
  discarded : Nat
deriving DecidableEq, Repr

/-- Reset values of R642. -/
def Boot.reset : Boot :=
  { stage := 0, fail := 0, cupperB := false, baristaB := false, restored := false, lastCause := 0, recUnit := 0,
    recResult := 0, recOffset := 0, recData := [], timeHi := none, eid := none, asm := [], arrived := [], skipping := false, nacked := false,
    discarded := 0 }

/-! ### Reset values of the groups -/

/-- The board at reset: DESIGN CHOICE (log 2): a ZL-8808 with 16 GiB fitted, straps 0. -/
def Board.reset : Board :=
  { member := .zl8808, dramMiB := 16384, refsel := 0, mgrport := 0, smbaddr := 0, flash1s := false,
    mgrPortInForce := 0 }

/-- Instance 0, the manager: always there, with a credit limit of 64 (R51) and a descriptor limit of 64 (R194). -/
def Inst.manager : Inst := { Inst.none with state := .active }

/-- Nothing accepted, nothing waiting. -/
def Transport.reset : Transport :=
  { accepted := [], replies := [], raised := [], mgmtOut := [], voided := [],
    msixSent := [] }

/-- Pending, enable and route registers 0 (04). -/
def Eic.reset : Eic :=
  { pend := Tab.empty, en := Tab.empty, route := Tab.empty, service := Tab.empty, notice := Tab.empty, counted := 0 }

/-- Region 1 with all remaining capacity on all channels at a grain of 4 KiB (06 Interleave regions); p 2^-11 (R176);
AGE 4, ROWHIT_CAP 16, S3_MAX 48 (R180 to R182); no class ways; ALLOC 2, 0, 0, 0 (R188). RADIUS2 clear is DEDUCED
(log 15). -/
def Memc.reset : Memc :=
  { regions := [{ chmask := 0xFF, grain := 12, ecc := false, retain := false, sizeMiB := 16128 }, .empty, .empty],
    plog2 := 11, radius2 := false, seeds := 0, ageUs := 4, rowHitCap := 16, s3Max := 48, classWays := [0, 0, 0, 0],
    alloc := [2, 0, 0, 0], channels := Tab.empty, promoted := [], scrubPasses := 0,
    zeroing := [], lost := [], waitingCreates := [], gateWaiting := [] }

/-- No surface, no fence; the first surface ID is 1 (R206), the first fence ID 1 (DESIGN CHOICE, log 16). -/
def Surf.reset : Surf := { table := Tab.empty, nextId := Tab.empty, fences := [], nextFence := Tab.empty }

/-- Every cluster online and idle; the first module and pipeline IDs are 1 (DESIGN CHOICE, log 16). -/
def Gpu.reset : Gpu :=
  { modules := Tab.empty, nextModule := Tab.empty, pipelines := Tab.empty, nextPipeline := Tab.empty,
    cacheMiB := Tab.empty, cache := Tab.empty, compiles := [], queues := Tab.empty, clusters := Tab.empty,
    vtime := Tab.empty, lastE := Tab.empty, p0Last := 0, backEnd := 1 }

/-- Empty slots; the first COMMIT_ID is 1 (DESIGN CHOICE, log 16). -/
def Blend.reset : Blend := { slots := Tab.empty, parts := [], nextCommit := 1 }

/-- Pipes OFF, monitors disabled. -/
def Pipes.reset : Pipes := { pipe := Tab.empty, subs := Tab.empty, mons := Tab.empty }

/-- An empty error queue; SEQNO starts at 1 (R590). -/
def Err.reset : Err :=
  { queue := [], toHandle := [], handling := none, preempted := [], lost := 0, lostTotal := 0, nextSeqno := 1,
    resetCause := 1, resetWanted := false, held := false, causeSeqno := 0, retainDisplay := false, resets := 0, byCause := Tab.empty,
    recent := [], audits := 0 }

/-! ### The whole state -/

/-- The state of the block. `pending` is the queue of waiting commands; `freeCtr` is the model's own counter, to which
free values are applied (log 3); `hostMem` holds what the device stored to host memory, by port * 2^64 + address, and
`bus` what the last read returned to its reader: both are the model's view of the world outside. -/
structure State where
  pending : List Instr
  board : Board
  devTime : Nat
  freeCtr : Nat
  ledger : Tab Entry.reset
  loops : Tab (none : Option Loop)
  insts : Tab Inst.none
  ports : Tab Port.reset
  fns : Tab Fn.reset
  tp : Transport
  eic : Eic
  bus : List Byte
  hostMem : Mem
  dram : Mem
  spad : Mem
  memc : Memc
  copy : List CopyJob
  surf : Surf
  gpu : Gpu
  blend : Blend
  colour : Tab Colour.reset
  pipes : Pipes
  err : Err
  tele : Tab (0 : Nat)
  links : Links
  touch : Touch
  haptics : Haptics
  audio : Audio
  sec : Sec
  clocks : Clocks
  power : Power
  firmware : Firmware
  boot : Boot
deriving DecidableEq, Repr

/-- The state with another `pending`. -/
def State.setPending (s : State) (x : List Instr) : State := { s with pending := x }

/-- The state with another `board`. -/
def State.setBoard (s : State) (x : Board) : State := { s with board := x }

/-- The state with another `devTime`. -/
def State.setDevTime (s : State) (x : Nat) : State := { s with devTime := x }

/-- The state with another `freeCtr`. -/
def State.setFreeCtr (s : State) (x : Nat) : State := { s with freeCtr := x }

/-- The state with another `ledger`. -/
def State.setLedger (s : State) (x : Tab Entry.reset) : State := { s with ledger := x }

/-- The state with another `loops`. -/
def State.setLoops (s : State) (x : Tab (none : Option Loop)) : State := { s with loops := x }

/-- The state with another `insts`. -/
def State.setInsts (s : State) (x : Tab Inst.none) : State := { s with insts := x }

/-- The state with another `ports`. -/
def State.setPorts (s : State) (x : Tab Port.reset) : State := { s with ports := x }

/-- The state with another `fns`. -/
def State.setFns (s : State) (x : Tab Fn.reset) : State := { s with fns := x }

/-- The state with another `tp`. -/
def State.setTp (s : State) (x : Transport) : State := { s with tp := x }

/-- The state with another `eic`. -/
def State.setEic (s : State) (x : Eic) : State := { s with eic := x }

/-- The state with another `bus`. -/
def State.setBus (s : State) (x : List Byte) : State := { s with bus := x }

/-- The state with another `hostMem`. -/
def State.setHostMem (s : State) (x : Mem) : State := { s with hostMem := x }

/-- The state with another `dram`. -/
def State.setDram (s : State) (x : Mem) : State := { s with dram := x }

/-- The state with another `spad`. -/
def State.setSpad (s : State) (x : Mem) : State := { s with spad := x }

/-- The state with another `memc`. -/
def State.setMemc (s : State) (x : Memc) : State := { s with memc := x }

/-- The state with another `copy`. -/
def State.setCopy (s : State) (x : List CopyJob) : State := { s with copy := x }

/-- The state with another `surf`. -/
def State.setSurf (s : State) (x : Surf) : State := { s with surf := x }

/-- The state with another `gpu`. -/
def State.setGpu (s : State) (x : Gpu) : State := { s with gpu := x }

/-- The state with another `blend`. -/
def State.setBlend (s : State) (x : Blend) : State := { s with blend := x }

/-- The state with another `colour`. -/
def State.setColour (s : State) (x : Tab Colour.reset) : State := { s with colour := x }

/-- The state with another `pipes`. -/
def State.setPipes (s : State) (x : Pipes) : State := { s with pipes := x }

/-- The state with another `err`. -/
def State.setErr (s : State) (x : Err) : State := { s with err := x }

/-- The state with another `tele`. -/
def State.setTele (s : State) (x : Tab (0 : Nat)) : State := { s with tele := x }

/-- The state with another `links`. -/
def State.setLinks (s : State) (x : Links) : State := { s with links := x }

/-- The state with another `touch`. -/
def State.setTouch (s : State) (x : Touch) : State := { s with touch := x }

/-- The state with another `haptics`. -/
def State.setHaptics (s : State) (x : Haptics) : State := { s with haptics := x }

/-- The state with another `audio`. -/
def State.setAudio (s : State) (x : Audio) : State := { s with audio := x }

/-- The state with another `sec`. -/
def State.setSec (s : State) (x : Sec) : State := { s with sec := x }

/-- The state with another `clocks`. -/
def State.setClocks (s : State) (x : Clocks) : State := { s with clocks := x }

/-- The state with another `power`. -/
def State.setPower (s : State) (x : Power) : State := { s with power := x }

/-- The state with another `firmware`. -/
def State.setFirmware (s : State) (x : Firmware) : State := { s with firmware := x }

/-- The state with another `boot`. -/
def State.setBoot (s : State) (x : Boot) : State := { s with boot := x }

/-- The block at power-on: every field at its value after a full reset, before the boot sequence has run
(R600, R601, R642); the values that the spec does not give are named in the assumption log. -/
def State.reset : State :=
  { pending := [],
    board := Board.reset,
    devTime := 0,
    freeCtr := 0,
    ledger := Tab.empty,
    loops := Tab.empty,
    insts := Tab.set Tab.empty 0 Inst.manager,
    ports := Tab.empty,
    fns := Tab.empty,
    tp := Transport.reset,
    eic := Eic.reset,
    bus := [],
    hostMem := Tab.empty,
    dram := Tab.empty,
    spad := Tab.empty,
    memc := Memc.reset,
    copy := [],
    surf := Surf.reset,
    gpu := Gpu.reset,
    blend := Blend.reset,
    colour := Tab.empty,
    pipes := Pipes.reset,
    err := Err.reset,
    tele := Tab.empty,
    links := Links.reset,
    touch := Touch.reset,
    haptics := Haptics.reset,
    audio := Audio.reset,
    sec := Sec.reset,
    clocks := Clocks.reset,
    power := Power.reset,
    firmware := Firmware.reset,
    boot := Boot.reset }

end Sys2Proof.Machine
end

