-- ==== Sys2Proof/Machine/Operands.lean ====
section
/-!
DEFINITION. Operand forms: how a payload field is read from a packet by its offset, as the layout tables of the spec
give it (offsets in bytes from the start of the header, bits counted within the byte or word named), and how a RESULT
and an event DETAIL are laid out.
-/

namespace Sys2Proof


/-- `LENGTH`: the payload bytes of a packet (R105). -/
def Packet.length (p : Packet) : Nat := 4 * p.words.length

/-- The payload word that holds offset `off` (payload starts at offset 16); a word beyond the payload reads 0. -/
def Packet.word (p : Packet) (off : Nat) : Nat := (p.words.getD ((off - 16) / 4) 0).toNat

/-- Bits [lo + n - 1 : lo] of the field that starts at byte offset `off`. -/
def Packet.fld (p : Packet) (off lo n : Nat) : Nat := bitsOf (p.word off) (8 * (off % 4) + lo) n

/-- Bit `lo` of the field at `off`. -/
def Packet.flag (p : Packet) (off lo : Nat) : Bool := p.fld off lo 1 == 1

/-- [7:0] at `off`. -/
def Packet.u8 (p : Packet) (off : Nat) : Nat := p.fld off 0 8

/-- [15:0] at an even offset. -/
def Packet.u16 (p : Packet) (off : Nat) : Nat := p.fld off 0 16

/-- [31:0] at a word offset. -/
def Packet.u32 (p : Packet) (off : Nat) : Nat := p.word off

/-- [63:0] at a word offset, low word first. -/
def Packet.u64 (p : Packet) (off : Nat) : Nat := p.word off + 2 ^ 32 * p.word (off + 4)

/-- A two's-complement field of 16 bits at an even offset. -/
def Packet.i16 (p : Packet) (off : Nat) : Int := signed 16 (p.u16 off)

/-- Words `i` and after of the payload, as numbers. -/
def Packet.wordsFrom (p : Packet) (off : Nat) : List Nat := (p.words.drop ((off - 16) / 4)).map BitVec.toNat

/-- The half-words of the payload from `off` (a word offset), low half first. -/
def Packet.halvesFrom (p : Packet) (off : Nat) : List Nat :=
  (p.wordsFrom off).flatMap (fun w => [w % 65536, w / 65536])

/-- The payload bytes from `off` (a word offset). -/
def Packet.bytesFrom (p : Packet) (off : Nat) : List Byte := wordBytes (p.words.drop ((off - 16) / 4))

/-- Words of a RESULT from bytes, the last word padded with zeros. -/
def padWords (bs : List Byte) : List W32 := bytesWords (bs ++ List.replicate ((4 - bs.length % 4) % 4) 0)

/-- A DETAIL from fields in order from offset 12: each a value and its width in bits (R140). -/
def detail (fs : List (Nat × Nat)) : Nat := pack fs

/-- Function key: port * 32 + function. -/
def fnKey (port fn : Nat) : Nat := port * 32 + fn

/-- Handles by class (01 Unit handles). -/
def hDevice : Nat := 0x0000
def hPort (n : Nat) : Nat := 0x0100 + n
def hInst (n : Nat) : Nat := 0x0200 + n
def hSpad : Nat := 0x0500
def hChannel (n : Nat) : Nat := 0x0600 + n
def hSlc : Nat := 0x0700
def hCopy (n : Nat) : Nat := 0x0800 + n
def hCluster (n : Nat) : Nat := 0x0900 + n
def hBlend : Nat := 0x0C00
def hSlot (n : Nat) : Nat := 0x0D00 + n
def hColour (n : Nat) : Nat := 0x0E00 + n
def hPipe (n : Nat) : Nat := 0x0F00 + n
def hDptx (n : Nat) : Nat := 0x1000 + n
def hDsi (n : Nat) : Nat := 0x1100 + n
def hDsc (n : Nat) : Nat := 0x1200 + n
def hMon (n : Nat) : Nat := 0x1300 + n
def hTouch (n : Nat) : Nat := 0x1400 + n
def hHaptic (n : Nat) : Nat := 0x1500 + n
def hBoost : Nat := 0x1600
def hAudio : Nat := 0x1700
def hTone : Nat := 0x1800
def hEvents : Nat := 0x1900
def hClock (n : Nat) : Nat := 0x1A00 + n
def hPower : Nat := 0x1B00
def hD2d : Nat := 0x1C00
def hCupper : Nat := 0x0400

/-- An element put before the first that does not come earlier under `le`. -/
def insertBy {α : Type} (le : α → α → Bool) (v : α) : List α → List α
  | [] => [v]
  | x :: xs => if le v x then v :: x :: xs else x :: insertBy le v xs

/-- A list in the order of `le`; equal elements keep their places. -/
def sortBy {α : Type} (le : α → α → Bool) (xs : List α) : List α := xs.foldr (insertBy le) []

end Sys2Proof
end

