-- ==== Sys2Proof/Machine/Ops.lean ====
section
/-!
DEFINITION. The named operations that every chapter's meanings share: telemetry, the ledger (01 R20 to R29, 21 R603),
events toward instances (04 R140 to R149), error records (21 R578 to R589), instances' memory (02 R77), pools and
blocks (01 R37, 06 R172), and the application of a packet: the checks of R107 in their order, its reply, and the
long packets whose reply comes later.
-/

namespace Sys2Proof.Machine

open Sys2Proof

/-! ### Telemetry (21 R607, R609) -/

/-- The key of counter `idx` of a set, for one scope. -/
def tkey (set scope idx : Nat) : Nat := (set * 1024 + scope) * 65536 + idx

/-- Add to a counter; it saturates at 64 bits (R607). -/
def State.countBy (s : State) (set scope idx n : Nat) : State :=
  s.setTele (s.tele.upd (tkey set scope idx) (fun c => min (c + n) (2 ^ 64 - 1)))

/-- Add one to a counter. -/
def State.count (s : State) (set scope idx : Nat) : State := s.countBy set scope idx 1

/-- Raise a counter to at least `n` (largest values). -/
def State.countMax (s : State) (set scope idx n : Nat) : State :=
  s.setTele (s.tele.upd (tkey set scope idx) (fun c => max c n))

/-! ### Units -/

/-- The unit of a handle is fitted (R1, R5). -/
def State.present (s : State) (h : Nat) : Bool := s.board.member.present h

/-- One instance record. -/
def State.inst (s : State) (n : Nat) : Inst := s.insts.get n

/-- Change one instance record. -/
def State.updInst (s : State) (n : Nat) (f : Inst → Inst) : State := s.setInsts (s.insts.upd n f)

/-- The instance exists (R58). -/
def State.exists_ (s : State) (n : Nat) : Bool := decide ((s.inst n).state ≠ .absent)

/-- The guests that exist, rising. -/
def State.guests (s : State) : List Nat :=
  ((List.range s.board.member.instances).map (· + 1)).filter s.exists_

/-- The instance is of class SAFETY; the manager counts as one where a mark S or a floor says so (R55, R152). -/
def State.isSafety (s : State) (n : Nat) : Bool := (s.inst n).safety

/-- One function's record, by key. -/
def State.fn (s : State) (k : Nat) : Fn := s.fns.get k

/-- Change one function's record. -/
def State.updFn (s : State) (k : Nat) (f : Fn → Fn) : State := s.setFns (s.fns.upd k f)

/-- The manager's function: the PF of the manager port (R50). -/
def State.managerFn (s : State) : Nat := fnKey s.board.mgrPortInForce 0

/-- The function exists: the PF of a present port, or a VF that VF Enable and NumVFs bring into being, within TotalVFs
(R10, R47). -/
def State.fnExists (s : State) (port fn : Nat) : Bool :=
  decide (port < s.board.member.ports) &&
    (decide (fn = 0) || ((s.ports.get port).vfEnable && decide (fn ≤ (s.ports.get port).numVfs) &&
      decide (fn ≤ s.board.member.vfs)))

/-- The guest bound to a function, if any (R53, R56). -/
def State.boundTo (s : State) (k : Nat) : Option Nat := s.guests.find? (fun n => decide ((s.inst n).fn = some k))

/-- The instance that a function serves: the manager on its function, else the bound guest. -/
def State.instOf (s : State) (k : Nat) : Option Nat := if k = s.managerFn then some 0 else s.boundTo k

/-- The function that serves an instance. -/
def State.fnOf (s : State) (n : Nat) : Option Nat := if n = 0 then some s.managerFn else (s.inst n).fn

/-- One layer slot. -/
def State.slot (s : State) (i : Nat) : Slot := s.blend.slots.get i

/-- Change one layer slot. -/
def State.updSlot (s : State) (i : Nat) (f : Slot → Slot) : State :=
  s.setBlend { s.blend with slots := s.blend.slots.upd i f }

/-- One pipe. -/
def State.pipe (s : State) (i : Nat) : Pipe := s.pipes.pipe.get i

/-- Change one pipe. -/
def State.updPipe (s : State) (i : Nat) (f : Pipe → Pipe) : State :=
  s.setPipes { s.pipes with pipe := s.pipes.pipe.upd i f }

/-- One region monitor. -/
def State.mon (s : State) (i : Nat) : Mon := s.pipes.mons.get i

/-- Change one region monitor. -/
def State.updMon (s : State) (i : Nat) (f : Mon → Mon) : State :=
  s.setPipes { s.pipes with mons := s.pipes.mons.upd i f }

/-- The instance holds a pipe region on the pipe (R74, R388). -/
def State.hasRegion (s : State) (n pipe : Nat) : Bool := (s.inst n).regions.any (fun r => decide (r.unit = pipe))

/-! ### The ledger -/

/-- The entry of a unit. -/
def State.entry (s : State) (h : Nat) : Entry := s.ledger.get h

/-- The generation of a unit's entry (R20). -/
def State.genOf (s : State) (h : Nat) : W32 := (s.entry h).gen

/-- The generation after one advance: it skips 0 (R20). -/
def nextGen (g : W32) : W32 := if g + 1 = 0 then 1 else g + 1

/-- The code of an agreement state (R160). -/
def Agree.code : Agree → Nat
  | .agreed => 0
  | .settling => 1
  | .contradicted => 2

/-- The pipes routed to a transmitter or DSI port (R406). -/
def State.linkPipes (s : State) (h : Nat) : List Nat :=
  (s.links.unit.get h).stream0.route.toList ++ (s.links.unit.get h).stream1.route.toList

/-- A region monitor of the pipe is enabled: a mismatch it could no longer see forbids stopping the pipe (R396). -/
def State.pipeMonitored (s : State) (pipe : Nat) : Bool :=
  (List.range 16).any (fun i =>
    let m := s.mon (16 * pipe + i)
    (m.next.getD m.cfg).enable)

/-- The guests with a region on a pipe. -/
def State.regionHolders (s : State) (pipe : Nat) : List Nat := s.guests.filter (fun n => s.hasRegion n pipe)

/-- A guest owns or uses a unit (02 R53, the text after it). -/
def State.uses (s : State) (n h : Nat) : Bool :=
  let i := h % 256
  match h / 256 with
  | 0x02 => decide (n = i)
  | 0x05 | 0x07 | 0x08 | 0x09 | 0x0A => true
  | 0x0D => decide ((s.slot i).holder = some n)
  | 0x0E | 0x0F => s.hasRegion n i
  | 0x10 => (s.linkPipes h).any (s.hasRegion n)
  | 0x11 => (s.linkPipes h).any (s.hasRegion n)
  | 0x13 => ((s.mon i).next.getD (s.mon i).cfg).enable && decide ((s.mon i).owner = n)
  | 0x14 => (s.inst n).tregions.any (fun r => decide (r.unit = i))
  | 0x15 => bitOf (s.inst n).haptics i
  | 0x16 => decide ((s.inst n).haptics ≠ 0)
  | 0x17 => decide ((s.inst n).streams ≠ 0)
  | 0x1C => decide ((s.inst n).haptics ≠ 0) || decide ((s.inst n).tregions ≠ [])
  | _ => false

/-! ### Events -/

/-- A record arises for an instance (R140). For a FROZEN instance, or one bound to no function, it is discarded and
counted (R142, R149); an absent one gets none; else it waits for EVENT_WRITE. -/
def State.raise (s : State) (dst code unit det : Nat) : State :=
  let r : EvRec := { code := code, inst := dst, unit := unit, time := s.devTime, detail := det }
  if dst = 0 then s.setTp { s.tp with raised := s.tp.raised ++ [r] }
  else match (s.inst dst).state with
    | .absent => s
    | .frozen =>
      (s.count 0 dst 32).updInst dst
        (fun i => { i with frozen := i.frozen.map (fun f => { f with discarded := f.discarded + 1 }) })
    | _ =>
      if (s.inst dst).fn = none then s.count 0 dst 32
      else s.setTp { s.tp with raised := s.tp.raised ++ [r] }

/-- The same record to several instances, with one TIME (R141). -/
def State.raiseAll (s : State) (tos : List Nat) (code unit det : Nat) : State :=
  tos.foldl (fun t n => t.raise n code unit det) s

/-- LEDGER_CHANGED to the manager and the unit's users, except one sender (R26, R603). `cause` is 1 FACT or
2 COMMAND. -/
def State.ledgerChanged (s : State) (h cause sender : Nat) : State :=
  let e := s.entry h
  let d := detail [(e.gen.toNat, 32), (e.fact, 16), (cause, 8), (e.agree.code, 8), (if cause = 1 then 0xFF else sender, 8)]
  let tos := (0 :: s.guests.filter (fun n => s.uses n h)).filter
    (fun n => decide (cause = 1) || decide (n ≠ sender))
  s.raiseAll tos 0x01 h d

/-- Write one entry. -/
def State.setEntry (s : State) (h : Nat) (e : Entry) : State := s.setLedger (s.ledger.set h e)

/-- The generation advances without a change of the intention (R22). -/
def State.advance (s : State) (h : Nat) : State := s.setEntry h { s.entry h with gen := nextGen (s.genOf h) }

/-- The units whose ledger changes are written to the display configuration area of Warmer retention (R562). -/
def displayClass (h : Nat) : Bool := decide (0x0E ≤ h / 256) && decide (h / 256 ≤ 0x13)

/-- A command changes the intention: the generation advances; a CONTRADICTED entry stays so (R22, R28), any other
becomes SETTLING or AGREED; the others are told (R603). -/
def State.intend (s : State) (h : Nat) (settling : Bool) (sender : Nat) : State :=
  let e := s.entry h
  let a := if e.agree = .contradicted then Agree.contradicted else if settling then .settling else .agreed
  let s := (s.setEntry h { gen := nextGen e.gen, agree := a, fact := e.fact }).ledgerChanged h 2 sender
  if displayClass h then s.setPower { s.power with retained := true } else s

/-- A fact contradicts the intention, or replaces the contradicting fact: CONTRADICTED, one advance, LEDGER_CHANGED
with cause FACT (R26). The same fact again changes nothing. -/
def State.setFact (s : State) (h fact : Nat) : State :=
  let e := s.entry h
  if e.agree = .contradicted ∧ e.fact = fact then s
  else (s.setEntry h { gen := nextGen e.gen, agree := .contradicted, fact := fact }).ledgerChanged h 1 0xFF

/-- The contradicting fact clears: the generation advances, the entry is SETTLING, LEDGER_CHANGED again (R27). -/
def State.clearFact (s : State) (h : Nat) : State :=
  let e := s.entry h
  if e.agree = .contradicted then
    (s.setEntry h { gen := nextGen e.gen, agree := .settling, fact := 0 }).ledgerChanged h 1 0xFF
  else s

/-- The hardware has reached the intention: SETTLING becomes AGREED without an advance (R21, R22). -/
def State.settle (s : State) (h : Nat) : State :=
  let e := s.entry h
  if e.agree = .settling then s.setEntry h { e with agree := .agreed } else s

/-! ### Error records -/

/-- The unit's entry holds an offline fact (R585): LINK_OFFLINE of panels, channels and boost, a cluster's fact, PIX_OFFLINE,
PLL_OFFLINE, CUPPER_DOWN, WEDGED. -/
def State.offlineFact (s : State) (h : Nat) : Bool :=
  let e := s.entry h
  decide (e.agree = .contradicted) && (decide (e.fact = 0x00F0) || (match h / 256 with
    | 0x04 => decide (e.fact = 1)
    | 0x09 => true
    | 0x0F => decide (e.fact = 2)
    | 0x14 => decide (e.fact = 1)
    | 0x15 => decide (e.fact = 4)
    | 0x16 => decide (e.fact = 2)
    | 0x1A => decide (e.fact = 4)
    | _ => false))

/-- A guest that has been quiesced, reset or destroyed, or is on the way there (R585). -/
def State.instDown (s : State) (n : Nat) : Bool :=
  decide (1 ≤ n) && decide (n ≤ 16) && (match (s.inst n).state with
    | .quiescing => decide ((s.inst n).drain ≠ .freeze)
    | .absent | .bound | .quiesced | .resetting => true
    | _ => false)

/-- The newest record of the queue takes in a NOTE or CORR of its CODE, UNIT and INSTANCE within 1 ms, unless it is PRIOR
(R582). -/
def State.errMerges (s : State) (code sev unit inst : Nat) : Bool :=
  match s.err.queue.getLast? with
  | some r => decide (sev ≤ 1) && decide (r.code = code) && decide (r.unit = unit) && decide (r.inst = inst) &&
      !r.prior && decide (s.devTime ≤ r.time + 1000000)
  | none => false

/-- A record pre-empts the handling of one on its unit with a lower severity (R584). -/
def State.errEscalates (s : State) (sev unit : Nat) : Bool :=
  match s.err.handling with
  | some h => decide (h.unit = unit) && decide (h.severity < sev)
  | none => false

/-- The record that a fault makes (R580). -/
def State.errRecord (s : State) (code sev unit inst seq det : Nat) (injected : Bool) : ErrRec :=
  { code := code, severity := sev, escalated := s.errEscalates sev unit, superseded := false, prior := false,
    injected := injected, handled := false, inst := inst, unit := unit, count := 1, time := s.devTime,
    seqno := s.err.nextSeqno,
    related := if s.errEscalates sev unit then (s.err.handling.map (·.seqno)).getD 0 else 0, seq := seq, detail := det,
    offlineAt := s.offlineFact unit, downAt := s.instDown inst }

/-- An error record is raised (R580 to R589). A NOTE or CORR like the newest, not PRIOR, record within 1 ms is merged
(R582); a higher severity on the unit in handling pre-empts it (R584); a FATAL one wants the full reset (R586); the
65th record replaces the 64th, unless that is FATAL and the new one is not (R589). While a full reset is wanted, or before
the boot has completed, another trigger is ignored (R600). -/
def State.raiseErr (s : State) (code sev unit inst seq det : Nat) (injected : Bool := false) : State :=
  let e := s.err
  let merges := s.errMerges code sev unit inst
  let s := s.count 10 0 sev
  if merges then
    (s.count 10 0 5).setErr { e with
      queue := e.queue.dropLast ++ (e.queue.getLast?.map (fun r => { r with count := satInc 16 r.count })).toList }
  else
    let esc := s.errEscalates sev unit
    let r := s.errRecord code sev unit inst seq det injected
    let lastFatal := match e.queue.getLast? with
      | some l => decide (l.severity = 4)
      | none => false
    let full := decide (64 ≤ e.queue.length)
    let keepOld := full && lastFatal && decide (sev ≠ 4)
    let q := if !full then e.queue ++ [r] else if keepOld then e.queue else e.queue.dropLast ++ [r]
    let e1 := { e with
      queue := q, nextSeqno := (e.nextSeqno + 1) % 2 ^ 32,
      lost := if full then e.lost + 1 else e.lost,
      lostTotal := if full then satInc 32 e.lostTotal else e.lostTotal }
    let e2 := if esc then { e1 with handling := some r, preempted := e.handling.toList ++ e1.preempted }
      else { e1 with toHandle := e1.toHandle ++ [r] }
    let e3 := if sev = 4 ∧ injected = false ∧ e.resetWanted = false ∧ s.boot.stage = 6 then
        { e2 with resetWanted := true, causeSeqno := r.seqno, resetCause := if code = 0xB003 then 6 else 5 } else e2
    let s := if full then s.countBy 10 0 6 1 else s
    (if esc then s.count 10 0 7 else s).setErr e3

/-! ### Instance memory (02 R77, R79) -/

/-- The page of a list that holds an instance address. -/
def pageAt (ps : List Page) (a : Nat) : Option Page :=
  ps.find? (fun p => decide (p.va ≤ a / 65536) && decide (a / 65536 < p.va + (if p.big then 32 else 1)))

/-- The DRAM address of an instance address, where it is mapped. -/
def physAt (ps : List Page) (a : Nat) : Option Nat := (pageAt ps a).map (fun p => p.phys + (a - p.va * 65536))

/-- Every page of [a, a + n) is mapped. -/
def mappedRange (ps : List Page) (a n : Nat) : Bool :=
  (List.range ((a + n - 1) / 65536 + 1 - a / 65536)).all (fun i => (pageAt ps ((a / 65536 + i) * 65536)).isSome)

/-- One byte of an instance's memory; an unmapped one reads 0 (R79, device engines). -/
def readByte (m : Mem) (ps : List Page) (a : Nat) : Byte :=
  match physAt ps a with
  | some q => m.get q
  | none => 0

/-- Bytes of an instance's memory. -/
def readPages (m : Mem) (ps : List Page) (a : Nat) : Nat → List Byte
  | 0 => []
  | n + 1 => readByte m ps a :: readPages m ps (a + 1) n

/-- Bytes stored to an instance's memory; bytes of unmapped pages are discarded (R79). -/
def writePages (m : Mem) (ps : List Page) (a : Nat) : List Byte → Mem
  | [] => m
  | b :: bs =>
    match physAt ps a with
    | some q => writePages (m.set q b) ps (a + 1) bs
    | none => writePages m ps (a + 1) bs

/-- Read an instance's DRAM. -/
def State.readInst (s : State) (n a len : Nat) : List Byte := readPages s.dram (s.inst n).pages a len

/-- Store to an instance's DRAM. -/
def State.writeInst (s : State) (n a : Nat) (bs : List Byte) : State :=
  s.setDram (writePages s.dram (s.inst n).pages a bs)

/-- Bytes of a surface's storage as the Blend engine reads it: pages taken from the map while pinned stay readable
(R231). -/
def State.readScan (s : State) (n a len : Nat) (dead : Bool) : List Byte :=
  let i := s.inst n
  readPages s.dram (if dead then i.dead.flatMap (·.pages) ++ i.pages else i.pages) a len

/-- The scratchpad address of an offset in a grant (R200), where it lies within. -/
def spadAt (blocks : List Nat) (off : Nat) : Option Nat := (blocks[off / 4096]?).map (fun b => b * 4096 + off % 4096)

/-- One byte of a scratchpad grant; 0 beyond it. -/
def readSpadByte (m : Mem) (blocks : List Nat) (off : Nat) : Byte :=
  match spadAt blocks off with
  | some q => m.get q
  | none => 0

/-- Bytes of a scratchpad grant. -/
def readSpad (m : Mem) (blocks : List Nat) (off : Nat) : Nat → List Byte
  | 0 => []
  | n + 1 => readSpadByte m blocks off :: readSpad m blocks (off + 1) n

/-- Bytes stored to a scratchpad grant. -/
def writeSpad (m : Mem) (blocks : List Nat) (off : Nat) : List Byte → Mem
  | [] => m
  | b :: bs =>
    match spadAt blocks off with
    | some q => writeSpad (m.set q b) blocks (off + 1) bs
    | none => writeSpad m blocks (off + 1) bs

/-- Store to an instance's scratchpad grant. -/
def State.writeSpad (s : State) (n off : Nat) (bs : List Byte) : State :=
  s.setSpad (Machine.writeSpad s.spad (s.inst n).spadBlocks off bs)

/-- Store to host memory through a port: the model's record of what the device wrote there. -/
def State.writeHost (s : State) (port a : Nat) (bs : List Byte) : State :=
  s.setHostMem (s.hostMem.write (port * 2 ^ 64 + a) bs)

/-! ### Blocks and pools (01 R37, 06 R171 to R173, R200) -/

/-- The 2 MiB blocks of a region: 7/8 of it where ECC is set (R173). -/
def MemRegion.blocks (r : MemRegion) : Nat := (if r.ecc then r.sizeMiB * 7 / 8 else r.sizeMiB) / 2

/-- The blocks of the DRAM quota pool (R37, R172). -/
def State.dramTotal (s : State) : Nat := (s.memc.regions.map MemRegion.blocks).sum

/-- The region (1 to 3) in which a block lies: blocks are numbered through the regions in order. -/
def blockRegion : List MemRegion → Nat → Nat
  | [], _ => 1
  | r :: rs, b => if b < r.blocks then 1 else 1 + blockRegion rs (b - r.blocks)

/-- The first block of each region. -/
def regionStart (rs : List MemRegion) (r : Nat) : Nat := ((rs.take (r - 1)).map MemRegion.blocks).sum

/-- Blocks that instances hold. -/
def State.grantedBlocks (s : State) : List Nat := s.guests.flatMap (fun n => (s.inst n).blocks)

/-- Blocks of DRAM that nobody holds and that are not being zero-filled. -/
def State.dramFree (s : State) : Nat := s.dramTotal - s.grantedBlocks.length - s.memc.zeroing.length

/-- The first `n` numbers from `i` on, within fuel, that are not in `used`. -/
def takeFree (used : List Nat) : Nat → Nat → Nat → List Nat
  | 0, _, _ => []
  | _ + 1, _, 0 => []
  | f + 1, i, n + 1 => if used.contains i then takeFree used f (i + 1) (n + 1) else i :: takeFree used f (i + 1) n

/-- Blocks for a grant of `n`: a SAFETY instance takes ECC regions first, a GENERAL one the others first, in ascending
region order (R172). -/
def State.chooseBlocks (s : State) (safety : Bool) (n : Nat) : List Nat :=
  let rs := s.memc.regions
  let used := s.grantedBlocks ++ s.memc.zeroing
  let idx := [1, 2, 3]
  let isEcc (r : Nat) : Bool := (rs.getD (r - 1) .empty).ecc
  let order := idx.filter (fun r => isEcc r == safety) ++ idx.filter (fun r => isEcc r != safety)
  order.foldl (fun got r =>
    got ++ takeFree used ((rs.getD (r - 1) .empty).blocks) (regionStart rs r) (n - got.length)) []

/-- Scratchpad quota blocks (R200). -/
def spadTotal : Nat := 1536

/-- Scratchpad blocks that instances hold. -/
def State.spadHeld (s : State) : List Nat := s.guests.flatMap (fun n => (s.inst n).spadBlocks)

/-- Packet credits now held by an instance (R117). -/
def State.creditsHeld (s : State) (n : Nat) : Nat := (s.tp.accepted.filter (fun a => decide (a.p.inst = n))).length

/-- Slots that an instance holds, rising. -/
def State.slotsOf (s : State) (n : Nat) : List Nat :=
  (List.range s.board.member.slots).filter (fun i => decide ((s.slot i).holder = some n))

/-- A slot is empty: nothing staged to show, intended or current (R73). -/
def State.slotEmpty (s : State) (i : Nat) : Bool :=
  decide ((s.slot i).intended.enable = false) && decide ((s.slot i).current.enable = false)

/-- Copy descriptors an instance holds: those of its started packets (R196). -/
def State.descsHeld (s : State) (n : Nat) : Nat :=
  ((s.copy.filter (fun j => decide (j.inst = n) && j.engine.isSome)).map (fun j => j.descs.length)).sum

/-- Hopper pages that an instance's passes hold (R289). -/
def State.hopperHeld (s : State) (n : Nat) : Nat :=
  ((List.range 4).flatMap (fun q => (s.gpu.queues.get (n * 4 + q)).submits.map (·.held))).sum

/-- Free pages of the Hopper allotment (R289, R37). -/
def State.hopperFree (s : State) (n : Nat) : Nat := (s.inst n).hopper - s.hopperHeld n

/-! ### Scan-out (07 R230, 13 R381) -/

/-- A pipe shows its layers' current states: neither OFF, HELD nor OFFLINE (R381). -/
def Pipe.shows (p : Pipe) : Bool :=
  decide (p.state = .run) || decide (p.state = .blank) || decide (p.state = .starting)

/-- Bands of a frame (R337). -/
def Pipe.bandCount (p : Pipe) : Nat := (p.timing.vact + 63) / 64

/-- Strips of a band (R338). -/
def Pipe.stripCount (p : Pipe) : Nat := (p.timing.hact + 63) / 64

/-- Bands of the frame in progress are still to be composed (R230). -/
def Pipe.composing (p : Pipe) : Bool :=
  decide (p.state = .run) && ((!p.openNext && decide (p.nextBand < p.bandCount)) ||
    p.bands.any (fun b => !b.next && decide (b.strips < p.stripCount)))

/-- The layers of the frame in progress while bands are still to be composed, and those a latch line has taken for the
following frame. -/
def Pipe.fetches (p : Pipe) : List FLayer :=
  (if p.composing then p.frameSet.layers else []) ++
    (if p.shows && p.latched && p.composeNext then p.nextSet.layers else [])

/-- A surface is in scan-out: some layer of its instance shows it, or a frame still fetches it (R230). -/
def State.inScanout (s : State) (n id : Nat) : Bool :=
  (List.range s.board.member.slots).any (fun i =>
    let t := s.slot i
    decide (t.holder = some n) && t.current.enable && decide (t.current.surface = id) && (s.pipe t.current.pipe).shows) ||
  (List.range s.board.member.pipes).any (fun q =>
    (s.pipe q).fetches.any (fun l => decide (l.owner = n) && decide (l.st.surface = id)))

/-! ### Host memory as the device reads it -/

/-- Bytes read from host memory: what stands there is outside the model (log 4). -/
def State.hostBytes (s : State) (port a n : Nat) : List Byte :=
  (List.range n).map (fun i => Config.hostByte s.freeCtr (port * 2 ^ 64 + a + i))

/-- The next free values differ from those before. -/
def State.tickFree (s : State) : State := s.setFreeCtr (s.freeCtr + 1)

/-- The function that serves an instance may do DMA (R663). -/
def State.busMaster (s : State) (n : Nat) : Bool :=
  match s.fnOf n with
  | some k => (s.fn k).busMaster
  | none => false

/-- The port of the function that serves an instance. -/
def State.portOf (s : State) (n : Nat) : Nat := ((s.fnOf n).getD 0) / 32

/-! ### Packets: checks, replies, long work -/

/-- Who may send an opcode (05 Ibnov command catalogue). -/
inductive Mark where
  | m | g | sfty | a
deriving DecidableEq, Repr

/-- An opcode: its code (R155) and its mark. -/
structure Op where
  code : Nat
  mark : Mark
deriving DecidableEq, Repr

/-- The NEWGEN of a reply: the target's generation after the command (R24), 0 for a handle that fails step 7 (R110). -/
def State.newGenFor (s : State) (h : Nat) : W32 := if s.present h then s.genOf h else 0

/-- The place of a status in R153, for the counters of R609. -/
def Status.index (st : Status) : Nat :=
  [Status.ok, .pending, .badCrc, .badOpcode, .badParam, .staleState, .noUnit, .denied, .quota, .pinned, .busy,
    .quiesceRequired, .secureUnavailable, .secureHold, .timeout, .wedged, .cancelled, .offline, .compileError,
    .imageRejected, .notReady].idxOf st

/-- Two packets are the same accepted packet: same sender, SEQ and TARGET. -/
def samePacket (p q : Packet) : Bool := decide (p.src = q.src) && decide (p.seq = q.seq) && decide (p.target = q.target)

/-- An accepted packet has been applied by the ledger (R25): it no longer holds back packets behind it. -/
def State.markApplied (s : State) (p : Packet) : State :=
  s.setTp { s.tp with accepted := s.tp.accepted.map (fun a => if samePacket a.p p then { a with applied := true } else a) }

/-- The NEWGEN of a reply (R24, R110): the generation of the TARGET's entry immediately after the command, which a long packet
that changes an intention recorded when it was applied (log 130); 0 where R9 failed step 7. -/
def State.replyGen (s : State) (code : Nat) (p : Packet) (st : Status) : W32 :=
  if decide (st = .noUnit) && decide (s.board.member = .zl8802) && (decide (code / 4096 = 6) || decide (code / 4096 = 7)) then 0
  else ((s.tp.accepted.find? (fun a => samePacket a.p p)).bind (·.newgen)).getD (s.newGenFor p.target)

/-- A reply is ready to be written (R110, R112); the final ones are counted per status (R609). A packet that a quiesce,
a fence or a wedge has already disposed of gets none (R61, R81, R594). -/
def State.answer (s : State) (code : Nat) (p : Packet) (st : Status) (res : List W32) : State :=
  if s.tp.voided.any (samePacket p) then
    s.setTp { s.tp with voided := s.tp.voided.filter (fun q => !samePacket p q) }
  else
  let r : Reply :=
    { inst := p.inst, src := p.src, opcode := code, status := st, seq := p.seq, newgen := s.replyGen code p st,
      result := res, notify := p.notify, stalled := false }
  let s := s.setTp { s.tp with replies := s.tp.replies ++ [r] }
  s.count 0 p.inst (4 + st.index)

/-- The final reply of a long packet. -/
def State.finish (s : State) (o : Owed) (st : Status) (res : List W32) : State := s.answer o.opcode o.p st res

/-- The final reply of a long packet, if one waits. -/
def State.finishOpt (s : State) (o : Option Owed) (st : Status) (res : List W32) : State :=
  match o with
  | some o => s.finish o st res
  | none => s

/-- Long packets that change no intention, so that they are over only with their reply: MEM_UNMAP, COPY, WRITE_END, SEAL,
PIPELINE_CREATE, SUBMIT, HOPPER_GRANT and DIAG_RUN (log 130). -/
def quietCodes : List Nat := [0x1002, 0x1010, 0x2004, 0x2005, 0x3002, 0x3010, 0x3011, 0xA004]

/-- The generation that a command's own change gave its TARGET is noted for its reply, before a fact follows it (R24, R29). -/
def State.noteGen (s : State) (p : Packet) : State :=
  let g := s.newGenFor p.target
  s.setTp { s.tp with accepted := s.tp.accepted.map (fun a => if samePacket a.p p then { a with newgen := some g } else a) }

/-- A long packet has been applied and owes its reply: where it changed an intention, the generation of its TARGET's entry is
noted (R24), and an interim reply goes out where FLAGS.INTERIM permits it (R111); it returns no credit. -/
def State.interim (s : State) (code : Nat) (p : Packet) : State :=
  let g := s.newGenFor p.target
  let note := if quietCodes.contains code then none else some g
  let s := s.setTp { s.tp with accepted := s.tp.accepted.map (fun a => if samePacket a.p p then { a with newgen := note } else a) }
  if p.interim then
    s.setTp { s.tp with replies := s.tp.replies ++
      [{ inst := p.inst, src := p.src, opcode := code, status := .pending, seq := p.seq,
         newgen := g, result := [], notify := false, stalled := false }] }
  else s

/-- The packet comes from a GENERAL instance (R54, R55). -/
def State.general (s : State) (p : Packet) : Bool := decide (p.inst ≠ 0) && !s.isSafety p.inst

/-- Steps 4 to 9 of R107, after R664: the first check that fails gives the status. -/
def State.verdict (s : State) (op : Op) (own : Bool) (p : Packet) : Option Status :=
  if decide (s.boot.stage ≠ 6) && decide (op.code ≠ 1) && decide (op.code ≠ 2) then some .notReady
  else if s.general p && decide (p.src.ring = 0) then some .denied
  else if decide (op.mark = .m) && decide (p.inst ≠ 0) then some .denied
  else if decide (op.mark = .sfty) && s.general p then some .denied
  else if decide (s.board.member = .zl8802) && (decide (op.code / 4096 = 6) || decide (op.code / 4096 = 7)) then
    some .noUnit
  else if !s.board.member.classDefined p.target then some .badParam
  else if !s.present p.target then some .noUnit
  else if !own then some .denied
  else if decide (p.basegen ≠ 0) && decide (p.basegen ≠ s.genOf p.target) then some .staleState
  else none

/-- What the execution of a packet answers after step 9: a refusal that changes nothing (R153), a final reply with the
new state, or a long packet that has started and owes its reply. -/
inductive Ans where
  | fail (st : Status) (res : List W32)
  | done (s : State) (st : Status) (res : List W32)
  | owe (s : State)

/-- The firmware runs and takes packets: the cores have started (R631, step 5), the device is in Brew with no entry into
another state under way, and its load has not been shed (R559, R573). -/
def State.awake (s : State) : Bool :=
  decide (4 ≤ s.boot.stage) && decide (s.boot.stage ≤ 6) && decide (s.power.state = .brew) && s.power.entry.isNone &&
    !s.power.shed && !s.err.held

/-- Packets are accepted: not once a full reset is wanted (R164, R598). -/
def State.accepting (s : State) : Bool := s.awake && !s.err.resetWanted

/-- A packet that must wait while the firmware does not run, or for earlier packets: FLAGS.BARRIER and BARRIER_ALL (R105), and the order of packets of one
ring and TARGET (R112). -/
def State.blocked (s : State) (p : Packet) : Bool :=
  if !s.awake then true
  else if s.tp.accepted.any (fun a => samePacket a.p p && !a.applied) then
    let before := s.tp.accepted.takeWhile (fun a => !samePacket a.p p)
    (p.barrier && before.any (fun a => decide (a.p.src = p.src))) ||
      (p.barrierAll && before.any (fun a => decide (a.p.inst = p.inst))) ||
      before.any (fun a => decide (a.p.src = p.src) && decide (a.p.target = p.target) && !a.applied)
  else false

/-- A packet is applied: it waits where R105, R112 or R559 holds it back; else the checks, then its execution, then its reply
(R107). A denied privilege is counted (R52). -/
def applyPacket (op : Op) (own : Bool) (p : Packet) (s : State) (run : State → Ans) : State :=
  if s.blocked p then s
  else
    let s := s.markApplied p
    match s.verdict op own p with
    | some st =>
      let s := if decide (st = .denied) && decide (p.inst ≠ 0) then s.count 0 p.inst 28 else s
      s.answer op.code p st []
    | none =>
      match run s with
      | .fail st res => s.answer op.code p st res
      | .done s' st res => s'.answer op.code p st res
      | .owe s' => s'.interim op.code p

/-- The outcome of every packet row. -/
def packet (op : Op) (own : Bool) (p : Packet) (s : State) (run : State → Ans) : Host.Outcome State Fault Refusal :=
  .next (applyPacket op own p s run)

/-- A check of step 10 or 11, or of the execution, that answers a status when it fails. -/
def Ans.unless (ok : Bool) (st : Status) (k : Ans) : Ans := if ok then k else .fail st []

/-- Checks in their order, each a condition that must hold and the status where it does not; then the execution. -/
def checks : List (Bool × Status) → Ans → Ans
  | [], k => k
  | (ok, st) :: cs, k => if ok then checks cs k else .fail st []

/-- A parameter that names a unit (step 10): its class's index must be fitted. -/
def State.unitOk (s : State) (h : Nat) : Bool := s.present h

/-- TARGET is the sender's own instance handle (R190, R210). -/
def ownHandle (p : Packet) : Bool := decide (p.target = hInst p.inst)

/-- An event row on a unit: the fault of R2 where the member has no such unit. -/
def onUnit (s : State) (h : Nat) (k : State) : Host.Outcome State Fault Refusal :=
  if s.present h then .next k else .fault (.absentUnit h)

end Sys2Proof.Machine
end

