-- ==== Sys2Proof/Machine/Events.lean ====
section
/-!
DEFINITION. Events and interrupts (04): the internal event controller with its claim and completion, and the writing
of event records to the functions' event rings, with masks, holding queues and EVENTS_LOST; and MSI-X messages.
-/

namespace Sys2Proof.Machine

open Sys2Proof

/-! ### The internal event controller (R129 to R138) -/

/-- The pending bit of a source for a target: sources 1 to 3 have one per target (R130). -/
def pendKey (target source : Nat) : Nat := if source < 4 then target * 1024 + source else 7 * 1024 + source

/-- Sources routed to Cupper for ever (R130): the mailbox slots toward Cupper (R501) and the region monitors. Which
numbers within 480-503 are the tone generator's is not stated, so none of them is fixed here (log 21). -/
def fixedCupper (source : Nat) : Bool :=
  (decide (47 ≤ source) && decide (source ≤ 62)) || (decide (264 ≤ source) && decide (source ≤ 391))

/-- The source's unit is fitted; a source of an absent unit never rises (R129, R2). -/
def State.sourcePresent (s : State) (n : Nat) : Bool :=
  let m := s.board.member
  if n = 0 ∨ 511 < n then false
  else if 16 ≤ n ∧ n ≤ 46 then decide (n - 16 < m.clockDomains)
  else if 64 ≤ n ∧ n ≤ 131 then decide ((n - 64) / 17 < m.ports) && decide ((n - 64) % 17 ≤ m.vfs)
  else if 132 ≤ n ∧ n ≤ 135 then decide (n - 132 < m.ports)
  else if 136 ≤ n ∧ n ≤ 183 then decide ((n - 136) / 3 < m.clusters)
  else if 200 ≤ n ∧ n ≤ 263 then decide ((n - 200) / 8 < m.pipes)
  else if 264 ≤ n ∧ n ≤ 391 then decide ((n - 264) / 16 < m.pipes)
  else if 456 ≤ n ∧ n ≤ 479 then m.sense
  else true

/-- The target of a source: its route, or Cupper for the fixed ones. -/
def Eic.routeOf (e : Eic) (source : Nat) : Nat := if fixedCupper source then 4 else e.route.get source

/-- A source is eligible for a target (04 Claim and complete). -/
def Eic.eligible (e : Eic) (t source : Nat) : Bool :=
  e.pend.get (pendKey t source) &&
    (decide (source < 4) || (decide (e.routeOf source = t) && e.en.get (t * 1024 + source)))

/-- The eligible sources of a target, rising. -/
def Eic.eligibles (e : Eic) (t : Nat) : List Nat :=
  (e.pend.keys.filter (fun k => decide (k / 1024 = t ∨ k / 1024 = 7) && e.eligible t (k % 1024))).map (· % 1024)

/-- The lowest eligible source of a target. -/
def Eic.lowest (e : Eic) (t : Nat) : Option Nat := (e.eligibles t).min?

/-- The notification line of a target (R132). -/
def Eic.line (e : Eic) (t : Nat) : Bool := decide (e.service.get t = 0) && (e.lowest t).isSome

/-- Replace the controller's state; each line that rises sets its target's NOTICE (R132). -/
def State.setEicNotice (s : State) (e : Eic) : State :=
  s.setEic { e with notice := (List.range 5).foldl (fun nt t =>
    if !s.eic.line t && e.line t then nt.set t true else nt) e.notice }

/-- A rising edge of a source sets its pending bit; a set bit merges it (R131). Sources 1 to 3 pend at all five
targets (R130). -/
def State.edge (s : State) (source : Nat) : State :=
  if s.sourcePresent source then
    let keys := if source < 4 then (List.range 5).map (fun t => pendKey t source) else [pendKey 0 source]
    s.setEicNotice { s.eic with pend := s.eic.pend.setAll keys true }
  else s

/-- A pending bit is withdrawn; a source in service stays so (R137). -/
def State.withdrawSource (s : State) (target source : Nat) : State :=
  s.setEicNotice { s.eic with pend := s.eic.pend.set (pendKey target source) false }

/-- EIC_SOURCE_EDGE (R131). -/
def execEicSourceEdge (source : Nat) (s : State) : Host.Outcome State Fault Refusal := .next (s.edge source)

/-- A mailbox receiver that claims its source has read the slots behind it, and clears FULL: Cupper's slot s behind
source 47 + s, the cores' slots behind source 63 (18 R501; DEDUCED, log 52). -/
def State.readMailbox (s : State) (source : Nat) : State :=
  let x := s.sec
  if 47 ≤ source ∧ source ≤ 62 then
    s.setSec { x with toCupper := x.toCupper.upd (source - 47) (fun m => { m with full := false }) }
  else if source = 63 then
    s.setSec { x with toBarista := (List.range 16).foldl (fun t i => t.upd i (fun m => { m with full := false })) x.toBarista }
  else s

/-- EIC_CLAIM (R133): the value read, and what it does. -/
def execEicClaim (target : Nat) (s : State) : Host.Outcome State Fault Refusal :=
  let e := s.eic
  let ret (s : State) (v : Nat) : State := s.setBus (leBytes 4 v)
  if 4 < target then .next s
  else if e.service.get target ≠ 0 then .next (ret (s.setEic { e with counted := e.counted + 1 }) 0)
  else match e.lowest target with
    | some n =>
      .next (ret ((s.setEic { e with
        pend := e.pend.set (pendKey target n) false
        service := e.service.set target n
        notice := e.notice.set target false }).readMailbox n) n)
    | none =>
      if e.notice.get target then .next (ret (s.setEic { e with notice := e.notice.set target false }) 0x3FF)
      else .next (ret s 0)

/-- EIC_COMPLETE (R134): the number in service ends its service; any other value is ignored and counted. -/
def execEicComplete (target id : Nat) (s : State) : Host.Outcome State Fault Refusal :=
  let e := s.eic
  if decide (target ≤ 4) && decide (id ≠ 0) && decide (e.service.get target = id) then
    .next (s.setEicNotice { e with service := e.service.set target 0 })
  else .next (s.setEic { e with counted := e.counted + 1 })

/-- EIC_PEND_WITHDRAW (R137). -/
def execEicPendWithdraw (target source : Nat) (s : State) : Host.Outcome State Fault Refusal :=
  .next (s.withdrawSource target source)

/-- EIC_ENABLE_WRITE (R136): enable bits of sources 1 to 3 read 1 and ignore writes. -/
def execEicEnableWrite (target source : Nat) (enable : Bool) (s : State) : Host.Outcome State Fault Refusal :=
  if decide (target ≤ 4) && decide (4 ≤ source) && decide (source ≤ 511) then
    .next (s.setEicNotice { s.eic with en := s.eic.en.set (target * 1024 + source) enable })
  else .next s

/-- EIC_ROUTE_WRITE (R130): routes of sources 1 to 3 and of the Cupper sources are fixed; a normal-world write to a
Cupper route is ignored and counted. A value above 4 names no target and is ignored (log 21). -/
def execEicRouteWrite (source target : Nat) (s : State) : Host.Outcome State Fault Refusal :=
  if fixedCupper source then .next (s.setEic { s.eic with counted := s.eic.counted + 1 })
  else if decide (4 ≤ source) && decide (source ≤ 511) && decide (target ≤ 4) then
    .next (s.setEicNotice { s.eic with route := s.eic.route.set source target })
  else .next s

/-! ### MSI-X (R99, R146) -/

/-- The message of a vector: a store of its data at its address. -/
def State.sendMsix (s : State) (k v : Nat) : State :=
  let e := (s.fn k).msix.get v
  (s.writeHost (k / 32) e.addr (leBytes 4 e.data)).setTp { s.tp with msixSent := s.tp.msixSent ++ [(k, v)] }

/-- Signal a vector: a masked one sets its bit in the PBA (R146). -/
def State.signal (s : State) (k v : Nat) : State :=
  let f := s.fn k
  if !f.msixEnable then s
  else if f.fnMask || (f.msix.get v).masked then s.updFn k (fun f => { f with pba := f.pba ||| 2 ^ v })
  else s.sendMsix k v

/-- Send the messages whose vectors are no longer masked (R146, PCIe). -/
def State.flushPba (s : State) (k : Nat) : State :=
  (maskBits 32 (s.fn k).pba).foldl (fun t v =>
    if !(t.fn k).fnMask && !((t.fn k).msix.get v).masked && (t.fn k).msixEnable then
      (t.updFn k (fun f => { f with pba := f.pba ^^^ 2 ^ v })).sendMsix k v
    else t) s

/-! ### Writing event records (R140 to R147) -/

/-- The 32 bytes of an event record (R140, R125). -/
def EvRec.bytes (r : EvRec) : List Byte :=
  let b := leBytes 1 r.code ++ leBytes 1 r.inst ++ leBytes 2 r.unit ++ leBytes 8 r.time ++ leBytes 16 r.detail
  b ++ leBytes 4 (crc32c b).toNat

/-- Store bytes in a ring of host memory, wrapping at its end (R94, R95). -/
def State.writeRing (s : State) (port base size : Nat) (tail : Nat) (bs : List Byte) : State :=
  (bs.foldl (fun (acc : State × Nat) b => (acc.1.writeHost port (base + acc.2 % size) [b], acc.2 + 1)) (s, tail)).1

/-- Bytes of a ring not read yet by the host. -/
def ringUsed (tail head : W32) : Nat := (tail - head).toNat

/-- The event ring has room for one record (R98, R142). -/
def Fn.eqRoom (f : Fn) : Bool := decide (f.eqSize ≠ 0) && decide (ringUsed f.eqTail f.eqHead + 32 ≤ f.eqSize)

/-- One record to the ring: bytes, tail, shadow, vector (R99, R142, R146). -/
def State.putEvent (s : State) (k : Nat) (r : EvRec) : State :=
  let f := s.fn k
  let s := s.writeRing (k / 32) f.eqLatched f.eqSize f.eqTail.toNat r.bytes
  let t := f.eqTail + 32
  let s := s.updFn k (fun f => { f with eqTail := t })
  let s := if f.eqShadow ≠ 0 then s.writeHost (k / 32) f.eqShadow (leBytes 4 t.toNat) else s
  s.signal k (f.evtVec.get r.code)

/-- EVENTS_LOST (R144): the number lost, the code of the last one, the cause. -/
def eventsLost (inst time n code cause : Nat) : EvRec :=
  { code := 0x0F, inst := inst, unit := hEvents, time := time,
    detail := detail [(min n (2 ^ 32 - 1), 32), (code, 8), (cause, 8)] }

/-- The room of a holding queue: 8 records, 64 for the manager's function (R142). -/
def State.holdRoom (s : State) (k : Nat) : Nat := if k = s.managerFn then 64 else 8

/-- A record joins the holding queue, or is discarded and counted where the queue is full (R142). -/
def State.hold (s : State) (k : Nat) (r : EvRec) : State :=
  if (s.fn k).holding.length < s.holdRoom k then s.updFn k (fun f => { f with holding := f.holding ++ [r] })
  else
    (s.updFn k (fun f => { f with eqOverflow := satInc 32 f.eqOverflow, lost := f.lost + 1, lostCode := r.code })).count
      0 r.inst 33

/-- A record that passed its mask: to the ring if nothing waits and there is room, else to the holding queue. -/
def State.deliver (s : State) (k : Nat) (r : EvRec) : State :=
  let f := s.fn k
  if f.holding.isEmpty && decide (f.lost = 0) && f.eqRoom && f.busMaster then s.putEvent k r else s.hold k r

/-- Held records go out in order as space returns; after the last, one EVENTS_LOST where records were discarded
(R142). The fuel bounds the number of records written. -/
def State.drainHolding : Nat → State → Nat → State
  | 0, s, _ => s
  | n + 1, s, k =>
    let f := s.fn k
    if f.eqRoom && f.busMaster then
      match f.holding with
      | r :: rs => State.drainHolding n ((s.updFn k (fun f => { f with holding := rs })).putEvent k r) k
      | [] =>
        if f.lost = 0 then s
        else
          let i := ((s.instOf k).getD 0)
          (s.updFn k (fun f => { f with lost := 0 })).putEvent k (eventsLost i s.devTime f.lost f.lostCode 0)
    else s

/-- A masked record is latched; the latest one stands and the number merged is counted (R145). EVENTS_LOST ignores the
mask (R144). -/
def State.maskOrDeliver (s : State) (k : Nat) (r : EvRec) : State :=
  if bitOf (s.fn k).evtMask r.code && decide (r.code ≠ 0x0F) then
    s.updFn k (fun f => { f with latches := f.latches.upd r.code (fun l =>
      some { record := r, merged := (l.map (·.merged)).getD 0 + 1 }) })
  else s.deliver k r

/-- EVENT_WRITE (R142): held records first; then the oldest record that has arisen for the instance of this function. -/
def execEventWrite (port fn : Nat) (s : State) : Host.Outcome State Fault Refusal :=
  let k := fnKey port fn
  if !s.present (hPort port) then .fault (.absentUnit (hPort port))
  else
    let s := State.drainHolding 65 s k
    match s.instOf k with
    | none => .next s
    | some n =>
      match s.tp.raised.find? (fun r => decide (r.inst = n)) with
      | none => .next s
      | some r => .next ((s.setTp { s.tp with raised := s.tp.raised.erase r }).maskOrDeliver k r)

/-- The latched record of a code is written when its mask clears, after an EVENTS_LOST of cause 1 where more than one
record was merged into it (R145). -/
def State.unlatch (s : State) (k code : Nat) : State :=
  match (s.fn k).latches.get code with
  | none => s
  | some l =>
    let s := s.updFn k (fun f => { f with latches := f.latches.set code none })
    let s := if 1 < l.merged then s.deliver k (eventsLost l.record.inst s.devTime (l.merged - 1) code 1) else s
    s.deliver k l.record

/-- EVT_MASK_WRITE (R145, R146): 64 mask bits; bit 15 of EVT_MASK[0] reads 0. -/
def execEvtMaskWrite (port fn idx value : Nat) (s : State) : Host.Outcome State Fault Refusal :=
  let k := fnKey port fn
  if !s.fnExists port fn || decide (14 ≤ s.boot.stage) || decide (4 ≤ idx) then .next s
  else
    let v := value % 2 ^ 64
    let v := if idx = 0 ∧ bitOf v 15 then v - 2 ^ 15 else v
    let old := (s.fn k).evtMask
    let new := old - bitsOf old (64 * idx) 64 * 2 ^ (64 * idx) + v * 2 ^ (64 * idx)
    let s := s.updFn k (fun f => { f with evtMask := new })
    .next (((List.range 64).map (· + 64 * idx)).foldl (fun t c =>
      if bitOf old c && !bitOf new c then t.unlatch k c else t) s)

/-- Withdrawal of an instance's events (R148): the holding queue, the latches, records that have arisen, and the
internal sources of its function (R137); counted as withdrawn. -/
def State.withdrawEvents (s : State) (n : Nat) : State :=
  let mine := s.tp.raised.filter (fun r => decide (r.inst = n))
  let s := s.setTp { s.tp with raised := s.tp.raised.filter (fun r => decide (r.inst ≠ n)) }
  match (s.inst n).fn with
  | none => s.countBy 0 n 31 mine.length
  | some k =>
    let f := s.fn k
    let c := mine.length + f.holding.length + f.latches.cells.length
    let s := s.updFn k (fun f => { f with holding := [], latches := Tab.empty, lost := 0 })
    (s.withdrawSource 0 (64 + 17 * (k / 32) + k % 32)).countBy 0 n 31 c

end Sys2Proof.Machine
end

