-- ==== Sys2Proof/Machine/Alarm.lean ====
section
/-!
DEFINITION. What arms safety monitoring, the causes of ALARM_N, and the loss of secure services (18 R523 to R530), as
every chapter that may arm monitoring or assert a cause uses them.
-/

namespace Sys2Proof.Machine

open Sys2Proof

/-! ### Alarm routes (17 R470, R493) -/

/-- A destination code names something that can exist (R470). -/
def destOk (c : Nat) : Bool :=
  if bitOf c 15 then decide (bitsOf c 3 1 = 0) && decide (bitsOf c 9 6 = 0) else decide (bitsOf c 6 9 = 0)

/-- The code of a TDM output slot. -/
def isTdmDest (c : Nat) : Bool := destOk c && !bitOf c 15

/-- The TDM destinations that an output feeds. -/
def Audio.tdmDests (a : Audio) (j : Nat) : List Nat :=
  (a.dest.cells.filter (fun c => isTdmDest c.1 && decide (c.2 = j + 1))).map Prod.fst

/-- An output feeds a slot of an enabled TDM port. -/
def Audio.feedsTdm (a : Audio) (j : Nat) : Bool := (a.tdmDests j).any (fun c => (a.tdm.get (bitsOf c 4 2)).enable)

/-- The mark of the input that a tone voice feeds, if any. -/
def Audio.voiceMasks (a : Audio) (v : Nat) : List Nat :=
  a.marks.cells.filterMap (fun x => match x.2 with
    | some m => if a.source.get x.1 = 0x4000 + v then some m.outputs else none
    | none => none)

/-- An alarm route is live (R493): a marked input, or a sounding voice with a mask, reaches an enabled port. -/
def Audio.alarmLive (a : Audio) : Bool :=
  a.marks.cells.any (fun x => match x.2 with
    | some m =>
      let src := a.source.get x.1
      (decide (src / 4096 ≠ 4) || (a.voices.get (src % 2)).isSome) && (maskBits 24 m.outputs).any a.feedsTdm
    | none => false)

/-! ### Arming (R320, R523) -/

/-- A layer state is safety-class: at or above its pipe's z-floor (R320). -/
def State.safetyClass (s : State) (l : LayerState) : Bool := decide ((s.pipe l.pipe).zfloor ≤ l.zpos)

/-- The current state of a pipe holds an enabled safety-class layer. -/
def State.pipeSafety (s : State) (pipe : Nat) : Bool :=
  (List.range s.board.member.slots).any (fun i =>
    let l := (s.slot i).current
    (s.slot i).holder.isSome && l.enable && decide (l.pipe = pipe) && s.safetyClass l)

/-- Safety monitoring is armed. -/
def State.armed (s : State) : Bool := (List.range s.board.member.pipes).any s.pipeSafety || s.audio.alarmLive

/-- Debug enables in force (R517). -/
def Sec.debug (x : Sec) : Nat := x.fuseDebug ||| x.addedDebug

/-! ### ALARM_N (R524, R531) -/

/-- CAUSES. -/
def Sec.causes (x : Sec) : Nat := ((List.range 6).map (fun b => if x.alarms.any (fun a => decide (a.1 = b)) then 2 ^ b else 0)).sum

/-- ALARM_N is asserted. -/
def Sec.alarmN (x : Sec) : Bool := !x.alarms.isEmpty

/-- The number of a pipe, slot or monitor, from its handle; 0xFFFF for none (R531). -/
def alarmIndex (unit : Nat) : Nat := if unit = 0xFFFF then 0xFFFF else unit % 256

/-- The causes become another list; a change of CAUSES is told to the manager with the pipe, slot or monitor concerned, and
a rise of ALARM_N is counted (R524, R531, R609). -/
def State.setAlarms (s : State) (as : List (Nat × Nat)) (unit : Nat) : State :=
  let old := s.sec
  let s := s.setSec { s.sec with alarms := as }
  let s := if !old.alarmN && s.sec.alarmN then s.count 12 0 2 else s
  if s.sec.causes = old.causes then s
  else s.raise 0 0xB1 hCupper (detail [(s.sec.causes, 32), (old.causes, 32), (alarmIndex unit, 16)])

/-- A cause holds for a unit (0xFFFF for none). -/
def State.assertCause (s : State) (bit unit : Nat) : State :=
  if s.sec.alarms.contains (bit, unit) then s else s.setAlarms (s.sec.alarms ++ [(bit, unit)]) unit

/-- It no longer does. -/
def State.releaseCause (s : State) (bit unit : Nat) : State :=
  s.setAlarms (s.sec.alarms.filter (fun a => decide (a ≠ (bit, unit)))) unit

/-! ### Loss of secure services (R522, R526 to R530) -/

/-- FW_CUPPER of the capability report: 0 while secure services are unavailable (R157, R527). -/
def State.fwCupper (s : State) : Nat := if s.sec.available then s.firmware.running.get 1 else 0

/-- Source 3 rises at targets 0 to 3: Cupper, target 4, is in reset (R526). -/
def State.wdogEdge (s : State) : State :=
  s.setEicNotice { s.eic with pend := s.eic.pend.setAll ((List.range 4).map (fun t => pendKey t 3)) true }

/-- SECURE_STATE (R531) to the manager and every SAFETY instance. -/
def State.secureState (s : State) (cause : Nat) : State :=
  s.raiseAll (0 :: s.guests.filter s.isSafety) 0xB0 hCupper
    (detail [(cause, 8), (s.sec.unavail, 8), (b2n s.armed, 16), (s.fwCupper, 32)])

/-- Every owed gateway call is answered, and the slots toward Cupper are emptied unread (R505, R528). -/
def State.dropCalls (s : State) : State :=
  let owed := s.sec.toCupper.cells.filterMap (fun c => c.2.cause)
  owed.foldl (fun s o => s.finish o .secureUnavailable []) (s.setSec { s.sec with toCupper := Tab.empty })

/-- Cupper stops: it holds nothing, the voices stop (R522). SECURE_STATE comes before the replies to owed calls
(R528). -/
def State.cupperDown (s : State) (unavail : Nat) : State :=
  let s := s.setSec { s.sec with available := false, unavail := unavail, holds := false, halted := false }
  let s := s.setAudio { s.audio with voices := Tab.empty }
  (s.secureState 1).dropCalls

/-- Steps 1 and 2 of R526; the full reset of step 3 then waits (cause 6). -/
def State.wdogSteps (s : State) (unavail : Nat) : State :=
  let s := (s.assertCause 3 0xFFFF).cupperDown unavail
  let s := s.setSec { s.sec with wdogFatal := true }
  s.wdogEdge.raiseErr 0xB003 4 hCupper 0xFF 0 0

/-- The watchdog expires, or Cupper's SRAM fails (R526, R527, R500); within 60 s of a restart it stays down (R529). -/
def State.secureLost (s : State) (unavail : Nat) : State :=
  let u := match s.sec.lastRestart with
    | some t => if s.devTime ≤ t + 60000000000 then 4 else unavail
    | none => unavail
  if s.armed then s.wdogSteps u
  else
    let s := s.wdogEdge.setFact hCupper 1
    (s.cupperDown u).raiseErr 0xB004 3 hCupper 0xFF 0 0

/-- Monitoring becomes armed: while S_INVASIVE is in force cause DEBUG holds (R519); while secure services are
unavailable steps 1 to 4 of R526 follow (R530). -/
def State.armEdge (s : State) : State :=
  let now := s.armed
  let rises := now && !s.sec.wasArmed
  let s := s.setSec { s.sec with wasArmed := now }
  let s := if rises && bitOf s.sec.debug 3 then s.assertCause 4 0xFFFF else s
  if rises && !s.sec.available && !s.sec.wdogFatal && decide (s.boot.stage = 6) then s.wdogSteps s.sec.unavail else s

/-! ### Secure holds (R520) -/

/-- The units under Cupper's holds. -/
def heldUnit (h : Nat) : Bool :=
  decide (h = hTone) || decide (h / 256 = 0x13) || decide (h = hCupper) || decide (h = 0x1A05) || decide (h = 0x1A04)

/-- A request that reaches a held block is refused and counted. -/
def State.countHold (s : State) : State :=
  (s.setSec { s.sec with holdRefusals := s.sec.holdRefusals + 1 }).count 12 0 3

end Sys2Proof.Machine
end

