-- ==== Sys2Proof/Machine/Fixed.lean ====
section
/-!
DEFINITION. The real functions that the colour chapter names (12 R356, R361, R364, R365, R368, R369), in binary fixed point
with 56 fractional bits: exponential, logarithm, powers, square root, and the sine of a multiple of pi. The error is far
below one step of any 16-bit result; where the spec gives the device a tolerance, a free value within it is added (log 64).
-/

namespace Sys2Proof.Machine

open Sys2Proof

/-- One. -/
def fxOne : Nat := 2 ^ 56

/-- The fraction `a / b`. -/
def fxOf (a b : Nat) : Nat := if b = 0 then 0 else a * fxOne / b

/-- Product. -/
def fxMul (a b : Nat) : Nat := a * b / fxOne

/-- The logarithm of 2, and pi. -/
def fxLn2 : Nat := 49946518145322872
def fxPi : Nat := 226375608064910088

/-- `a / fxOne` rounded to the nearest integer, halves upwards. -/
def fxRound (a : Nat) : Nat := (2 * a + fxOne) / (2 * fxOne)

/-- e to the power `-x`, for `x` at least 0: the power of two, then the series of the rest. -/
def fxExpNeg (x : Nat) : Nat :=
  let k := x / fxLn2
  let r := x - k * fxLn2
  -- e^(-r) = 1 / e^r, with e^r by its series
  let s := (List.range 24).foldl (fun (acc : Nat × Nat) i => (acc.1 + acc.2, fxMul acc.2 r / (i + 1))) (0, fxOne)
  fxOne * fxOne / s.1 / 2 ^ k

/-- e to the power `x`, for `x` at least 0. -/
def fxExp (x : Nat) : Nat :=
  let k := x / fxLn2
  let r := x - k * fxLn2
  let s := (List.range 24).foldl (fun (acc : Nat × Nat) i => (acc.1 + acc.2, fxMul acc.2 r / (i + 1))) (0, fxOne)
  s.1 * 2 ^ k

/-- Twice the series of atanh for `t` at most 1/3: the logarithm of (1 + t) / (1 - t). -/
def fxAtanh2 (t : Nat) : Nat :=
  let t2 := fxMul t t
  let s := (List.range 20).foldl (fun (acc : Nat × Nat) i => (acc.1 + acc.2 / (2 * i + 1), fxMul acc.2 t2)) (0, t)
  2 * s.1

/-- The natural logarithm of `a / b`, for `a` at least `b` above 0. -/
def fxLnUp (a b : Nat) : Nat :=
  let k := Nat.log2 (a / b)
  let m := a * fxOne / (b * 2 ^ k)
  k * fxLn2 + fxAtanh2 ((m - fxOne) * fxOne / (m + fxOne))

/-- `(a / b) ^ (p / q)`, for positive exponents. -/
def fxPow (a b p q : Nat) : Nat :=
  if a = 0 ∨ b = 0 then 0
  else if b ≤ a then fxExp (fxLnUp a b * p / q)
  else fxExpNeg (fxLnUp b a * p / q)

/-- The square root. -/
def fxSqrt (x : Nat) : Nat := Nat.sqrt (x * fxOne)

/-- The sine of pi times `x`, for `x` from 0 to 1/2, by its series. -/
def fxSinSmall (x : Nat) : Nat :=
  let t := fxMul x fxPi
  let t2 := fxMul t t
  let s := (List.range 14).foldl (fun (acc : Int × Nat) i =>
    (acc.1 + (if i % 2 = 0 then (acc.2 : Int) else -(acc.2 : Int)), fxMul acc.2 t2 / ((2 * i + 2) * (2 * i + 3)))) (0, t)
  s.1.toNat

/-- The sine of pi times `x`, for `x` at least 0. -/
def fxSinPi (x : Nat) : Int :=
  let r := x % (2 * fxOne)
  let h := r % fxOne
  let v := fxSinSmall (if 2 * h ≤ fxOne then h else fxOne - h)
  if r < fxOne then (v : Int) else -(v : Int)

/-- sinc(x) = sin(pi x) / (pi x) of |x| (R361). -/
def fxSinc (x : Nat) : Int := if x = 0 then (fxOne : Int) else fxSinPi x * (fxOne : Int) / (fxMul x fxPi : Int)

/-- The common logarithm of `a / b`, for `a` at least `b`. -/
def fxLog10 (a b : Nat) : Nat := fxLnUp a b * fxOne / fxLnUp 10 1

/-! ### Transfer functions (R356, R365) -/

/-- sRGB: the piecewise function, of `v` in 0 to 1. -/
def srgbToLinear (v : Nat) : Nat :=
  if v * 100000 ≤ 4045 * fxOne then v * 100 / 1292
  else fxPow (1000 * v + 55 * fxOne) (1055 * fxOne) 12 5

/-- Its inverse. -/
def linearToSrgb (v : Nat) : Nat :=
  if v * 10000000 ≤ 31308 * fxOne then v * 1292 / 100
  else fxPow v fxOne 5 12 * 1055 / 1000 - 55 * fxOne / 1000

/-- BT.1886 with zero black, and its inverse. -/
def bt1886ToLinear (v : Nat) : Nat := fxPow v fxOne 12 5
def linearToBt1886 (v : Nat) : Nat := fxPow v fxOne 5 12

/-- The constants c1, c2 and c3 of SMPTE ST 2084 over 128 (PRESUMED: the standard that R356 names; log 64). -/
def pqToLevel (v : Nat) : Nat :=
  let n := fxPow v fxOne 32 2523
  let a := n * 4096 - 3424 * fxOne
  let b := 77216 * fxOne - 76544 * n
  -- (max(n - c1, 0) / (c2 - c3 n)) ^ (1 / m1), in units of 10,000 cd/m2
  if b = 0 then 10000 * fxOne else 10000 * fxPow a b 8192 1305

/-- Its inverse: the code of a level in cd/m2, at most 10,000. -/
def levelToPq (l : Nat) : Nat :=
  let y := fxPow (min l (10000 * fxOne)) (10000 * fxOne) 1305 8192
  fxPow (3424 * fxOne + 77216 * y) (4096 * fxOne + 76544 * y) 2523 32

/-- HLG: the inverse OETF of BT.2100 (PRESUMED constants, log 64). -/
def hlgInverseOetf (v : Nat) : Nat :=
  if 2 * v ≤ fxOne then v * v / fxOne / 3
  else
    -- (exp((v - c) / a) + b) / 12 with a 0.17883277, b 0.28466892, c 0.55991073
    let c := fxOf 55991073 100000000
    let e := if c ≤ v then fxExp ((v - c) * 100000000 / 17883277) else fxExpNeg ((c - v) * 100000000 / 17883277)
    (e + fxOf 28466892 100000000) / 12

/-- The OETF. -/
def hlgOetf (e : Nat) : Nat :=
  if 12 * e ≤ fxOne then fxSqrt (3 * e)
  else
    let x := 12 * e - fxOf 28466892 100000000
    let c := fxOf 55991073 100000000
    if fxOne ≤ x then c + fxLnUp x fxOne * 17883277 / 100000000
    else c - fxLnUp fxOne x * 17883277 / 100000000

/-- Luminance of BT.2100. -/
def hlgLuma (r g b : Nat) : Nat := (2627 * r + 6780 * g + 593 * b) / 10000

/-- The OOTF: scene light to display light in cd/m2, for L_W 1,000 and gamma 1.2. -/
def hlgOotf (y e : Nat) : Nat := fxMul (fxPow y fxOne 1 5) e * 1000

/-- The inverse OOTF for a display of peak `lw`: display light relative to the peak, to scene light. -/
def hlgInverseOotf (y v : Nat) : Nat := if y = 0 then 0 else v * fxOne / fxPow y fxOne 1 6

end Sys2Proof.Machine
end

