-- ==== Sys2Proof/Machine/Loops.lean ====
section
/-!
DEFINITION. Hardware loops (01 R31 to R36, 05 R162): their bounds, pins and states, one step of a loop toward its
target with what integrity demands, LOOP_SET and LOOP_CONSTRAINED. The loops themselves step in their own chapters.
-/

namespace Sys2Proof.Machine

open Sys2Proof

/-- A loop at its default bounds, with an output. -/
def Loop.mk0 (low high out : Nat) : Loop :=
  { low := low, high := high, pin := none, out := out, target := out, state := .free, setter := 0 }

/-- The loops of each unit with the bounds and outputs they have after a full reset: refresh derating (R178), sun mode
and colour guard (R370, R372; log 13), baseline tracking (R428), the limiters and the alarm floor (R488, R491), thermal
throttling and adaptive voltage (R568, R571). -/
def loopDefault (h i : Nat) : Option Loop :=
  match h / 256, i with
  | 0x06, 0 => some (Loop.mk0 488 3906 3906)
  | 0x0E, 0 => some (Loop.mk0 16384 65535 16384)
  | 0x0E, 1 => some (Loop.mk0 8192 16384 8192)
  | 0x14, 0 => some (Loop.mk0 0 64 0)
  | 0x17, 24 => some (Loop.mk0 0 100 0)
  | 0x17, j => if j < 24 then some (Loop.mk0 0 600 0) else none
  | 0x1B, 0 => some (Loop.mk0 0 9 0)
  | 0x1B, 1 => some (Loop.mk0 650 850 850)
  | _, _ => none

/-- The key of a loop. -/
def loopKey (h i : Nat) : Nat := h * 256 + i

/-- One loop of a present unit, where the unit has it. -/
def State.loop (s : State) (h i : Nat) : Option Loop :=
  if s.present h then (match s.loops.get (loopKey h i) with
    | some l => some l
    | none => loopDefault h i) else none

/-- A loop's output; 0 where there is no such loop. -/
def State.loopOut (s : State) (h i : Nat) : Nat := match s.loop h i with
  | some l => l.out
  | none => 0

/-- Write a loop. -/
def State.putLoop (s : State) (h i : Nat) (l : Loop) : State := s.setLoops (s.loops.set (loopKey h i) (some l))

/-- What the loop would put out for a target: its pin, or the target, within the bounds (R33). -/
def Loop.wanted (l : Loop) (target : Nat) : Nat := clampN l.low l.high (l.pin.getD target)

/-- LOOP_CONSTRAINED (0x02) to the manager and LOOP_OVERRIDE (0x03) also to the instance whose setting it overrode. -/
def State.loopEvent (s : State) (code h i : Nat) (enter : Bool) (setter : Nat) : State :=
  s.raiseAll (0 :: (if code = 3 ∧ setter ≠ 0 then [setter] else [])) code h (Config.loopDetail code h i enter)

/-- One step of a loop. `force` is an output that integrity demands past a bound or a pin: the loop takes it and enters
OVERRIDDEN; without one it follows its target within bounds and pin, and leaves OVERRIDDEN. Each of the two advances the
generation and is told; an override is counted (R35). -/
def State.stepLoop (s : State) (h i target : Nat) (force : Option Nat) : State :=
  match s.loop h i with
  | none => s
  | some l =>
    match force with
    | some o =>
      let s' := s.putLoop h i { l with out := o, target := target, state := .overridden }
      if l.state = .overridden then s' else ((s'.advance h).loopEvent 3 h i true l.setter).count 14 (h / 256) i
    | none =>
      let rest : LoopState := if l.pin.isSome then .pinned else if l.state = .constrained then .constrained else .free
      let s' := s.putLoop h i { l with out := l.wanted target, target := target, state := rest }
      if l.state = .overridden then (s'.advance h).loopEvent 3 h i false l.setter else s'

/-- LOOP_CONSTRAINED (R32): a FREE loop held at a bound with its target beyond it has been so for its report delay; a
CONSTRAINED one has been within its bounds for as long. Neither advances the generation. -/
def execLoopConstrained (unit i : Nat) (s : State) : Host.Outcome State Fault Refusal :=
  onUnit s unit (match s.loop unit i with
    | none => s
    | some l =>
      let beyond := decide (l.target < l.low) || decide (l.high < l.target)
      if l.state = .free ∧ beyond = true then
        (s.putLoop unit i { l with state := .constrained }).loopEvent 2 unit i true l.setter
      else if l.state = .constrained ∧ beyond = false then
        (s.putLoop unit i { l with state := .free }).loopEvent 2 unit i false l.setter
      else s)

/-- The largest value that LOW, HIGH and VALUE may hold in a loop's encoding. -/
def loopMax (h i : Nat) : Nat :=
  match h / 256, i with
  | 0x0E, 0 => 65535
  | 0x0E, _ => 16384
  | 0x14, _ => 4095
  | 0x17, j => if j < 24 then 600 else 65535
  | 0x1B, 0 => 9
  | 0x1B, _ => 850
  | _, _ => 2 ^ 32 - 1

/-- The smallest one (R571). -/
def loopMin (h i : Nat) : Nat := if h / 256 = 0x1B ∧ i = 1 then 650 else 0

def opLoopSet : Op := { code := 0x0005, mark := .g }

/-- Loops are the manager's; the alarm floor is also a SAFETY instance's (R53, R491). -/
def State.mayLoop (s : State) (p : Packet) : Bool :=
  decide (p.inst = 0) || (decide (p.target = hAudio) && decide (p.u8 16 = 24) && s.isSafety p.inst)

/-- What the four forms of LOOP_SET share: the form's OP, the loop's existence, then the change. -/
def loopSet (op : Nat) (ok : Loop → Bool) (f : Loop → Loop) (p : Packet) (s : State)
    (after : State → State) : Host.Outcome State Fault Refusal :=
  packet opLoopSet (s.mayLoop p) p s fun s =>
    match s.loop p.target (p.u8 16) with
    | none => .fail .badParam []
    | some l =>
      checks [(decide (p.length = 16) && decide (p.u8 17 = op) && decide (p.u16 18 = 0) && ok l, .badParam)]
        (.done ((after (s.putLoop p.target (p.u8 16) { f l with setter := p.inst })).intend p.target false p.inst) .ok [])

/-- A limiter's VALUE in OP 0: CEILING and RELEASE_MS (R488). -/
def isLimiter (p : Packet) : Bool := decide (p.target = hAudio) && decide (p.u8 16 < 24)

/-- No command lowers the output of the colour guard below 8,192 (R372). -/
def loopFloor (h i : Nat) : Nat := if h / 256 = 0x0E ∧ i = 1 then 8192 else 0

/-- LOOP_SET OP 0 (R162, R33, R488). A pinned output is clamped into the new bounds. -/
def execLoopSetBounds (p : Packet) (s : State) : Host.Outcome State Fault Refusal :=
  let h := p.target
  let i := p.u8 16
  let lo := p.u32 20
  let hi := p.u32 24
  loopSet 0
    (fun _ => decide (lo ≤ hi) && decide (hi ≤ loopMax h i) && decide (loopMin h i ≤ lo) &&
      (!isLimiter p || (decide (p.u16 28 ≤ 600) && decide (1 ≤ p.u16 30) && decide (p.u16 30 ≤ 2000))))
    (fun l =>
      let l := { l with low := lo, high := hi }
      { l with out := match l.pin with
          | some v => max (loopFloor h i) (clampN lo hi v)
          | none => l.out })
    p s
    (fun s => if isLimiter p then
      s.setAudio { s.audio with
        ceiling := s.audio.ceiling.set i (p.u16 28)
        releaseMs := s.audio.releaseMs.set i (p.u16 30) } else s)

/-- LOOP_SET OP 1 (R33): pinned at the output the loop has. -/
def execLoopSetPinPresent (p : Packet) (s : State) : Host.Outcome State Fault Refusal :=
  loopSet 1 (fun _ => true)
    (fun l => { l with pin := some l.out, state := if l.state = .overridden then .overridden else .pinned }) p s id

/-- LOOP_SET OP 2 (R33): pinned at VALUE; the output is VALUE clamped into the bounds. -/
def execLoopSetPinValue (p : Packet) (s : State) : Host.Outcome State Fault Refusal :=
  loopSet 2 (fun _ => decide (p.u32 28 ≤ loopMax p.target (p.u8 16)))
    (fun l => { l with
      pin := some (p.u32 28)
      out := if l.state = .overridden then l.out else max (loopFloor p.target (p.u8 16)) (clampN l.low l.high (p.u32 28))
      state := if l.state = .overridden then .overridden else .pinned }) p s id

/-- LOOP_SET OP 3 (R162): the loop moves freely again. -/
def execLoopSetUnpin (p : Packet) (s : State) : Host.Outcome State Fault Refusal :=
  loopSet 3 (fun _ => true) (fun l => { l with pin := none, state := if l.state = .pinned then .free else l.state }) p s id

end Sys2Proof.Machine
end

