-- ==== Sys2Proof/Machine/Latch.lean ====
section
/-!
DEFINITION. A pipe's timing in figures (13 R373 to R378) and when its next latch line falls, as deadlines use it (10 R307).
-/

namespace Sys2Proof.Machine

open Sys2Proof

/-- HTOTAL and VTOTAL. -/
def Timing.htotal (t : Timing) : Nat := t.hact + t.hfp + t.hsync + t.hbp
def Timing.vtotal (t : Timing) : Nat := t.vact + t.vfp + t.vsync + t.vbp

/-- LATCH = VTOTAL - 64 x LEAD. -/
def Timing.latch (t : Timing) : Nat := t.vtotal - 64 * t.lead

/-- The length of `n` lines in ns. -/
def Timing.linesNs (t : Timing) (n : Nat) : Nat := if t.pclk = 0 then 0 else n * t.htotal * 1000000 / t.pclk

/-- The frame period in ns. -/
def Timing.periodNs (t : Timing) : Nat := t.linesNs t.vtotal

/-- The timing generator runs: in RUN and BLANK, and in the lead-in frame of STARTING (R377, R378). -/
def Pipe.generating (q : Pipe) : Bool :=
  decide (q.state = .run) || decide (q.state = .blank) || (decide (q.state = .starting) && q.leadIn)

/-- The moment of the first latch line of a pipe after now; none while no timing generator runs (R307, R308). -/
def State.nextLatch (s : State) (pipe : Nat) : Option Nat :=
  let q := s.pipe pipe
  let t := q.timing
  if !q.generating || decide (t.pclk = 0) || decide (t.vtotal = 0) || decide (t.htotal = 0) then none
  else
    let x := s.devTime - q.lastFrameStart
    let line := x * t.pclk / (t.htotal * 1000000)
    let j := if line < t.latch then 0 else (line - t.latch) / t.vtotal + 1
    some (q.lastFrameStart + t.linesNs (j * t.vtotal + t.latch))

end Sys2Proof.Machine
end

