-- ==== Sys2Proof/Machine/Tiles.lean ====
section
/-!
DEFINITION. The layout of surfaces in seal tiles (07 R207 to R209), their side-tables (R218) and the writers of tiles.
-/

namespace Sys2Proof.Machine

open Sys2Proof

/-- Bytes of a 64 x 64 tile of a format (R207). -/
def tileBytes : Nat → Nat
  | 0 => 8192
  | 1 => 12288
  | 2 => 16384
  | 3 => 16384
  | 4 => 16384
  | 5 => 6144
  | 6 => 12288
  | _ => 0

/-- NV12 and P010 (R207). -/
def isYuv (format : Nat) : Bool := decide (format = 5) || decide (format = 6)

/-- Bytes per pixel of a packed format (R207). -/
def bytesPerPixel : Nat → Nat
  | 0 => 2
  | 1 => 3
  | _ => 4

/-- Tile columns and rows (R208). -/
def tilesAcross (w : Nat) : Nat := (w + 63) / 64


def Surface.tw (f : Surface) : Nat := tilesAcross f.width
def Surface.th (f : Surface) : Nat := tilesAcross f.height
/-- ROW_BYTES (R208). -/
def Surface.rowBytes (f : Surface) : Nat := f.tw * tileBytes f.format
/-- The storage of a surface in bytes (R208). -/
def Surface.size (f : Surface) : Nat := f.th * f.rowBytes
/-- TABLE_BYTES: the side-table, 8 bytes a tile; 0 when UNSEALED (R210, R218). -/
def Surface.tableBytes (f : Surface) : Nat := if f.isSealed then 8 * f.tw * f.th else 0

/-- The offset of a packed pixel in the storage (R209). -/
def pixelOffset (format tw x y : Nat) : Nat :=
  (y / 64 * tw + x / 64) * tileBytes format + (y % 64 * 64 + x % 64) * bytesPerPixel format

/-- The offset of a luma sample (R209); `b` is 1 for NV12 and 2 for P010. -/
def lumaOffset (format tw x y : Nat) : Nat :=
  (y / 64 * tw + x / 64) * tileBytes format + (y % 64 * 64 + x % 64) * (format - 4)

/-- The offset of the CbCr pair of a pixel (R209). -/
def chromaOffset (format tw x y : Nat) : Nat :=
  (y / 64 * tw + x / 64) * tileBytes format + 4096 * (format - 4) + y % 64 / 2 * 64 * (format - 4) +
    x % 64 / 2 * 2 * (format - 4)

/-- The key of a surface: instance * 2^32 + ID (R206). -/
def surfKey (n id : Nat) : Nat := n * 2 ^ 32 + id

/-- A surface, destroyed ones in scan-out included. -/
def State.surfAny (s : State) (n id : Nat) : Option Surface := s.surf.table.get (surfKey n id)

/-- A surface that a packet may name: not destroyed (R210, R232). -/
def State.surface (s : State) (n id : Nat) : Option Surface :=
  match s.surfAny n id with
  | some f => if f.dead then none else some f
  | none => none

/-- Write one surface record. -/
def State.setSurface (s : State) (n id : Nat) (f : Option Surface) : State :=
  s.setSurf { s.surf with table := s.surf.table.set (surfKey n id) f }

/-- Change one surface record, if it exists. -/
def State.updSurface (s : State) (n id : Nat) (g : Surface → Surface) : State :=
  s.setSurface n id ((s.surfAny n id).map g)

/-- The surfaces of an instance with their IDs, destroyed ones in scan-out included. -/
def State.surfacesOf (s : State) (n : Nat) : List (Nat × Surface) :=
  s.surf.table.cells.filterMap (fun c =>
    if c.1 / 2 ^ 32 = n then c.2.map (fun f => (c.1 % 2 ^ 32, f)) else none)

/-- The seal entry of a tile: SEAL below, WGEN above (R218). -/
def sealEntry (sl wgen : W32) : Nat := sl.toNat + 2 ^ 32 * wgen.toNat
def entrySeal (e : Nat) : W32 := w32 e
def entryGen (e : Nat) : W32 := w32 (e / 2 ^ 32)

/-- Seal tiles as they stand in memory, under the current generation (R217, R219, R220). -/
def State.sealTiles (s : State) (n id : Nat) (tiles : List Nat) : State :=
  match s.surfAny n id with
  | none => s
  | some f =>
    let tb := tileBytes f.format
    let table := tiles.foldl (fun t i =>
      t.set i (sealEntry (tileSeal (w32 id) f.gen (s.readInst n (f.iaddr + i * tb) tb)) f.gen)) f.table
    s.setSurface n id (some { f with table := table })

/-- The tiles of tile rows [row, row + rows). -/
def Surface.rowTiles (f : Surface) (row rows : Nat) : List Nat := (List.range (rows * f.tw)).map (· + row * f.tw)

/-- A writer binds to the open window (R215). -/
def State.bindWriter (s : State) (n id : Nat) : State := s.updSurface n id (fun f => { f with writers := f.writers + 1 })

/-- A writer has finished, or was cancelled. -/
def State.unbindWriter (s : State) (n id : Nat) : State := s.updSurface n id (fun f => { f with writers := f.writers - 1 })

end Sys2Proof.Machine
end

