-- ==== Sys2Proof/Machine/Transport.lean ====
section
/-!
DEFINITION. Command transport (03): the rings and registers of BAR0, the acceptance of packets with the first checks of
R107, the writing of replies with their credits, and the return of a function's registers to their reset values.
-/

namespace Sys2Proof.Machine

open Sys2Proof

/-- Count in the telemetry of the instance that a function serves (R609 set 0). -/
def State.fnCount (s : State) (k idx : Nat) : State :=
  match s.instOf k with
  | some n => s.count 0 n idx
  | none => s

/-- The command names a port the member has; else R2. -/
def onPort (s : State) (port : Nat) (k : State) : Host.Outcome State Fault Refusal := onUnit s (hPort port) k

/-- BAR0 of the function is served: in STAGE 14 and 15 every memory access reads all ones and discards writes (R637). -/
def State.barServed (s : State) (port fn : Nat) : Bool := s.fnExists port fn && decide (s.boot.stage < 14)

/-- A ring size that R101 accepts. -/
def sizeOk (v : Nat) : Bool := decide (v = 0) || ((List.range 9).map (fun i => 4096 * 2 ^ i)).contains v

/-- Base, size and shadow registers take writes (R102): for a guest's function while its instance is BOUND or FROZEN
or none is bound, or while that submission ring is halted; for the manager's function while the ring is disabled, or
halted, or for a SIZE of 0. -/
def State.ringRegsOpen (s : State) (k : Nat) (halted disabled zeroSize : Bool) : Bool :=
  if k = s.managerFn then disabled || halted || zeroSize
  else halted || (match s.boundTo k with
    | none => true
    | some n => decide ((s.inst n).state = .bound) || decide ((s.inst n).state = .frozen))

/-- Change one submission ring. -/
def State.updSq (s : State) (k ring : Nat) (f : Sq → Sq) : State :=
  s.updFn k (fun r => { r with sq := r.sq.upd ring f })

/-- An ignored doorbell write is counted (R97, R59). -/
def State.badDoorbell (s : State) (k ring : Nat) : State :=
  (s.updSq k ring (fun q => { q with badDoor := satInc 16 q.badDoor })).fnCount k 25

/-- SQ_TAIL_DOORBELL (R97, R59, R116, R83). -/
def execSqTailDoorbell (port fn ring tail : Nat) (s : State) : Host.Outcome State Fault Refusal :=
  let k := fnKey port fn
  let go : State :=
    if !s.barServed port fn || decide (4 ≤ ring) then s
    else
      let f := s.fn k
      let q := f.sq.get ring
      let t := w32 tail
      let bad := decide (tail % 16 ≠ 0) || decide (q.size < (t - q.head).toNat) || decide (q.size < (t - q.tail).toNat)
      let write (s : State) : State := (s.updSq k ring (fun q => { q with tail := t })).edge (64 + 17 * port + fn)
      match s.boundTo k with
      | none => if bad then s.badDoorbell k ring else write s
      | some n =>
        let i := s.inst n
        let fenced := decide (i.cause = 2) && (decide (i.state = .quiesced) || decide (i.state = .resetting))
        if decide (i.drain = .fence) || fenced then s
        else if bad then s.badDoorbell k ring
        else if i.state = .bound then
          if f.busMaster && decide (f.rqSize ≠ 0) && decide (f.eqSize ≠ 0) && decide (q.size ≠ 0) then
            write (s.updInst n (fun i => { i with state := .active }))
          else s.badDoorbell k ring
        else write s
  onPort s port go

/-- SQ_RESUME (R109): a resume that finds the head beyond the tail is ignored and counted. -/
def execSqResume (port fn ring : Nat) (s : State) : Host.Outcome State Fault Refusal :=
  let k := fnKey port fn
  let q := (s.fn k).sq.get ring
  let go : State :=
    if !s.barServed port fn || decide (4 ≤ ring) || !q.halted then s
    else if q.size < (q.tail - q.head).toNat then s.fnCount k 27
    else s.updSq k ring (fun q => { q with halted := false, cause := 0 })
  onPort s port go

/-- RING_SIZE_WRITE (R101, R102, R143): rings 0 to 3 are the submission rings, 4 the reply ring, 5 the event ring. -/
def execRingSizeWrite (port fn ring value : Nat) (s : State) : Host.Outcome State Fault Refusal :=
  let k := fnKey port fn
  let f := s.fn k
  let v := value % 2 ^ 21
  let size := if ring < 4 then (f.sq.get ring).size else if ring = 4 then f.rqSize else f.eqSize
  let halted := decide (ring < 4) && (f.sq.get ring).halted
  let go : State :=
    if !s.barServed port fn || decide (5 < ring) then s
    else if !sizeOk v || !s.ringRegsOpen k halted (decide (size = 0)) (decide (v = 0)) then s.fnCount k 27
    else if ring < 4 then s.updSq k ring (fun q => { q with size := v, latched := q.base, head := 0, tail := 0 })
    else if ring = 4 then s.updFn k (fun f => { f with rqSize := v, rqLatched := f.rqBase, rqHead := 0, rqTail := 0 })
    else
      let s := s.updFn k (fun f => { f with eqSize := v, eqLatched := f.eqBase, eqHead := 0, eqTail := 0 })
      State.drainHolding 65 s k
  onPort s port go

/-- RING_HEAD_WRITE (R103): misaligned, or past the device's tail, it is ignored and counted; a new EQ_HEAD lets held
records go out (R142). -/
def execRingHeadWrite (port fn : Nat) (event : Bool) (value : Nat) (s : State) : Host.Outcome State Fault Refusal :=
  let k := fnKey port fn
  let f := s.fn k
  let v := w32 value
  let tail := if event then f.eqTail else f.rqTail
  let head := if event then f.eqHead else f.rqHead
  let go : State :=
    if !s.barServed port fn then s
    else if decide (value % (if event then 32 else 16) ≠ 0) || decide ((tail - head).toNat < (tail - v).toNat) then
      s.fnCount k 27
    else if event then State.drainHolding 65 (s.updFn k (fun f => { f with eqHead := v })) k
    else s.updFn k (fun f => { f with rqHead := v })
  onPort s port go

/-- DEV_TIME_LOW_READ (R45): the upper half goes to the function's shadow. -/
def execDevTimeLowRead (port fn : Nat) (s : State) : Host.Outcome State Fault Refusal :=
  let k := fnKey port fn
  onPort s port (if s.barServed port fn then
    (s.updFn k (fun f => { f with shadowHi := some (s.devTime / 2 ^ 32 % 2 ^ 32) })).setBus (leBytes 4 s.devTime)
    else if s.fnExists port fn then s.setBus (List.replicate 4 0xFF)
    else s)

/-- BAR0_BAD_ACCESS (R100): counted; a read returns all ones. -/
def execBar0BadAccess (port fn : Nat) (write : Bool) (s : State) : Host.Outcome State Fault Refusal :=
  let s' := s.fnCount (fnKey port fn) 26
  onPort s port (if !s.fnExists port fn then s
    else if !s.barServed port fn then (if write then s else s.setBus (List.replicate 8 0xFF))
    else if write then s' else s'.setBus (List.replicate 8 0xFF))

/-- A write of part of an MSI-X table entry: address low, high, data, control (R100, PCIe). -/
def Msix.write (e : Msix) (part v : Nat) : Msix :=
  match part with
  | 0 => { e with addr := e.addr / 2 ^ 32 * 2 ^ 32 + v % 2 ^ 32 }
  | 1 => { e with addr := e.addr % 2 ^ 32 + v % 2 ^ 32 * 2 ^ 32 }
  | 2 => { e with data := v % 2 ^ 32 }
  | _ => { e with masked := bitOf v 0 }

/-- REGISTER_WRITE (R100, R102): the registers of BAR0 that have no row of their own. Read-only and reserved places
ignore writes. -/
def execRegisterWrite (port fn offset value : Nat) (s : State) : Host.Outcome State Fault Refusal :=
  let k := fnKey port fn
  let f := s.fn k
  let isSq := decide (0x100 ≤ offset) && decide (offset < 0x180)
  let ring := (offset - 0x100) / 0x20
  let q := f.sq.get ring
  let addr12 := bitsOf value 12 52 * 4096
  let addr3 := bitsOf value 3 61 * 8
  let taken (ok : Bool) (t : State) : State := if ok then t else s.fnCount k 27
  let go : State :=
    if !s.barServed port fn then s
    else if isSq && decide (offset % 0x20 = 0) then
      taken (s.ringRegsOpen k q.halted (decide (q.size = 0)) false) (s.updSq k ring (fun q => { q with base := addr12 }))
    else if isSq && decide (offset % 0x20 = 0x10) then
      taken (q.halted && decide (value % 16 = 0)) (s.updSq k ring (fun q => { q with head := w32 value }))
    else if offset = 0x180 then
      taken (s.ringRegsOpen k false (decide (f.rqSize = 0)) false) (s.updFn k (fun f => { f with rqBase := addr12 }))
    else if offset = 0x18C then
      s.updFn k (fun f => { f with rqVector := bitsOf value 0 5, rqNotify := bitOf value 8 })
    else if offset = 0x198 then
      taken (s.ringRegsOpen k false (decide (f.rqSize = 0)) false) (s.updFn k (fun f => { f with rqShadow := addr3 }))
    else if offset = 0x1A0 then
      taken (s.ringRegsOpen k false (decide (f.eqSize = 0)) false) (s.updFn k (fun f => { f with eqBase := addr12 }))
    else if offset = 0x1B8 then
      taken (s.ringRegsOpen k false (decide (f.eqSize = 0)) false) (s.updFn k (fun f => { f with eqShadow := addr3 }))
    else if 0x500 ≤ offset ∧ offset < 0xD00 ∧ offset % 8 = 0 then
      s.updFn k (fun f => { f with evtVec := f.evtVec.set ((offset - 0x500) / 8) (bitsOf value 0 5) })
    else if 0x1000 ≤ offset ∧ offset < 0x1200 ∧ offset % 4 = 0 then
      let tab := f.msix.upd ((offset - 0x1000) / 16) (fun e => e.write (offset / 4 % 4) value)
      (s.updFn k (fun f => { f with msix := tab })).flushPba k
    else s
  onPort s port go

/-! ### Acceptance (R96, R107, R109, R113, R117) -/

/-- The opcodes of R155. -/
def definedOpcodes : List Nat :=
  [0x0001, 0x0002, 0x0003, 0x0004, 0x0005, 0x0010, 0x0011, 0x0020, 0x0021, 0x0022, 0x0023, 0x0024, 0x0025, 0x0026,
   0x0027, 0x0028, 0x0029] ++
  [0x1001, 0x1002, 0x1010, 0x1020, 0x2001, 0x2002, 0x2003, 0x2004, 0x2005, 0x2006, 0x3001, 0x3002, 0x3003, 0x3004,
   0x3010, 0x3011] ++
  [0x4001, 0x4002, 0x4003, 0x4004, 0x4005, 0x4010, 0x4011, 0x4012, 0x5001, 0x5002, 0x5003, 0x5004, 0x5010, 0x5011,
   0x5012, 0x5013, 0x5014, 0x5015] ++
  [0x6001, 0x6002, 0x6003, 0x6004, 0x6005, 0x7001, 0x7002, 0x7003, 0x7004, 0x7005, 0x8001, 0x8002, 0x8003, 0x8004,
   0x8010, 0x8011, 0x8012, 0x8013, 0x8014] ++
  [0x9001, 0x9002, 0x9003, 0xA001, 0xA002, 0xA003, 0xA004, 0xB001, 0xB002, 0xB003, 0xB004] ++
  [0xC001, 0xC002, 0xC003, 0xC004, 0xC005, 0xC006, 0xC007, 0xC008, 0xC009, 0xC00A, 0xC00B]

/-- The packet header as read from its 16 bytes (R105). -/
structure Header where
  opcode : Nat
  flags : Nat
  hdrver : Nat
  prio : Nat
  seq : Nat
  length : Nat
  target : Nat
  basegen : Nat
deriving DecidableEq, Repr

/-- Read a header: little-endian fields at the offsets of R105. -/
def parseHeader (bs : List Byte) : Header :=
  let at_ (o n : Nat) : Nat := leNat ((bs.drop o).take n)
  { opcode := at_ 0 2, flags := at_ 2 1, hdrver := at_ 3 1 % 16, prio := at_ 3 1 / 16, seq := at_ 4 4,
    length := at_ 8 2, target := at_ 10 2, basegen := at_ 12 4 }

/-- The bytes of a header, laid out as in R105. -/
def headerBytes (h : Header) : List Byte :=
  leBytes 2 h.opcode ++ leBytes 1 h.flags ++ leBytes 1 (h.hdrver % 16 + 16 * h.prio) ++ leBytes 4 h.seq ++
    leBytes 2 h.length ++ leBytes 2 h.target ++ leBytes 4 h.basegen

/-- A whole packet: header, payload, CRC-32C trailer over both (03 Packets, R125). -/
def packetBytes (h : Header) (payload : List W32) : List Byte :=
  let b := headerBytes h ++ wordBytes payload
  b ++ leBytes 4 (crc32c b).toNat

/-- The packet that header and payload make, from a sender. -/
def toPacket (n : Nat) (src : Source) (h : Header) (bs : List Byte) : Packet :=
  { inst := n, src := src, seq := w32 h.seq, barrier := bitOf h.flags 0, barrierAll := bitOf h.flags 1,
    interim := bitOf h.flags 2, notify := bitOf h.flags 3, target := h.target, basegen := w32 h.basegen,
    words := bytesWords ((bs.drop 16).take h.length) }

/-- Step 1 of R107. -/
def Header.frameOk (h : Header) : Bool :=
  decide (h.hdrver = 1) && decide (h.length ≤ 4076) && decide (h.length % 4 = 0)

/-- Step 2 of R107: the trailer is the CRC-32C of the bytes before it. -/
def trailerOk (h : Header) (bs : List Byte) : Bool :=
  decide (leNat ((bs.drop (16 + h.length)).take 4) = (crc32c (bs.take (16 + h.length))).toNat)

/-- The checks that follow steps 1 and 2, made as the packet is accepted: R664, then steps 3 to 5 of R107. `checkPrio`
is false on the management port, where step 3 ignores PRIO (R127). -/
def State.acceptCheck (s : State) (n ring : Nat) (checkPrio : Bool) (h : Header) : Option Status :=
  if decide (s.boot.stage ≠ 6) && decide (h.opcode ≠ 1) && decide (h.opcode ≠ 2) then some .notReady
  else if (checkPrio && decide (h.prio ≠ ring)) || decide (h.flags / 16 ≠ 0) then some .badParam
  else if decide (ring = 0) && decide (n ≠ 0) && !s.isSafety n then some .denied
  else if !definedOpcodes.contains h.opcode then some .badOpcode
  else none

/-- The accepted packet takes a credit (R117); one that a check refused is answered at once. -/
def State.takePacket (s : State) (p : Packet) (opcode : Nat) (st : Option Status) : State :=
  let s := s.setTp { s.tp with accepted := s.tp.accepted ++ [{ p := p, opcode := opcode, applied := st.isSome, newgen := none }] }
  match st with
  | none => s
  | some st => s.answer opcode p st []

/-- A reply to a packet that failed step 1 or 2: NEWGEN 0 and no RESULT (R109). -/
def State.answerBroken (s : State) (opcode : Nat) (p : Packet) (st : Status) : State :=
  let r : Reply :=
    { inst := p.inst, src := p.src, opcode := opcode, status := st, seq := p.seq, newgen := 0, result := [],
      notify := p.notify, stalled := false }
  let a : Accepted := { p := p, opcode := opcode, applied := true, newgen := none }
  let s := s.setTp { s.tp with accepted := s.tp.accepted ++ [a], replies := s.tp.replies ++ [r] }
  s.count 0 p.inst (4 + st.index)

/-- PACKET_ACCEPT: the next packet of a ring, as its bytes were read from host memory. It is taken only while the
instance is ACTIVE and below its credit limit, the device accepts packets, the ring runs, and the bytes lie before the tail (R96, R116, R117). -/
def execPacketAccept (port fn ring : Nat) (bytes : List Byte) (s : State) : Host.Outcome State Fault Refusal :=
  let k := fnKey port fn
  let f := s.fn k
  let q := f.sq.get ring
  let avail := (q.tail - q.head).toNat
  let h := parseHeader bytes
  let whole := 20 + h.length
  let rounded := (whole + 15) / 16 * 16
  let go : State :=
    match s.instOf k with
    | none => s
    | some n =>
      let i := s.inst n
      if !s.fnExists port fn || decide (4 ≤ ring) || decide (i.state ≠ .active) || q.halted || decide (q.size = 0) ||
          !f.busMaster || !s.accepting || decide (i.credits ≤ s.creditsHeld n) || decide (avail < 16) || decide (bytes.length < 16) then s
      else
        let p := toPacket n (.sq port fn ring) h bytes
        if !h.frameOk then
          (s.answerBroken h.opcode p .badParam).updSq k ring (fun q => { q with halted := true, cause := 2 })
        else if decide (avail < rounded) || decide (bytes.length < whole) then s
        else if !trailerOk h bytes then
          (s.answerBroken h.opcode p .badCrc).updSq k ring (fun q => { q with halted := true, cause := 1 })
        else
          let s1 := (s.updSq k ring (fun q => { q with head := q.head + w32 rounded, lastSeq := w32 h.seq })).count 0 n ring
          s1.takePacket p h.opcode (s.acceptCheck n ring true h)
  onPort s port go

/-! ### Replies (R98, R99, R110, R112) -/

/-- The bytes of a reply (R110, R125). -/
def Reply.bytes (r : Reply) : List Byte :=
  let b := leBytes 2 r.opcode ++ leBytes 2 r.status.code ++ leBytes 4 r.seq.toNat ++ leBytes 2 (4 * r.result.length) ++
    leBytes 2 r.src.ring ++ leBytes 4 r.newgen.toNat ++ wordBytes r.result
  b ++ leBytes 4 (crc32c b).toNat

/-- Zero padding to a multiple of 16 bytes (R95). -/
def pad16 (bs : List Byte) : List Byte := bs ++ List.replicate ((16 - bs.length % 16) % 16) 0

/-- The reply belongs to an accepted packet. -/
def replyOf (r : Reply) (a : Accepted) : Bool :=
  decide (a.p.src = r.src) && decide (a.p.seq = r.seq) && decide (a.opcode = r.opcode)

/-- A reply may go out: no earlier-accepted packet of its ring and TARGET still lacks its own (R112). An interim reply
goes out at once (R111). -/
def State.replyReady (s : State) (r : Reply) : Bool :=
  if r.status = .pending then true
  else
    let before := s.tp.accepted.takeWhile (fun a => !replyOf r a)
    match s.tp.accepted.find? (replyOf r) with
    | none => true
    | some a => !before.any (fun b => decide (b.p.src = a.p.src) && decide (b.p.target = a.p.target))

/-- Only ring space keeps a reply back: every earlier packet of its ring and TARGET has its own reply in the queue (R98,
R112). -/
def State.replyQueued (s : State) (r : Reply) : Bool :=
  if r.status = .pending then true
  else match s.tp.accepted.find? (replyOf r) with
    | none => true
    | some a => !(s.tp.accepted.takeWhile (fun a => !replyOf r a)).any (fun b => decide (b.p.src = a.p.src) &&
        decide (b.p.target = a.p.target) && !s.tp.replies.any (fun x => decide (x.status ≠ .pending) && replyOf x b))

/-- A written reply leaves the queue; a final one returns its credit (R117). -/
def State.dropReply (s : State) (r : Reply) : State :=
  let acc := if r.status = .pending then s.tp.accepted
    else match s.tp.accepted.find? (replyOf r) with
      | some a => s.tp.accepted.erase a
      | none => s.tp.accepted
  s.setTp { s.tp with replies := s.tp.replies.erase r, accepted := acc }

/-- The reply was sent over the management port. -/
def Reply.isMgmt (r : Reply) : Bool := match r.src with
  | .mgmt _ => true
  | .sq _ _ _ => false

/-- The oldest reply that may go out to a function's ring. It needs ring space, else it waits, as do those behind it, each
counted once (R98); then bytes, tail, shadow and vector (R99). -/
def State.writeReply (s : State) (port fn : Nat) : State :=
  let k := fnKey port fn
  let f := s.fn k
  match s.instOf k with
  | none => s
  | some n =>
    if decide ((s.inst n).state = .frozen) || !f.busMaster then s
    else match s.tp.replies.find? (fun r => !r.isMgmt && decide (r.inst = n) && s.replyReady r) with
    | none => s
    | some r =>
      let bs := pad16 r.bytes
      if decide (f.rqSize = 0) || decide (f.rqSize < ringUsed f.rqTail f.rqHead + bs.length) then
        match s.tp.replies.find? (fun r => !r.isMgmt && decide (r.inst = n) && s.replyQueued r && !r.stalled) with
        | none => s
        | some w =>
          (s.setTp { s.tp with replies := s.tp.replies.map (fun x => if x = w then { w with stalled := true } else x) }).updFn
            k (fun f => { f with rqStalls := satInc 32 f.rqStalls })
      else
        let t := f.rqTail + w32 bs.length
        let s := s.writeRing port f.rqLatched f.rqSize f.rqTail.toNat bs
        let s := (s.dropReply r).updFn k (fun f => { f with rqTail := t })
        let s := if f.rqShadow ≠ 0 then s.writeHost port f.rqShadow (leBytes 4 t.toNat) else s
        if f.rqNotify || r.notify then s.signal k f.rqVector else s

/-- A vendor-defined message body of the management port: type, Vendor ID big-endian, KIND, content (R641). -/
def mgmtBody (kind : Nat) (content : List Byte) : List Byte :=
  [0x7E, BitVec.ofNat 8 (Config.vendorId / 256), BitVec.ofNat 8 Config.vendorId, BitVec.ofNat 8 kind] ++ content

/-- REPLY_WRITE: on a function as above; on the management port the reply goes to the requester (R128). -/
def execReplyWrite (path : Path) (s : State) : Host.Outcome State Fault Refusal :=
  match path with
  | .mgmt =>
    match s.tp.replies.find? (fun r => r.isMgmt && s.replyReady r) with
    | none => .next s
    | some r => .next ((s.dropReply r).setTp { (s.dropReply r).tp with mgmtOut := s.tp.mgmtOut ++ [mgmtBody 1 r.bytes] })
  | .fn port fn => onPort s port (s.writeReply port fn)

/-! ### Registers returned to their reset values (R104, R147) -/

/-- R104: the ring and event registers of a function at their reset values; the MSI-X table, the PBA and the PCIe bits
stay. A guest's holding queue and latches are emptied; the manager's records are kept and the latched ones join them
in the order of their TIME (R147). -/
def State.resetFnRegs (s : State) (k : Nat) : State :=
  let f := s.fn k
  let latched := sortBy (fun a b => decide (a.record.time ≤ b.record.time)) (f.latches.cells.filterMap (fun c => c.2))
  let joined := latched.flatMap (fun l =>
    (if 1 < l.merged then [eventsLost l.record.inst s.devTime (l.merged - 1) l.record.code 1] else []) ++ [l.record])
  let keep := decide (k = s.managerFn)
  let s := s.updFn k (fun f => { Fn.reset with
    msix := f.msix, pba := f.pba, fnMask := f.fnMask, msixEnable := f.msixEnable, busMaster := f.busMaster,
    memorySpace := f.memorySpace, cplTimeout := f.cplTimeout, shadowHi := f.shadowHi,
    holding := if keep then f.holding else [], lost := if keep then f.lost else 0,
    lostCode := if keep then f.lostCode else 0 })
  if keep then joined.foldl (fun t r => t.hold k r) s else s

end Sys2Proof.Machine
end

