-- ==== Sys2Proof/Machine/Memory.lean ====
section
/-!
DEFINITION. DRAM, system cache, scratchpad and copy engines (06), and host accesses through BAR2 and BAR4 (02 R79, R80).
-/

namespace Sys2Proof.Machine

open Sys2Proof

/-! ### Grant space (02 R77, R78; 06 R191) -/

/-- 64 KiB frames of a list of pages, by DRAM address. -/
def pageFrames (ps : List Page) : List Nat :=
  ps.flatMap (fun p => if p.big then (List.range 32).map (fun j => p.phys + j * 65536) else [p.phys])

/-- Frames that mapped pages and pages not yet given back take. -/
def Inst.frames (i : Inst) : List Nat := pageFrames i.pages ++ i.dead.flatMap (fun d => pageFrames d.pages)

/-- Bytes of the structures of R78: side-tables, context save areas, the shader cache and compiled code, and the Hopper
allotment. The page tables are charged nothing: DESIGN CHOICE (log 17). -/
def State.structBytes (s : State) (n : Nat) : Nat :=
  ((s.surfacesOf n).map (fun f => f.2.tableBytes)).sum +
    262144 * ((List.range 4).filter (fun q => (s.gpu.queues.get (n * 4 + q)).saveArea)).length +
    ((s.gpu.cache.get n).map (·.size)).sum + 65536 * (s.inst n).hopper

/-- Frames of the grant that neither pages nor structures take. -/
def State.freeFrames (s : State) (n : Nat) : Nat :=
  32 * (s.inst n).blocks.length - (s.inst n).frames.length - (s.structBytes n + 65535) / 65536

/-- The grant can hold a further structure of so many bytes (R211, R263). -/
def State.structFits (s : State) (n bytes : Nat) : Bool :=
  decide ((s.structBytes n + bytes + 65535) / 65536 + (s.inst n).frames.length ≤ 32 * (s.inst n).blocks.length)

/-- Free 64 KiB frames of the grant, partly used blocks first (R191). -/
def Inst.freeSmall (i : Inst) : List Nat :=
  let used := i.frames
  let ofBlock (b : Nat) : List Nat := ((List.range 32).map (fun j => b * 2097152 + j * 65536)).filter (fun f => !used.contains f)
  let partly := i.blocks.filter (fun b => decide ((ofBlock b).length < 32) && decide ((ofBlock b).length ≠ 0))
  let whole := i.blocks.filter (fun b => decide ((ofBlock b).length = 32))
  (partly ++ whole).flatMap ofBlock

/-- Wholly free grant blocks. -/
def Inst.freeBig (i : Inst) : List Nat :=
  let used := i.frames
  (i.blocks.filter (fun b => !used.any (fun f => decide (f / 2097152 = b)))).map (· * 2097152)

/-- The size of a page. -/
def pageSize (big : Bool) : Nat := if big then 2097152 else 65536

/-- Whole free blocks left for 2 MiB pages once the structures of R78 have their room. -/
def State.bigRoom (s : State) (n : Nat) : Nat := min (s.inst n).freeBig.length (s.freeFrames n / 32)

def opMemMap : Op := { code := 0x1001, mark := .g }
def opMemUnmap : Op := { code := 0x1002, mark := .g }
def opCopy : Op := { code := 0x1010, mark := .g }
def opMemConfig : Op := { code := 0x1020, mark := .m }

/-- The range fields of MEM_MAP and MEM_UNMAP (R190). -/
def rangeOk (p : Packet) : Bool :=
  decide (p.length = 16) && decide (p.fld 28 2 30 = 0) && decide (p.u64 16 < 2 ^ 40) && decide (1 ≤ p.u32 24) &&
    decide (p.u64 16 % pageSize (p.flag 28 0) = 0) && decide (p.u64 16 + p.u32 24 * pageSize (p.flag 28 0) ≤ 2 ^ 40)

/-- Page numbers, in 64 KiB, that a page covers overlap a range of them. -/
def overlaps (q : Page) (va n : Nat) : Bool := decide (q.va < va + n) && decide (va < q.va + (if q.big then 32 else 1))

/-- MEM_MAP (R190, R191). -/
def execMemMap (p : Packet) (s : State) : Host.Outcome State Fault Refusal :=
  packet opMemMap (ownHandle p) p s fun s =>
    let n := p.inst
    let big := p.flag 28 0
    let count := p.u32 24
    let step := if big then 32 else 1
    let va := p.u64 16 / 65536
    let i := s.inst n
    let frames := if big then i.freeBig.take count else i.freeSmall.take count
    let fresh : List Page := (frames.zip (List.range count)).map (fun fc =>
      { va := va + fc.2 * step, big := big, hostRo := p.flag 28 1, phys := fc.1 })
    checks [(rangeOk p, .badParam),
      (if big then decide (count ≤ s.bigRoom n) else decide (count ≤ s.freeFrames n) && decide (count ≤ i.freeSmall.length), .quota),
      (!i.pages.any (fun q => overlaps q va (count * step)), .busy)]
      (.done (s.updInst n (fun i => { i with pages := i.pages ++ fresh })) .ok [])

/-- Packets of the instance's copy and render work not finished yet. -/
def State.workOf (s : State) (n : Nat) : List Packet :=
  (s.copy.filter (fun j => decide (j.inst = n))).map (·.owed.p) ++
    (List.range 4).flatMap (fun q => (s.gpu.queues.get (n * 4 + q)).submits.map (·.owed.p))

/-- Some page of a dead range belongs to a surface in scan-out (R192, R231). -/
def State.deadPinned (s : State) (n : Nat) (d : DeadPages) : Bool :=
  (s.surfacesOf n).any (fun f => s.inScanout n f.1 &&
    decide (f.2.iaddr < d.iaddr + d.count * pageSize d.big) && decide (d.iaddr < f.2.iaddr + f.2.size))

/-- Zero-fill the frames of pages (R65, R192). -/
def zeroPages (m : Mem) (ps : List Page) : Mem := ps.foldl (fun m q => m.zero q.phys (pageSize q.big)) m

/-- One dead range of an instance looked at again: while earlier work may use it, it waits; then, in scan-out, the
packet is answered ST_PINNED and the pages wait; else they are zero-filled and given back, with the reply or with
PAGES_RELEASED (R192). -/
def State.settleDead (s : State) (n : Nat) (d : DeadPages) : State × Option DeadPages :=
  let work := s.workOf n
  if d.jobs.any (fun j => work.contains j) then (s, some d)
  else if s.deadPinned n d then
    match d.waiting with
    | some o => (s.finish o .pinned [], some { d with waiting := none, notifyRelease := true })
    | none => (s, some d)
  else
    let s := s.setDram (zeroPages s.dram d.pages)
    let s := s.finishOpt d.waiting .ok []
    let s := if d.notifyRelease then
        s.raise n 0x11 (hInst n) (detail [(d.iaddr, 64), (d.count, 32), (b2n d.big, 32)])
      else s
    (s, none)

/-- All dead ranges of an instance looked at again. -/
def State.settleAllDead (s : State) (n : Nat) : State :=
  let r := (s.inst n).dead.foldl (fun (acc : State × List DeadPages) d =>
    let x := acc.1.settleDead n d
    (x.1, acc.2 ++ x.2.toList)) (s, [])
  r.1.updInst n (fun i => { i with dead := r.2 })

/-- The map as accepted work sees it: the pages that a MEM_UNMAP took while it was under way, then those of the map (R192). -/
def State.jobPages (s : State) (n : Nat) (p : Packet) : List Page :=
  ((s.inst n).dead.filter (fun d => d.jobs.contains p)).flatMap (·.pages) ++ (s.inst n).pages

/-- The instance's map becomes another. -/
def State.setPages (s : State) (n : Nat) (ps : List Page) : State := s.updInst n (fun i => { i with pages := ps })

/-- The work of a packet, run over the map as it sees it (R192). -/
def State.asJob (s : State) (n : Nat) (p : Packet) (k : State → State) : State :=
  (k (s.setPages n (s.jobPages n p))).setPages n (s.inst n).pages

/-- MEM_UNMAP (R192, R212). -/
def execMemUnmap (p : Packet) (s : State) : Host.Outcome State Fault Refusal :=
  packet opMemUnmap (ownHandle p) p s fun s =>
    let n := p.inst
    let big := p.flag 28 0
    let count := p.u32 24
    let step := if big then 32 else 1
    let va := p.u64 16 / 65536
    let i := s.inst n
    let gone := i.pages.filter (fun q => overlaps q va (count * step))
    let whole := (List.range count).all (fun j => gone.any (fun q => decide (q.va = va + j * step) && q.big == big))
    let used := (s.surfacesOf n).any (fun f => !f.2.dead &&
      decide (f.2.iaddr < p.u64 16 + count * pageSize big) && decide (p.u64 16 < f.2.iaddr + f.2.size))
    checks [(rangeOk p && !p.flag 28 1, .badParam), (whole, .badParam), (!used, .busy)]
      (let d : DeadPages :=
        { iaddr := p.u64 16, count := count, big := big, pages := gone,
          waiting := some { opcode := opMemUnmap.code, p := p }, jobs := s.workOf n, notifyRelease := false }
       let s1 := s.updInst n (fun i =>
         { i with pages := i.pages.filter (fun q => !overlaps q va (count * step)), dead := i.dead ++ [d] })
       .owe (s1.settleAllDead n))

/-! ### COPY (R193 to R199) -/

/-- One descriptor read from a COPY packet, 32 bytes at `off`. -/
def copyDesc (p : Packet) (off : Nat) : CopyDesc :=
  { kind := p.fld off 0 4, cls := p.fld off 4 2, toHost := p.flag off 6, srcSpad := p.flag off 7, dstSpad := p.fld off 8 1 == 1,
    inst := p.fld off 16 8, length := p.u32 (off + 4), src := p.u64 (off + 8), dst := p.u64 (off + 16),
    surface := p.u32 (off + 24), tileRow := p.u16 (off + 28), tileRows := p.u16 (off + 30) }

/-- COUNT of a COPY packet. -/
def copyCount (p : Packet) : Nat := p.u16 16

/-- The descriptors of a COPY packet. -/
def copyDescs (p : Packet) : List CopyDesc := (List.range (copyCount p)).map (fun i => copyDesc p (20 + 32 * i))

/-- The descriptor reads host memory. -/
def CopyDesc.readsHost (d : CopyDesc) : Bool :=
  decide (d.kind = 0) || decide (d.kind = 4) || (decide (d.kind = 5) && !d.toHost)

/-- The descriptor writes host memory. -/
def CopyDesc.writesHost (d : CopyDesc) : Bool := decide (d.kind = 1) || (decide (d.kind = 5) && d.toHost)

/-- The descriptor names host memory. -/
def CopyDesc.usesHost (d : CopyDesc) : Bool := d.readsHost || d.writesHost

/-- SRC lies on the instance side, and DST does. -/
def CopyDesc.srcInst (d : CopyDesc) : Bool := decide (d.kind = 1) || decide (d.kind = 2) || (decide (d.kind = 5) && d.toHost)
def CopyDesc.dstInst (d : CopyDesc) : Bool :=
  decide (d.kind = 0) || decide (d.kind = 2) || decide (d.kind = 3) || (decide (d.kind = 5) && !d.toHost)

/-- The instance whose memory a descriptor of a sender reads or writes. -/
def CopyDesc.side (d : CopyDesc) (n : Nat) : Nat := if d.kind = 5 then d.inst else n

/-- An instance-side range is mapped, or lies within the scratchpad grant (R199). -/
def State.sideOk (s : State) (n : Nat) (spad : Bool) (a len : Nat) : Bool :=
  if spad then decide (a + len ≤ 4096 * (s.inst n).spadBlocks.length)
  else decide (a + len ≤ 2 ^ 40) && mappedRange (s.inst n).pages a len

/-- Step 10 for one descriptor (R193 to R195, R199, R222); the units it names come first. -/
def State.descOk (s : State) (n : Nat) (d : CopyDesc) : Bool :=
  let surfOk : Bool := match s.surface n d.surface with
    | some f => f.isSealed && decide (1 ≤ d.tileRows) && decide (d.tileRow + d.tileRows ≤ f.th) &&
        decide (d.length = d.tileRows * f.rowBytes)
    | none => false
  decide (d.kind ≤ 5) && (decide (d.cls = 2) || decide (d.cls = 3)) && (decide (d.kind = 5) || !d.toHost) &&
    (d.srcInst || !d.srcSpad) && (d.dstInst || !d.dstSpad) && (decide (d.kind = 5) == decide (d.inst ≠ 0)) &&
    decide (d.inst ≤ 16) &&
    decide (d.length % 4 = 0) && decide (4 ≤ d.length) && decide (d.length ≤ 2 ^ 28) &&
    (if d.kind = 4 then surfOk else decide (d.surface = 0)) &&
    (!d.srcInst || s.sideOk (d.side n) d.srcSpad d.src d.length) &&
    (!d.dstInst || s.sideOk (d.side n) d.dstSpad d.dst d.length) && (!d.usesHost || s.busMaster n)

/-- Reserved bits of a COPY packet's descriptors. -/
def copyReserved (p : Packet) : Bool :=
  (List.range (copyCount p)).all (fun i => decide (p.fld (20 + 32 * i) 9 7 = 0) && decide (p.fld (20 + 32 * i) 24 8 = 0))

/-- COPY (R193 to R196). A guest names its own handle; the manager its own too, and KIND 5 with another handle is
answered ST_BAD_PARAM (R194). -/
def execCopy (p : Packet) (s : State) : Host.Outcome State Fault Refusal :=
  let ds := copyDescs p
  let kind5 := ds.any (fun d => decide (d.kind = 5))
  packet opCopy (ownHandle p || (decide (p.inst = 0) && kind5)) p s fun s =>
    let n := p.inst
    let open4 := ds.all (fun d => decide (d.kind ≠ 4) || (match s.surface n d.surface with
      | some f => f.isOpen && f.closing.isNone
      | none => false))
    checks [(decide (1 ≤ copyCount p) && decide (copyCount p ≤ 127) && decide (p.u16 18 = 0) &&
        decide (p.length = 4 + 32 * copyCount p) && copyReserved p, .badParam),
      (!(kind5 && decide (n ≠ 0)), .denied),
      (ownHandle p, .badParam),
      (ds.all (fun d => decide (d.kind ≠ 5) || decide (16 < d.inst) || s.present (hInst d.inst)), .noUnit),
      (ds.all (s.descOk n), .badParam),
      (decide (copyCount p ≤ (s.inst n).descs), .quota),
      (ds.all (fun d => decide (d.kind ≠ 5) || decide ((s.inst d.inst).state = .quiesced) ||
        decide ((s.inst d.inst).state = .frozen)), .busy),
      (open4, .busy)]
      (let job : CopyJob :=
        { owed := { opcode := opCopy.code, p := p }, inst := n, descs := ds, total := copyCount p,
          isSeal := false, convert := false, surface := 0, engine := none }
       let s := s.setCopy (s.copy ++ [job])
       .owe (ds.foldl (fun t d => if d.kind = 4 then t.bindWriter n d.surface else t) s))

/-- A job that an engine holds and may run: not one of a frozen instance, which is in its saved context (R66). -/
def State.onEngine (s : State) (e : Nat) (j : CopyJob) : Bool :=
  decide (j.engine = some e) && decide ((s.inst j.inst).state ≠ .frozen)

/-- Descriptors queued on an engine. -/
def State.engineLoad (s : State) (e : Nat) : Nat :=
  ((s.copy.filter (s.onEngine e)).map (fun j => j.descs.length)).sum

/-- An engine that still holds a wedged instance's work is chosen for no packet (R595). -/
def State.engineOpen (s : State) (e : Nat) : Bool :=
  !s.copy.any (fun j => decide (j.engine = some e) && decide ((s.inst j.inst).state = .wedged))

/-- The engine with the fewest queued descriptors, the lowest on a tie (R197). -/
def State.chooseEngine (s : State) : Option Nat :=
  let es := (List.range 8).filter s.engineOpen
  es.find? (fun e => es.all (fun e' => decide (s.engineLoad e ≤ s.engineLoad e')))

/-- Change the first copy job that a test picks. -/
def updFirst (t : CopyJob → Bool) (f : CopyJob → CopyJob) : List CopyJob → List CopyJob
  | [] => []
  | j :: js => if t j then f j :: js else j :: updFirst t f js

/-- COPY_PACKET_START (R196, R197): the packet starts once its tokens are free. -/
def execCopyPacketStart (n seq : Nat) (s : State) : Host.Outcome State Fault Refusal :=
  let pick (j : CopyJob) : Bool := decide (j.inst = n) && decide (j.owed.p.seq = w32 seq) && j.engine.isNone
  match s.copy.find? pick, s.chooseEngine with
  | some j, some e =>
    if decide (s.descsHeld n + j.descs.length ≤ (s.inst n).descs) && decide ((s.inst n).state ≠ .frozen) then
      .next (s.setCopy (updFirst pick (fun j => { j with engine := some e }) s.copy))
    else .next s
  | _, _ => .next s

/-- ADDR_FAULT (R79): its DETAIL, and the count. -/
def State.addrFault (s : State) (n unit a source : Nat) (write atomic : Bool) (bytes seq : Nat) : State :=
  (s.raise n 0x10 unit (detail [(a, 64), (source, 8), (b2n write, 1), (b2n atomic, 1), (0, 6), (min bytes 65535, 16),
    (seq, 32)])).count 0 n 29

/-- A copy engine's read of an instance side: DRAM or scratchpad; what is not there reads 0. -/
def State.readSide (s : State) (n : Nat) (spad : Bool) (a len : Nat) : List Byte :=
  if spad then readSpad s.spad (s.inst n).spadBlocks a len else s.readInst n a len

/-- A copy engine's write of an instance side; what is not there is discarded. -/
def State.writeSide (s : State) (n : Nat) (spad : Bool) (a : Nat) (bs : List Byte) : State :=
  if spad then s.writeSpad n a bs else s.writeInst n a bs

/-- An access that meets an unmapped page or leaves the grant is reported and the descriptor goes on (R79). -/
def State.sideFault (s : State) (n e : Nat) (write spad : Bool) (a len seq : Nat) : State :=
  if s.sideOk n spad a len then s else s.addrFault n (hCopy e) a 8 write false len seq

/-- Exactly `n` bytes of what the host completed. -/
def takePad (n : Nat) (bs : List Byte) : List Byte := bs.take n ++ List.replicate (n - bs.length) 0

/-- `n` bytes of a 32-bit fill pattern (R193 KIND 3). -/
def fillBytes (pattern n : Nat) : List Byte := (List.range n).map (fun i => BitVec.ofNat 8 (pattern / 256 ^ (i % 4)))

/-- What one descriptor of instance `n` does on engine `e` (R193 to R195, R198). -/
def State.runDesc (s : State) (n e seq : Nat) (d : CopyDesc) (hostData : List Byte) : State :=
  let m := d.side n
  let hb := takePad d.length hostData
  match d.kind with
  | 0 => (s.sideFault m e true d.dstSpad d.dst d.length seq).writeSide m d.dstSpad d.dst hb
  | 1 =>
    let s := s.sideFault m e false d.srcSpad d.src d.length seq
    s.writeHost (s.portOf n) d.dst (s.readSide m d.srcSpad d.src d.length)
  | 2 =>
    let s := (s.sideFault m e false d.srcSpad d.src d.length seq).sideFault m e true d.dstSpad d.dst d.length seq
    s.writeSide m d.dstSpad d.dst (s.readSide m d.srcSpad d.src d.length)
  | 3 => (s.sideFault m e true d.dstSpad d.dst d.length seq).writeSide m d.dstSpad d.dst (fillBytes (d.src % 2 ^ 32) d.length)
  | 4 =>
    match s.surfAny n d.surface with
    | some f =>
      let a := f.iaddr + d.tileRow * f.rowBytes
      let s := (s.sideFault m e true false a d.length seq).writeInst n a hb
      s.sealTiles n d.surface (f.rowTiles d.tileRow d.tileRows)
    | none => s
  | _ =>
    if d.toHost then s.writeHost (s.portOf n) d.dst (s.readSide m d.srcSpad d.src d.length)
    else s.writeSide m d.dstSpad d.dst hb

/-- The RESULT of COPY (R199). -/
def copyResult (done failed bytes : Nat) : List W32 := [w32 (done + 65536 * failed), w32 bytes, 0]

/-- A job leaves the engines: its writers unbind and its surfaces' dead pages are looked at again. -/
def State.dropJob (s : State) (j : CopyJob) : State :=
  let s := s.setCopy (s.copy.filter (fun k => k ≠ j))
  let s := j.descs.foldl (fun t d => if d.kind = 4 then t.unbindWriter j.inst d.surface else t) s
  let s := if j.isSeal then s.unbindWriter j.inst j.surface else s
  s.settleAllDead j.inst

/-- The reply of a COPY or SEAL that ends: SEAL's reply carries no RESULT (05 R155). -/
def State.endJob (s : State) (j : CopyJob) (st : Status) (failed bytes : Nat) : State :=
  let done := j.total - j.descs.length
  (s.dropJob j).finish j.owed st (if j.isSeal then [] else copyResult done failed bytes)

/-- The job whose descriptor an engine runs: S2 before S3, each in queue order (R197). -/
def State.engineJob (s : State) (e : Nat) : Option CopyJob :=
  let js := s.copy.filter (s.onEngine e)
  match js.find? (fun j => decide ((j.descs.head?.map (·.cls)) = some 2)) with
  | some j => some j
  | none => js.head?

/-- A SEAL's one descriptor: seals its rows as they stand; a whole-surface SEAL of an UNSEALED surface makes it SEALED
at its completion (R220, R224). -/
def State.runSeal (s : State) (j : CopyJob) (d : CopyDesc) : State :=
  let s := if j.convert then s.updSurface j.inst j.surface (fun f => { f with isSealed := true }) else s
  match s.surfAny j.inst j.surface with
  | some f => s.sealTiles j.inst j.surface (f.rowTiles d.tileRow d.tileRows)
  | none => s

/-- COPY_DESCRIPTOR_DONE (R196, R197): the descriptor's effect; its token returns; after the last the packet replies. No
host memory is reached through a function that may not do DMA (R81). -/
def execCopyDescriptorDone (engine : Nat) (hostData : List Byte) (s : State) : Host.Outcome State Fault Refusal :=
  let go : State :=
    match s.engineJob engine with
    | none => s
    | some j =>
      match j.descs with
      | [] => s
      | d :: ds =>
        if d.usesHost && !s.busMaster j.inst then s else
        let s := s.asJob j.inst j.owed.p (fun s =>
          if j.isSeal then s.runSeal j d else s.runDesc j.inst engine j.owed.p.seq.toNat d hostData)
        let s := s.edge (424 + 4 * engine)
        let s := if d.kind = 4 ∧ !j.isSeal then s.unbindWriter j.inst d.surface else s
        let j' := { j with descs := ds }
        let s := s.setCopy (updFirst (fun k => decide (k = j)) (fun _ => j') s.copy)
        if ds.isEmpty then s.endJob j' .ok 0xFFFF 0 else s
  onUnit s (hCopy engine) go

/-- A running host-reading descriptor fails: later ones do not run (R199). -/
def State.failHostRead (s : State) (engine moved : Nat) (st : Status) : State :=
  match s.engineJob engine with
  | none => s
  | some j =>
    if (j.descs.head?.map (·.usesHost)).getD false then
      (s.edge (424 + 4 * engine + 1)).endJob j st (j.total - j.descs.length) moved
    else s

/-- HOST_COMPLETION_ERROR (R199). -/
def execHostCompletionError (engine moved : Nat) (s : State) : Host.Outcome State Fault Refusal :=
  onUnit s (hCopy engine) (s.failHostRead engine moved .denied)

/-- HOST_COMPLETION_TIMEOUT (R199, R593). -/
def execHostCompletionTimeout (engine moved : Nat) (s : State) : Host.Outcome State Fault Refusal :=
  onUnit s (hCopy engine) (s.failHostRead engine moved .timeout)

/-! ### MEM_CONFIG (R205) -/

/-- MEM_CONFIG with its OP: the packet's OP must be the row's, its TARGET the one of the OP, reserved bits 0. -/
def memConfig (op target len : Nat) (p : Packet) (s : State) (run : State → Ans) : Host.Outcome State Fault Refusal :=
  packet opMemConfig true p s fun s =>
    checks [(decide (p.u8 16 = op) && decide (p.fld 16 8 24 = 0) && decide (p.target = target) &&
      decide (p.length = len), .badParam)] (run s)

/-- Region r (1 to 3) as a MEM_CONFIG OP 0 packet gives it. -/
def regionField (p : Packet) (r : Nat) : MemRegion :=
  let o := 20 + 8 * (r - 1)
  { chmask := p.fld o 0 8, grain := p.fld o 8 4, ecc := p.fld o 12 1 == 1, retain := p.fld o 13 1 == 1, sizeMiB := p.u32 (o + 4) }

/-- A region obeys R171 and R173 on a member with so many channels: a non-empty region has channels, a legal grain
(512 bytes or more with ECC) and a size that is a multiple of n * 2 MiB. -/
def MemRegion.legal (r : MemRegion) : Bool :=
  decide (r.sizeMiB = 0) || (decide (r.chmask ≠ 0) && decide (8 ≤ r.grain) && decide (r.grain ≤ 16) &&
    (!r.ecc || decide (9 ≤ r.grain)) && decide (r.sizeMiB % (2 * popcount 8 r.chmask) = 0))

/-- The share of a region in a channel, in MiB (R171). -/
def MemRegion.share (r : MemRegion) (c : Nat) : Nat :=
  if bitOf r.chmask c && decide (r.sizeMiB ≠ 0) then r.sizeMiB / popcount 8 r.chmask else 0

/-- The shares of every channel, region 0's among them (R170), fit its capacity (R169, R171). -/
def State.sharesFit (s : State) (rs : List MemRegion) : Bool :=
  let n := s.board.member.channels
  (List.range n).all (fun c => decide (256 / n + (rs.map (·.share c)).sum ≤ s.board.dramMiB / n))

/-- MEM_CONFIG OP 0 (R205): the three regions are replaced together while no guest exists. -/
def execMemConfigRegions (p : Packet) (s : State) : Host.Outcome State Fault Refusal :=
  memConfig 0 hDevice 28 p s fun s =>
    let rs := [1, 2, 3].map (regionField p)
    checks [([1, 2, 3].all (fun r => decide (p.fld (20 + 8 * (r - 1)) 14 18 = 0)), .badParam),
      (rs.all (fun r => decide (r.sizeMiB = 0) || decide (r.chmask < 2 ^ s.board.member.channels)), .noUnit),
      (rs.all MemRegion.legal && s.sharesFit rs, .badParam),
      (s.guests.isEmpty, .busy)]
      (.done ((s.setMemc { s.memc with regions := rs, zeroing := [] }).intend hDevice false p.inst) .ok [])

/-- MEM_CONFIG OP 1 (R176, R205). -/
def execMemConfigNeighbourRefresh (p : Packet) (s : State) : Host.Outcome State Fault Refusal :=
  memConfig 1 hDevice 8 p s fun s =>
    let k := p.fld 20 0 5
    checks [(decide (8 ≤ k) && decide (k ≤ 16) && decide (p.fld 20 5 3 = 0) && decide (p.fld 20 9 23 = 0), .badParam)]
      (.done ((s.setMemc { s.memc with plog2 := k, radius2 := p.fld 20 8 1 == 1 }).intend hDevice false p.inst) .ok [])

/-- MEM_CONFIG OP 2 (R180 to R182, R205). -/
def execMemConfigScheduler (p : Packet) (s : State) : Host.Outcome State Fault Refusal :=
  memConfig 2 hDevice 8 p s fun s =>
    let age := p.u8 20
    let cap := p.u8 21
    let s3 := p.u8 22
    checks [(decide (1 ≤ age) && decide (age ≤ 64) && decide (4 ≤ cap) && decide (cap ≤ 64) && decide (16 ≤ s3) &&
        decide (s3 ≤ 72) && decide (p.u8 23 = 0), .badParam)]
      (.done ((s.setMemc { s.memc with ageUs := age, rowHitCap := cap, s3Max := s3 }).intend hDevice false p.inst) .ok [])

/-- MEM_CONFIG OP 3 (R187 to R189, R205): a way belongs to one class (R187), and a way of an instance is busy. -/
def execMemConfigClassWays (p : Packet) (s : State) : Host.Outcome State Fault Refusal :=
  memConfig 3 hSlc 16 p s fun s =>
    let ways := (List.range 4).map (fun c => p.u16 (20 + 2 * c))
    let alloc := (List.range 4).map (fun c => p.u8 (28 + c))
    let all := ways.foldl (· ||| ·) 0
    checks [(ways.all (fun w => decide (w % 4 = 0)) && alloc.all (fun a => decide (a ≤ 2)) &&
        decide ((ways.map (popcount 16)).sum = popcount 16 all), .badParam),
      (decide (all < 2 ^ s.board.member.slcWays), .noUnit),
      (s.guests.all (fun n => decide ((s.inst n).ways &&& all = 0)), .busy)]
      (.done ((s.setMemc { s.memc with classWays := ways, alloc := alloc }).intend hSlc false p.inst) .ok [])

/-! ### Host accesses (02 R79, R80; 06 R202 to R204) -/

/-- Bytes of an access. -/
def accLen : Access → Nat
  | .read n => n
  | .write d => d.length

/-- The access is a write. -/
def accWrite : Access → Bool
  | .read _ => false
  | .write _ => true

/-- A host access that hits nothing: all ones or discarded, ADDR_FAULT to the bound instance (R79). -/
def State.hostMiss (s : State) (k a source : Nat) (write atomic : Bool) (bytes : Nat) : State :=
  let s := match s.boundTo k with
    | some n => s.addrFault n (hInst n) a source write atomic bytes 0
    | none => s
  if write then s else s.setBus (List.replicate bytes 0xFF)

/-- The page an instance address lies in is HOST_RO (R190). -/
def hostRoAt (pages : List Page) (a : Nat) : Bool := ((pageAt pages a).map (·.hostRo)).getD false

/-- A host write to mapped memory (R190): the bytes that lie in HOST_RO pages are discarded, and such a write is counted. -/
def State.hostWrite (s : State) (n a : Nat) (d : List Byte) : State :=
  if (List.range d.length).any (fun i => hostRoAt (s.inst n).pages (a + i)) then
    ((d.zipIdx.filter (fun x => !hostRoAt (s.inst n).pages (a + x.2))).foldl
      (fun s x => s.writeInst n (a + x.2) [x.1]) s).count 0 n 37
  else s.writeInst n a d

/-- HOST_BAR2_ACCESS (R79, R190 HOST_RO). An address beyond the BAR2 size reaches no BAR. -/
def execHostBar2Access (port fn addr : Nat) (acc : Access) (s : State) : Host.Outcome State Fault Refusal :=
  let k := fnKey port fn
  let size := 2 ^ (if fn = 0 then (s.ports.get port).bar2Pf else (s.ports.get port).bar2Vf)
  let go : State :=
    if !s.fnExists port fn || decide (size < addr + (accLen acc)) then s
    else match s.boundTo k with
    | none => s.hostMiss k addr 2 (accWrite acc) false (accLen acc)
    | some n =>
      if !mappedRange (s.inst n).pages addr (accLen acc) then s.hostMiss k addr 2 (accWrite acc) false (accLen acc)
      else match acc with
      | .read len => s.setBus (s.readInst n addr len)
      | .write d =>
        s.hostWrite n addr d
  onPort s port go

/-- The scratchpad grant of the instance bound to a function, in bytes. -/
def State.spadGrant (s : State) (k : Nat) : Nat :=
  match s.boundTo k with
  | some n => 4096 * (s.inst n).spadBlocks.length
  | none => 0

/-- HOST_BAR4_ACCESS (R80, R204). -/
def execHostBar4Access (port fn addr : Nat) (acc : Access) (s : State) : Host.Outcome State Fault Refusal :=
  let k := fnKey port fn
  let size := 2 ^ (if fn = 0 then (s.ports.get port).bar4Pf else (s.ports.get port).bar4Vf)
  let go : State :=
    if !s.fnExists port fn || decide (size < addr + (accLen acc)) then s
    else if s.spadGrant k < addr + (accLen acc) then s.hostMiss k addr 4 (accWrite acc) false (accLen acc)
    else match s.boundTo k with
    | none => s
    | some n => match acc with
      | .read len => s.setBus (readSpad s.spad (s.inst n).spadBlocks addr len)
      | .write d => s.writeSpad n addr d
  onPort s port go

/-- HOST_ATOMICOP (R202, R203): FetchAdd and Swap on BAR4 return the original value. CAS, and any AtomicOp to another
BAR, completes with Unsupported Request; a misaligned one is a Malformed TLP: neither changes anything. -/
def execHostAtomicop (port fn bar addr : Nat) (op : AtomicOp) (wide : Bool) (operand : Nat) (s : State) :
    Host.Outcome State Fault Refusal :=
  let k := fnKey port fn
  let w := if wide then 8 else 4
  let go : State :=
    if !s.fnExists port fn || decide (bar ≠ 4) || decide (op = .cas) || decide (addr % w ≠ 0) then s
    else if s.spadGrant k < addr + w then s.hostMiss k addr 4 false true w
    else match s.boundTo k with
    | none => s
    | some n =>
      let old := readSpad s.spad (s.inst n).spadBlocks addr w
      let new := match op with
        | .fetchAdd => leBytes w (leNat old + operand)
        | _ => leBytes w operand
      (s.writeSpad n addr new).setBus old
  onPort s port go

/-! ### What the memory controller does on its own -/

/-- NEIGHBOUR_REFRESH (R177): one ACTIVATE-PRECHARGE pair per neighbour row, two with RADIUS 1 and four with RADIUS2,
counted; rows beyond the edge are skipped, which a row of 0 shows for the rows below it. -/
def execNeighbourRefresh (channel _bank row : Nat) (s : State) : Host.Outcome State Fault Refusal :=
  let below := min row (if s.memc.radius2 then 2 else 1)
  let above := if s.memc.radius2 then 2 else 1
  onUnit s (hChannel channel) (s.countBy 9 channel 3 (below + above))

/-- NEIGHBOUR_RESEED (R176): the seeds are free values. -/
def execNeighbourReseed (s : State) : Host.Outcome State Fault Refusal :=
  .next ((s.setMemc { s.memc with seeds := Config.seed s.freeCtr }).tickFree)

/-- REQUEST_PROMOTED (R181): the request's rank changes, its class tag does not. -/
def execRequestPromoted (channel request : Nat) (s : State) : Host.Outcome State Fault Refusal :=
  onUnit s (hChannel channel)
    ((s.setMemc { s.memc with promoted := s.memc.promoted ++ [(channel, request)] }).count 9 channel 7)

/-- A retrain of a channel ends (R184): a failure keeps the previous values and is CORR; the third in a row FATAL. -/
def State.retrain (s : State) (channel : Nat) (converged : Bool) : State :=
  let c := s.memc.channels.get channel
  let put (s : State) (fails : Nat) : State :=
    s.setMemc { s.memc with channels := s.memc.channels.set channel { fails := fails, retrains := c.retrains + 1 } }
  if converged then (put s 0).count 9 channel 4
  else
    let s := ((put s (c.fails + 1)).count 9 channel 4).count 9 channel 5
    let s := s.raiseErr 0x1005 1 (hChannel channel) 0xFF 0 0
    if 3 ≤ c.fails + 1 then s.raiseErr 0x1006 4 (hChannel channel) 0xFF 0 0 else s

/-- DRAM_RETRAIN (R184). -/
def execDramRetrain (channel : Nat) (converged : Bool) (s : State) : Host.Outcome State Fault Refusal :=
  onUnit s (hChannel channel) (s.retrain channel converged)

/-- DRAM_ECC_ERROR (R175): a single-bit error is corrected, counted and CORR; a double one is FATAL in region 0 and an
INST fault in an instance's block, whose granule then reads as zeros. A region without ECC detects none. -/
def execDramEccError (channel : Nat) (double : Bool) (region n iaddr : Nat) (s : State) : Host.Outcome State Fault Refusal :=
  let ecc := decide (region = 0) || (s.memc.regions.getD (region - 1) .empty).ecc
  let go : State :=
    if !ecc || decide (3 < region) then s
    else if !double then (s.count 9 channel 0).raiseErr 0x1002 1 (hChannel channel) 0xFF 0 0
    else
      let s := s.count 9 channel 1
      if region = 0 then s.raiseErr 0x1003 4 (hChannel channel) 0xFF 0 0
      else
        let a := iaddr / 64 * 64
        let s := s.writeInst n a (List.replicate 64 0)
        (s.raise n 0x12 (hChannel channel) (detail [(a, 64)])).raiseErr 0x1004 2 (hChannel channel) n 0 0
  onUnit s (hChannel channel) go

/-- SCRUB_PASS (R174). -/
def execScrubPass (s : State) : Host.Outcome State Fault Refusal :=
  .next (s.setMemc { s.memc with scrubPasses := s.memc.scrubPasses + 1 })

/-- SPAD_ECC_UNCORR: FATAL in a device-private block, an INST fault in an instance's block (06 Scratchpad, R581). -/
def execSpadEccUncorr (block _offset : Nat) (s : State) : Host.Outcome State Fault Refusal :=
  if spadTotal ≤ block then .next (s.raiseErr 0x1007 4 hSpad 0xFF 0 0)
  else match s.guests.find? (fun n => (s.inst n).spadBlocks.contains block) with
    | some n => .next (s.raiseErr 0x1007 2 hSpad n 0 0)
    | none => .next s

/-- REQUEST to free blocks that were zero-filled is SCRUB_DONE's; MEM_LOST (R186): the zero-fill of granted blocks in
dropped segments completes, and the manager is told the region and the number of blocks. -/
def State.memLost (s : State) (region blocks : Nat) : State :=
  s.raise 0 0x13 hDevice (detail [(region, 8), (0, 24), (blocks, 32)])

end Sys2Proof.Machine
end

