-- ==== Sys2Proof/Machine/Surfaces.lean ====
section
/-!
DEFINITION. Surfaces and tile seals (07): creation, write windows, SEAL, destruction, retire fences and their release.
-/

namespace Sys2Proof.Machine

open Sys2Proof

def opSurfaceCreate : Op := { code := 0x2001, mark := .g }
def opSurfaceDestroy : Op := { code := 0x2002, mark := .g }
def opWriteBegin : Op := { code := 0x2003, mark := .g }
def opWriteEnd : Op := { code := 0x2004, mark := .g }
def opSeal : Op := { code := 0x2005, mark := .g }
def opRetireFence : Op := { code := 0x2006, mark := .g }

/-! ### Retire fences (R233, R234) -/

/-- Advances from one generation to another on the cycle that skips 0 (R213, R233). -/
def genDistance (cur g : W32) : Nat := (g.toNat + (2 ^ 32 - 1) - cur.toNat) % (2 ^ 32 - 1)

/-- `g` is later than `cur` (R233). -/
def genLater (g cur : W32) : Bool := decide (0 < genDistance cur g) && decide (genDistance cur g < 2 ^ 31)

/-- A frame latched with generation `at_` counts for a fence on `g`: at `g` or earlier (R234). -/
def genCounts (at_ g : W32) : Bool := !genLater at_ g

/-- The fence must still wait: a layer shows the surface while its generation is still GEN or earlier, so that the next latch
instant takes such a frame again; or a frame latched at GEN or earlier is still to be composed (R234). -/
def State.fenceWaits (s : State) (f : Fence) : Bool :=
  (match s.surfAny f.inst f.surface with
    | none => false
    | some x => genCounts x.gen f.gen && (List.range s.board.member.slots).any (fun i =>
        let t := s.slot i
        decide (t.holder = some f.inst) && t.current.enable && decide (t.current.surface = f.surface) &&
          (s.pipe t.current.pipe).shows)) ||
  (List.range s.board.member.pipes).any (fun q => (s.pipe q).fetches.any (fun l =>
    decide (l.owner = f.inst) && decide (l.st.surface = f.surface) && genCounts l.gen f.gen))

/-- A fence signals: the scratchpad store first, then FENCE_SIGNALLED (R234). -/
def State.signalFence (s : State) (f : Fence) : State :=
  let s := if f.spad then s.writeSpad f.inst f.offset (leBytes 8 f.value) else s
  s.raise f.inst 0x22 (hInst f.inst) (detail [(f.id, 32), (f.surface, 32), (f.gen.toNat, 32)])

/-- Every fence whose condition holds signals once; those of a FROZEN instance wait for the thaw (R236). -/
def State.flushFences (s : State) : State :=
  let ready (f : Fence) : Bool := !s.fenceWaits f && decide ((s.inst f.inst).state ≠ .frozen)
  let go := s.surf.fences.filter ready
  let s1 := s.setSurf { s.surf with fences := s.surf.fences.filter (fun f => !ready f) }
  go.foldl (fun t f => t.signalFence f) s1

/-- RETIRE_FENCE (R233). -/
def execRetireFence (p : Packet) (s : State) : Host.Outcome State Fault Refusal :=
  packet opRetireFence (ownHandle p) p s fun s =>
    let n := p.inst
    match s.surface n (p.u32 16) with
    | none => .fail .badParam []
    | some f =>
      let g := if p.u32 20 = 0 then f.gen else w32 (p.u32 20)
      let spad := p.flag 24 0
      checks [(decide (p.length = 24) && decide (p.fld 24 1 31 = 0) && !genLater g f.gen &&
          (!spad || (decide (p.u32 28 % 8 = 0) && decide (p.u32 28 + 8 ≤ 4096 * (s.inst n).spadBlocks.length))), .badParam),
        (decide ((s.surf.fences.filter (fun x => decide (x.inst = n))).length < 64), .busy)]
        (let id := s.surf.nextFence.get n
         let e : Fence :=
           { inst := n, id := id, surface := p.u32 16, gen := g, spad := spad, offset := p.u32 28, value := p.u64 32 }
         let s := s.setSurf { s.surf with fences := s.surf.fences ++ [e], nextFence := s.surf.nextFence.set n (id + 1) }
         .done s.flushFences .ok [w32 id, 0])

/-! ### Surfaces -/

/-- SURFACE_CREATE (R210, R211). -/
def execSurfaceCreate (p : Packet) (s : State) : Host.Outcome State Fault Refusal :=
  packet opSurfaceCreate (ownHandle p) p s fun s =>
    let n := p.inst
    let f : Surface :=
      { iaddr := p.u64 16, width := p.u16 24, height := p.u16 26, format := p.u8 28, isSealed := !p.flag 29 0, gen := 1,
        isOpen := false, keep := false, writers := 0, closing := none, dead := false, silent := false,
        table := Tab.empty }
    let all := s.surfacesOf n
    checks [(decide (p.length = 16) && decide (p.fld 29 1 7 = 0) && decide (p.u16 30 = 0) && decide (f.iaddr % 4096 = 0) &&
        decide (1 ≤ f.width) && decide (f.width ≤ 16384) && decide (1 ≤ f.height) && decide (f.height ≤ 16384) &&
        decide (f.format ≤ 6) && (!isYuv f.format || (decide (f.width % 2 = 0) && decide (f.height % 2 = 0))) &&
        decide (f.iaddr + f.size ≤ 2 ^ 40) && mappedRange (s.inst n).pages f.iaddr f.size, .badParam),
      (decide (all.length < 4096), .quota),
      (s.structFits n f.tableBytes, .quota),
      (!all.any (fun g => decide (g.2.iaddr < f.iaddr + f.size) && decide (f.iaddr < g.2.iaddr + g.2.size)), .busy)]
      (let id := s.surf.nextId.get n
       let s := s.setSurf { s.surf with nextId := s.surf.nextId.set n (id + 1) }
       .done (s.setSurface n id (some f)) .ok
         ([w32 id, w32 (tileBytes f.format), w32 f.rowBytes, w32 f.tableBytes] ++ w64 f.size ++ [0, 0]))

/-- A slot's state that no latch line has taken is dropped, and counted in its commit (R329). -/
def State.dropPending (s : State) (i : Nat) : State :=
  let parts := s.blend.parts.map (fun t =>
    if t.slots.contains i then { t with slots := t.slots.erase i, dropped := t.dropped + 1 } else t)
  let s := (s.setBlend { s.blend with parts := parts }).updSlot i
    (fun t => { t with intended := t.current, pending := false, waiting := false })
  (s.count 13 (256 + i) 1).settle (hSlot i)

/-- A surface is removed: its fences signal at the latest now (R234). -/
def State.removeSurface (s : State) (n id : Nat) : State := (s.setSurface n id none).flushFences

/-- SURFACE_DESTROY (R214, R232, R329). -/
def execSurfaceDestroy (p : Packet) (s : State) : Host.Outcome State Fault Refusal :=
  packet opSurfaceDestroy (ownHandle p) p s fun s =>
    let n := p.inst
    let id := p.u32 16
    match s.surface n id with
    | none => .fail .badParam []
    | some f =>
      checks [(decide (p.length = 4), .badParam), (!f.isOpen, .busy)]
        (if s.inScanout n id then .done (s.updSurface n id (fun f => { f with dead := true })) .pinned []
         else
           let hit := (s.slotsOf n).filter (fun i => (s.slot i).pending && decide ((s.slot i).intended.surface = id) &&
             (s.slot i).intended.enable)
           .done ((hit.foldl (fun t i => t.dropPending i) s).removeSurface n id) .ok [])

/-- WRITE_BEGIN (R213, R214): the generation advances; at its wrap the side-table is zeroed and KEEP has no effect. -/
def execWriteBegin (p : Packet) (s : State) : Host.Outcome State Fault Refusal :=
  packet opWriteBegin (ownHandle p) p s fun s =>
    let n := p.inst
    let id := p.u32 16
    match s.surface n id with
    | none => .fail .badParam []
    | some f =>
      checks [(decide (p.length = 8) && decide (p.fld 20 1 31 = 0), .badParam), (!f.isOpen, .busy)]
        (let g := nextGen f.gen
         let wrap := decide (g = 1)
         let scan := s.inScanout n id
         let f' : Surface :=
           { f with gen := g, isOpen := true, keep := p.flag 20 0 && !wrap, table := if wrap then Tab.empty else f.table }
         .done (s.setSurface n id (some f')).flushFences .ok [g, w32 (b2n scan)])

/-- WRITE_END (R214, R215): it waits for the window's writers. -/
def execWriteEnd (p : Packet) (s : State) : Host.Outcome State Fault Refusal :=
  packet opWriteEnd (ownHandle p) p s fun s =>
    let n := p.inst
    let id := p.u32 16
    match s.surface n id with
    | none => .fail .badParam []
    | some f =>
      checks [(decide (p.length = 4), .badParam), (f.isOpen && f.closing.isNone, .badParam)]
        (.owe (s.updSurface n id (fun f => { f with closing := some { opcode := opWriteEnd.code, p := p } })))

/-- The carry-forward of KEEP (R221): tiles whose WGEN is the previous generation get the seal of the new one. -/
def carryForward (f : Surface) : Surface :=
  let prev := f.gen - 1
  let z := crcZeros (prev ^^^ f.gen) (tileBytes f.format)
  let table := f.table.keys.foldl (fun t i =>
    let e := t.get i
    if entryGen e = prev then t.set i (sealEntry (entrySeal e ^^^ z) f.gen) else t) f.table
  if f.keep && f.isSealed && decide (f.gen ≠ 1) then { f with table := table } else f

/-- WRITE_WINDOW_CLOSED (R215, R221): once every writer of the window has finished. -/
def execWriteWindowClosed (n id : Nat) (s : State) : Host.Outcome State Fault Refusal :=
  match s.surface n id with
  | some f =>
    if f.isOpen && f.closing.isSome && decide (f.writers = 0) then
      let f' : Surface := { carryForward f with isOpen := false, keep := false, closing := none }
      .next ((s.setSurface n id (some f')).finishOpt f.closing .ok [])
    else .next s
  | none => .next s

/-- SEAL (R220, R224): one copy-engine descriptor that seals tile rows as they stand. On an UNSEALED surface it must
cover the whole surface, and needs room for the side-table. -/
def execSeal (p : Packet) (s : State) : Host.Outcome State Fault Refusal :=
  packet opSeal (ownHandle p) p s fun s =>
    let n := p.inst
    let id := p.u32 16
    match s.surface n id with
    | none => .fail .badParam []
    | some f =>
      let row := p.u16 20
      let rows := if p.u16 22 = 0 then f.th - row else p.u16 22
      let cls := p.fld 24 0 2
      checks [(decide (p.length = 12) && decide (p.fld 24 2 30 = 0) && (decide (cls = 2) || decide (cls = 3)) &&
          decide (row < f.th) && decide (row + rows ≤ f.th) &&
          (f.isSealed || (decide (row = 0) && decide (rows = f.th))), .badParam),
        (decide (1 ≤ (s.inst n).descs) && (f.isSealed || s.structFits n (8 * f.tw * f.th)), .quota),
        (f.isOpen && f.closing.isNone, .busy)]
        (let d : CopyDesc :=
           { kind := 6, cls := cls, toHost := false, srcSpad := false, dstSpad := false, inst := 0, length := 0, src := 0,
             dst := 0, surface := id, tileRow := row, tileRows := rows }
         let j : CopyJob :=
           { owed := { opcode := opSeal.code, p := p }, inst := n, descs := [d], total := 1, isSeal := true,
             convert := !f.isSealed, surface := id, engine := none }
         .owe ((s.setCopy (s.copy ++ [j])).bindWriter n id))

/-- SCANOUT_RELEASE (R230 to R232, R192): a surface has left scan-out: a destroyed one is freed and its owner told,
pinned pages are given back, fences on it signal. -/
def execScanoutRelease (n id : Nat) (s : State) : Host.Outcome State Fault Refusal :=
  match s.surfAny n id with
  | none => .next s
  | some f =>
    if s.inScanout n id then .next s
    else if f.dead then
      let s := s.removeSurface n id
      let s := if f.silent then s else s.raise n 0x21 (hInst n) (detail [(id, 32), (f.gen.toNat, 32)])
      .next (s.settleAllDead n)
    else .next (s.flushFences.settleAllDead n)

/-- INST_RESET and INST_DESTROY remove every surface, side-table and fence; storage still in scan-out stays pinned
until it leaves it (R237). -/
def State.dropSurfaces (s : State) (n : Nat) : State :=
  let s1 := (s.surfacesOf n).foldl (fun (t : State) (f : Nat × Surface) =>
    if s.inScanout n f.1 then t.updSurface n f.1 (fun g => { g with dead := true, silent := true, closing := none })
    else t.setSurface n f.1 none) s
  s1.setSurf { s1.surf with fences := s1.surf.fences.filter (fun f => decide (f.inst ≠ n)), nextId := s1.surf.nextId.set n 1, nextFence := s1.surf.nextFence.set n 1 }

end Sys2Proof.Machine
end

