-- ==== Sys2Proof/Machine/Blend.lean ====
section
/-!
DEFINITION. Layers and commits (11 R318 to R330, R341 to R347, R350, R351): staging, COMMIT and its checks, the composition
budget, motion hints, coefficient banks, the z-floor, and what a latch line takes.
-/

namespace Sys2Proof.Machine

open Sys2Proof

def opLayerSet : Op := { code := 0x4001, mark := .g }
def opLayerRelease : Op := { code := 0x4002, mark := .g }
def opCommit : Op := { code := 0x4003, mark := .g }
def opMotionHint : Op := { code := 0x4004, mark := .g }
def opCoefLoad : Op := { code := 0x4005, mark := .g }
def opZfloorSet : Op := { code := 0x4010, mark := .m }

/-- A slot is a video slot (R318). -/
def State.isVideo (s : State) (i : Nat) : Bool := decide (i < s.board.member.videoSlots)

/-- The sender holds the slot that TARGET names. -/
def State.holdsSlot (s : State) (p : Packet) : Bool :=
  decide (p.target / 256 = 0x0D) && decide ((s.slot (p.target % 256)).holder = some p.inst)

/-- A pipe's intended timing, and its intended z-floor. -/
def Pipe.want (q : Pipe) : Timing := q.timingNext.getD q.timing
def Pipe.floor (q : Pipe) : Nat := q.zfloorNext.getD q.zfloor

/-- A pipe's timing is configured (R374). -/
def Pipe.timed (q : Pipe) : Bool := decide (q.want.pclk ≠ 0)

/-- The intended state of a layer is safety-class under the intended floor (R320). -/
def State.classOf (s : State) (l : LayerState) : Bool := decide ((s.pipe l.pipe).floor ≤ l.zpos)

/-! ### LAYER_SET, LAYER_RELEASE (R322 to R324) -/

/-- The state that the payload gives. -/
def layerOf (p : Packet) : LayerState :=
  { pipe := p.fld 16 0 3, enable := p.flag 16 3, alphaMode := p.fld 16 4 2, zpos := p.u8 17,
    layerAlpha := p.fld 18 0 10, touchOff := p.flag 18 10, coefBank := p.fld 18 11 2, surface := p.u32 20,
    srcX := p.u16 24, srcY := p.u16 26, srcW := p.u16 28, srcH := p.u16 30, dstX := p.u16 32, dstY := p.u16 34,
    dstW := p.u16 36, dstH := p.u16 38, hold := if p.u32 40 = 0 then 0xFF404040 else p.u32 40, eotf := p.fld 44 0 4,
    matrix := p.fld 44 4 4, fullRange := p.flag 44 8 }

/-- The ratio of two sizes lies within 1/8 to 8. -/
def ratioOk (d s : Nat) : Bool := decide (s ≤ 8 * d) && decide (d ≤ 8 * s)

/-- The checks that need the surface's format (R323, R355). -/
def formatOk (video : Bool) (l : LayerState) (f : Surface) : Bool :=
  decide (l.srcX + l.srcW ≤ f.width) && decide (l.srcY + l.srcH ≤ f.height) &&
    (if isYuv f.format then
      video && decide (1 ≤ l.matrix) && decide (l.srcX % 2 = 0) && decide (l.srcY % 2 = 0) && decide (l.srcW % 2 = 0) &&
        decide (l.srcH % 2 = 0)
     else decide (l.matrix = 0))

/-- Every check of R323. -/
def State.layerOk (s : State) (p : Packet) (l : LayerState) : Bool :=
  let video := s.isVideo (p.target % 256)
  decide (p.length = 32) && decide (p.fld 16 6 2 = 0) && decide (p.fld 18 13 3 = 0) && decide (p.fld 44 9 23 = 0) &&
    decide (l.alphaMode ≠ 3) && (video || decide (l.coefBank = 0)) && decide (1 ≤ l.srcW) && decide (1 ≤ l.srcH) &&
    decide (1 ≤ l.dstW) && decide (1 ≤ l.dstH) && decide (l.eotf ≤ 4) && decide (l.matrix ≤ 3) &&
    (!l.enable || decide (l.surface ≠ 0)) &&
    (if video then ratioOk l.dstW l.srcW && ratioOk l.dstH l.srcH
     else decide (l.dstW = l.srcW) && decide (l.dstH = l.srcH)) &&
    (decide (l.surface = 0) || (match s.surface p.inst l.surface with
      | some f => formatOk video l f
      | none => false))

/-- LAYER_SET (R322, R323). -/
def execLayerSet (p : Packet) (s : State) : Host.Outcome State Fault Refusal :=
  packet opLayerSet (s.holdsSlot p) p s fun s =>
    let l := layerOf p
    checks [(decide (p.length = 32), .badParam), (s.unitOk (hPipe l.pipe), .noUnit), (s.layerOk p l, .badParam)]
      (.done (s.updSlot (p.target % 256) (fun t => { t with staged := l })) .ok [])

/-- LAYER_RELEASE (R324). -/
def execLayerRelease (p : Packet) (s : State) : Host.Outcome State Fault Refusal :=
  packet opLayerRelease (s.holdsSlot p) p s fun s =>
    checks [(decide (p.length = 4) && decide (p.fld 16 1 31 = 0), .badParam)]
      (.done (s.updSlot (p.target % 256) (fun t =>
        { t with staged := if p.flag 16 0 then { t.intended with enable := false, surface := 0 } else t.intended })) .ok [])

/-! ### The composition budget (R341, R342) -/

/-- The frames over which a hint accumulates, and the smallest cumulative scale in 1/65,536, at most 1. -/
def Hint.minScale (h : Hint) (l : LayerState) : Nat :=
  let low := clampI 32768 65536 (65536 + (h.maxFrames : Int) * min h.scale 0)
  -- the resulting ratio stays at 1/8 or more (R346)
  min 65536 (max low.toNat ((65536 * l.srcH + 8 * l.dstH - 1) / (8 * l.dstH)))

/-- The sine of the largest cumulative angle, at most 2 degrees. -/
def Hint.maxSin (h : Hint) : Nat := fxSinSmall (fxOf (min 2048 (h.maxFrames * h.angle.natAbs)) 184320)

/-- The hint changes nothing. -/
def Hint.still (h : Hint) : Bool := decide (h.dx = 0) && decide (h.dy = 0) && decide (h.scale = 0) && decide (h.angle = 0)

/-- Tile rows that the budget counts per band (R341). -/
def budgetRows (video : Bool) (l : LayerState) (h : Hint) : Nat :=
  let aligned := decide (((l.dstY : Int) - l.srcY) % 64 = 0)
  let cap := (l.srcY + l.srcH - 1) / 64 - l.srcY / 64 + 1
  let rows :=
    if !video then (if aligned && decide (h.dy % 64 = 0) then 1 else 2)
    else if decide (l.dstH = l.srcH) && h.still && aligned then 1
    else
      let num := (64 * fxOne + l.dstW * h.maxSin) * l.srcH * 65536
      let den := l.dstH * h.minScale l * fxOne
      let n := (num + den - 1) / den + 5
      (n + 62) / 64 + 1
  min rows cap

/-- Tile columns. -/
def budgetCols (l : LayerState) : Nat := (l.srcX + l.srcW - 1) / 64 - l.srcX / 64 + 1

/-- Bytes per band of a layer. -/
def State.budgetBytes (s : State) (i : Nat) (l : LayerState) (h : Hint) : Nat :=
  match (s.slot i).holder.bind (fun n => s.surfAny n l.surface) with
  | some f =>
    budgetRows (s.isVideo i) l h * budgetCols l * (tileBytes f.format + (if f.isSealed then 8 else 0)) *
      (if s.classOf l then 2 else 1)
  | none => 0

/-- The hint that counts for a slot: the latest one. -/
def Slot.hintWanted (t : Slot) : Hint := t.hintNext.getD t.hint

/-- What a slot adds on a pipe, bytes per band and destination width, where it counts there: enabled in its intended or its
current state (R326), the larger of the two. -/
def State.slotLoad (s : State) (i pipe : Nat) : Option (Nat × Nat) :=
  let t := s.slot i
  let ls := [t.intended, t.current].filter (fun l => t.holder.isSome && l.enable && decide (l.pipe = pipe))
  if ls.isEmpty then none
  else some ((ls.map (fun l => s.budgetBytes i l t.hintWanted)).foldl max 0, (ls.map (·.dstW)).foldl max 0)

/-- Loads of every counted slot of a pipe. -/
def State.pipeLoads (s : State) (pipe : Nat) : List (Nat × Nat) :=
  (List.range s.board.member.slots).filterMap (fun i => s.slotLoad i pipe)

/-- A sum of fractions. -/
def addFrac (a b : Nat × Nat) : Nat × Nat := (a.1 * b.2 + b.1 * a.2, a.2 * b.2)

/-- A pipe counts in the sums (R342). -/
def State.budgetPipe (s : State) (pipe : Nat) : Bool :=
  let q := s.pipe pipe
  q.timed && (decide (q.intent ≠ 0) || decide (q.state ≠ .off) || !(s.pipeLoads pipe).isEmpty)

/-- Quantities per band as a rate per second: times PCLK over 64 HTOTAL. -/
def perSecond (t : Timing) (x : Nat) : Nat × Nat := (x * t.pclk * 1000, 64 * t.htotal)

/-- Peak bandwidth of the present channels in bytes per second, at 8,533 MT/s on 16 bits (R169, log 2). -/
def State.peakBytes (s : State) : Nat := s.board.member.channels * 2 * 8533000000

/-- Both sums stay within their limits (R342). -/
def State.budgetOk (s : State) : Bool :=
  let ps := (List.range s.board.member.pipes).filter s.budgetPipe
  let dram := (ps.map (fun p => perSecond (s.pipe p).want ((s.pipeLoads p).map (·.1)).sum)).foldl addFrac (0, 1)
  let blend := (ps.map (fun p =>
    let w := ((s.pipeLoads p).map (·.2)).sum
    perSecond (s.pipe p).want (max (4 * (s.pipe p).want.hact) ((4 * w + 2) / 3)))).foldl addFrac (0, 1)
  decide (10 * dram.1 ≤ 7 * s.peakBytes * dram.2) && decide (blend.1 ≤ 1080000000 * blend.2)

/-- At most 16 enabled layers count on each pipe (R326). -/
def State.layersOk (s : State) : Bool :=
  (List.range s.board.member.pipes).all (fun p => decide ((s.pipeLoads p).length ≤ 16))

/-! ### COMMIT (R325 to R329) -/

/-- The points of a side at which coverage by rectangles can begin to fail: its start and the edges within it. -/
def cutPoints (lo n : Nat) (edges : List Nat) : List Nat := lo :: edges.filter (fun e => decide (lo ≤ e) && decide (e < lo + n))

/-- A rectangle lies within the union of regions (R75). -/
def covered (rs : List Region) (x y w h : Nat) : Bool :=
  (cutPoints x w (rs.flatMap (fun r => [r.left, r.left + r.width]))).all (fun px =>
    (cutPoints y h (rs.flatMap (fun r => [r.top, r.top + r.height]))).all (fun py =>
      rs.any (fun r => decide (r.left ≤ px) && decide (px < r.left + r.width) && decide (r.top ≤ py) &&
        decide (py < r.top + r.height))))

/-- The instance's regions on a pipe. -/
def State.regionsOn (s : State) (n pipe : Nat) : List Region := (s.inst n).regions.filter (fun r => decide (r.unit = pipe))

/-- The destination lies within the intended active area of a configured pipe. -/
def State.inActive (s : State) (l : LayerState) : Bool :=
  (s.pipe l.pipe).timed && decide (l.dstX + l.dstW ≤ (s.pipe l.pipe).want.hact) &&
    decide (l.dstY + l.dstH ≤ (s.pipe l.pipe).want.vact)

/-- The slots that a COMMIT lists. -/
def commitSlots (p : Packet) : List Nat := (p.wordsFrom 20).map (fun w => w % 64)

/-- The slots an instance holds, as a mask. -/
def State.slotMask (s : State) (n : Nat) : Nat := ((s.slotsOf n).map (fun i => 2 ^ i)).sum

/-- The pipes that a group touches: those of the staged states and of the current ones they replace (DEDUCED, log 65). -/
def State.commitPipes (s : State) (is : List Nat) : List Nat :=
  (is.flatMap (fun i =>
    let t := s.slot i
    t.staged.pipe :: (if t.current.enable then [t.current.pipe] else []))).dedup

/-- RESULT of COMMIT (R325). -/
def State.commitResult (s : State) (p : Packet) (id fail : Nat) : List W32 :=
  let pipes := ((s.commitPipes ((commitSlots p).filter (· < s.board.member.slots))).map (fun q => 2 ^ q)).sum
  [w32 id, w32 (pack [(pipes, 8), (fail, 8), (0, 16)])] ++ w64 (s.slotMask p.inst)

/-- The intended states as they will stand with the first `k` slots of the group applied. -/
def State.stagedApplied (s : State) (is : List Nat) : State :=
  is.foldl (fun s i => s.updSlot i (fun t => { t with intended := t.staged })) s

/-- The index of the first slot of a list that fails a check. -/
def firstBad (is : List Nat) (ok : Nat → Bool) : Option Nat := (List.range is.length).find? (fun k => !ok (is.getD k 0))

/-- The shortest beginning of the group that breaks a limit names its slot. -/
def firstOver (s : State) (is : List Nat) (ok : State → Bool) : Option Nat :=
  if ok (s.stagedApplied is) then none
  else some (((List.range is.length).find? (fun k => !ok (s.stagedApplied (is.take (k + 1))))).getD (is.length - 1))

/-- The checks of R326 in their order: the status and FAIL_INDEX of the first that fails. -/
def State.commitFails (s : State) (p : Packet) : Option (Status × Nat) :=
  let is := commitSlots p
  let n := p.inst
  let st (i : Nat) : LayerState := (s.slot i).staged
  let on (i : Nat) : Bool := (st i).enable
  let count := p.fld 16 0 5
  if decide (p.length < 4) || decide (16 < count) || decide (p.fld 16 7 25 ≠ 0) || decide (p.length ≠ 4 + 4 * count) then
    some (.badParam, 0xFF)
  else
    let dup (k : Nat) : Bool := (is.take k).contains (is.getD k 0) || decide (p.fld (20 + 4 * k) 6 26 ≠ 0)
    let exists_ (i : Nat) : Bool := decide ((st i).surface = 0) || (s.surface n (st i).surface).isSome
    let side (i : Nat) : Bool := decide (n = 0) || !on i || (s.classOf (st i) == s.isSafety n)
    let safe (i : Nat) : Bool := !on i || !(s.classOf (st i) || s.isSafety n) ||
      ((s.surface n (st i).surface).map (·.isSealed)).getD true
    let steps : List (Status × Option Nat) :=
      [(.badParam, (List.range is.length).find? dup),
       (.noUnit, firstBad is (fun i => s.unitOk (hSlot i))),
       (.denied, firstBad is (fun i => decide ((s.slot i).holder = some n))),
       (.badParam, firstBad is (fun i => exists_ i && (!on i || s.inActive (st i)))),
       (.denied, firstBad is (fun i => decide (n = 0) || !on i ||
          covered (s.regionsOn n (st i).pipe) (st i).dstX (st i).dstY (st i).dstW (st i).dstH)),
       (.denied, firstBad is side),
       (.denied, firstBad is safe),
       (.quota, firstOver s is State.layersOk),
       (.quota, firstOver s is State.budgetOk)]
    steps.findSome? (fun x => x.2.map (fun k => (x.1, k)))

/-- A slot's earlier new state gives way: it leaves its part, and counts as dropped once a latch line has judged it
(R329). -/
def State.replaceWaiting (s : State) (i : Nat) : State :=
  let t := s.slot i
  if !t.pending then s
  else
    let d := b2n t.waiting
    let s := s.setBlend { s.blend with parts := s.blend.parts.map (fun g =>
      if g.slots.contains i then { g with slots := g.slots.erase i, dropped := g.dropped + d } else g) }
    if t.waiting then s.count 13 (256 + i) 1 else s

/-- The pipe to whose part a slot belongs: that of its new state, or, where it is disabled, that on which it stands. -/
def Slot.partPipe (t : Slot) : Nat := if !t.intended.enable && t.current.enable then t.current.pipe else t.intended.pipe

/-- COMMIT (R325 to R327): the staged states become the intended ones; a part on each pipe waits for its latch line. -/
def execCommit (p : Packet) (s : State) : Host.Outcome State Fault Refusal :=
  packet opCommit (ownHandle p) p s fun s =>
    match s.commitFails p with
    | some (st, k) => .fail st (s.commitResult p 0 k)
    | none =>
      let is := commitSlots p
      if is.isEmpty then .done s .ok (s.commitResult p 0 0xFF)
      else
        let id := s.blend.nextCommit
        let res := s.commitResult p id 0xFF
        let s1 := is.foldl (fun s i => s.replaceWaiting i) s
        let s2 := is.foldl (fun (s : State) i =>
          (s.updSlot i (fun t => { t with intended := t.staged, pending := true, waiting := false, commit := id })).intend
            (hSlot i) true p.inst) s1
        let at_ (i : Nat) : Nat := (s2.slot i).partPipe
        let ps := (is.map at_).dedup
        let parts : List Part := ps.map (fun q =>
          { id := id, inst := p.inst, pipe := q, event := p.flag 16 6, atomic := p.flag 16 5,
            slots := is.filter (fun i => decide (at_ i = q)), judged := false, dropped := 0 })
        let nx := if id + 1 < 2 ^ 32 then id + 1 else 1
        .done (s2.setBlend { s2.blend with parts := s2.blend.parts ++ parts, nextCommit := nx }) .ok res

/-! ### Hints, banks, floor -/

/-- MOTION_HINT (R344): in force from the pipe's next latch line. -/
def execMotionHint (p : Packet) (s : State) : Host.Outcome State Fault Refusal :=
  packet opMotionHint (s.holdsSlot p) p s fun s =>
    let i := p.target % 256
    let h : Hint :=
      { dx := p.i16 16, dy := p.i16 18, scale := p.i16 20, angle := p.i16 22,
        maxFrames := if p.fld 24 0 4 = 0 then 4 else p.fld 24 0 4 }
    let s' := s.updSlot i (fun t => { t with hintNext := some h })
    checks [(decide (p.length = 12) && decide (p.fld 24 4 28 = 0) &&
        (s.isVideo i || (decide (h.scale = 0) && decide (h.angle = 0))), .badParam),
      (s'.budgetOk, .quota)]
      (.done s' .ok [])

/-- The coefficients of COEF_LOAD: 512 horizontal, then 384 vertical, as half-words (R362). -/
def coefWords (p : Packet) : List Nat := (p.halvesFrom 20).take 896

/-- A half-word is a sign-extended 10-bit value. -/
def coefOk (w : Nat) : Bool := decide (w < 512) || decide (65024 ≤ w)

/-- Every phase sums to 256: `k` taps a phase. -/
def phasesOk (k n : Nat) (cs : List Int) : Bool :=
  (List.range n).all (fun j => decide (((cs.drop (k * j)).take k).sum = 256))

/-- A loaded bank takes effect with the latch line of the pipe that shows the slot, or at once (R362). -/
def execCoefLoad (p : Packet) (s : State) : Host.Outcome State Fault Refusal :=
  packet opCoefLoad (s.holdsSlot p) p s fun s =>
    let i := p.target % 256
    let bank := p.fld 16 0 2
    let cs := (coefWords p).map (signed 16)
    checks [(decide (p.length = 1796) && s.isVideo i && decide (p.fld 16 2 30 = 0) && decide (bank ≠ 0) &&
        (coefWords p).all coefOk && phasesOk 8 64 (cs.take 512) && phasesOk 6 64 (cs.drop 512), .badParam)]
      (.done ((s.updSlot i (fun t =>
        if t.current.enable then { t with banksNext := t.banksNext.set bank cs }
        else { t with banks := t.banks.set bank cs, banksNext := t.banksNext.set bank [] })).intend (hSlot i)
          ((s.slot i).pending) p.inst) .ok [])

/-- ZFLOOR_SET (R321). -/
def execZfloorSet (p : Packet) (s : State) : Host.Outcome State Fault Refusal :=
  packet opZfloorSet true p s fun s =>
    let q := p.target % 256
    let fl := p.u8 16
    let moves := (List.range s.board.member.slots).any (fun i =>
      let t := s.slot i
      t.holder.isSome && ([(t.intended, (s.pipe q).floor), (t.current, (s.pipe q).zfloor)].any (fun (x : LayerState × Nat) =>
        x.1.enable && decide (x.1.pipe = q) && decide (decide (x.2 ≤ x.1.zpos) ≠ decide (fl ≤ x.1.zpos)))))
    checks [(decide (p.target / 256 = 0x0F) && decide (p.length = 4) && decide (p.fld 16 8 24 = 0) && decide (1 ≤ fl), .badParam),
      (!moves, .busy)]
      (.done ((s.updPipe q (fun x => { x with zfloorNext := some fl })).intend (hPipe q) true p.inst) .ok [])

/-! ### What a latch line takes (R327 to R329, R343 to R347, R350) -/

/-- Part of a rectangle within a region: left, top, width, height; width 0 where they do not meet. -/
def overlap (l : LayerState) (r : Region) : Nat × Nat × Nat × Nat :=
  let x0 := max l.dstX r.left
  let y0 := max l.dstY r.top
  let x1 := min (l.dstX + l.dstW) (r.left + r.width)
  let y1 := min (l.dstY + l.dstH) (r.top + r.height)
  if x0 < x1 ∧ y0 < y1 then (x0, y0, x1 - x0, y1 - y0) else (x0, y0, 0, 0)

/-- A layer clipped to a rectangle: the crop moves by the clipped amount times SRC / DST, rounded down, to even pixels where
`even`; a layer with nothing left, or with a ratio outside 1/8 to 8, is disabled (R350). -/
def LayerState.clipTo (l : LayerState) (even : Bool) (r : Nat × Nat × Nat × Nat) : LayerState :=
  let cut (v src dst : Nat) : Nat := if even then v * src / dst / 2 * 2 else v * src / dst
  let (x, y, w, h) := r
  if w = 0 ∨ h = 0 then { l with enable := false }
  else
    let left := cut (x - l.dstX) l.srcW l.dstW
    let right := cut (l.dstX + l.dstW - (x + w)) l.srcW l.dstW
    let top := cut (y - l.dstY) l.srcH l.dstH
    let bottom := cut (l.dstY + l.dstH - (y + h)) l.srcH l.dstH
    let sw := l.srcW - left - right
    let sh := l.srcH - top - bottom
    let ok := decide (1 ≤ sw) && decide (1 ≤ sh) && ratioOk w sw && ratioOk h sh
    { l with
      dstX := x, dstY := y, dstW := w, dstH := h, srcX := l.srcX + left, srcY := l.srcY + top, srcW := max 1 sw,
      srcH := max 1 sh, enable := ok }

/-- The active area of a pipe as a region. -/
def State.activeRegion (s : State) (pipe : Nat) : Region :=
  { unit := pipe, left := 0, top := 0, width := (s.pipe pipe).timing.hact, height := (s.pipe pipe).timing.vact }

/-- A layer of an owner after the clipping of R75, R76 and R350; unchanged while it lies within. -/
def State.clipped (s : State) (n : Nat) (l : LayerState) : LayerState :=
  if !l.enable then l
  else
    let even := match s.surfAny n l.surface with
      | some f => isYuv f.format
      | none => false
    let area := s.activeRegion l.pipe
    let rs := if n = 0 then [area] else s.regionsOn n l.pipe
    let l := if covered rs l.dstX l.dstY l.dstW l.dstH then l
      else
        let best := rs.foldl (fun (b : Nat × Nat × Nat × Nat) r =>
          let o := overlap l r
          if b.2.2.1 * b.2.2.2 < o.2.2.1 * o.2.2.2 then o else b) (0, 0, 0, 0)
        l.clipTo even best
    if l.enable && !covered [area] l.dstX l.dstY l.dstW l.dstH then l.clipTo even (overlap l area) else l

/-- One slot's states clipped at the latch line of a pipe, with LAYER_CLIPPED (R350, R351). A layer that the clipping disables
has no destination: its fields are unused (R140). -/
def State.clipSlot (s : State) (i pipe : Nat) : State :=
  let t := s.slot i
  match t.holder with
  | none => s
  | some n =>
    let a := if t.intended.pipe = pipe then s.clipped n t.intended else t.intended
    let c := if t.current.pipe = pipe then s.clipped n t.current else t.current
    if a = t.intended ∧ c = t.current then s
    else
      let shown := if c = t.current then a else c
      (s.updSlot i (fun t => { t with intended := a, current := c })).raise n 0x40 (hSlot i)
        (detail ([(i, 8), (pipe, 8), (b2n (!shown.enable), 8), (0, 8)] ++
          (if shown.enable then [(shown.dstX, 16), (shown.dstY, 16), (shown.dstW, 16), (shown.dstH, 16)] else [])))

/-- The pipe whose latch line acts on a slot's new state: an enabled current state on another, running pipe leaves it first
(R327); a disabled new state is taken where the layer stands. -/
def State.judgePipe (s : State) (t : Slot) : Nat :=
  if t.current.enable ∧ (t.intended.enable = false ∨ (s.pipe t.current.pipe).generating = true) then t.current.pipe
  else t.intended.pipe

/-- A new state is ready: disabled, or its surface CLOSED (R328). -/
def State.slotReady (s : State) (i : Nat) : Bool :=
  let t := s.slot i
  !t.intended.enable || (match t.holder.bind (fun n => s.surface n t.intended.surface) with
    | some f => !f.isOpen
    | none => false)

/-- The owner of a slot is quiescing, quiesced or frozen: its layers hold still (R64, R68, R343). -/
def State.heldStill (s : State) (i : Nat) : Bool :=
  match (s.slot i).holder with
  | some n => decide ((s.inst n).state = .quiescing) || decide ((s.inst n).state = .quiesced) ||
      decide ((s.inst n).state = .frozen)
  | none => false

/-- The owner is frozen: its waiting states are judged only after the thaw (R330). -/
def State.ownerFrozen (s : State) (i : Nat) : Bool :=
  match (s.slot i).holder with
  | some n => decide ((s.inst n).state = .frozen)
  | none => false

/-- A slot that a part still waits for leaves the old pipe at that pipe's latch line (R327). -/
def State.leaveOld (s : State) (pipe i : Nat) : State :=
  let t := s.slot i
  if t.pending ∧ t.intended.enable = true ∧ t.current.enable = true ∧ t.current.pipe = pipe ∧ t.intended.pipe ≠ pipe ∧
      s.ownerFrozen i = false then
    s.updSlot i (fun t => { t with current := { t.current with enable := false } })
  else s

/-- A slot takes its new state: the entry is AGREED (R319, R327). -/
def State.takeSlot (s : State) (i : Nat) : State :=
  (s.updSlot i (fun t => { t with current := t.intended, pending := false, waiting := false })).settle (hSlot i)

/-- COMMIT_APPLIED (R351), raised by the Blend engine (R140; log 129). -/
def State.commitApplied (s : State) (g : Part) (pipe taken waiting : Nat) : State :=
  if g.event && (decide (taken ≠ 0) || decide (g.dropped ≠ 0)) then
    s.raise g.inst 0x41 hBlend (detail [(g.id, 32), (pipe, 8), (taken, 8), (waiting, 8), (g.dropped, 8)])
  else s

/-- One part judged at a latch line (R328): which slots it takes, and what is left of it. -/
def judgePart (pipe : Nat) (acc : State × List Part × Nat) (g : Part) : State × List Part × Nat :=
  let (s, rest, n) := acc
  let mine := g.slots.filter (fun i => decide ((s.slot i).commit = g.id) && (s.slot i).pending)
  let here := mine.filter (fun i => decide (s.judgePipe (s.slot i) = pipe) && !s.ownerFrozen i)
  if here.isEmpty && decide (g.pipe ≠ pipe) then (s, rest ++ [g], n)
  else
    let ready (i : Nat) : Bool := here.contains i && s.slotReady i
    let take := if g.atomic then (if mine.all ready then mine else []) else here.filter ready
    let wait := here.filter (fun i => !take.contains i)
    let s := take.foldl (fun s i => s.takeSlot i) s
    let s := wait.foldl (fun s i => s.updSlot i (fun t => { t with waiting := true })) s
    let left := mine.filter (fun i => !take.contains i)
    let s := s.commitApplied g pipe take.length left.length
    (s, rest ++ (if left.isEmpty then [] else [{ g with slots := left, judged := true, dropped := 0 }]),
      n + (if take.isEmpty then 0 else 1))

/-- The hint in force of a slot: zero while its owner is quiesced or frozen (R344). -/
def State.hintOf (s : State) (i : Nat) : Hint := if s.heldStill i then .zero else (s.slot i).hint

/-- LAYER_REPROJECTED (R347, R351). -/
def State.reprojected (s : State) (i : Nat) (fin : Bool) : State :=
  let t := s.slot i
  match t.holder with
  | some n =>
    s.raise n 0x42 (hSlot i) (detail [(i, 8), (t.current.pipe, 8), (b2n fin, 8), (0, 8),
      (if s.heldStill i then 0 else t.intended.surface, 32), (t.run, 16), (0, 16), (ofSigned 16 t.accX, 16),
      (ofSigned 16 t.accY, 16)])
  | none => s

/-- After the parts are judged: a shown layer whose new state waits, or whose owner is quiesced or frozen, is re-projected
by one more frame of its hint (R343, R345); any other run ends (R347). `before` tells the layers that were shown before. -/
def State.stepReproject (s : State) (pipe i : Nat) : State :=
  let t := s.slot i
  let h := s.hintOf i
  let here := t.current.enable && decide (t.current.pipe = pipe)
  if here && (t.waiting || s.heldStill i) then
    let adv := decide (t.run < h.maxFrames)
    let s1 := s.updSlot i (fun t => { t with
      run := t.run + 1
      accN := if adv then t.accN + 1 else t.accN
      accX := if adv then t.accX + h.dx else t.accX
      accY := if adv then t.accY + h.dy else t.accY
      accScale := if adv then t.accScale + h.scale else t.accScale
      accAngle := if adv then t.accAngle + h.angle else t.accAngle })
    let s2 := s1.count 13 (512 + i) 1
    if t.run = 0 then s2.reprojected i false else s2
  else if t.run ≠ 0 ∧ (here || !t.current.enable) then
    (s.reprojected i true).updSlot i (fun t =>
      { t with run := 0, accN := 0, accX := 0, accY := 0, accScale := 0, accAngle := 0 })
  else s

/-- Hints and coefficient banks that wait for a latch line of the slot's pipe come into force (R344, R362). -/
def State.latchSlot (s : State) (pipe i : Nat) : State :=
  let t := s.slot i
  if (t.current.enable && decide (t.current.pipe = pipe)) || (!t.current.enable && decide (t.intended.pipe = pipe)) then
    let banks := [1, 2, 3].foldl (fun (b : Tab ([] : List Int)) k =>
      let c := t.banksNext.get k
      if c.isEmpty then b else b.set k c) t.banks
    s.updSlot i (fun t => { t with hint := t.hintNext.getD t.hint, hintNext := none, banks := banks, banksNext := Tab.empty })
  else s

/-- The surface generation that a shown layer is latched with (R234). -/
def State.latchGen (s : State) (pipe i : Nat) : State :=
  let t := s.slot i
  if t.current.enable && decide (t.current.pipe = pipe) then
    match t.holder.bind (fun n => s.surfAny n t.current.surface) with
    | some f => s.updSlot i (fun t => { t with curGen := f.gen })
    | none => s
  else s

/-- The slots of the member. -/
def State.slotList (s : State) : List Nat := List.range s.board.member.slots

/-- The layers that the next frame of a pipe shows, in blending order: by ZPOS, then by slot (R331). -/
def State.frameLayers (s : State) (pipe : Nat) : List FLayer :=
  let on := s.slotList.filter (fun i => (s.slot i).holder.isSome && (s.slot i).current.enable &&
    decide ((s.slot i).current.pipe = pipe))
  (List.range 256).flatMap (fun z => (on.filter (fun i => decide ((s.slot i).current.zpos = z))).map (fun i =>
    let t := s.slot i
    { slot := i, owner := t.holder.getD 0, safety := s.safetyClass t.current, st := t.current, gen := t.curGen,
      coefs := t.banks.get t.current.coefBank, accX := t.accX, accY := t.accY, accScale := t.accScale, accAngle := t.accAngle }))

/-- Everything of the layers that a latch line of a pipe does: hints and banks, slots that leave, the parts, clipping,
re-projection, generations. The commits of which something was taken are counted for FRAME_DONE. -/
def State.latchLayers (s : State) (pipe : Nat) : State :=
  let all := s.slotList
  let s := all.foldl (fun s i => s.latchSlot pipe i) s
  let s := all.foldl (fun s i => if s.judgePipe (s.slot i) = pipe then s.leaveOld pipe i else s) s
  let (s1, parts, n) := s.blend.parts.foldl (judgePart pipe) (s, [], 0)
  let s1 := s1.setBlend { s1.blend with parts := parts }
  let s1 := all.foldl (fun s i => s.clipSlot i pipe) s1
  let s1 := all.foldl (fun s i => s.stepReproject pipe i) s1
  let s1 := all.foldl (fun s i => s.latchGen pipe i) s1
  s1.updPipe pipe (fun q => { q with commitsTaken := n })

/-- The commits of an instance end: their states are discarded, which is no drop of R329 (R330). -/
def State.dropParts (s : State) (n : Nat) : State :=
  s.setBlend { s.blend with parts := s.blend.parts.filter (fun g => decide (g.inst ≠ n)) }

/-- A quiesce discards the waiting states of an instance: intended becomes current, the generation advances (R330). -/
def State.dropWaiting (s : State) (n : Nat) : State :=
  (s.slotsOf n).foldl (fun (s : State) i =>
    let t := s.slot i
    if t.pending then
      (s.updSlot i (fun t => { t with intended := t.current, pending := false, waiting := false })).intend (hSlot i) false n
    else s) (s.dropParts n)

/-- INST_RESET: the staged, intended and current states of every slot are emptied, hints are zero, banks bilinear (R330,
R344, R361). -/
def State.emptySlots (s : State) (n : Nat) : State :=
  (s.slotsOf n).foldl (fun (s : State) i =>
    let had := (s.slot i).intended.enable || (s.slot i).current.enable
    let s := s.updSlot i (fun t => { t with
      staged := .empty, intended := .empty, current := .empty, pending := false, waiting := false, hint := .zero,
      hintNext := none, run := 0, accN := 0, accX := 0, accY := 0, accScale := 0, accAngle := 0, banks := Tab.empty,
      banksNext := Tab.empty })
    if had then s.intend (hSlot i) false 0 else s) (s.dropParts n)

/-- A slot changes holder: it is empty, its banks bilinear, ESCALATE 3 (R361, R509). -/
def State.giveSlot (s : State) (i : Nat) (h : Option Nat) : State :=
  s.updSlot i (fun _ => { Slot.reset with holder := h })

end Sys2Proof.Machine
end

