-- ==== Sys2Proof/Machine/Compose.lean ====
section
/-!
DEFINITION. How a pixel is made (11 R331 to R335, 12 R352 to R368, 07 R225 to R229): fetch and seal check, codes, YUV,
scaling, transfer functions, blend, tone curve, sun stage, output encoding, panel LUT.
-/

namespace Sys2Proof.Machine

open Sys2Proof

/-- A 16-bit value within `d` of `v`, by a free value. -/
def within (d v e : Nat) : Nat := min 65535 ((v + e % (2 * d + 1)) - d)

/-! ### Source positions (R345, R346, R359) -/

/-- A layer is shown unscaled and in place: footprint of a tile is its own pixels (R334). -/
def FLayer.unscaled (l : FLayer) : Bool :=
  decide (l.st.srcW = l.st.dstW) && decide (l.st.srcH = l.st.dstH) && decide (l.accX = 0) && decide (l.accY = 0) &&
    decide (l.accScale = 0) && decide (l.accAngle = 0)

/-- The pixel that a graphic layer shows at an output pixel (R345). -/
def FLayer.graphicAt (l : FLayer) (x y : Nat) : Nat × Nat :=
  let t := l.st
  ((clampI t.srcX (t.srcX + t.srcW - 1) ((x : Int) - t.dstX + t.srcX - l.accX)).toNat,
   (clampI t.srcY (t.srcY + t.srcH - 1) ((y : Int) - t.dstY + t.srcY - l.accY)).toNat)

/-- pos of R359 on one axis for destination index `u`, with `S` to `D` and the accumulated translation `off` (1/16 pixel)
and scale change: exact without re-projection, the inverse-transformed position else (R346). -/
def scalePos (S D u : Nat) (off scale : Int) : Int :=
  let inc : Int := (S * 2 ^ 20 / D : Nat)
  if off = 0 ∧ scale = 0 then u * inc + inc / 2 - 2 ^ 19
  else
    let sg := clampI 32768 131072 (65536 + scale)
    let sg := clampI ((65536 * S + 8 * D - 1) / (8 * D) : Nat) (8 * 65536 * S / D : Nat) sg
    -- twice the offset from the centre, in 1/16 pixel
    let c := 2 * (16 * (u : Int) + 8 - off) - 16 * D
    (16 * D * sg + c * 65536) * inc / (32 * sg) - 2 ^ 19

/-- The first tap's sample index plus 3 (or 2), and the phase, of a position (R359). -/
def phaseOf (pos : Int) : Int × Nat :=
  let i := pos / 2 ^ 20
  let p := ((pos % 2 ^ 20 + 2 ^ 13) / 2 ^ 14).toNat
  if p = 64 then (i + 1, 0) else (i, p)

/-- Positions of an output pixel of a video layer on both axes. -/
def FLayer.posAt (l : FLayer) (x y : Nat) : Int × Int :=
  let t := l.st
  if l.accAngle = 0 then
    (scalePos t.srcW t.dstW (x - t.dstX) l.accX l.accScale, scalePos t.srcH t.dstH (y - t.dstY) l.accY l.accScale)
  else
    let ins : List Int := [t.srcW, t.srcH, t.dstW, t.dstH, ((x - t.dstX : Nat) : Int), ((y - t.dstY : Nat) : Int), l.accX, l.accY, l.accScale, l.accAngle]
    (clampI 0 (((t.srcW - 1) * 2 ^ 20 : Nat) : Int) (Config.rotated 0 ins), clampI 0 (((t.srcH - 1) * 2 ^ 20 : Nat) : Int) (Config.rotated 1 ins))

/-- The source columns (or rows) of the taps: `k` taps, the first `k/2 - 1` before the position, clamped to the crop. -/
def tapsAt (k : Nat) (lo n : Nat) (i : Int) : List Nat :=
  (List.range k).map (fun t => lo + (clampI 0 ((n : Int) - 1) (i - ((k / 2 : Nat) - 1 : Int) + t)).toNat)

/-! ### Coefficients (R361) -/

/-- Bank 0's weights of one phase: `k` taps for the ratio D / S. -/
def bank0 (k S D p : Nat) : List Int :=
  let a := k / 2
  let f := if D < S then fxOf D S else fxOne
  let w (t : Nat) : Int :=
    let z64 := ((t : Int) - (a - 1 : Nat)) * 64 - p
    let x := f * z64.natAbs / 64
    if a * fxOne ≤ x then 0 else fxSinc x * fxSinc (x / a) / fxOne
  let ws := (List.range k).map w
  let sum := ws.sum
  let cs := ws.map (fun v => if sum = 0 then 0 else (512 * v + sum) / (2 * sum))
  let near := if p < 32 then a - 1 else a
  cs.set near (cs.getD near 0 + (256 - cs.sum))

/-- The bilinear set of banks 1 to 3 before a load. -/
def bilinear (k p : Nat) : List Int :=
  (List.range k).map (fun t => if t = k / 2 - 1 then 256 - 4 * (p : Int) else if t = k / 2 then 4 * (p : Int) else 0)

/-- The coefficients of a layer for a phase of the horizontal (8 taps) or the vertical (6 taps) pass. -/
def FLayer.coef (l : FLayer) (vert : Bool) (p : Nat) : List Int :=
  let k := if vert then 6 else 8
  if l.st.coefBank = 0 then
    (if vert then bank0 k l.st.srcH l.st.dstH p else bank0 k l.st.srcW l.st.dstW p)
  else if l.coefs.isEmpty then bilinear k p
  else ((l.coefs.drop (if vert then 512 + 6 * p else 8 * p))).take k

/-! ### Codes (R353 to R355, R332) -/

/-- Bit replication of an n-bit component to 16 bits (n at least 5; R353). -/
def widen (n v : Nat) : Nat := (v * 2 ^ (16 - n) + v * 2 ^ (16 - n) / 2 ^ n + v * 2 ^ (16 - n) / 2 ^ (2 * n) + v * 2 ^ (16 - n) / 2 ^ (3 * n)) % 65536

/-- R, G, B codes, and alpha with its maximum, of a packed pixel value. -/
def unpackPixel (format v : Nat) : List Nat × Nat × Nat :=
  match format with
  | 0 => ([widen 5 (bitsOf v 11 5), widen 6 (bitsOf v 5 6), widen 5 (bitsOf v 0 5)], 1, 1)
  | 1 => ([widen 8 (bitsOf v 16 8), widen 8 (bitsOf v 8 8), widen 8 (bitsOf v 0 8)], 1, 1)
  | 2 => ([widen 8 (bitsOf v 16 8), widen 8 (bitsOf v 8 8), widen 8 (bitsOf v 0 8)], bitsOf v 24 8, 255)
  | 4 => ([widen 10 (bitsOf v 20 10), widen 10 (bitsOf v 10 10), widen 10 (bitsOf v 0 10)], bitsOf v 30 2, 3)
  | _ => ([widen 8 (bitsOf v 16 8), widen 8 (bitsOf v 8 8), widen 8 (bitsOf v 0 8)], 1, 1)

/-- a16 (R332). -/
def alpha16 (mode a amax : Nat) : Nat := if mode = 2 then 65535 else a * (65535 / amax)

/-- Division by alpha of ALPHA_MODE 1 (R332, on 16-bit codes by the order of R352). -/
def unmultiply (a amax c : Nat) : Nat := if a = 0 then 0 else min 65535 ((c * amax + a / 2) / a)

/-- What stands in a layer's surface at an offset of its storage: the tile as fetched for the band, else memory. -/
def fetchNat (read : Nat → Nat → List Byte) (off n : Nat) : Nat := leNat (read off n)

/-- A chroma sample of pair `i`, row `j`: `c` is 0 for Cb and 1 for Cr, in its N bits. -/
def chromaAt (read : Nat → Nat → List Byte) (f : Surface) (c i j : Nat) : Nat :=
  let b := f.format - 4
  let v := fetchNat read (chromaOffset f.format f.tw (2 * i) (2 * j) + c * b) b
  if b = 2 then v / 64 else v

/-- Up-sampled chroma at a pixel, clamped to the crop (R354). -/
def chromaUp (read : Nat → Nat → List Byte) (f : Surface) (l : LayerState) (c x y : Nat) : Nat :=
  let row (j : Int) : Nat := (clampI (l.srcY / 2 : Nat) ((l.srcY + l.srcH) / 2 - 1 : Nat) j).toNat
  let pair (i : Int) : Nat := (clampI (l.srcX / 2 : Nat) ((l.srcX + l.srcW) / 2 - 1 : Nat) i).toNat
  let j : Int := (y / 2 : Nat)
  let vert (i : Nat) : Nat :=
    (3 * chromaAt read f c i (row j) + chromaAt read f c i (row (if y % 2 = 0 then j - 1 else j + 1)) + 2) / 4
  if x % 2 = 0 then vert (pair (x / 2 : Nat))
  else (vert (pair ((x - 1) / 2 : Nat)) + vert (pair ((x + 1) / 2 : Nat)) + 1) / 2

/-- Kr and Kb in 1/10,000 (R355). -/
def kr : Nat → Int
  | 1 => 2990
  | 2 => 2126
  | _ => 2627
def kb : Nat → Int
  | 1 => 1140
  | 2 => 722
  | _ => 593

/-- A fraction of 1 as a 16-bit code: clamped to 0 to 1, rounded. -/
def codeOf (num den : Int) : Nat := (clampI 0 65535 ((2 * 65535 * num + den) / (2 * den))).toNat

/-- R'G'B' codes of a YUV sample (R355). -/
def yuvCodes (n : Nat) (full : Bool) (matrix : Nat) (y cb cr : Nat) : List Nat :=
  let sc : Int := 2 ^ (n - 8)
  let mx : Int := 2 ^ n - 1
  let yn : Int := if full then y else y - 16 * sc
  let yd : Int := if full then mx else 219 * sc
  let cd : Int := if full then mx else 224 * sc
  let off : Int := 2 ^ (n - 1)
  let yNum := yn * cd * 10000
  let r := yNum + 2 * (10000 - kr matrix) * ((cr : Int) - off) * yd
  let b := yNum + 2 * (10000 - kb matrix) * ((cb : Int) - off) * yd
  let den := yd * cd * 10000
  let g := 10000 * yNum - kr matrix * r - kb matrix * b
  [codeOf r den, codeOf g (den * (10000 - kr matrix - kb matrix)), codeOf b den]

/-- R, G, B and alpha codes of a source pixel, after steps 2 to 5 of R352. -/
def pixelCodes (read : Nat → Nat → List Byte) (f : Surface) (l : LayerState) (x y : Nat) : List Nat :=
  if isYuv f.format then
    let b := f.format - 4
    let v := fetchNat read (lumaOffset f.format f.tw x y) b
    yuvCodes (if b = 2 then 10 else 8) l.fullRange l.matrix (if b = 2 then v / 64 else v)
      (chromaUp read f l 0 x y) (chromaUp read f l 1 x y) ++ [65535]
  else
    let (cs, a, amax) := unpackPixel f.format
      (fetchNat read (pixelOffset f.format f.tw x y) (bytesPerPixel f.format))
    let cs := if l.alphaMode = 1 then cs.map (unmultiply a amax) else cs
    cs ++ [alpha16 l.alphaMode a amax]

/-! ### Scaling (R359, R360) -/

/-- One filtered value: (sum + 128) >> 8, clamped. -/
def filterTaps (cs : List Int) (vs : List Nat) : Nat :=
  (clampI 0 65535 ((((cs.zip vs).map (fun x => x.1 * (x.2 : Int))).sum + 128) / 256)).toNat

/-- R, G, B and alpha of a video layer at an output pixel: the horizontal pass on six rows, then the vertical pass. -/
def FLayer.scaled (l : FLayer) (read : Nat → Nat → List Byte) (f : Surface) (x y : Nat) : List Nat :=
  let (px, py) := l.posAt x y
  let (i, p) := phaseOf px
  let (j, q) := phaseOf py
  let cols := tapsAt 8 l.st.srcX l.st.srcW i
  let rows := tapsAt 6 l.st.srcY l.st.srcH j
  let hc := l.coef false p
  let vc := l.coef true q
  let lines := rows.map (fun r =>
    let pix := cols.map (fun c => pixelCodes read f l.st c r)
    (List.range 4).map (fun k => filterTaps hc (pix.map (fun v => v.getD k 0))))
  (List.range 4).map (fun k => filterTaps vc (lines.map (fun v => v.getD k 0)))

/-! ### Levels (R356 to R358) -/

/-- Light levels in cd/m2 of R, G, B codes. -/
def lightOf (eotf white : Nat) (cs : List Nat) : List Nat :=
  let v := cs.map (fun c => fxOf c 65535)
  match eotf with
  | 0 => v.map (fun x => srgbToLinear x * white)
  | 1 => v.map (fun x => bt1886ToLinear x * white)
  | 2 => v.map pqToLevel
  | 3 =>
    let e := v.map hlgInverseOetf
    let y := hlgLuma (e.getD 0 0) (e.getD 1 0) (e.getD 2 0)
    e.map (hlgOotf y)
  | _ => v.map (fun x => x * white)

/-- The matrices of BT.2087 and its inverse in 1/10,000 (PRESUMED, log 64). -/
def toWide : List (List Int) := [[6274, 3293, 433], [691, 9195, 114], [164, 880, 8956]]
def toNarrow : List (List Int) := [[16605, -5876, -728], [-1246, 11329, -83], [-182, -1006, 11187]]

/-- Conversion of primaries; negative components become 0 (R357). -/
def convertPrimaries (wide pipeWide : Bool) (cs : List Nat) : List Nat :=
  if wide == pipeWide then cs
  else (if pipeWide then toWide else toNarrow).map (fun row =>
    ((((row.zip cs).map (fun x => x.1 * (x.2 : Int))).sum) / 10000).toNat)

/-- Cl of R, G, B codes of a layer: within 2 of the exact value (R358). -/
def linearColour (t : Tone) (eotf matrix : Nat) (cs : List Nat) : List Nat :=
  let wide := decide (matrix = 3) || decide (eotf = 2) || decide (eotf = 3)
  let ls := convertPrimaries wide (decide (t.primaries = 1)) (lightOf eotf t.sdrWhite cs)
  (ls.zip (List.range 3)).map (fun x =>
    within 2 (fxRound (min fxOne (x.1 / t.blendPeak) * 65535))
      (Config.deviceError x.2 ([t.sdrWhite, t.blendPeak, t.primaries, eotf, matrix] ++ cs)))

/-- A colour given as ARGB8888 in sRGB: Cl and a16 (R334). -/
def argbColour (t : Tone) (v : Nat) : List Nat × Nat :=
  (linearColour t 0 0 [widen 8 (bitsOf v 16 8), widen 8 (bitsOf v 8 8), widen 8 (bitsOf v 0 8)], bitsOf v 24 8 * 257)

/-! ### Blend (R331, R333) -/

/-- A of R333. -/
def blendAlpha (a16 la : Nat) : Nat := (a16 * (la * 64 + la / 16) + 32767) / 65535

/-- One component blended over the running result. -/
def blendOne (cl a acc : Nat) : Nat := min 65535 ((cl * a + 32767) / 65535 + (acc * (65535 - a) + 32767) / 65535)

/-- The running result of a pixel: the three components, and whether some safety-class layer contributed (R372). -/
def blendPixel (acc : List Nat × Bool) (cl : List Nat) (a : Nat) (safety : Bool) : List Nat × Bool :=
  ((cl.zip acc.1).map (fun x => blendOne x.1 a x.2), acc.2 || (safety && decide (0 < a)))

/-! ### Tone curve, sun stage, output (R363 to R368, R372) -/

/-- Point `i` of the default curve (R364). -/
def defaultCurve (t : Tone) (i : Nat) : Nat :=
  -- u = (i / 1023)^2 * blendPeak / panelPeak as a fraction
  let un := i * i * t.blendPeak
  let ud := 1023 * 1023 * t.panelPeak
  let (gn, gd) :=
    if t.blendPeak ≤ t.panelPeak ∨ 4 * un ≤ 3 * ud then (un, ud)
    else
      -- 3/4 + (u - 3/4) / (4 (u - 1/2)) with u = un / ud
      (3 * (2 * un - ud) * 2 + (4 * un - 3 * ud), 8 * (2 * un - ud))
  (2 * 65535 * gn + gd) / (2 * gd)

/-- Point `i` of the curve in force. -/
def Tone.point (t : Tone) (i : Nat) : Nat := if t.curve.isEmpty then defaultCurve t i else t.curve.getD i 0

/-- y of the tone curve: within 1 of the exact value (R364). -/
def toneCurve (t : Tone) (x : Nat) : Nat :=
  let r := Nat.sqrt (1023 * 1023 * x * 2 ^ 64 / 65535)
  let i := min (r / 2 ^ 32) 1022
  let f : Nat := r - i * 2 ^ 32
  let a : Int := t.point i
  let b : Int := t.point (i + 1)
  let y := (2 * (a * 2 ^ 32 + f * (b - a)) + 2 ^ 32) / 2 ^ 33
  within 1 y.toNat (Config.deviceError 3 ([t.blendPeak, t.panelPeak, x] ++ t.curve))

/-- The sun stage on R, G, B: within 2 of the exact value (R368). -/
def sunStage (ctl : Nat) (ys : List Nat) : List Nat :=
  let bend := if ctl < 16384 then 0 else fxOf (ctl - 16384) 49151
  let dim := if ctl < 16384 then fxOne / 10 + fxOf (9 * ctl) 163840 else fxOne
  let warm := if ctl < 16384 then fxOne - fxOf ctl 16384 else 0
  let gain (k : Nat) : Nat := fxMul dim (fxOne - warm * (if k = 0 then 0 else if k = 1 then 3 else 7) / 10)
  (ys.zip (List.range 3)).map (fun x =>
    let v := fxOf x.1 65535
    let w := fxMul (gain x.2) (v + fxMul bend (fxSqrt v - v) / 2)
    within 2 (fxRound (min fxOne w * 65535)) (Config.deviceError (4 + x.2) (ctl :: ys)))

/-- Output encoding of R, G, B relative to PANEL_PEAK (R365). -/
def encodeOut (t : Tone) (vs : List Nat) : List Nat :=
  let v := vs.map (fun c => fxOf c 65535)
  let e := match t.outEotf with
    | 0 => v.map linearToSrgb
    | 1 => v.map linearToBt1886
    | 2 => v.map (fun x => levelToPq (x * t.panelPeak))
    | _ =>
      let y := hlgLuma (v.getD 0 0) (v.getD 1 0) (v.getD 2 0)
      v.map (fun x => hlgOetf (hlgInverseOotf y x))
  e.map (fun x => min 65535 (fxRound (min fxOne x * 65535)))

/-- The code of node `k` of the panel LUT (R366). -/
def lutNode (k : Nat) : Nat := min 65535 (4096 * k)

/-- Component `c` (0 blue, 1 green, 2 red) of an entry; an empty table is the identity. -/
def lutEntry (lut : List Nat) (r g b c : Nat) : Nat :=
  if lut.isEmpty then
    let k := if c = 2 then r else if c = 1 then g else b
    (2 * 1023 * lutNode k + 65535) / (2 * 65535)
  else bitsOf (lut.getD ((17 * r + g) * 17 + b) 0) (10 * c) 10

/-- The word of the panel LUT for (E_R, E_G, E_B): tetrahedral interpolation, within 1 of exact (R366). -/
def panelWord (lut : List Nat) (es : List Nat) : Nat :=
  let cell := es.map (fun e => min 15 (e / 4096))
  -- fractions over 4096 * 4095
  let frac := (es.zip cell).map (fun x => (x.1 - 4096 * x.2) * (if x.2 = 15 then 4096 else 4095))
  let d := 4096 * 4095
  let axes := sortBy (fun i j => decide (frac.getD j 0 ≤ frac.getD i 0)) [0, 1, 2]
  let f (i : Nat) : Nat := frac.getD (axes.getD i 0) 0
  let corner (n : Nat) : List Nat :=
    (List.range 3).map (fun a => cell.getD a 0 + (if (axes.take n).contains a then 1 else 0))
  let value (n c : Nat) : Nat := lutEntry lut ((corner n).getD 0 0) ((corner n).getD 1 0) ((corner n).getD 2 0) c
  let out (c : Nat) : Nat :=
    let v := value 0 c * (d - f 0) + value 1 c * (f 0 - f 1) + value 2 c * (f 1 - f 2) + value 3 c * f 2
    min 1023 (within 1 ((2 * v + d) / (2 * d)) (Config.deviceError (7 + c) (es ++ lut)))
  pack [(out 0, 10), (out 1, 10), (out 2, 10), (0, 2)]

/-- The output word of a blended pixel under a frame's settings (R352 steps 11 to 14, R372). -/
def FrameSet.output (set : FrameSet) (acc : List Nat × Bool) : Nat :=
  let t := set.tone.getD .reset
  let ctl := if acc.2 then clampN set.guard 40960 set.sun else set.sun
  panelWord set.lut (encodeOut t (sunStage ctl (acc.1.map (toneCurve t))))

end Sys2Proof.Machine
end

