-- ==== Sys2Proof/Machine/Colour.lean ====
section
/-!
DEFINITION. The colour stages (12 R363 to R372): TONE_SET, PANEL_LUT_SET, the sun-mode loop and the safety colour guard, and
what a latch line takes of them.
-/

namespace Sys2Proof.Machine

open Sys2Proof

def opToneSet : Op := { code := 0x4011, mark := .m }
def opPanelLutSet : Op := { code := 0x4012, mark := .m }

/-- One colour stage, and its change. -/
def State.stage (s : State) (k : Nat) : Colour := s.colour.get k
def State.updStage (s : State) (k : Nat) (f : Colour → Colour) : State := s.setColour (s.colour.upd k f)

/-- The payload of TONE_SET. -/
def toneOf (p : Packet) : Tone :=
  let dflt (v d : Nat) : Nat := if v = 0 then d else v
  { outEotf := p.fld 16 0 4, primaries := p.fld 16 4 2,
    curve := if p.flag 16 6 then (p.halvesFrom 36).take 1024 else [],
    sdrWhite := dflt (p.u16 20) 203, blendPeak := dflt (p.u16 22) 203, panelPeak := dflt (p.u16 24) 203,
    rate := dflt (p.u16 26) 1024, alsBus := p.fld 28 0 2, alsEn := p.flag 28 2, alsAddr := p.fld 28 4 7,
    alsReg := p.fld 28 16 8, luxScale := p.u16 32 }

/-- TONE_SET (R363): in force from the pipe's next latch line. -/
def execToneSet (p : Packet) (s : State) : Host.Outcome State Fault Refusal :=
  packet opToneSet true p s fun s =>
    let t := toneOf p
    let within_ (v lo hi : Nat) : Bool := decide (lo ≤ v) && decide (v ≤ hi)
    checks [(decide (p.target / 256 = 0x0E) && decide (p.length = if p.flag 16 6 then 2068 else 20) &&
        decide (p.fld 16 7 25 = 0) && decide (p.fld 28 3 1 = 0) && decide (p.fld 28 11 5 = 0) && decide (p.fld 28 24 8 = 0) &&
        decide (p.u16 34 = 0) && decide (t.outEotf ≤ 3) && decide (t.primaries ≤ 1) && within_ t.sdrWhite 80 1000 &&
        within_ t.blendPeak 80 10000 && within_ t.panelPeak 80 10000 && decide (1 ≤ t.luxScale), .badParam)]
      (.done ((s.updStage (p.target % 256) (fun c => { c with toneNext := some t })).intend p.target true p.inst) .ok [])

/-- PANEL_LUT_SET (R367): the table read from the manager's memory, or the identity; the reply follows the latch line. -/
def execPanelLutSet (p : Packet) (s : State) : Host.Outcome State Fault Refusal :=
  packet opPanelLutSet true p s fun s =>
    let ident := p.flag 24 0
    let k := p.target % 256
    let words := if ident then [] else (bytesWords (s.hostBytes s.board.mgrPortInForce (p.u64 16) 19652)).map BitVec.toNat
    checks [(decide (p.target / 256 = 0x0E) && decide (p.length = 12) && decide (p.fld 24 1 31 = 0) &&
        (ident || (decide (p.u64 16 % 64 = 0) && s.busMaster 0)), .badParam),
      (words.all (fun w => decide (w < 2 ^ 30)), .badParam)]
      (.owe (((s.updStage k (fun c => { c with
        lutNext := some words, lutWaiting := c.lutWaiting ++ [{ opcode := opPanelLutSet.code, p := p }] })).intend
          p.target true p.inst).tickFree))

/-! ### Sun mode and the colour guard (R369 to R372) -/

/-- The median of the last readings. -/
def median (rs : List Nat) : Nat := (sortBy (fun a b => decide (a ≤ b)) rs).getD (rs.length / 2) 0

/-- s* for a reading: from lux = reading * LUX_SCALE / 256 (R369). -/
def sunTarget (scale r : Nat) : Nat :=
  let num := r * scale
  -- lux = num / 256
  if num < 256 * 1000 then 16384
  else 16384 + min 49151 (fxRound (49151 * ((fxLog10 num 256 - 3 * fxOne) / 2)))

/-- `a` moved toward `b` by at most `r`. -/
def moveBy (a b r : Nat) : Nat := if a < b then min b (a + r) else max b (a - r)

/-- SUN_LOOP_STEP: every 100 ms; the operand is the sensor's reading, or none for a failed read (R369, R371). -/
def execSunLoopStep (k : Nat) (reading : Option Nat) (s : State) : Host.Outcome State Fault Refusal :=
  let h := hColour k
  onUnit s h
    (let c := s.stage k
     let on := c.tone.alsEn
     let rs := match on, reading with
       | true, some r => (c.readings ++ [r % 65536]).drop ((c.readings.length + 1) - 5)
       | true, none => c.readings
       | false, _ => []
     let failed := match on, reading with
       | true, none => c.failedReads + 1
       | _, _ => 0
     let s := s.updStage k (fun c => { c with readings := rs, failedReads := min failed 3 })
     let s := if failed = 3 then s.setFact h 1
       else if failed = 0 ∧ (s.entry h).agree = .contradicted ∧ (s.entry h).fact = 1 then (s.clearFact h).settle h else s
     match s.loop h 0 with
     | none => s
     | some l =>
       let target := if 3 ≤ failed then l.out else if on && !rs.isEmpty then sunTarget c.tone.luxScale (median rs) else 16384
       let out := l.wanted (moveBy l.out target c.tone.rate)
       s.putLoop h 0 { l with out := out, target := target })

/-- COLOUR_GUARD_STEP: the target is 8,192; bounds and pins below it are left, OVERRIDDEN (R372, R35). -/
def execColourGuardStep (k : Nat) (s : State) : Host.Outcome State Fault Refusal :=
  let h := hColour k
  onUnit s h (match s.loop h 1 with
    | some l => s.stepLoop h 1 8192 (if l.wanted 8192 < 8192 then some 8192 else none)
    | none => s)

/-- What a latch line takes of a stage: tone settings, LUT with its replies, s and G within their bounds (R363, R367, R369,
R372, R382). -/
def State.latchColour (s : State) (k : Nat) : State :=
  let h := hColour k
  let c := s.stage k
  let bounded (i : Nat) : Nat := match s.loop h i with
    | some l => clampN l.low l.high l.out
    | none => 0
  let changes := c.toneNext.isSome || c.lutNext.isSome
  let s := s.updStage k (fun c => { c with
    tone := c.toneNext.getD c.tone, toneNext := none, lut := c.lutNext.getD c.lut, lutNext := none, lutWaiting := [],
    sInForce := bounded 0, gInForce := max 8192 (bounded 1) })
  let s := if changes then s.settle h else s
  c.lutWaiting.foldl (fun s o => s.finish o .ok []) s

end Sys2Proof.Machine
end

