-- ==== Sys2Proof/Machine/Audio.lean ====
section
/-!
DEFINITION. Audio routing and mixing (17): streams and buffer tokens, TDM ports and clocks, routing, gains by ramp and
at zero crossings, alarm sources and their floor, limiters, low-latency paths, and the arithmetic of a sample. The
packets of the tone generator are in Secure.lean, since Cupper computes its voices.
-/

namespace Sys2Proof.Machine

open Sys2Proof

def opStreamOpen : Op := { code := 0x8001, mark := .g }
def opStreamBuffers : Op := { code := 0x8002, mark := .g }
def opStreamClose : Op := { code := 0x8003, mark := .g }
def opGainSet : Op := { code := 0x8004, mark := .g }
def opMixRoute : Op := { code := 0x8010, mark := .m }
def opTdmConfig : Op := { code := 0x8011, mark := .m }
def opLowlatSet : Op := { code := 0x8012, mark := .m }
def opAlarmSourceSet : Op := { code := 0x8013, mark := .sfty }

/-! ### Arithmetic (R487) -/

/-- Division rounded to nearest, ties to even. -/
def roundHalfEven (v : Int) (d : Nat) : Int :=
  let q := v / d
  let r := v % d
  if 2 * r < d then q else if (d : Int) < 2 * r then q + 1 else if q % 2 = 0 then q else q + 1

/-- An input sample brought to 24-bit full scale: formats of R475. -/
def convertIn : Nat → Int → Int
  | 0, v => v * 256
  | 3, v => roundHalfEven v 256
  | _, v => v

/-- The mixer's sum saturates at ±(2^31 − 1). -/
def mixSum (xs : List Int) : Int := clampI (-(2 ^ 31 - 1)) (2 ^ 31 - 1) xs.sum

/-- An output saturates at ±(2^23 − 1); a sample beyond that is clipped. -/
def clips (v : Int) : Bool := decide (v < -(2 ^ 23 - 1)) || decide (2 ^ 23 - 1 < v)
def saturate (v : Int) : Int := clampI (-(2 ^ 23 - 1)) (2 ^ 23 - 1) v

/-- An output sample in a format of fewer bits. -/
def convertOut : Nat → Int → Int
  | 0, v => roundHalfEven (saturate v) 256
  | 3, v => saturate v * 256
  | _, v => saturate v

/-! ### Streams (R473 to R479) -/

/-- One stream, and its change. -/
def State.astream (s : State) (k : Nat) : AStream := s.audio.stream.get k
def State.updStream (s : State) (k : Nat) (f : AStream → AStream) : State :=
  s.setAudio { s.audio with stream := s.audio.stream.upd k f }

/-- The holder of a stream: the guest whose mask names it, else the manager (R473). -/
def State.streamHolder (s : State) (k : Nat) : Nat := (s.guests.find? (fun n => bitOf (s.inst n).streams k)).getD 0

/-- Buffer tokens that an instance holds. -/
def State.tokensHeld (s : State) (n : Nat) : Nat :=
  ((List.range 32).map (fun k => if s.streamHolder k = n then (s.astream k).bufs.length else 0)).sum

/-- The rates of each domain (R471). -/
def audaRates : List Nat := [8000, 12000, 16000, 24000, 32000, 48000, 96000, 192000]
def audbRates : List Nat := [11025, 22050, 44100, 88200, 176400]

/-- The domain of a stream's rate. -/
def rateDomain (r : Nat) : Option Nat := if audaRates.contains r then some 0 else if audbRates.contains r then some 1 else none

/-- The mixer's rate (R471, R472). -/
def Audio.mixRate (a : Audio) : Nat := if a.mixDomain = 0 then 48000 else if a.mixDomain = 1 then 44100 else a.xrate

/-- Bytes of a sample of a format, and of a frame (R475). -/
def sampleBytes : Nat → Nat
  | 0 => 2
  | 1 => 3
  | _ => 4
def AStream.frameBytes (t : AStream) : Nat := sampleBytes t.format * t.channels

/-- STREAM_OPEN (R475). -/
def execStreamOpen (p : Packet) (s : State) : Host.Outcome State Fault Refusal :=
  packet opStreamOpen true p s fun s =>
    let k := p.fld 16 0 5
    let ch := p.fld 17 0 4
    let rate := p.u32 20
    let t := s.astream k
    checks [(decide (p.target = hAudio) && decide (p.length = 8) && decide (1 ≤ ch) && decide (ch ≤ 8) &&
          decide (p.fld 17 4 4 = 0) && decide (p.u16 18 = 0) && (rateDomain rate).isSome, .badParam),
        (decide (s.streamHolder k = p.inst), .denied), (!t.isOpen && !t.closing, .busy)]
      (let s := s.updStream k (fun _ => { AStream.reset with
         isOpen := true, capture := p.flag 16 5, format := p.fld 16 6 2, channels := ch, rate := rate })
       .done s .ok [w32 ((rateDomain rate).getD 0), w32 (Config.latencyUs rate s.audio.mixDomain s.audio.mixRate)])

/-- Entry `k` of STREAM_BUFFERS. -/
def bufEntry (p : Packet) (k : Nat) : ABuf := { addr := p.u64 (28 + 16 * k), bytes := p.u32 (36 + 16 * k) }

/-- STREAM_BUFFERS (R476). A stream that is not open is answered ST_BAD_PARAM (log 50). -/
def execStreamBuffers (p : Packet) (s : State) : Host.Outcome State Fault Refusal :=
  packet opStreamBuffers true p s fun s =>
    let k := p.fld 16 0 5
    let n := p.u8 17
    let t := s.astream k
    let at_ := p.flag 18 0
    let es := (List.range n).map (bufEntry p)
    checks [(decide (p.target = hAudio) && decide (p.length = 12 + 16 * n) && decide (1 ≤ n) && decide (n ≤ 32) &&
          decide (p.fld 16 5 3 = 0) && decide (p.fld 18 1 15 = 0) &&
          es.all (fun e => decide (e.addr % 4 = 0) && decide (e.bytes ≠ 0) && decide (e.bytes % t.frameBytes = 0)) &&
          (List.range n).all (fun j => decide (p.u32 (40 + 16 * j) = 0)) && s.busMaster p.inst, .badParam),
        (decide (s.streamHolder k = p.inst), .denied), (t.isOpen, .badParam),
        (decide (s.tokensHeld p.inst + n ≤ (s.inst p.inst).tokens), .quota), (decide (t.bufs.length + n ≤ 64), .busy)]
      (.done (s.updStream k (fun t =>
         let starts := t.bufs.isEmpty && !t.started
         { t with
           bufs := t.bufs ++ es
           started := t.started || (starts && (!at_ || decide (p.u64 20 ≤ s.devTime)))
           startAt := if starts && at_ && decide (s.devTime < p.u64 20) then some (p.u64 20) else t.startAt })) .ok [])

/-- BUFFER_DONE (R496) to the holder. -/
def State.bufferEvent (s : State) (k : Nat) (b : ABuf) (cancelled : Bool) (queued frames : Nat) : State :=
  s.raise (s.streamHolder k) 0x80 hAudio
    (detail [(k, 5), (b2n cancelled, 3), (queued, 8), (0, 16), (b.addr, 64), (frames, 32)])

/-- STREAM_START (R476): START_TIME has come. -/
def execStreamStart (k : Nat) (s : State) : Host.Outcome State Fault Refusal :=
  onUnit s hAudio (if (s.astream k).startAt.isSome then
    s.updStream k (fun t => { t with started := true, startAt := none }) else s)

/-- BUFFER_DONE (R477): the first buffer of a started stream has been read, or written and made visible. -/
def execBufferDone (k : Nat) (s : State) : Host.Outcome State Fault Refusal :=
  onUnit s hAudio (
    let t := s.astream k
    match t.bufs with
    | [] => s
    | b :: bs =>
      if t.started && !t.paused then
        let frames := b.bytes / max 1 t.frameBytes
        let s := if t.capture then
            (s.writeHost (s.portOf (s.streamHolder k)) b.addr ((List.range b.bytes).map (Config.sample s.freeCtr))).tickFree
          else s
        let s := s.updStream k (fun t => { t with bufs := bs, moved := t.moved + frames, dry := bs.isEmpty })
        (s.countBy 5 k 0 frames).bufferEvent k b false bs.length frames
      else s)

/-- STREAM_XRUN (R477): a shortfall has ended; one event with the frames concerned. -/
def execStreamXrun (k frames : Nat) (s : State) : Host.Outcome State Fault Refusal :=
  onUnit s hAudio (
    let t := s.astream k
    if t.started && t.dry && !t.bufs.isEmpty then
      let s := (s.updStream k (fun t => { t with dry := false, shortfalls := t.shortfalls + 1 })).count 5 k 1
      s.raise (s.streamHolder k) 0x81 hAudio (detail [(k, 5), (b2n t.capture, 27), (frames, 32), (t.shortfalls + 1, 32)])
    else s)

/-- The marks on inputs that a stream feeds are cleared when it closes (R489). -/
def Audio.clearStreamMarks (a : Audio) (k : Nat) : Audio :=
  { a with marks := (List.range 48).foldl (fun m i =>
      let src := a.source.get i
      if src / 4096 = 1 ∧ bitsOf src 4 5 = k then m.set i none else m) a.marks }

/-- A stream closes: queued buffers return as cancelled, `tell` with their events (R478, R479). -/
def State.closeStream (s : State) (k : Nat) (tell : Bool) : State :=
  let t := s.astream k
  let s := s.updStream k (fun t => { AStream.reset with shortfalls := t.shortfalls, moved := t.moved })
  let s := s.setAudio (s.audio.clearStreamMarks k)
  if tell then
    (t.bufs.zipIdx.foldl (fun s b => s.bufferEvent k b.1 true (t.bufs.length - 1 - b.2) 0) s)
  else s

/-- STREAM_CLOSE (R478). -/
def execStreamClose (p : Packet) (s : State) : Host.Outcome State Fault Refusal :=
  packet opStreamClose true p s fun s =>
    let k := p.fld 16 0 5
    checks [(decide (p.target = hAudio) && decide (p.length = 4) && decide (p.fld 16 5 27 = 0), .badParam),
        (decide (s.streamHolder k = p.inst), .denied), ((s.astream k).isOpen, .badParam)]
      (.done (s.closeStream k true) .ok [])

/-! ### Sources, destinations, routing (R470, R482) -/

/-- A source code names something that can exist (R470). -/
def sourceOk (c : Nat) : Bool :=
  match c / 4096 with
  | 0 => decide (c = 0)
  | 1 => decide (bitsOf c 3 1 = 0) && decide (bitsOf c 9 3 = 0)
  | 2 => decide (bitsOf c 3 9 = 0)
  | 3 => decide (bitsOf c 6 6 = 0)
  | 4 => decide (bitsOf c 1 11 = 0)
  | _ => false

/-- A low-latency path holds the slot. -/
def Audio.lowlatOn (a : Audio) (c : Nat) : Bool := a.lowlat.cells.any (fun x => match x.2 with
  | some l => decide (l.dest = c)
  | none => false)

/-- Outputs named by some alarm mask. -/
def Audio.masked (a : Audio) (j : Nat) : Bool := a.marks.cells.any (fun x => match x.2 with
  | some m => bitOf m.outputs j
  | none => false)

/-- MIX_ROUTE OP 0: the source of an input. -/
def execMixRouteInput (p : Packet) (s : State) : Host.Outcome State Fault Refusal :=
  packet opMixRoute true p s fun s =>
    let i := p.fld 17 0 6
    checks [(decide (p.target = hAudio) && decide (p.length = 4) && decide (p.u8 16 = 0) && decide (p.fld 17 6 2 = 0) &&
          decide (i < 48) && sourceOk (p.u16 18), .badParam), ((s.audio.marks.get i).isNone, .denied)]
      (.done ((s.setAudio { s.audio with source := s.audio.source.set i (p.u16 18) }).intend hAudio false 0).armEdge .ok [])

/-- MIX_ROUTE OP 1: the output of a destination. -/
def execMixRouteDest (p : Packet) (s : State) : Host.Outcome State Fault Refusal :=
  packet opMixRoute true p s fun s =>
    let d := p.u16 18
    let o := p.u8 17
    let a := { s.audio with dest := s.audio.dest.set d (if o = 0xFF then 0 else o + 1) }
    checks [(decide (p.target = hAudio) && decide (p.length = 4) && decide (p.u8 16 = 1) && (decide (o < 24) || decide (o = 0xFF)) &&
          destOk d, .badParam),
        ((List.range 24).all (fun j => !s.audio.masked j || (s.audio.tdmDests j).isEmpty || !(a.tdmDests j).isEmpty), .denied),
        (!(isTdmDest d && s.audio.lowlatOn d), .busy)]
      (.done ((s.setAudio a).intend hAudio false 0).armEdge .ok [])

/-! ### TDM ports, mixer domain, microphones (R480) -/

/-- Bits of a slot code. -/
def slotBitsOf : Nat → Nat
  | 0 => 16
  | 1 => 24
  | _ => 32

/-- The port settings of the packet. -/
def tdmPort (p : Packet) : TdmPort :=
  let i2s := p.flag 17 6
  { enable := p.flag 17 2, master := p.flag 17 3, domain := p.fld 17 4 2, i2s := i2s, slots := p.fld 18 0 5,
    slotBits := p.fld 19 0 2, dataBits := p.fld 19 2 2, fsPol := p.flag 19 4, bclkEdge := p.flag 19 5,
    fsDelay := p.flag 19 6 || i2s, fsHz := p.u32 20, inSlots := p.u16 24, outSlots := p.u16 26 }

/-- BCLK (R480). -/
def TdmPort.bclk (t : TdmPort) : Nat := t.fsHz * t.slots * slotBitsOf t.slotBits

/-- The settings are in range (R471, R480). -/
def TdmPort.legal (t : TdmPort) : Bool :=
  decide (t.domain ≤ 2) && (if t.master then decide (t.domain ≤ 1) else decide (t.domain = 2)) && decide (1 ≤ t.slots) &&
    decide (t.slots ≤ 16) && decide (t.slotBits ≤ 2) && decide (t.dataBits ≤ t.slotBits) && (!t.i2s || decide (t.slots = 2)) &&
    decide (t.bclk ≤ 24576000) && decide (t.inSlots < 2 ^ t.slots) && decide (t.outSlots < 2 ^ t.slots) &&
    (if t.master then
      (if t.domain = 0 then audaRates.contains t.fsHz && decide (24576000 % max 1 t.bclk = 0)
       else audbRates.contains t.fsHz && decide (22579200 % max 1 t.bclk = 0))
     else decide (32000 ≤ t.fsHz) && decide (t.fsHz ≤ 96000))

/-- A port can carry a low-latency path to the slot (R494). -/
def Audio.lowlatPort (a : Audio) (t : TdmPort) (slot : Nat) : Bool :=
  t.enable && t.master && decide (t.domain = b2n a.pdmB) && decide (44100 ≤ t.fsHz) && bitOf t.outSlots slot

/-- Every enabled low-latency path still has its port and microphone. -/
def Audio.lowlatOk (a : Audio) : Bool :=
  a.lowlat.cells.all (fun x => match x.2 with
    | some l => bitOf a.mics l.mic && a.lowlatPort (a.tdm.get (bitsOf l.dest 4 2)) (l.dest % 16)
    | none => true)

/-- AUDX is clocked from a slave port that is enabled, where BCLK is its source (R480). -/
def Audio.audxOk (a : Audio) : Bool := !a.xsrc || ((a.tdm.get a.xport).enable && !(a.tdm.get a.xport).master)

/-- What the three forms of TDM_CONFIG share. The change applies at once; the port's first frame is not a command of
the table, so the reply follows the change (log 51). -/
def tdmConfig (op : Nat) (ok : Bool) (f : Audio → Audio) (p : Packet) (s : State) : Host.Outcome State Fault Refusal :=
  packet opTdmConfig true p s fun s =>
    let a := f s.audio
    checks [(decide (p.target = hAudio) && decide (p.length = 12) && decide (p.u8 16 = op) && ok, .badParam),
        (a.lowlatOk && (a.audxOk || !s.audio.audxOk && decide (op ≠ 1)), .busy)]
      (.done ((s.setAudio a).intend hAudio false 0).armEdge .ok [])

/-- TDM_CONFIG OP 0. -/
def execTdmConfigPort (p : Packet) (s : State) : Host.Outcome State Fault Refusal :=
  tdmConfig 0 (decide (p.fld 17 7 1 = 0) && decide (p.fld 18 5 3 = 0) && decide (p.fld 19 7 1 = 0) && (tdmPort p).legal)
    (fun a => { a with tdm := a.tdm.set (p.fld 17 0 2) (tdmPort p) }) p s

/-- TDM_CONFIG OP 1. -/
def execTdmConfigMixer (p : Packet) (s : State) : Host.Outcome State Fault Refusal :=
  tdmConfig 1 (decide (p.fld 17 0 2 ≤ 2) && decide (p.fld 17 5 3 = 0) && decide (p.fld 18 2 14 = 0) &&
      decide (32000 ≤ p.u32 20) && decide (p.u32 20 ≤ 96000) && decide (p.u32 24 = 0))
    (fun a => { a with
      mixDomain := p.fld 17 0 2
      xport := p.fld 17 2 2
      xsrc := p.flag 17 4
      mclkOut := p.fld 18 0 2
      xrate := p.u32 20
      onAuda := a.audxLost && decide (p.fld 17 0 2 = 2) }) p s

/-- TDM_CONFIG OP 2. -/
def execTdmConfigPdm (p : Packet) (s : State) : Host.Outcome State Fault Refusal :=
  tdmConfig 2 (decide (p.fld 17 1 7 = 0) && decide (p.u64 20 = 0))
    (fun a => { a with pdmB := p.flag 17 0, mics := p.u8 18, wind := p.u8 19 }) p s

/-! ### Gains (R483 to R486) -/

/-- The key of a gain: kind, A, B. -/
def gainKey (kind a b : Nat) : Nat := (kind * 256 + a) * 256 + b

/-- Mute, in 0.01 dB (R483). -/
def muted : Int := -32768

/-- The value at rest before any GAIN_SET: 0 dB, a crosspoint muted (R483). -/
def gainReset (kind : Nat) : Int := if kind = 2 then muted else 0

/-- The gain now: along its ramp the factor is linear; between the ends its value in dB is free within them (R484,
log 49). -/
def State.gainNow (s : State) (kind a b : Nat) : Int :=
  let g := s.audio.gain.get (gainKey kind a b)
  if !g.isSet then gainReset kind
  else
    let len := g.rampMs * 1000000
    let t := s.devTime - g.time
    if decide (g.rampMs = 0) || decide (len ≤ t) then g.target
    else if t = 0 then g.start
    else clampI (min g.start g.target) (max g.start g.target) (Config.rampDb g.start g.target t len)

/-- A ramp to a target from the present value (R484). -/
def State.rampTo (s : State) (kind a b : Nat) (target : Int) (ms : Nat) : State :=
  let now := s.gainNow kind a b
  s.setAudio { s.audio with gain := s.audio.gain.upd (gainKey kind a b) (fun g => { g with
    isSet := true, start := now, target := target, time := s.devTime, rampMs := ms, zcTarget := none }) }

/-- A change that waits for a zero crossing; a further one replaces the target and keeps the timeout (R485). -/
def State.waitZc (s : State) (kind a b : Nat) (target : Int) (ms : Nat) : State :=
  let now := s.gainNow kind a b
  s.setAudio { s.audio with gain := s.audio.gain.upd (gainKey kind a b) (fun g =>
    let g := if g.isSet then g else { g with isSet := true, start := now, target := now, time := s.devTime, rampMs := 0 }
    if g.zcTarget.isSome then { g with zcTarget := some target }
    else { g with zcTarget := some target, zcSince := s.devTime, zcMs := ms }) }

/-- Who may set a gain (R483). -/
def State.mayGain (s : State) (p : Packet) : Bool :=
  let kind := p.fld 16 0 2
  let a := p.u8 17
  if kind = 0 then decide (s.streamHolder a = p.inst)
  else if kind = 1 then (match s.audio.marks.get a with
    | some m => decide (m.inst = p.inst) && s.isSafety p.inst
    | none => decide (p.inst = 0))
  else decide (p.inst = 0)

/-- GAIN_SET (R483 to R485, R8). -/
def execGainSet (p : Packet) (s : State) : Host.Outcome State Fault Refusal :=
  packet opGainSet true p s fun s =>
    let kind := p.fld 16 0 2
    let zc := p.flag 16 2
    let a := p.u8 17
    let b := p.u8 18
    let g := p.i16 20
    let ms := p.u16 22
    let indexOk := match kind with
      | 0 => decide (a < 32) && (decide (b < 8) || decide (b = 0xFF))
      | 1 => decide (a < 48) && decide (b = 0)
      | 2 => decide (a < 48) && decide (b < 24)
      | _ => decide (a < 24) && decide (b = 0)
    let keys := if kind = 0 ∧ b = 0xFF then List.range 8 else [b]
    checks [(decide (p.target = hAudio) && decide (p.length = 8) && decide (p.fld 16 3 5 = 0) && decide (p.u8 19 = 0) && indexOk &&
          (decide (g = muted) || (decide (-9600 ≤ g) && decide (g ≤ 2400))) && decide (ms ≤ (if zc then 50 else 2000)), .badParam),
        (!zc || s.board.member.zcGain, .noUnit), (s.mayGain p, .denied)]
      (.done (keys.foldl (fun s b =>
         if zc then s.waitZc kind a b g (if ms = 0 then 10 else ms) else s.rampTo kind a b g (if ms = 0 then 20 else ms)) s) .ok [])

/-- ZERO_CROSSING (R485): the waiting gain is taken at once. -/
def execZeroCrossing (kind a b : Nat) (s : State) : Host.Outcome State Fault Refusal :=
  onUnit s hAudio (match (s.audio.gain.get (gainKey kind a b)).zcTarget with
    | some g => s.rampTo kind a b g 0
    | none => s)

/-- ZC_TIMEOUT (R485): no crossing came; the change runs as a 1 ms ramp. -/
def execZcTimeout (kind a b : Nat) (s : State) : Host.Outcome State Fault Refusal :=
  onUnit s hAudio (match (s.audio.gain.get (gainKey kind a b)).zcTarget with
    | some g => s.rampTo kind a b g 1
    | none => s)

/-! ### AUDX (R472) -/

/-- AUDIO_CLOCK (R496). -/
def State.audioClock (s : State) (cause rate : Nat) : State := s.raise 0 0x82 hAudio (detail [(cause, 32), (rate, 32)])

/-- AUDX_LOST: slave ports stop, the fact, and a mixer in AUDX moves to AUDA. -/
def execAudxLost (rateMhz : Nat) (s : State) : Host.Outcome State Fault Refusal :=
  onUnit s hAudio (if s.audio.audxLost then s
  else
    let s := ((s.setAudio { s.audio with audxLost := true }).setFact hAudio 1).audioClock 1 rateMhz
    if s.audio.mixDomain = 2 then (s.setAudio { s.audio with onAuda := true }).audioClock 3 rateMhz else s)

/-- AUDX_RESTORED. -/
def execAudxRestored (rateMhz : Nat) (s : State) : Host.Outcome State Fault Refusal :=
  onUnit s hAudio (if s.audio.audxLost then
    let was := s.audio.onAuda
    let s := (s.setAudio { s.audio with audxLost := false, onAuda := false }).audioClock 2 rateMhz
    let s := if was then s.audioClock 4 rateMhz else s
    (s.clearFact hAudio).settle hAudio
  else s)

/-! ### Clipping and limiters (R487, R488) -/

/-- AUDIO_CLIP: samples of an output before the last saturation; clipped ones are counted, and reported at most once
per second. -/
def execAudioClip (output : Nat) (samples : List Int) (s : State) : Host.Outcome State Fault Refusal :=
  onUnit s hAudio (if output < 24 then
    let n := (samples.filter clips).length
    let tot := s.audio.clipped.get output + n
    let s := s.countBy 6 output 0 n
    let due := match s.audio.clipTime.get output with
      | some t => decide (t + 1000000000 ≤ s.devTime)
      | none => true
    if due && decide (0 < tot) then
      let s := s.setAudio { s.audio with
        clipped := s.audio.clipped.set output 0
        clipTime := s.audio.clipTime.set output (some s.devTime) }
      s.raise 0 0x83 hAudio (detail [(output, 32), (tot, 32)])
    else s.setAudio { s.audio with clipped := s.audio.clipped.set output tot }
  else s)

/-- LIMITER_STEP (R488): over the look-ahead the output peaks at `peak` (0.1 dB relative to full scale); `us` have
passed since the last step. The reduction rises to hold CEILING at once and releases at 20 dB per RELEASE_MS; past
HIGH or a pin it goes only to hold full scale. -/
def execLimiterStep (output : Nat) (peak : Int) (us : Nat) (s : State) : Host.Outcome State Fault Refusal :=
  onUnit s hAudio (if output < 24 then
    let ceil := s.audio.ceiling.get output
    let rel := s.audio.releaseMs.get output
    let out := s.loopOut hAudio output
    let need := (peak + ceil).toNat
    let target := min 600 (max need (out - 200 * us / (1000 * max 1 rel)))
    let full := peak.toNat
    let force := match s.loop hAudio output with
      | some l => if l.wanted target < full then some (min 600 full) else none
      | none => none
    let s := s.stepLoop hAudio output target force
    let gr := s.loopOut hAudio output
    let s := if 0 < gr then s.countBy 6 output 1 us else s
    s.countMax 6 output 2 gr
  else s)

/-! ### Alarm sources and the floor (R489 to R493) -/

/-- ALARM_SOURCE_SET (R489). -/
def execAlarmSourceSet (p : Packet) (s : State) : Host.Outcome State Fault Refusal :=
  packet opAlarmSourceSet true p s fun s =>
    let i := p.fld 16 0 6
    let on := p.flag 16 6
    let mask := p.fld 20 0 24
    let src := s.audio.source.get i
    let mine := decide (src / 4096 = 4) ||
      (decide (src / 4096 = 1) && decide (s.streamHolder (bitsOf src 4 5) = p.inst) && !(s.astream (bitsOf src 4 5)).capture)
    let other := match s.audio.marks.get i with
      | some m => decide (m.inst ≠ p.inst)
      | none => false
    checks [(decide (p.target = hAudio) && decide (p.length = 8) && decide (i < 48) && decide (p.fld 16 7 25 = 0) &&
          decide (p.fld 20 24 8 = 0), .badParam), (mine, .denied), (!other, .busy),
        (!on || (maskBits 24 mask).all (fun j => !(s.audio.tdmDests j).isEmpty), .badParam)]
      (let m : Option Mark_ := if on then some { inst := p.inst, outputs := mask } else none
       .done ((s.setAudio { s.audio with marks := s.audio.marks.set i m }).intend hAudio false p.inst).armEdge .ok [])

/-- The requested attenuation of an alarm path in 0.1 dB: −(xp + og), 0 where negative; a mute is unlimited (R491). -/
def State.requestedAtt (s : State) (i j : Nat) : Nat :=
  let xp := s.gainNow 2 i j
  let og := s.gainNow 3 j 0
  if xp = muted ∨ og = muted then 100000 else (-(xp + og) / 10).toNat

/-- The bounds and pin of the alarm floor as it uses them: never above 200 (R491). -/
def Loop.floorOf (l : Loop) : Loop := { l with low := min 200 l.low, high := min 200 l.high, pin := l.pin.map (min 200) }

/-- The applied attenuation of a path. -/
def State.appliedAtt (s : State) (i j : Nat) : Nat := match s.loop hAudio 24 with
  | some l => l.floorOf.wanted (s.requestedAtt i j)
  | none => 0

/-- The gain with which a marked input reaches an output of its mask, in 0.1 dB (R490). -/
def State.alarmGain (s : State) (i j : Nat) : Int :=
  max (-(s.requestedAtt i j : Int)) (-(s.appliedAtt i j : Int))

/-- The alarm paths: marked inputs and the outputs of their masks. -/
def Audio.paths (a : Audio) : List (Nat × Nat) :=
  a.marks.cells.flatMap (fun x => match x.2 with
    | some m => (maskBits 24 m.outputs).map (fun j => (x.1, j))
    | none => [])

/-- ALARM_FLOOR_STEP (R491): the loop's target is the largest request; OVERRIDDEN while a path stands at 200 because a
bound or the pin lies above it. -/
def execAlarmFloorStep (s : State) : Host.Outcome State Fault Refusal :=
  onUnit s hAudio (
    let reqs := s.audio.paths.map (fun x => s.requestedAtt x.1 x.2)
    match s.loop hAudio 24 with
    | none => s
    | some l =>
      let f := l.floorOf
      let held := reqs.any (fun r => decide (f.wanted r = 200) && (match l.pin with
        | some v => decide (200 < v)
        | none => decide (200 < l.low) || (decide (200 < l.high) && decide (200 < r))))
      let held := held && !s.audio.paths.isEmpty
      s.stepLoop hAudio 24 (reqs.max?.getD 0) (if held then some 200 else none))

/-! ### The low-latency path (R494) -/

/-- LOWLAT_SET. -/
def execLowlatSet (p : Packet) (s : State) : Host.Outcome State Fault Refusal :=
  packet opLowlatSet true p s fun s =>
    let k := p.fld 16 0 2
    let on := p.flag 16 2
    let l : LowLat := { mic := p.fld 17 0 3, dest := p.u16 18, gain := p.i16 20 }
    let a := s.audio
    let others := (List.range 4).filter (fun j => decide (j ≠ k))
    let taken := others.any (fun j => match a.lowlat.get j with
      | some x => decide (x.dest = l.dest)
      | none => false)
    checks [(decide (p.target = hAudio) && decide (p.length = 8) && decide (p.fld 16 3 5 = 0) && decide (p.fld 17 3 5 = 0) &&
          isTdmDest l.dest && decide (p.u16 22 = 0) && (decide (l.gain = muted) || (decide (-9600 ≤ l.gain) && decide (l.gain ≤ 2400))) &&
          (!on || (bitOf a.mics l.mic && a.lowlatPort (a.tdm.get (bitsOf l.dest 4 2)) (l.dest % 16))), .badParam),
        (!on || !taken, .busy)]
      (.done ((s.setAudio { a with lowlat := a.lowlat.set k (if on then some l else none) }).intend hAudio false 0) .ok [])

/-! ### Transitions of instances (R479, R489, R492) -/

/-- Quiesce: the streams stay open and empty; no BUFFER_DONE (R64, R592). -/
def State.cancelAudio (s : State) (n : Nat) : State :=
  (List.range 32).foldl (fun s k =>
    if s.streamHolder k = n then s.updStream k (fun t => { t with bufs := [], started := false, dry := false, startAt := none })
    else s) s

/-- Freeze and thaw: the streams fall silent with their buffers, and go on (R479). -/
def State.pauseAudio (s : State) (n : Nat) (b : Bool) : State :=
  (List.range 32).foldl (fun s k => if s.streamHolder k = n then s.updStream k (fun t => { t with paused := b }) else s) s

/-- INST_RESET and INST_DESTROY: streams close, marks of the instance go, its voices stop (R479, R489, R492). -/
def State.closeAudio (s : State) (n : Nat) : State :=
  let s := (List.range 32).foldl (fun s k => if s.streamHolder k = n then s.closeStream k false else s) s
  s.setAudio { s.audio with
    marks := (List.range 48).foldl (fun m i => match m.get i with
      | some x => if x.inst = n then m.set i none else m
      | none => m) s.audio.marks
    voices := [0, 1].foldl (fun t v => match t.get v with
      | some x => if x.inst = n then t.set v none else t
      | none => t) s.audio.voices }

end Sys2Proof.Machine
end

