-- ==== Sys2Proof/Machine/Touch.lean ====
section
/-!
DEFINITION. Touch sensing (15): panel configuration and modes, panel start and baselines, touch frames with clusters,
contacts, hover, glove and water, routing of contacts to their owners, and reports with their buffers. What the
electrodes measure comes with the commands (raw counts); the die-to-die link and wake scans are in Sense.lean.
-/

namespace Sys2Proof.Machine

open Sys2Proof

def opTouchPanelConfig : Op := { code := 0x6001, mark := .m }
def opTouchMode : Op := { code := 0x6002, mark := .m }
def opTouchReportReturn : Op := { code := 0x6003, mark := .g }
def opTouchSelftest : Op := { code := 0x6004, mark := .m }
def opWakeZoneSet : Op := { code := 0x6005, mark := .m }

/-- One panel. -/
def State.tp_ (s : State) (i : Nat) : TPanel := s.touch.panel.get i

/-- Change one panel. -/
def State.updTp (s : State) (i : Nat) (f : TPanel → TPanel) : State :=
  s.setTouch { s.touch with panel := s.touch.panel.upd i f }

/-- The report area of a guest on a panel. -/
def areaKey (n i : Nat) : Nat := n * 4 + i
def State.area (s : State) (n i : Nat) : Option TArea := s.touch.areas.get (areaKey n i)
def State.setArea (s : State) (n i : Nat) (a : Option TArea) : State :=
  s.setTouch { s.touch with areas := s.touch.areas.set (areaKey n i) a }

/-- Report buffers granted to an instance on a panel (R442). -/
def Inst.reportBufs (x : Inst) (i : Nat) : Nat := bitsOf x.touchBufs (8 * i) 8

/-! ### Geometry and clusters (R418, R431, R434) -/

/-- The key of node (row, column). -/
def nodeKey (r c : Nat) : Nat := r * 128 + c
def nodeRow (k : Nat) : Nat := k / 128
def nodeCol (k : Nat) : Nat := k % 128

/-- Distance of two numbers. -/
def apart (a b : Nat) : Nat := if a ≤ b then b - a else a - b

/-- Nodes side by side. Connection is along rows and columns (DESIGN CHOICE, log 45). -/
def adjacent (a b : Nat) : Bool :=
  decide (apart (nodeRow a) (nodeRow b) + apart (nodeCol a) (nodeCol b) = 1)

/-- Nodes within `n` rows and columns of one another. -/
def nodesWithin (n a b : Nat) : Bool := decide (apart (nodeRow a) (nodeRow b) ≤ n) && decide (apart (nodeCol a) (nodeCol b) ≤ n)

/-- The connected part of `nodes` that holds `cl`; the fuel bounds the growth. -/
def grow (nodes : List Nat) : Nat → List Nat → List Nat
  | 0, cl => cl
  | f + 1, cl =>
    let new := nodes.filter (fun k => !cl.contains k && cl.any (adjacent k))
    if new.isEmpty then cl else grow nodes f (cl ++ new)

/-- The connected clusters of a set of nodes. -/
def clusters : Nat → List Nat → List (List Nat)
  | 0, _ => []
  | _ + 1, [] => []
  | f + 1, k :: ks =>
    let cl := grow ks ks.length [k]
    cl :: clusters f (ks.filter (fun j => !cl.contains j))

/-- The node of a cluster with the greatest delta. -/
def peakOf (d : Nat → Int) (cl : List Nat) : Nat :=
  cl.foldl (fun b k => if d b < d k then k else b) (cl.headD 0)

/-- Local maxima of a cluster; of equal neighbours the one with the lower key counts. -/
def peaks (d : Nat → Int) (cl : List Nat) : List Nat :=
  cl.filter (fun k => cl.all (fun j => !adjacent j k || decide (d j < d k) || (decide (d j = d k) && decide (k < j))))

/-- The span of numbers. -/
def span (xs : List Nat) : Nat := match xs.max?, xs.min? with
  | some a, some b => a - b + 1
  | _, _ => 0

/-- A cluster is touch-shaped: at most 6 by 6 nodes and a single peak (R431). -/
def touchShaped (d : Nat → Int) (cl : List Nat) : Bool :=
  decide (span (cl.map nodeRow) ≤ 6) && decide (span (cl.map nodeCol) ≤ 6) && decide ((peaks d cl).length = 1)

/-- Every node of a panel, row by row. -/
def TouchCfg.nodes (c : TouchCfg) : List Nat :=
  (List.range c.ntx).flatMap (fun r => (List.range c.nrx).map (fun k => nodeKey r k))

/-- A position along `n` evenly spaced lines over an extent, in 1/8 unit: `num / den` lines from the edge. -/
def linePos (extent n num den : Nat) : Nat := 8 * (extent - 1) * num / ((n - 1) * den)

/-- The centroid of the 3 by 3 nodes about a peak, in 1/8 unit (R434). -/
def TouchCfg.centroid (c : TouchCfg) (d : Nat → Int) (pk : Nat) : Nat × Nat :=
  let near := c.nodes.filter (nodesWithin 1 pk)
  let w (k : Nat) : Nat := (d k).toNat
  let tot := max 1 (near.map w).sum
  (linePos c.width c.nrx (near.map (fun k => w k * nodeCol k)).sum tot,
    linePos c.height c.ntx (near.map (fun k => w k * nodeRow k)).sum tot)

/-- The panel coordinates of a node. -/
def TouchCfg.nodeXY (c : TouchCfg) (k : Nat) : Nat × Nat :=
  (linePos c.width c.nrx (nodeCol k) 1 / 8, linePos c.height c.ntx (nodeRow k) 1 / 8)

/-! ### Routing (R348, R440, R441) -/

/-- The point lies in a rectangle. -/
def inRect (x y rx ry w h : Nat) : Bool :=
  decide (rx ≤ x) && decide (x < rx + w) && decide (ry ≤ y) && decide (y < ry + h)

/-- An instance with a rectangle of the list over the point. -/
def regionOwner (s : State) (rs : Inst → List Region) (unit x y : Nat) (safety : Bool) : Option Nat :=
  s.guests.find? (fun n => (s.inst n).safety == safety &&
    (rs (s.inst n)).any (fun r => decide (r.unit = unit) && inRect x y r.left r.top r.width r.height))

/-- The owner of a point of a pipe, the slot whose layer routed it (0xFF for none), and whether that layer is
safety-class (R348). -/
def State.pointOwner (s : State) (pipe x y : Nat) : Nat × Nat × Bool :=
  let map := (s.pipe pipe).touchMap.filter (fun t => inRect x y t.x t.y t.w t.h)
  match map.find? (fun t => t.safety) with
  | some t => (t.owner, t.slot, true)
  | none =>
    match map.find? (fun t => !t.touchOff) with
    | some t => (t.owner, t.slot, false)
    | none =>
      match regionOwner s Inst.regions pipe x y true with
      | some n => (n, 0xFF, false)
      | none => ((regionOwner s Inst.regions pipe x y false).getD 0, 0xFF, false)

/-- The owner of a sample on a panel (R440); `x` and `y` in whole units. -/
def State.sampleOwner (s : State) (i x y : Nat) : Nat × Nat × Bool :=
  let c := (s.tp_ i).cfg
  if c.mapped then
    let t := (s.pipe c.pipe).timing
    if c.originX + x < t.hact ∧ c.originY + y < t.vact then s.pointOwner c.pipe (c.originX + x) (c.originY + y)
    else (0, 0xFF, false)
  else match s.guests.find? (fun n => (s.inst n).tregions.any (fun r =>
      decide (r.unit = i) && inRect x y r.left r.top r.width r.height)) with
    | some n => (n, 0xFF, false)
    | none => (0, 0xFF, false)

/-- The owner takes contacts: not one that is quiesced or frozen (R64, R68, R349). -/
def State.takesContacts (s : State) (n : Nat) : Bool :=
  decide (n = 0) || decide ((s.inst n).state = .active) || decide ((s.inst n).state = .bound)

/-! ### Reports (R442 to R446) -/

/-- FACT and report bits of a panel (R443): GLOVE, WET, OWN_WINDOWS, UNCALIBRATED; OVERFLOW is added by the frame. -/
def TPanel.flags (t : TPanel) : Nat := pack [(b2n t.glove, 1), (b2n t.wet, 1), (b2n t.ownWindows, 1), (b2n t.uncalibrated, 1)]

/-- The 24 bytes of a contact record (R443). -/
def CRec.bytes (r : CRec) : List Byte :=
  leBytes 24 (pack [(r.id, 8), (r.state.code, 4), (r.typ, 4), (r.x, 16), (r.y, 16), (r.size, 16), (r.force, 16), (r.z, 16),
    (r.layer, 8), (b2n r.safety, 1), (b2n r.long, 1), (b2n r.degraded, 1), (0, 5), (0, 16), (r.durationMs, 32), (0, 32)])

/-- The 256 bytes of a report (R443). -/
def TReport.bytes (r : TReport) (panel : Nat) : List Byte :=
  let head := leBytes 16 (pack [(r.frame, 32), (panel, 8), (r.recs.length, 8), (min r.merged 255, 8), (r.flags, 8), (r.time, 64)])
  let body := head ++ r.recs.flatMap CRec.bytes
  body ++ List.replicate (256 - body.length) 0

/-- The lowest report buffer that the device has (which one it takes is not stated; log 46). -/
def State.freeBuf (s : State) (n i : Nat) (a : TArea) : Option Nat :=
  (List.range (min 64 ((s.inst n).reportBufs i))).find? (fun b => !bitOf a.held b)

/-- A report is stored and announced (R443); records beyond ten stay pending (log 46). -/
def State.writeReport (s : State) (n i b : Nat) (a : TArea) (r : TReport) : State :=
  let now : TReport := { r with recs := r.recs.take 10 }
  let rest := r.recs.drop 10
  let s := s.writeSpad n (a.offset + 256 * b) (now.bytes i)
  let s := s.setArea n i (some { a with
    held := a.held ||| 2 ^ b
    pending := if rest.isEmpty then none else some { r with recs := rest } })
  s.raise n 0x61 (hTouch i) (detail [(r.frame, 32), (i, 8), (b, 8), (now.recs.length, 8), (min r.merged 255, 8)])

/-- One contact's later record merged into a pending report (R444): down and up become TAP; a DOWN is never lost. -/
def mergeRec (rs : List CRec) (r : CRec) : List CRec :=
  match rs.reverse.find? (fun q => decide (q.id = r.id)) with
  | none => rs ++ [r]
  | some q =>
    let done := decide (q.state = .up ∨ q.state = .tap ∨ q.state = .cancel ∨ q.state = .hoverLeave)
    if done then rs ++ [r]
    else
      let st := if q.state = .down ∧ r.state = .up then .tap else if q.state = .down ∧ r.state = .move then .down else r.state
      rs.map (fun x => if decide (x = q) then { r with state := st } else x)

/-- A frame's records for a guest: written where a buffer is free, else merged into the pending report (R444). Without
a report area or a quota they are discarded and counted (R442). -/
def State.report (s : State) (n i : Nat) (r : TReport) : State :=
  match s.area n i with
  | none => (s.countBy 4 i 4 r.recs.length).countBy 0 n 34 r.recs.length
  | some a =>
    if (s.inst n).reportBufs i = 0 then (s.countBy 4 i 4 r.recs.length).countBy 0 n 34 r.recs.length
    else
      let m : TReport := match a.pending with
        | some q => { r with merged := q.merged + 1, recs := r.recs.foldl mergeRec q.recs }
        | none => r
      match s.freeBuf n i a with
      | some b => s.writeReport n i b { a with pending := none } m
      | none => (s.setArea n i (some { a with pending := some m })).count 4 i 5

/-- MGR_CONTACT (R446, R451). -/
def State.mgrContact (s : State) (i frame : Nat) (r : CRec) : State :=
  s.raise 0 0x66 (hTouch i) (detail [(i, 8), (r.id, 8), (r.state.code, 4), (r.typ, 4), (0, 8), (r.x, 16), (r.y, 16),
    (r.force, 16), (r.z, 16), (frame, 32)])

/-- Records for their owners after a frame: (owner, record). The manager's go as MGR_CONTACT, each guest's in one
report; those of an owner that takes none are discarded and counted (R441, R446). -/
def State.deliverRecs (s : State) (i extraFlags : Nat) (rs : List (Nat × CRec)) : State :=
  let t := s.tp_ i
  let taken := rs.filter (fun p => s.takesContacts p.1)
  let lost := rs.filter (fun p => !s.takesContacts p.1)
  let s := lost.foldl (fun s p => (s.count 4 i 3).count 0 p.1 34) s
  let s := (taken.filter (fun p => decide (p.1 = 0))).foldl (fun s p => s.mgrContact i t.frame p.2) s
  s.guests.foldl (fun s n =>
    let mine := (taken.filter (fun p => decide (p.1 = n))).map Prod.snd
    if mine.isEmpty then s
    else s.report n i { frame := t.frame, merged := 0, time := s.devTime, flags := t.flags + extraFlags, recs := mine }) s

/-! ### Stopping and resuming a panel (R421, R447) -/

/-- Every contact of the panel ends with CANCEL to its owner; the panel stands, and CONTACTS_RESET is due (R447). -/
def State.cancelContacts (s : State) (i cause : Nat) : State :=
  let t := s.tp_ i
  let rs := t.contacts.map (fun c => (c.owner, { c.last with state := CState.cancel }))
  (s.deliverRecs i 0 rs).updTp i (fun t => { t with contacts := [], cands := [], resetCause := cause, bursts := 0 })

/-- CONTACTS_RESET to every guest with a report area on the panel, where one is due (R447). -/
def State.contactsReset (s : State) (i : Nat) : State :=
  let c := (s.tp_ i).resetCause
  if c = 0 then s
  else (s.raiseAll (s.guests.filter (fun n => (s.area n i).isSome)) 0x60 (hTouch i) (detail [(i, 8), (c, 8)])).updTp i
    (fun t => { t with resetCause := 0 })

/-- The panel can scan: enabled, the link and its clock up, the device in Brew (R14, R447, R545). -/
def State.canScan (s : State) (i : Nat) : Bool :=
  (s.tp_ i).cfg.enable && s.touch.d2dUp && s.touch.senseUp && decide (s.power.state = .brew) &&
    decide ((s.clocks.dom.get s.board.member.domSense).state = .running)

/-- The panel stops; it starts again under Power-up once it can (R421, R447). -/
def State.stopPanel (s : State) (i cause : Nat) (st : TState) : State :=
  (s.cancelContacts i cause).updTp i (fun t => { t with state := st })

/-! ### TOUCH_PANEL_CONFIG (R419 to R421) -/

/-- The settings of the packet. -/
def touchCfg (p : Packet) : TouchCfg :=
  let n := p.fld 17 0 7 + p.fld 18 0 7
  { enable := p.flag 16 0, mapped := p.flag 16 1, qwEn := p.flag 16 2, pipe := p.fld 16 3 3, ntx := p.fld 17 0 7,
    nrx := p.fld 18 0 7, frameHz := p.u8 19, width := p.u16 20, height := p.u16 22, originX := p.u16 24, originY := p.u16 26,
    fBase := p.u16 28, fStep := p.u8 30, nfreq := p.fld 31 0 3 + 1, nacc := p.fld 32 0 4,
    channels := ((p.bytesFrom 36).take n).map BitVec.toNat, words := p.words }

/-- No entry twice. -/
def noRepeats : List Nat → Bool
  | [] => true
  | x :: xs => !xs.contains x && noRepeats xs

/-- The first row of R420, without the pipe's active area. -/
def touchCfgOk (p : Packet) (c : TouchCfg) : Bool :=
  let n := c.ntx + c.nrx
  decide (p.target / 256 = 0x14) && decide (p.length = (20 + n + 3) / 4 * 4) && decide (p.fld 16 6 2 = 0) &&
    decide (p.fld 17 7 1 = 0) && decide (p.fld 18 7 1 = 0) && decide (p.fld 31 3 5 = 0) && decide (p.fld 32 4 28 = 0) &&
    decide (2 ≤ c.ntx) && decide (c.ntx ≤ 126) && decide (2 ≤ c.nrx) && decide (c.nrx ≤ 126) && decide (n ≤ 128) &&
    decide (30 ≤ c.frameHz) && decide (c.frameHz ≤ 240) && decide (1 ≤ c.width) && decide (c.width ≤ 4096) &&
    decide (1 ≤ c.height) && decide (c.height ≤ 4096) && (c.mapped || (decide (c.originX = 0) && decide (c.originY = 0))) &&
    decide (50 ≤ c.fBase) && decide (c.fBase ≤ 500) && decide (5 ≤ c.fStep) && decide (c.fStep ≤ 50) &&
    decide (c.fBase % max 1 c.fStep = 0) && decide (c.fBase + (c.nfreq - 1) * c.fStep ≤ 500) && decide (1 ≤ c.nacc) &&
    noRepeats c.channels

/-- The panel area lies in the active area of a pipe that has a timing (R420). -/
def State.touchAreaOk (s : State) (c : TouchCfg) : Bool :=
  let t := (s.pipe c.pipe).timing
  !c.mapped || decide (t.pclk = 0) || (decide (c.originX + c.width ≤ t.hact) && decide (c.originY + c.height ≤ t.vact))

/-- A touch region clipped to a panel (R421). -/
def clipTouchRegion (w h : Nat) (r : Region) : Option Region :=
  if r.left < w ∧ r.top < h then some { r with width := min r.width (w - r.left), height := min r.height (h - r.top) } else none

/-- TOUCH_PANEL_CONFIG. -/
def execTouchPanelConfig (p : Packet) (s : State) : Host.Outcome State Fault Refusal :=
  packet opTouchPanelConfig true p s fun s =>
    let i := p.target % 256
    let c := touchCfg p
    let others := (List.range s.board.member.touchPanels).filter (fun j => decide (j ≠ i))
    checks [(touchCfgOk p c, .badParam), (!c.mapped || s.present (hPipe c.pipe), .noUnit), (s.touchAreaOk c, .badParam),
        (c.channels.all (fun ch => decide (ch < s.board.member.touchChannels)), .noUnit),
        (!others.any (fun j => c.channels.any (s.tp_ j).cfg.channels.contains), .busy)]
      (let s := if (s.tp_ i).cfg.enable then s.cancelContacts i 2 else s
       let s := s.updTp i (fun t => { t with
         cfg := c
         state := if !c.enable then .off else if s.touch.d2dUp then .starting else .offline })
       let s := s.guests.foldl (fun s n => s.updInst n (fun x => { x with
         tregions := x.tregions.filterMap (fun r => if r.unit = i then clipTouchRegion c.width c.height r else some r) })) s
       .done (s.intend p.target c.enable 0) .ok [])

/-! ### TOUCH_MODE (R433) -/

/-- The settings of the packet. -/
def touchMode (p : Packet) : TouchMode :=
  let dflt (v d : Nat) : Nat := if v = 0 then d else v
  { glove := p.fld 16 0 2, water := p.flag 16 2, hover := p.flag 16 3, maxContacts := dflt (p.u8 17) 10,
    thr := dflt (p.u16 18) 400, hoverThr := dflt (p.u16 20) 60, longS := dflt (p.u16 22) 600,
    freeze := ((List.range 4).map (fun k => (p.u16 (28 + 8 * k), p.u16 (30 + 8 * k), p.u16 (32 + 8 * k),
      p.u16 (34 + 8 * k)))).filter (fun f => decide (f.2.2.1 ≠ 0)),
    words := p.words }

/-- TOUCH_MODE: from the next touch frame. -/
def execTouchMode (p : Packet) (s : State) : Host.Outcome State Fault Refusal :=
  packet opTouchMode true p s fun s =>
    let m := touchMode p
    checks [(decide (p.target / 256 = 0x14) && decide (p.length = 44) && decide (p.fld 16 4 4 = 0) && decide (m.glove ≤ 2) &&
        decide (m.maxContacts ≤ 10) && decide (50 ≤ m.thr) && decide (m.thr ≤ 20000) && decide (10 ≤ m.hoverThr) &&
        decide (m.hoverThr ≤ 5000) && decide (10 ≤ m.longS) && decide (p.u32 24 = 0), .badParam)]
      (.done ((s.updTp (p.target % 256) (fun t => { t with modeNext := some m })).intend p.target true 0) .ok [])

/-! ### Report areas (R442) -/

/-- TOUCH_REPORT_RETURN with SETUP. -/
def execTouchReportSetup (p : Packet) (s : State) : Host.Outcome State Fault Refusal :=
  packet opTouchReportReturn (ownHandle p) p s fun s =>
    let n := p.inst
    let i := p.fld 16 0 2
    let off := p.u32 20
    let held := match s.area n i with
      | some a => decide (a.held ≠ 0)
      | none => false
    checks [(decide (p.length = 16) && p.flag 16 2 && decide (p.fld 16 3 29 = 0) && decide (off % 256 = 0), .badParam),
        (s.present (hTouch i), .noUnit), (!held, .busy),
        (decide (off + 256 * (s.inst n).reportBufs i ≤ 4096 * (s.inst n).spadBlocks.length), .badParam)]
      (.done (s.setArea n i (some { offset := off, held := 0, pending := none })) .ok [])

/-- TOUCH_REPORT_RETURN without SETUP: buffers return, and a pending report is written at once (R444). -/
def execTouchReportReturn (p : Packet) (s : State) : Host.Outcome State Fault Refusal :=
  packet opTouchReportReturn (ownHandle p) p s fun s =>
    let n := p.inst
    let i := p.fld 16 0 2
    let back := p.u64 24
    match s.area n i with
    | none =>
      checks [(decide (p.length = 16) && decide (p.fld 16 2 30 = 0), .badParam), (s.present (hTouch i), .noUnit),
        (decide (back = 0), .badParam)] (.done s .ok [])
    | some a =>
      checks [(decide (p.length = 16) && decide (p.fld 16 2 30 = 0), .badParam), (s.present (hTouch i), .noUnit),
          ((maskBits 64 back).all (bitOf a.held), .badParam)]
        (let a := { a with held := a.held - back }
         .done (match a.pending with
           | some r =>
             match s.freeBuf n i a with
             | some b => s.writeReport n i b { a with pending := none } r
             | none => s.setArea n i (some a)
           | none => s.setArea n i (some a)) .ok [])

/-! ### Self-test and faulty electrodes (R438, R439) -/

/-- What a self-test found: (panel index, code, other) of every channel that is not good. -/
def State.setFaulty (s : State) (i : Nat) (fs : List (Nat × Nat × Nat)) : State :=
  let s := s.updTp i (fun t => { t with faulty := fs })
  let h := hTouch i
  match fs with
  | [] => if (s.entry h).fact = 2 then (s.clearFact h).settle h else s
  | (ch, code, _) :: _ =>
    let s := s.setFact h 2
    let s := s.raise 0 0x63 h (detail [(i, 8), (fs.length, 8), ((s.tp_ i).cfg.channels.getD ch 0, 8), (code, 8)])
    s.raiseErr 0x6001 3 h 0xFF 0 0

/-- TOUCH_SELFTEST (R438). What the test finds is measured (log 35); contacts end and CONTACTS_RESET follows (R447). -/
def execTouchSelftest (p : Packet) (s : State) : Host.Outcome State Fault Refusal :=
  packet opTouchSelftest true p s fun s =>
    let i := p.target % 256
    let c := (s.tp_ i).cfg
    let n := c.ntx + c.nrx
    checks [(decide (p.target / 256 = 0x14) && decide (p.length = 4) && decide (p.u32 16 = 0), .badParam),
        (s.touch.d2dUp, .offline)]
      (let found := (List.range n).map (fun ch =>
         let v := Config.measure s.freeCtr p.target ch
         (ch, v % 4, v / 4 % max 1 n))
       let bad := found.filter (fun f => decide (f.2.1 ≠ 0))
       let bytes := [BitVec.ofNat 8 i, BitVec.ofNat 8 bad.length, 0, 0] ++
         found.flatMap (fun f => [BitVec.ofNat 8 f.2.1, BitVec.ofNat 8 (if f.2.1 = 2 then f.2.2 else 0)])
       let s := ((s.cancelContacts i 3).tickFree.setFaulty i bad).contactsReset i
       .done s .ok (bytesWords (bytes ++ List.replicate (260 - bytes.length) 0)))

/-! ### Wake zones (R448) -/

/-- Zone `k` of the packet. -/
def wakeZone (p : Packet) (k : Nat) : WakeZone :=
  { kind := p.fld (16 + 12 * k) 0 2, hch := p.fld (17 + 12 * k) 0 3, threshold := p.u16 (18 + 12 * k), x := p.u16 (20 + 12 * k),
    y := p.u16 (22 + 12 * k), w := p.u16 (24 + 12 * k), h := p.u16 (26 + 12 * k) }

/-- A force zone's channel is fitted and assigned; another zone lies in the panel. -/
def State.zoneOk (s : State) (c : TouchCfg) (z : WakeZone) : Bool :=
  if z.kind = 0 then true
  else if z.kind = 3 then s.present (hHaptic z.hch) && s.guests.any (fun n => bitOf (s.inst n).haptics z.hch)
  else decide (z.x + z.w ≤ c.width) && decide (z.y + z.h ≤ c.height)

/-- WAKE_ZONE_SET: from the next Steep entry. -/
def execWakeZoneSet (p : Packet) (s : State) : Host.Outcome State Fault Refusal :=
  packet opWakeZoneSet true p s fun s =>
    let i := p.target % 256
    let zs := (List.range 4).map (wakeZone p)
    checks [(decide (p.target / 256 = 0x14) && decide (p.length = 48) &&
        (List.range 4).all (fun k => decide (p.fld (16 + 12 * k) 2 6 = 0) && decide (p.fld (17 + 12 * k) 3 5 = 0)) &&
        zs.all (s.zoneOk (s.tp_ i).cfg), .badParam)]
      (.done ((s.updTp i (fun t => { t with zones := zs })).intend p.target false 0) .ok [])

/-! ### Panel start (R427, R431, R432) -/

/-- A record's CRC holds (R622). -/
def calOk (bs : List Byte) : Bool :=
  decide (16 ≤ bs.length) && decide (leNat (bs.drop (bs.length - 4)) = (crc32c (bs.take (bs.length - 4))).toNat)

/-- The panel's stored record is valid for its intention and temperature, in 0.1 °C (R431). -/
def State.storedOk (s : State) (i : Nat) (temp : Int) : Bool :=
  let bs := s.firmware.userCal.get (16 + i)
  let ts := signed 16 (leNat ((bs.drop 8).take 2))
  calOk bs && decide (leNat ((bs.drop 4).take 4) = (crc32c (wordBytes (s.tp_ i).cfg.words)).toNat) &&
    decide (temp - ts ≤ 400) && decide (ts - temp ≤ 400)

/-- Where TC stands in a touch record's body: after one code byte per channel, padded to four (log 47). -/
def calTc (n : Nat) : Nat := 12 + (n + 3) / 4 * 4

/-- The expected baseline of the `j`-th node: B_s × (1 + TC × (T − T_s)), TC in ppm per °C (R431). -/
def expectedBase (bs : List Byte) (n j : Nat) (temp : Int) : Nat :=
  let ts := signed 16 (leNat ((bs.drop 8).take 2))
  let tc := signed 32 (leNat ((bs.drop (calTc n)).take 4))
  let b := leNat ((bs.drop (calTc n + 4 + 2 * j)).take 2)
  (clampI 0 65535 ((b : Int) + (b : Int) * tc * (temp - ts) / 10000000)).toNat

/-- TOUCH_PANEL_START (R431, R432, R438): the panel has run two unreported frames; `raw` are its node counts row by row,
`self` its line counts, `codes` what the self-test found per channel. -/
def execTouchPanelStart (panel : Nat) (temp : Int) (raw self : List Nat) (codes : List (Nat × Nat)) (s : State) :
    Host.Outcome State Fault Refusal :=
  onUnit s (hTouch panel) (if s.canScan panel && decide ((s.tp_ panel).state ≠ .scanning) then
    let t := s.tp_ panel
    let m := t.modeNext.getD t.mode
    let c := t.cfg
    let n := c.ntx + c.nrx
    let bs := s.firmware.userCal.get (16 + panel)
    let ok := s.storedOk panel temp
    let nodes := c.nodes
    let rawAt (k : Nat) : Nat := raw.getD (nodeRow k * c.nrx + nodeCol k) 0
    let exp (k : Nat) : Nat := expectedBase bs n (nodeRow k * c.nrx + nodeCol k) temp
    let d (k : Nat) : Int := (exp k : Int) - rawAt k
    let cls := if ok then clusters nodes.length (nodes.filter (fun k => decide ((m.thr : Int) ≤ d k))) else []
    let touch := cls.filter (touchShaped d)
    let other := (cls.filter (fun cl => !touchShaped d cl)).flatMap id
    let keep := touch.flatMap id ++ other
    let base := nodes.foldl (fun b k => b.set k (if keep.contains k then exp k else rawAt k)) (Tab.empty : Tab (0 : Nat))
    let rawTab := nodes.foldl (fun b k => b.set k (rawAt k)) (Tab.empty : Tab (0 : Nat))
    let selfTab := (List.range n).foldl (fun b k => b.set k (self.getD k 0)) (Tab.empty : Tab (0 : Nat))
    let comp := (List.range n).foldl (fun b k =>
      b.set k (if ok then (bs.getD (12 + k) 0).toNat else Config.measure s.freeCtr (hTouch panel) (256 + k) % 251)) Tab.empty
    let s := s.tickFree.updTp panel (fun t => { t with
      mode := m
      modeNext := none
      state := .scanning
      base := base
      selfBase := selfTab
      raw := rawTab
      codes := comp
      absorb := other
      cands := touch.map (fun cl => (nodeCol (peakOf d cl), nodeRow (peakOf d cl)))
      contacts := []
      stored := ok
      uncalibrated := !ok
      bursts := 0 })
    let bad := (codes.zipIdx.filter (fun x => decide (x.1.1 ≠ 0) && decide (x.2 < n))).map (fun x => (x.2, x.1.1 % 4, x.1.2))
    let s := s.setFaulty panel bad
    (s.contactsReset panel).settle (hTouch panel)
  else s)

/-- TOUCH_ABSORBED (R431): clusters that still stand after 10 s take their raw counts; the manager is told their
centre. -/
def execTouchAbsorbed (panel : Nat) (s : State) : Host.Outcome State Fault Refusal :=
  onUnit s (hTouch panel) (
    let t := s.tp_ panel
    let still := t.absorb.filter (fun k => decide (t.raw.get k + t.mode.thr ≤ t.base.get k))
    let s := s.updTp panel (fun t => { t with
      absorb := []
      base := still.foldl (fun b k => b.set k (t.raw.get k)) t.base })
    match still with
    | [] => s
    | k :: _ =>
      let x := (still.map (fun k => (t.cfg.nodeXY k).1)).sum / still.length
      let y := (still.map (fun k => (t.cfg.nodeXY k).2)).sum / still.length
      let _ := k
      s.raise 0 0x64 (hTouch panel) (detail [(panel, 16), (still.length, 16), (x, 16), (y, 16)]))

/-! ### Bursts (R424 to R426) -/

/-- The panel also runs a self scan (R424). -/
def TPanel.selfScan (t : TPanel) : Bool := t.mode.water || t.mode.hover || decide (t.mode.glove = 2) || t.wet

/-- Bursts of a touch frame (R424). -/
def TPanel.burstsNeeded (t : TPanel) : Nat :=
  (t.cfg.ntx + t.cfg.nfreq - 1) / t.cfg.nfreq * t.cfg.nacc + (if t.selfScan then 2 else 0)

/-- The sense die uses its own windows: QW_EN clear, or the pipe sends none (R425). -/
def State.usesOwnWindows (s : State) (i : Nat) : Bool :=
  let c := (s.tp_ i).cfg
  let p := s.pipe c.pipe
  !c.qwEn || decide (p.timing.qwMode = 0) || !(decide (p.state = .run) || decide (p.state = .blank))

/-- TOUCH_BURST (R423 to R426): `edge` is 0 for none, 1 for a planned HV edge that the burst would overlap (it starts
after the interval: deferred), 2 for an unplanned edge during it (discarded and run again). With windows, a burst runs
only while the pipe's window is open. -/
def execTouchBurst (panel edge : Nat) (s : State) : Host.Outcome State Fault Refusal :=
  onUnit s (hTouch panel) (
    let t := s.tp_ panel
    if decide (t.state = .scanning) && s.canScan panel && decide (t.bursts < t.burstsNeeded) then
      if edge = 1 then s.count 4 panel 1
      else if edge = 2 then s.count 4 panel 2
      else if s.usesOwnWindows panel || s.touch.window.get t.cfg.pipe then
        s.updTp panel (fun t => { t with
          bursts := t.bursts + 1
          ownWindows := if t.bursts = 0 then s.usesOwnWindows panel else t.ownWindows
          frameStart := if t.bursts = 0 then s.devTime else t.frameStart })
      else s
    else s)

/-! ### The touch frame (R428 to R437, R440 to R446) -/

/-- What one frame measures, ready for the rules: deltas by node, self deltas by line. -/
structure Scan where
  cfg : TouchCfg
  mode : TouchMode
  raw : Nat → Nat
  d : Nat → Int
  sd : Nat → Int
  hasSelf : Bool

/-- A self-scan peak within two lines of the node on both axes; the bound is HOVER_THR (not stated; log 48). -/
def Scan.confirmed (f : Scan) (k : Nat) : Bool :=
  f.hasSelf &&
    (List.range f.cfg.ntx).any (fun r => decide (apart r (nodeRow k) ≤ 2) && decide ((f.mode.hoverThr : Int) ≤ f.sd r)) &&
    (List.range f.cfg.nrx).any (fun c => decide (apart c (nodeCol k) ≤ 2) &&
      decide ((f.mode.hoverThr : Int) ≤ f.sd (f.cfg.ntx + c)))

/-- The threshold in force: a quarter in glove mode (R435). -/
def Scan.thr (f : Scan) (glove : Bool) : Nat := if glove then f.mode.thr / 4 else f.mode.thr

/-- Touch-shaped clusters whose peak reaches `level`, with water left out where self confirmation is due (R434 to
R436). -/
def Scan.shapes (f : Scan) (level : Nat) (confirm : Bool) : List (List Nat) :=
  (clusters f.cfg.nodes.length (f.cfg.nodes.filter (fun k => decide ((level : Int) ≤ f.d k)))).filter (fun cl =>
    touchShaped f.d cl && (!confirm || f.confirmed (peakOf f.d cl)))

/-- The share of nodes of R436: more than a quarter show half the threshold without confirmation. -/
def Scan.wetShare (f : Scan) : Bool :=
  let n := f.cfg.ntx * f.cfg.nrx
  decide (n < 4 * (f.cfg.nodes.filter (fun k =>
    decide ((f.mode.thr / 2 : Nat) ≤ (f.d k).natAbs) && !f.confirmed k)).length)

/-- The nodes that tracking leaves: in a contact's cluster or beside it, or in a freeze region (R429). -/
def Scan.frozen (f : Scan) (held : List Nat) (k : Nat) : Bool :=
  held.any (nodesWithin 1 k) || f.mode.freeze.any (fun z =>
    let p := f.cfg.nodeXY k
    inRect p.1 p.2 z.1 z.2.1 z.2.2.1 z.2.2.2)

/-- Mean of changes, rounded toward zero; 0 of none (rounding: log 48). -/
def meanI (xs : List Int) : Int := if xs.isEmpty then 0 else xs.sum.tdiv xs.length

/-- The baselines after tracking by at most `step` counts (R428, R429). -/
def Scan.track (f : Scan) (base : Tab (0 : Nat)) (held : List Nat) (step : Nat) : Tab (0 : Nat) :=
  let move (k : Nat) : Int :=
    let d := f.d k
    if d.natAbs < f.mode.thr / 2 then (if d < 0 then (min step d.natAbs : Nat) else -((min step d.natAbs : Nat) : Int)) else 0
  let free := f.cfg.nodes.filter (fun k => !f.frozen held k)
  let whole := meanI (free.map move)
  f.cfg.nodes.foldl (fun b k =>
    let ch := if f.frozen held k then
        let line := free.filter (fun j => decide (nodeCol j = nodeCol k))
        if line.isEmpty then whole else meanI (line.map move)
      else move k
    b.set k (clampI 0 65535 ((base.get k : Int) + ch)).toNat) base

/-- The force of a contact: that of the zoned channel over it; while it drives, the last sample for 20 ms (R464). -/
def State.contactForce (s : State) (panel x y : Nat) : Nat :=
  match (List.range s.board.member.haptics).find? (fun ch =>
      let c := s.haptics.chan.get ch
      c.zoned && decide (c.panel = panel) && inRect x y c.zx c.zy c.zw c.zh) with
  | some ch =>
    let c := s.haptics.chan.get ch
    let driving := match c.play with
      | some p => p.running
      | none => false
    if !driving || decide (s.devTime ≤ c.forceTime + 20000000) then c.force else 0
  | none => 0

/-- The next contact ID, 1 to 255, that no contact has. -/
def freshId (used : List Nat) (from_ : Nat) : Nat :=
  ((List.range 255).map (fun k => (from_ - 1 + k) % 255 + 1)).find? (fun i => !used.contains i) |>.getD 1

/-- A contact's record at a peak. -/
def State.recAt (s : State) (panel : Nat) (f : Scan) (faulty : List (Nat × Nat × Nat)) (pk size id typ down : Nat)
    (st : CState) (long : Bool) : CRec :=
  let xy := f.cfg.centroid f.d pk
  let onBad := faulty.any (fun b => decide (b.1 = nodeRow pk) || decide (b.1 = f.cfg.ntx + nodeCol pk))
  let own := s.sampleOwner panel (xy.1 / 8) (xy.2 / 8)
  { id := id, state := st, typ := typ,
    x := if onBad then Config.interpolate s.freeCtr (2 * id) else xy.1,
    y := if onBad then Config.interpolate s.freeCtr (2 * id + 1) else xy.2,
    size := size, force := s.contactForce panel (xy.1 / 8) (xy.2 / 8), z := 0, layer := own.2.1, safety := own.2.2,
    long := long, degraded := onBad, durationMs := (s.devTime - down) / 1000000 }

/-- Follow the contacts of the last frame: each takes the nearest shape within two nodes that keeps three quarters of
the threshold; the others end (R434). Answers contacts kept, contacts ended, shapes left over. -/
def followContacts (f : Scan) : List Contact → List (List Nat) → List (Contact × List Nat) × List Contact × List (List Nat)
  | [], cls => ([], [], cls)
  | c :: cs, cls =>
    let k := nodeKey c.row c.col
    let near := cls.filter (fun cl => nodesWithin 2 k (peakOf f.d cl))
    let dist (cl : List Nat) : Nat :=
      let p := peakOf f.d cl
      apart (nodeRow p) c.row * apart (nodeRow p) c.row + apart (nodeCol p) c.col * apart (nodeCol p) c.col
    match near.foldl (fun b cl => match b with
        | none => some cl
        | some x => if dist cl < dist x then some cl else some x) (none : Option (List Nat)) with
    | some cl =>
      let r := followContacts f cs (cls.filter (fun x => decide (x ≠ cl)))
      ((c, cl) :: r.1, r.2.1, r.2.2)
    | none =>
      let r := followContacts f cs cls
      (r.1, c :: r.2.1, r.2.2)

/-- A contact's new sample, with the records its owners receive: at a change of owner CANCEL to the old one and DOWN to
the new one (R441). -/
def ownerRecs (old : Contact) (owner : Nat) (r : CRec) : List (Nat × CRec) :=
  if old.owner = owner then [(owner, r)]
  else [(old.owner, { r with state := .cancel }), (owner, { r with state := .down })]

/-- The manager's records show changes of state or position only (R446). -/
def shownTo (old : CRec) (p : Nat × CRec) : Bool :=
  decide (p.1 ≠ 0) || decide (p.2.state ≠ .move ∧ p.2.state ≠ .hover) || decide (old.x ≠ p.2.x) || decide (old.y ≠ p.2.y) ||
    decide (old.state ≠ p.2.state)

/-- TOUCH_FRAME (R424): the frame's last burst has ended; `raw` are node counts row by row, `self` line counts where the
frame ran a self scan. -/
def execTouchFrame (panel : Nat) (raw self : List Nat) (s : State) : Host.Outcome State Fault Refusal :=
  let t0 := s.tp_ panel
  onUnit s (hTouch panel) (if decide (t0.state = .scanning) && s.canScan panel && decide (t0.burstsNeeded ≤ t0.bursts) then
    let m := t0.modeNext.getD t0.mode
    let c := t0.cfg
    let bad (k : Nat) : Bool := t0.faulty.any (fun b => decide (b.1 = nodeRow k) || decide (b.1 = c.ntx + nodeCol k))
    let rawAt (k : Nat) : Nat := raw.getD (nodeRow k * c.nrx + nodeCol k) 0
    let f : Scan :=
      { cfg := c, mode := m, raw := rawAt,
        d := fun k => if bad k then 0 else (t0.base.get k : Int) - rawAt k,
        sd := fun l => if t0.faulty.any (fun b => decide (b.1 = l)) then 0 else (self.getD l 0 : Int) - t0.selfBase.get l,
        hasSelf := t0.selfScan }
    -- glove and water modes
    let gloveNear := f.hasSelf && (f.shapes (m.thr / 4) true).any (fun cl => decide (f.d (peakOf f.d cl) < m.thr))
    let run := if m.glove = 2 ∧ gloveNear = true then t0.gloveRun + 1 else 0
    let glove := decide (m.glove = 1) || (decide (m.glove = 2) && (t0.glove || decide (3 ≤ run)))
    let wet := m.water && (t0.wet || f.wetShare)
    let wetBelow := if f.wetShare then s.devTime else t0.wetBelow
    let level := f.thr glove
    let confirm := m.water || wet || glove
    -- contacts
    let follow := followContacts f (t0.contacts.filter (fun k => decide (k.last.typ ≠ 2))) (f.shapes (3 * level / 4) confirm)
    let strong := follow.2.2.filter (fun cl => decide ((level : Int) ≤ f.d (peakOf f.d cl)))
    let fresh := strong.filter (fun cl => t0.cands.any (fun p => nodesWithin 2 (nodeKey p.2 p.1) (peakOf f.d cl)))
    let limit := if wet then min 2 m.maxContacts else m.maxContacts
    let kept := follow.1.take limit
    let tooMany := decide (limit < follow.1.length + fresh.length)
    let hovers := t0.contacts.filter (fun k => decide (k.last.typ = 2))
    let added := fresh.take (limit - kept.length)
    let typ := if glove then 1 else 0
    let moved := kept.map (fun x =>
      let r := s.recAt panel f t0.faulty (peakOf f.d x.2) x.2.length x.1.last.id x.1.last.typ x.1.down .move x.1.last.long
      let own := (s.sampleOwner panel (r.x / 8) (r.y / 8)).1
      ({ x.1 with last := r, owner := own, col := nodeCol (peakOf f.d x.2), row := nodeRow (peakOf f.d x.2) },
        (ownerRecs x.1 own r).filter (shownTo x.1.last)))
    let ended := (follow.2.1 ++ (follow.1.drop limit).map Prod.fst).map (fun k =>
      (k.owner, { k.last with state := CState.up, durationMs := (s.devTime - k.down) / 1000000 }))
    -- a hover that becomes a touch keeps its ID
    let downs := added.zipIdx.foldl (fun (acc : List (Contact × CRec) × List Nat × Nat) x =>
      let pk := peakOf f.d x.1
      let heir := if x.2 = 0 then hovers.head? else none
      let id := match heir with
        | some h => h.last.id
        | none => freshId acc.2.1 acc.2.2
      let r := s.recAt panel f t0.faulty pk x.1.length id typ s.devTime .down false
      let own := (s.sampleOwner panel (r.x / 8) (r.y / 8)).1
      let k : Contact := { last := r, owner := own, down := s.devTime, longSent := false, col := nodeCol pk, row := nodeRow pk }
      (acc.1 ++ [(k, r)], id :: acc.2.1, if heir.isSome then acc.2.2 else id % 255 + 1))
      ([], t0.contacts.map (·.last.id), t0.nextId)
    -- hover: one contact, where no mutual contact stands (R437)
    let rowPk := (List.range c.ntx).foldl (fun b r => if f.sd b < f.sd r then r else b) 0
    let colPk := (List.range c.nrx).foldl (fun b k => if f.sd (c.ntx + b) < f.sd (c.ntx + k) then k else b) 0
    let hoverNow := m.hover && f.hasSelf && kept.isEmpty && added.isEmpty && decide (0 < limit) &&
      decide ((m.hoverThr : Int) ≤ f.sd rowPk) && decide ((m.hoverThr : Int) ≤ f.sd (c.ntx + colPk))
    let hk := nodeKey rowPk colPk
    let hid := match hovers.head? with
      | some h => h.last.id
      | none => freshId downs.2.1 downs.2.2
    let hr : CRec := { s.recAt panel f t0.faulty hk 1 hid 2 s.devTime .hover false with
      x := linePos c.width c.nrx colPk 1, y := linePos c.height c.ntx rowPk 1, size := 1,
      z := Config.measure s.freeCtr (hTouch panel) 1024 % 201 }
    let hown := (s.sampleOwner panel (hr.x / 8) (hr.y / 8)).1
    let hcon : List Contact := if hoverNow then
        [{ last := hr, owner := hown, down := ((hovers.head?).map (·.down)).getD s.devTime, longSent := true, col := colPk,
           row := rowPk }] else []
    let hrecs : List (Nat × CRec) :=
      if hoverNow then (match hovers.head? with
        | some h => (if h.owner = hown then [(hown, hr)] else [(h.owner, { hr with state := .cancel }), (hown, hr)]).filter (shownTo h.last)
        | none => [(hown, hr)])
      else if added.isEmpty then hovers.map (fun h => (h.owner, { h.last with state := CState.hoverLeave })) else []
    let contacts := moved.map Prod.fst ++ downs.1.map Prod.fst ++ hcon
    let recs := moved.flatMap Prod.snd ++ ended ++ downs.1.map (fun x => (x.1.owner, x.2)) ++ hrecs
    -- baselines (R428, R429, R432)
    let held := kept.flatMap Prod.snd ++ added.flatMap id
    let change := c.nodes.map (fun k => apart (rawAt k) (t0.raw.get k))
    let drift := min 4095 (change.sum * c.frameHz / max 1 change.length)
    let s := s.stepLoop (hTouch panel) 0 drift none
    let acc := t0.frac.get 0 + s.loopOut (hTouch panel) 0
    let lifted := if t0.uncalibrated then
        ((clusters c.nodes.length (c.nodes.filter (fun k => decide (f.d k ≤ -(m.thr : Int))))).filter
          (touchShaped (fun k => -(f.d k)))).flatMap id else []
    let base := lifted.foldl (fun b k => b.set k (rawAt k)) (f.track t0.base held (acc / max 1 c.frameHz))
    let gloveHeld := glove && contacts.any (fun k => decide (k.last.typ = 1))
    let ms := (s.devTime - t0.frameStart) / 1000000
    let s := s.tickFree.updTp panel (fun t => { t with
      mode := m
      modeNext := none
      glove := glove
      gloveRun := run
      gloveSeen := if gloveHeld || !t0.glove then s.devTime else t.gloveSeen
      wet := wet
      wetBelow := wetBelow
      frame := (t.frame + 1) % 2 ^ 32
      bursts := 0
      rate16 := if s.devTime = t0.frameStart then t.rate16 else min 65535 (16000000000 / (s.devTime - t0.frameStart))
      base := base
      frac := t.frac.set 0 (acc % max 1 c.frameHz)
      raw := c.nodes.foldl (fun b k => b.set k (rawAt k)) t.raw
      contacts := contacts
      cands := strong.map (fun cl => (nodeCol (peakOf f.d cl), nodeRow (peakOf f.d cl)))
      nextId := if hoverNow && hovers.isEmpty then hid % 255 + 1 else downs.2.2 })
    let s := s.count 4 panel 0
    let s := if wet then s.countBy 4 panel 6 ms else s
    let s := if glove then s.countBy 4 panel 7 ms else s
    -- the channels whose zone a contact touched (R463)
    let touched := (List.range s.board.member.haptics).filter (fun ch =>
      let h := s.haptics.chan.get ch
      h.zoned && decide (h.panel = panel) && contacts.any (fun k => inRect (k.last.x / 8) (k.last.y / 8) h.zx h.zy h.zw h.zh))
    let s := s.setHaptics { s.haptics with
      chan := touched.foldl (fun b ch => b.upd ch (fun h => { h with contactTime := s.devTime })) s.haptics.chan }
    (s.settle (hTouch panel)).deliverRecs panel (if tooMany then 16 else 0) recs
  else s)

/-- TOUCH_LONG (R430): once for a contact that has lasted LONG_S. -/
def execTouchLong (panel id : Nat) (s : State) : Host.Outcome State Fault Refusal :=
  onUnit s (hTouch panel) (
    let t := s.tp_ panel
    match t.contacts.find? (fun c => decide (c.last.id = id) && !c.longSent) with
    | none => s
    | some c =>
      if t.mode.longS = 0xFFFF then s
      else
        let s := s.updTp panel (fun t => { t with contacts := t.contacts.map (fun x =>
          if x.last.id = id then { x with longSent := true, last := { x.last with long := true } } else x) })
        s.raiseAll (0 :: (if c.owner = 0 then [] else [c.owner])) 0x62 (hTouch panel)
          (detail [(panel, 8), (id, 8), (0, 16), (c.last.x / 8, 16), (c.last.y / 8, 16), (t.mode.longS, 32)]))

/-- GLOVE_MODE_EXIT (R435): automatic glove mode, 5 s without a glove contact. -/
def execGloveModeExit (panel : Nat) (s : State) : Host.Outcome State Fault Refusal :=
  onUnit s (hTouch panel) (
    let t := s.tp_ panel
    if t.glove && decide (t.mode.glove = 2) && !t.contacts.any (fun c => decide (c.last.typ = 1)) then
      s.updTp panel (fun t => { t with glove := false, gloveRun := 0 }) else s)

/-- WET_EXIT (R436): 1 s below the wet share. -/
def execWetExit (panel : Nat) (s : State) : Host.Outcome State Fault Refusal :=
  onUnit s (hTouch panel) (s.updTp panel (fun t => { t with wet := false }))

/-! ### Recalibration and cancellation -/

/-- The nodes of a rectangle of the panel. -/
def TouchCfg.nodesIn (c : TouchCfg) (x y w h : Nat) : List Nat :=
  c.nodes.filter (fun k => inRect (c.nodeXY k).1 (c.nodeXY k).2 x y w h)

/-- Baselines of nodes are set to their raw counts (R625); contacts among them end with UP. -/
def State.rebase (s : State) (i : Nat) (nodes : List Nat) : State :=
  let t := s.tp_ i
  let gone (k : Contact) : Bool := nodes.contains (nodeKey k.row k.col)
  let rs := (t.contacts.filter gone).map (fun k => (k.owner, { k.last with state := CState.up }))
  (s.deliverRecs i 0 rs).updTp i (fun t => { t with
    base := nodes.foldl (fun b k => b.set k (t.raw.get k)) t.base
    contacts := t.contacts.filter (fun k => !gone k) })

/-- A quiesced instance: pending reports are dropped and its buffers return (R62, R592). -/
def State.cancelTouch (s : State) (n : Nat) : State :=
  (List.range s.board.member.touchPanels).foldl (fun s i =>
    match s.area n i with
    | some a => s.setArea n i (some { a with held := 0, pending := none })
    | none => s) s

end Sys2Proof.Machine
end

