-- ==== Sys2Proof/Machine/Haptics.lean ====
section
/-!
DEFINITION. Piezo haptics (16): the boost and its faults, actuator checks, the effect library, plays and their tokens,
truncation, force sensing and local clicks.
-/

namespace Sys2Proof.Machine

open Sys2Proof

def opEffectLoad : Op := { code := 0x7001, mark := .m }
def opEffectPlay : Op := { code := 0x7002, mark := .g }
def opEffectStop : Op := { code := 0x7003, mark := .g }
def opClickRegionSet : Op := { code := 0x7004, mark := .g }
def opActuatorCheck : Op := { code := 0x7005, mark := .m }

/-! ### Channels and tokens -/

/-- One channel. -/
def State.chan (s : State) (i : Nat) : HChan := s.haptics.chan.get i

/-- Change one channel. -/
def State.updChan (s : State) (i : Nat) (f : HChan → HChan) : State :=
  s.setHaptics { s.haptics with chan := s.haptics.chan.upd i f }

/-- The instance to which a channel is granted (R72). -/
def State.hapticOwner (s : State) (i : Nat) : Option Nat := s.guests.find? (fun n => bitOf (s.inst n).haptics i)

/-- The sender owns the channel that the packet names (R458, R465). -/
def State.ownsChan (s : State) (p : Packet) : Bool := decide (s.hapticOwner (p.target % 256) = some p.inst) && decide (p.inst ≠ 0)

/-- The odd channel of a bridged pair answers every packet of the group ST_BUSY (R454). -/
def State.bridgedAway (s : State) (i : Nat) : Bool := decide (i % 2 = 1) && (s.chan (i - 1)).bridge

/-- Tokens that a channel holds for an instance (R459). -/
def HChan.tokensOf (c : HChan) (n : Nat) : Nat :=
  ((c.play.toList ++ c.queued).map (fun p => if p.inst = n then p.tokens else 0)).sum +
    (c.clicks.cells.map (fun k => match k.2 with
      | some r => if r.inst = n then r.tokens else 0
      | none => 0)).sum

/-- HV tokens that an instance holds. -/
def State.hvHeld (s : State) (n : Nat) : Nat := ((List.range s.board.member.haptics).map (fun i => (s.chan i).tokensOf n)).sum

/-- HV tokens that braking channels hold for the device (R592). -/
def State.hvDevice (s : State) : Nat := ((List.range s.board.member.haptics).map (fun i => (s.chan i).devTokens)).sum

/-- The largest swing of an effect in 1/16,384 of 0.1 V, after SCALE and V_MAX (R457, R459); segments without cycles
drive nothing. -/
def swing (e : Effect) (scale vmax : Nat) : Nat :=
  let seg (cyc lvl : Nat) : Nat := if cyc = 0 then 0 else scale * lvl * e.ampl
  min (max (seg e.attack e.overdrive) (max (seg e.sustain 64) (seg e.brake e.brakeLvl))) (vmax * 16384)

/-- The frequency of an effect on a channel (R456). -/
def HChan.freq (c : HChan) (e : Effect) : Nat := if e.freq = 0 then c.fres else e.freq

/-- ceil(C × V² × f / 10 mW), C in pF and V in 0.1 V (R459). -/
def tokensFor (c : HChan) (e : Effect) (scale : Nat) : Nat :=
  let n := c.capPf * swing e scale c.vmax * swing e scale c.vmax * c.freq e
  (n + (10 ^ 12 * 16384 * 16384 - 1)) / (10 ^ 12 * 16384 * 16384)

/-! ### The boost (R452) -/

/-- The boost's users: peak drives in 0.1 V of effects and armed regions; a bridged pair swings half on each side. -/
def State.drives (s : State) : List Nat :=
  (List.range s.board.member.haptics).flatMap (fun i =>
    let c := s.chan i
    let half (v : Nat) : Nat := if c.bridge then v / 2 else v
    ((c.play.toList ++ c.queued).map (fun p => half (swing p.rec_ p.scale c.vmax / 16384))) ++
      (c.clicks.cells.filterMap (fun k => k.2.map (fun r =>
        half (max (swing (s.haptics.library.get r.effect) 256 c.vmax) (swing (s.haptics.library.get r.relEffect) 256 c.vmax) / 16384)))))

/-- The boost follows its users: on with the largest drive plus 5 V, at most 125 V; when none is left its 50 ms begin. -/
def State.boost (s : State) : State :=
  let b := s.haptics
  match s.drives.max? with
  | some v =>
    if (s.entry hBoost).fact = 0 then s.setHaptics { b with boostOn := true, vset := min 1250 (v + 50) } else s
  | none => s.setHaptics { b with idleSince := if b.vset = 0 then b.idleSince else s.devTime, vset := 0 }

/-- BOOST_READY (R452): VHV has reached its set value. -/
def execBoostReady (s : State) : Host.Outcome State Fault Refusal :=
  onUnit s hBoost (if s.haptics.boostOn then s.setHaptics { s.haptics with boostReady := true } else s)

/-- BOOST_OFF (R452): 50 ms after the last effect or armed region has ended. -/
def execBoostOff (s : State) : Host.Outcome State Fault Refusal :=
  onUnit s hBoost (if s.drives.isEmpty then s.setHaptics { s.haptics with boostOn := false, boostReady := false, vset := 0 } else s)

/-! ### How an effect ends -/

/-- EFFECT_DONE (R469) to the player, where EVENT was set. -/
def State.effectDone (s : State) (i : Nat) (p : Play) (outcome r : Nat) : State :=
  if p.event then
    s.raise p.inst 0x70 (hHaptic i) (detail [(i, 8), (p.effect, 8), (outcome, 8), (r, 8),
      (if p.running then (s.devTime - p.started) / 1000 else 0, 32)])
  else s

/-- The running effect ends; its tokens and the channel's own return (R459). -/
def State.endPlay (s : State) (i outcome r : Nat) : State :=
  match (s.chan i).play with
  | none => s
  | some p => ((s.updChan i (fun c => { c with play := none, devTokens := 0 })).effectDone i p outcome r).boost

/-- Every drive of a channel stops at once, without braking; waiting effects end with it (R452, R14). -/
def State.dropDrives (s : State) (i outcome : Nat) : State :=
  let c := s.chan i
  let s := c.queued.foldl (fun s p => s.effectDone i p outcome 0) (s.updChan i (fun c => { c with queued := [] }))
  s.endPlay i outcome 0

/-- The same on every channel; the boost is off. -/
def State.dropAllDrives (s : State) (outcome : Nat) : State :=
  let s := (List.range s.board.member.haptics).foldl (fun s i => s.dropDrives i outcome) s
  s.setHaptics { s.haptics with boostOn := false, boostReady := false, vset := 0 }

/-- HV_FAULT (R452): every channel stops, the fact, the record and the event. -/
def execHvFault (cause vhv current : Nat) (s : State) : Host.Outcome State Fault Refusal :=
  onUnit s hBoost (
    let s := (s.dropAllDrives 4).setFact hBoost 1
    (s.raise 0 0x73 hBoost (detail [(cause, 16), (vhv, 16), (current, 32)])).raiseErr 0x7001 3 hBoost 0xFF 0 0)

/-- HV_RETRY (R452): 1 s after a fault the boost tries again; where VHV comes up the fact clears. -/
def execHvRetry (ok : Bool) (vhv current : Nat) (s : State) : Host.Outcome State Fault Refusal :=
  onUnit s hBoost (if (s.entry hBoost).fact = 1 ∧ ok = true then
    (((s.clearFact hBoost).settle hBoost).raise 0 0x73 hBoost (detail [(3, 16), (vhv, 16), (current, 32)])).boost else s)

/-! ### Actuator faults (R468) -/

/-- The verdict of the first drive cycle: 0 good, 1 missing, 2 shorted, 3 stalled. `motion` is in 1/256 of
characterised. -/
def actuatorVerdict (c : HChan) (limit : Bool) (capPf motion : Nat) : Nat :=
  if limit || decide (3000000 < capPf) || decide (250 * c.capPf < 100 * capPf) then 2
  else if capPf < 5000 ∨ 100 * capPf < 40 * c.capPf then 1
  else if motion < 64 then 3 else 0

/-- ACTUATOR_FAULT (R469) to the owner and the manager. -/
def State.actuatorEvent (s : State) (i cause freq capPf motion : Nat) : State :=
  s.raiseAll (0 :: (s.hapticOwner i).toList) 0x71 (hHaptic i) (detail [(i, 8), (cause, 8), (freq, 16), (capPf, 32), (motion, 16)])

/-- A verdict is recorded: a fault is a fact with its DEGR record; a good one clears what it may clear: MISSING and
SHORTED only at a check, STALLED at any start (R468). -/
def State.actuatorFact (s : State) (i verdict : Nat) (check : Bool) (freq capPf motion : Nat) : State :=
  let h := hHaptic i
  let f := (s.entry h).fact
  if verdict = 0 then
    if f = 3 ∨ (check = true ∧ (f = 1 ∨ f = 2)) then (((s.clearFact h).settle h).actuatorEvent i 4 freq capPf motion) else s
  else ((s.setFact h verdict).actuatorEvent i verdict freq capPf motion).raiseErr 0x7002 3 h ((s.hapticOwner i).getD 0xFF) 0 0

/-- The channel is driving, or its effect is in braking. -/
def HChan.driving (c : HChan) : Bool := match c.play with
  | some p => p.running
  | none => false

/-- The results of a characterisation take effect at once (R454); what it measures is free (log 35). -/
def State.characterise (s : State) (i : Nat) : State :=
  let v (k n : Nat) : Nat := Config.measure s.freeCtr (hHaptic i) k % 2 ^ n
  s.updChan i (fun c => { c with capPf := v 1 32, fres := v 2 16, q := v 3 16, forceZero := v 4 32 })

/-- The RESULT of R454. -/
def State.checkResult (s : State) (i : Nat) (full : Bool) : List W32 :=
  let v (k n : Nat) : Nat := Config.measure s.freeCtr (hHaptic i) k % 2 ^ n
  [w32 (i + 256 * (v 0 2) + 65536 * (if full then v 2 16 else 0)), w32 (v 1 32), w32 (if full then v 3 16 else 0), w32 (v 4 32)]

/-- The verdict of a check. -/
def State.checkVerdict (s : State) (i : Nat) : Nat := Config.measure s.freeCtr (hHaptic i) 0 % 4

/-- What every check of a channel tests before it acts (R454). -/
def State.checkGates (s : State) (p : Packet) : List (Bool × Status) :=
  let i := p.target % 256
  [(!s.bridgedAway i, .busy), (!(s.chan i).driving, .busy), (s.touch.d2dUp && decide ((s.entry hBoost).fact ≠ 1), .offline)]

/-- A check of a channel is made: its facts, then the next free values. -/
def State.runCheck (s : State) (i : Nat) (full : Bool) : State :=
  let v := s.checkVerdict i
  let cap := Config.measure s.freeCtr (hHaptic i) 1 % 2 ^ 32
  let s1 := if full then s.characterise i else s
  (s1.actuatorFact i v true (s1.chan i).fres cap (Config.measure s.freeCtr (hHaptic i) 5 % 2 ^ 16)).tickFree

/-- ACTUATOR_CHECK OP 0. -/
def execActuatorCheck (p : Packet) (s : State) : Host.Outcome State Fault Refusal :=
  packet opActuatorCheck true p s fun s =>
    let i := p.target % 256
    checks ((decide (p.target / 256 = 0x15) && decide (p.length = 4) && decide (p.u32 16 = 0), .badParam) :: s.checkGates p)
      (.done (s.runCheck i false) .ok (s.checkResult i false))

/-- ACTUATOR_CHECK OP 1. -/
def execActuatorCharacterise (p : Packet) (s : State) : Host.Outcome State Fault Refusal :=
  packet opActuatorCheck true p s fun s =>
    let i := p.target % 256
    checks ((decide (p.target / 256 = 0x15) && decide (p.length = 4) && decide (p.u32 16 = 1), .badParam) :: s.checkGates p)
      (.done (s.runCheck i true) .ok (s.checkResult i true))

/-- ACTUATOR_CHECK OP 2: the configuration is the channel's intention; then as OP 1. -/
def execActuatorConfigure (p : Packet) (s : State) : Host.Outcome State Fault Refusal :=
  packet opActuatorCheck true p s fun s =>
    let i := p.target % 256
    let bridge := p.flag 16 2
    let panel := p.fld 17 0 2
    checks ((decide (p.target / 256 = 0x15) && decide (p.length = 12) && decide (p.fld 16 0 2 = 2) &&
          decide (p.fld 16 3 5 = 0) && decide (p.fld 17 3 5 = 0) && decide (100 ≤ p.u16 18) && decide (p.u16 18 ≤ 1200) &&
          (!bridge || (decide (i % 2 = 0) && !(s.chan i).driving && !(s.chan (i + 1)).driving)), .badParam) ::
        (s.present (hTouch panel), .noUnit) :: s.checkGates p)
      (let s1 := s.updChan i (fun c => { c with
         bridge := bridge
         panel := panel
         zoned := p.flag 17 2
         vmax := p.u16 18
         zx := p.u16 20
         zy := p.u16 22
         zw := p.u16 24
         zh := p.u16 26 })
       .done ((s1.intend p.target false 0).runCheck i true) .ok (s.checkResult i true))

/-! ### The effect library (R456) -/

/-- Record `k` of the packet, and whether it is in range. -/
def effectRec (p : Packet) (k : Nat) : Effect :=
  let o := 20 + 16 * k
  { shape := p.fld o 0 2, freq := p.u16 (o + 2), attack := p.u8 (o + 4), overdrive := p.u8 (o + 5), sustain := p.u16 (o + 6),
    ampl := p.u16 (o + 8), brake := p.fld (o + 10) 0 4, brakeLvl := p.u8 (o + 11) }
def effectOk (p : Packet) (k : Nat) : Bool :=
  let o := 20 + 16 * k
  let e := effectRec p k
  decide (e.shape ≤ 1) && decide (p.fld o 2 6 = 0) && decide (p.u8 (o + 1) = 0) &&
    (decide (e.freq = 0) || (decide (50 ≤ e.freq) && decide (e.freq ≤ 1000))) && decide (64 ≤ e.overdrive) &&
    decide (e.overdrive ≤ 128) && decide (e.ampl ≤ 1200) && decide (p.fld (o + 10) 4 4 = 0) && decide (e.brakeLvl ≤ 128) &&
    decide (p.u32 (o + 12) = 0)

/-- EFFECT_LOAD: all records or none. -/
def execEffectLoad (p : Packet) (s : State) : Host.Outcome State Fault Refusal :=
  packet opEffectLoad true p s fun s =>
    let first := p.fld 16 0 7
    let n := p.u8 17
    checks [(decide (p.target = hBoost) && decide (p.length = 4 + 16 * n) && decide (1 ≤ n) && decide (n ≤ 128) &&
        decide (p.fld 16 7 1 = 0) && decide (p.u16 18 = 0) && decide (first + n ≤ 128) && (List.range n).all (effectOk p), .badParam)]
      (let lib := (List.range n).foldl (fun l k => l.set (first + k) (effectRec p k)) s.haptics.library
       .done ((s.setHaptics { s.haptics with library := lib }).intend hBoost false 0) .ok [])

/-! ### Playing and stopping (R458 to R460) -/

/-- EFFECT_PLAY: tokens are taken and the start is planned 150 us + DELAY_US from now. -/
def execEffectPlay (p : Packet) (s : State) : Host.Outcome State Fault Refusal :=
  packet opEffectPlay (s.ownsChan p) p s fun s =>
    let i := p.target % 256
    let n := p.inst
    let c := s.chan i
    let e := s.haptics.library.get (p.fld 16 0 7)
    let scale := if p.u16 18 = 0 then 256 else p.u16 18
    let need := tokensFor c e scale
    let f := (s.entry p.target).fact
    checks [(decide (p.target / 256 = 0x15) && decide (p.length = 8) && decide (p.u8 17 = 0) && decide (scale ≤ 256) &&
          decide (p.u16 22 = 0), .badParam),
        (decide (s.hvHeld n + need ≤ (s.inst n).hvTokens), .quota), (!s.bridgedAway i, .busy),
        (decide (f = 0 ∨ f = 3) && decide ((s.entry hBoost).fact = 0), .offline)]
      (let y : Play :=
         { inst := n, effect := p.fld 16 0 7, rec_ := e, scale := scale, event := p.flag 16 7, tokens := need,
           planned := s.devTime + 150000 + 1000 * p.u16 20, started := 0, running := false, braking := false,
           immediate := false, outcome := 1, gain64 := e.overdrive, click := none }
       .done (s.updChan i (fun c => { c with queued := c.queued ++ [y] })).boost .ok [])

/-- EFFECT_STOP (R458): the running effect brakes, or ends, at its next zero crossing; the manager may stop any. -/
def execEffectStop (p : Packet) (s : State) : Host.Outcome State Fault Refusal :=
  packet opEffectStop (s.ownsChan p || decide (p.inst = 0)) p s fun s =>
    let i := p.target % 256
    checks [(decide (p.target / 256 = 0x15) && decide (p.length = 4) && decide (p.fld 16 1 31 = 0), .badParam),
        (!s.bridgedAway i, .busy)]
      (.done (s.updChan i (fun c => { c with play := c.play.map (fun y =>
         if y.running then { y with braking := true, immediate := p.flag 16 0, outcome := 3 } else y) })) .ok [])

/-- The waiting play that is due first. -/
def firstDue (ps : List Play) : Option Play :=
  ps.foldl (fun b p => match b with
    | none => some p
    | some q => if p.planned < q.planned then some p else some q) none

/-- EFFECT_START (R458, R461, R468): the next planned effect's first drive sample. A running effect is truncated, its
tokens return, and the residual motion `r64` (in 1/64) lowers the attack gain. The first cycle's check gives
`limit`, `capPf` and `motion`. -/
def execEffectStart (channel r64 : Nat) (limit : Bool) (capPf motion : Nat) (s : State) : Host.Outcome State Fault Refusal :=
  onUnit s (hHaptic channel) (
    match firstDue (s.chan channel).queued with
    | none => s
    | some y =>
      if s.haptics.boostReady && s.touch.d2dUp && decide (y.planned ≤ s.devTime ∨ y.click.isSome) then
        let c := s.chan channel
        let trunc := c.driving
        let s := if trunc then (s.endPlay channel 2 r64).count 13 channel 1 else s
        let gain := if trunc then 64 + (y.rec_.overdrive - 64) * (64 - min 64 r64) / 64 else y.rec_.overdrive
        let s := s.updChan channel (fun c => { c with
          queued := c.queued.erase y
          play := some { y with running := true, started := s.devTime, gain64 := gain } })
        let s := s.count 13 channel 0
        let s := match y.click with
          | some d => (s.raise y.inst 0x72 (hHaptic channel) (d + 2 ^ 48 * min 65535 ((s.devTime - y.planned) / 1000))).count 13 channel 3
          | none => s
        let v := actuatorVerdict c limit capPf motion
        let s := s.actuatorFact channel v false (c.freq y.rec_) capPf motion
        if v = 0 then s else (s.endPlay channel 4 0).count 13 channel 2
      else s)

/-- EFFECT_DONE (R457, R459): braking has ended, or the crossing of an immediate stop has come. -/
def execEffectDone (channel : Nat) (s : State) : Host.Outcome State Fault Refusal :=
  onUnit s (hHaptic channel) (match (s.chan channel).play with
    | some y => s.endPlay channel y.outcome 0
    | none => s)

/-! ### Click regions (R465 to R467) -/

/-- CLICK_REGION_SET: arming reserves the tokens of the larger effect. -/
def execClickRegionSet (p : Packet) (s : State) : Host.Outcome State Fault Refusal :=
  packet opClickRegionSet (s.ownsChan p) p s fun s =>
    let i := p.target % 256
    let n := p.inst
    let c := s.chan i
    let k := p.fld 16 0 2
    let arm := p.flag 16 2
    let old := match c.clicks.get k with
      | some r => r.tokens
      | none => 0
    let lib := s.haptics.library
    let need := if arm then max (tokensFor c (lib.get (p.fld 17 0 7)) 256) (tokensFor c (lib.get (p.fld 18 0 7)) 256) else 0
    let r : Click :=
      { inst := n, release := p.flag 16 3, effect := p.fld 17 0 7, relEffect := p.fld 18 0 7, on := p.u16 20, off := p.u16 22,
        x := p.u16 24, y := p.u16 26, w := p.u16 28, h := p.u16 30, tokens := need, pressed := false, contact := none }
    let inZone := decide (c.zx ≤ r.x) && decide (c.zy ≤ r.y) && decide (r.x + r.w ≤ c.zx + c.zw) && decide (r.y + r.h ≤ c.zy + c.zh)
    checks [(decide (p.target / 256 = 0x15) && decide (p.length = 16) && decide (p.fld 16 4 4 = 0) && decide (p.fld 17 7 1 = 0) &&
          decide (p.fld 18 7 9 = 0) && c.zoned && (!arm || (decide (100 ≤ r.on) && decide (r.on ≤ 20000) && decide (r.off < r.on) &&
          inZone)), .badParam),
        (decide (s.hvHeld n - old + need ≤ (s.inst n).hvTokens), .quota), (!s.bridgedAway i, .busy)]
      (let s := s.updChan i (fun c => { c with clicks := c.clicks.set k (if arm then some r else none) })
       .done (s.intend p.target false n).boost .ok [])

/-- The latest contact that was routed to the region's owner and lies within it (R466). -/
def State.clickContact (s : State) (c : HChan) (r : Click) : Option Contact :=
  (s.tp_ c.panel).contacts.find? (fun k => decide (k.owner = r.inst) && inRect (k.last.x / 8) (k.last.y / 8) r.x r.y r.w r.h)

/-- A region fires its press or release effect, with the tokens that it holds itself. -/
def State.fireClick (s : State) (i k : Nat) (r : Click) (release : Bool) (contact : Nat) : State :=
  let c := s.chan i
  let e := if release then r.relEffect else r.effect
  let d := detail [(i, 8), (k, 2), (b2n release, 6), (contact, 8), (c.panel, 8), (c.force, 16)]
  let y : Play :=
    { inst := r.inst, effect := e, rec_ := s.haptics.library.get e, scale := 256, event := false, tokens := 0,
      planned := s.devTime, started := 0, running := false, braking := false, immediate := false, outcome := 1,
      gain64 := (s.haptics.library.get e).overdrive, click := some d }
  s.updChan i (fun c => { c with queued := y :: c.queued })

/-- One armed region against the force: one press fires once; its owner must be served, the actuator sound (R466 to
R468). -/
def State.stepClick (s : State) (i k : Nat) : State :=
  let c := s.chan i
  match c.clicks.get k with
  | none => s
  | some r =>
    let set (p : Bool) (s : State) : State :=
      s.updChan i (fun c => { c with clicks := c.clicks.set k (some { r with pressed := p }) })
    let f := (s.entry (hHaptic i)).fact
    let sound := decide (f ≠ 1) && decide (f ≠ 2) && decide ((s.entry hBoost).fact = 0) && decide ((s.inst r.inst).state = .active ∨ (s.inst r.inst).state = .bound)
    if r.pressed then
      if c.force < r.off then
        let s := set false s
        if r.release && sound then s.fireClick i k r true 0 else s
      else s
    else match s.clickContact c r with
      | some q => if r.on ≤ c.force ∧ sound = true then (set true s).fireClick i k r false q.last.id else s
      | none => s

/-- The user calibration's FORCE_GAIN delta of a channel: after the 14 RESULT bytes of its record (R622). -/
def State.gainDelta (s : State) (i : Nat) : Nat := leNat (((s.firmware.userCal.get (32 + i)).drop 26).take 4)

/-- FORCE_SAMPLE (R463): the force of an idle channel from its charge counts; the zero follows the charge once no
contact has lain in the zone for 50 ms. -/
def execForceSample (channel counts : Nat) (s : State) : Host.Outcome State Fault Refusal :=
  onUnit s (hHaptic channel) (
    let c := s.chan channel
    if c.driving || !s.touch.d2dUp then s
    else
      let z0 := if c.contactTime + 50000000 ≤ s.devTime then counts else c.forceZero
      let f := (clampI 0 20000 (Config.forceMn (Config.factory 3 channel 1) (s.gainDelta channel) ((counts : Int) - z0))).toNat
      let s := s.updChan channel (fun c => { c with forceZero := z0, force := f, forceTime := s.devTime })
      [0, 1, 2, 3].foldl (fun s k => s.stepClick channel k) s)

/-! ### Transitions of instances (R467, R592) -/

/-- A channel's running effect of the instance brakes; its tokens pass to the channel where the instance's holdings
return. Waiting plays of the instance end. -/
def State.brakeChan (s : State) (n i : Nat) (give : Bool) : State :=
  s.updChan i (fun c =>
    let mine := c.play.map (fun y => if decide (y.inst = n) then { y with braking := true, outcome := 5, tokens := if give then 0 else y.tokens } else y)
    let t := match c.play with
      | some y => if y.inst = n ∧ give = true then y.tokens else 0
      | none => 0
    { c with play := mine, queued := c.queued.filter (fun y => decide (y.inst ≠ n)), devTokens := c.devTokens + t })

/-- Quiesce: regions disarm, effects brake, tokens return (R467, R592). -/
def State.cancelHaptics (s : State) (n : Nat) : State :=
  ((List.range s.board.member.haptics).foldl (fun s i =>
    (s.brakeChan n i true).updChan i (fun c => { c with
      clicks := [0, 1, 2, 3].foldl (fun t k => match t.get k with
        | some r => if r.inst = n then t.set k none else t
        | none => t) c.clicks })) s).boost

/-- Freeze: effects brake, armed regions stay with their tokens (R467). -/
def State.freezeHaptics (s : State) (n : Nat) : State :=
  (List.range s.board.member.haptics).foldl (fun s i => s.brakeChan n i false) s

/-- A channel leaves an instance: its regions disarm and its effect brakes (R73, R467). -/
def State.removeChan (s : State) (n i : Nat) : State :=
  ((s.brakeChan n i true).updChan i (fun c => { c with clicks := Tab.empty })).boost

end Sys2Proof.Machine
end

