-- ==== Sys2Proof/Machine/Monitors.lean ====
section
/-!
DEFINITION. Region monitors (13 R392 to R396, R522): configuration, the CRC they compute over the pixels sent, and Cupper's
comparison.
-/

namespace Sys2Proof.Machine

open Sys2Proof

def opRegionMonSet : Op := { code := 0x5004, mark := .sfty }

/-- The configuration of the payload (R392). -/
def monOf (p : Packet) : MonCfg :=
  { enable := p.flag 16 0, tapBlend := p.flag 16 1, alarm := p.flag 16 2, nexp := p.fld 16 3 2, learn := p.flag 16 5,
    limit := if p.u8 17 = 0 then 2 else p.u8 17, x := p.u16 20, y := p.u16 22, w := p.u16 24, h := p.u16 26,
    exp := (p.wordsFrom 28).take 4 }

/-- The rectangle lies within a timing's active area. -/
def MonCfg.fits (c : MonCfg) (t : Timing) : Bool :=
  decide (1 ≤ c.w) && decide (1 ≤ c.h) && decide (c.x + c.w ≤ t.hact) && decide (c.y + c.h ≤ t.vact)

/-- A monitor's intended configuration. -/
def Mon.want (m : Mon) : MonCfg := m.next.getD m.cfg

/-- REGION_MON_SET (R392): in force from the next frame start. The rectangle is checked where ENABLE is 1 (DEDUCED,
log 68). -/
def execRegionMonSet (p : Packet) (s : State) : Host.Outcome State Fault Refusal :=
  packet opRegionMonSet true p s fun s =>
    let i := p.target % 256
    let c := monOf p
    let m := s.mon i
    checks [(decide (p.target / 256 = 0x13) && decide (p.length = 28) && decide (p.fld 16 6 2 = 0) && decide (p.u16 18 = 0) &&
        (!c.enable || c.fits (s.pipe (i / 16)).want), .badParam),
      (!m.want.enable || decide (m.owner = p.inst), .busy)]
      (.done ((s.updMon i (fun m => { m with next := some c, owner := p.inst })).intend p.target true p.inst) .ok [])

/-- REGION_MON (R390): its alarm bit tells what holds once the steps of R394 are done. -/
def State.monEvent (s : State) (i cause frames crc : Nat) : State :=
  let m := s.mon i
  let alarm := if cause = 1 then m.cfg.alarm else decide (cause ≠ 2) && s.sec.alarms.contains (2, hMon i)
  s.raiseAll ([0, m.owner].dedup) 0x55 (hMon i)
    (detail [(i, 8), (cause, 8), (frames, 8), (b2n alarm, 8), ((s.pipe (i / 16)).frame, 32), (crc, 32)])

/-- A monitor ceases: its counts start afresh and its assertion is released. -/
def State.monClear (s : State) (i : Nat) : State :=
  (s.updMon i (fun m => { m with
    crc := 0xFFFFFFFF, fed := 0, mismatches := 0, matches_ := 0, limitReached := false })).releaseCause 2 (hMon i)

/-- A monitor is disabled at once. -/
def State.monOff (s : State) (i : Nat) : State :=
  (s.updMon i (fun m => { m with cfg := .off, next := none })).monClear i

/-- A timing change leaves its rectangle outside the active area (R396). -/
def State.monTiming (s : State) (i : Nat) : State :=
  let m := s.mon i
  if m.want.enable && !m.want.fits (s.pipe (i / 16)).timing then
    ((s.monOff i).intend (hMon i) false 0xFF).monEvent i 4 m.mismatches 0
  else s

/-- INST_RESET and INST_DESTROY of the owner disable its monitors (R392). -/
def State.dropMons (s : State) (n : Nat) : State :=
  (List.range (16 * s.board.member.pipes)).foldl (fun s i =>
    if (s.mon i).want.enable ∧ (s.mon i).owner = n then (s.monOff i).intend (hMon i) false 0 else s) s

/-- A frame starts on a pipe: configurations that wait come into force, and the CRC starts at its standard initial value. -/
def State.monFrameStart (s : State) (pipe : Nat) : State :=
  (List.range 16).foldl (fun s k =>
    let i := 16 * pipe + k
    match (s.mon i).next with
    | some c => ((s.updMon i (fun m => { m with cfg := c, next := none })).monClear i).settle (hMon i)
    | none => s.updMon i (fun m => { m with crc := 0xFFFFFFFF, fed := 0 })) s

/-- The bytes that a monitor takes of one line: `final` and `blend` give the value sent and blended at a column (R393). -/
def MonCfg.lineBytes (c : MonCfg) (final blend : Nat → Nat) : List Byte :=
  (List.range c.w).flatMap (fun j =>
    if c.tapBlend then leBytes 6 (blend (c.x + j)) else leBytes 4 (final (c.x + j)))

/-- The monitors of a pipe take one line. -/
def State.monLine (s : State) (pipe line : Nat) (final blend : Nat → Nat) : State :=
  (List.range 16).foldl (fun s k =>
    let i := 16 * pipe + k
    let c := (s.mon i).cfg
    if c.enable && decide (c.y ≤ line) && decide (line < c.y + c.h) then
      s.updMon i (fun m => { m with crc := crcFeed m.crc (c.lineBytes final blend), fed := m.fed + c.w })
    else s) s

/-- Cupper compares (R522). -/
def State.monitoring (s : State) : Bool := s.sec.available && !s.sec.halted

/-- Consecutive mismatches reach LIMIT: cause 1, a DEGR record, ALARM_N (R394). -/
def State.monMismatch (s : State) (i crc : Nat) : State :=
  let m := s.mon i
  let n := satInc 8 m.mismatches
  let s := (s.updMon i (fun m => { m with mismatches := n, matches_ := 0 })).count 3 i 1
  if decide (n = m.cfg.limit) && !m.limitReached then
    let s := s.updMon i (fun m => { m with limitReached := true })
    let s := (s.monEvent i 1 n crc).raiseErr 0x5002 3 (hMon i) m.owner 0 0
    if m.cfg.alarm then s.assertCause 2 (hMon i) else s
  else s

/-- A matching frame; after LIMIT of them in a row, cause 2 and the release (R394). -/
def State.monMatch (s : State) (i crc : Nat) : State :=
  let m := s.mon i
  let n := satInc 8 m.matches_
  let s := (s.updMon i (fun m => { m with mismatches := 0, matches_ := n })).count 3 i 0
  if m.limitReached ∧ n = m.cfg.limit then
    ((s.updMon i (fun m => { m with limitReached := false })).monEvent i 2 n crc).releaseCause 2 (hMon i)
  else s

/-- Cupper has compared a monitor for the first time since its restart; after the last of them cause WATCHDOG is released
(R526). -/
def State.monFirst (s : State) (i : Nat) : State :=
  if s.sec.awaiting.contains i then
    let s := s.setSec { s.sec with awaiting := s.sec.awaiting.erase i }
    if s.sec.awaiting.isEmpty then s.releaseCause 3 0xFFFF else s
  else s

/-- REGION_MON_FRAME (R394, R395): the last pixel of the rectangle has been sent. -/
def execRegionMonFrame (i : Nat) (s : State) : Host.Outcome State Fault Refusal :=
  onUnit s (hMon i)
    (let m := s.mon i
     if !m.cfg.enable || decide (m.fed < m.cfg.w * m.cfg.h) then s
     else
       let crc := (m.crc ^^^ 0xFFFFFFFF#32).toNat
       let s := (s.edge (264 + i)).updMon i (fun m => { m with crc := 0xFFFFFFFF, fed := 0 })
       if !s.monitoring then s.count 3 i 2
       else
         let s := s.monFirst i
         if m.cfg.learn then
           let s := s.updMon i (fun m => { m with
             cfg := { m.cfg with learn := false, nexp := 0, exp := m.cfg.exp.set 0 crc } })
           s.monEvent i 3 0 crc
         else if (m.cfg.exp.take (m.cfg.nexp + 1)).contains crc then s.monMatch i crc
         else s.monMismatch i crc)

/-- REGION_MON_MISSING (R394): the pipe's intention is RUN and no frame completed within two frame periods. -/
def execRegionMonMissing (i : Nat) (s : State) : Host.Outcome State Fault Refusal :=
  onUnit s (hMon i)
    (if !(s.mon i).cfg.enable || decide ((s.pipe (i / 16)).intent ≠ 2) then s
     else if !s.monitoring then s.count 3 i 2
     else (s.monMismatch i (Config.missing s.freeCtr i)).tickFree)

end Sys2Proof.Machine
end

