-- ==== Sys2Proof/Machine/Bands.lean ====
section
/-!
DEFINITION. Band composition and scan-out of the bands (11 R331, R334 to R340; 07 R225 to R229; 13 R384, R385): which tiles a
band fetches, their checks, the strips, and the pixels that a pipe sends.
-/

namespace Sys2Proof.Machine

open Sys2Proof

/-! ### Which tiles a layer needs (R334, R335) -/

/-- Source pixels of an output pixel that its footprint rests on: its own where unscaled, else every tap. -/
def FLayer.sourcePixels (l : FLayer) (video : Bool) (x y : Nat) : List (Nat × Nat) :=
  if !video then [l.graphicAt x y]
  else if l.unscaled then [(l.st.srcX + (x - l.st.dstX), l.st.srcY + (y - l.st.dstY))]
  else
    let (px, py) := l.posAt x y
    let cols := (tapsAt 8 l.st.srcX l.st.srcW (phaseOf px).1).dedup
    let rows := (tapsAt 6 l.st.srcY l.st.srcH (phaseOf py).1).dedup
    rows.flatMap (fun r => cols.map (fun c => (c, r)))

/-- Tiles of the surface that an output pixel shows. -/
def FLayer.tilesAt (l : FLayer) (video : Bool) (f : Surface) (x y : Nat) : List Nat :=
  ((l.sourcePixels video x y).map (fun c => c.2 / 64 * f.tw + c.1 / 64)).dedup

/-- The destination contains an output pixel. -/
def LayerState.covers (l : LayerState) (x y : Nat) : Bool :=
  decide (l.dstX ≤ x) && decide (x < l.dstX + l.dstW) && decide (l.dstY ≤ y) && decide (y < l.dstY + l.dstH)

/-- Output pixels of a layer within lines [y0, y1) and columns [x0, x1). -/
def LayerState.pixelsIn (l : LayerState) (x0 x1 y0 y1 : Nat) : List (Nat × Nat) :=
  (List.range (y1 - y0)).flatMap (fun j => ((List.range (x1 - x0)).map (fun i => (x0 + i, y0 + j))).filter
    (fun c => l.covers c.1 c.2))

/-- The format carries alpha. -/
def hasAlpha (format : Nat) : Bool := decide (format = 2) || decide (format = 4)

/-- A layer is opaque (R335). -/
def State.opaqueLayer (s : State) (l : FLayer) : Bool :=
  decide (l.st.layerAlpha = 1023) && (decide (l.st.alphaMode = 2) || (match s.surfAny l.owner l.st.surface with
    | some f => !hasAlpha f.format
    | none => false))

/-! ### Fetch and check (R225 to R227) -/

/-- The check of R225: 0 passed, else the cause bit plus 1: OPEN, STALE, CORRUPT, ECC. `bad` is what went wrong with this
fetch: 0 nothing, 1 the bytes came back corrupted, 2 an uncorrectable ECC error. -/
def checkTile (id : Nat) (f : Surface) (tile : Nat) (bytes : List Byte) (bad : Nat) : Nat :=
  if !f.isSealed then 0
  else if f.isOpen then 1
  else if bad = 2 then 4
  else
    let e := f.table.get tile
    if bad = 0 ∧ tileSeal (w32 id) f.gen bytes = entrySeal e then 0
    else if entryGen e ≠ f.gen then 2 else 3

/-- What goes wrong with a tile's fetches while a strip is composed, as the world decides: (layer slot, tile, mode), with
mode 1 corrupted once, 2 an ECC error once, 3 corrupted twice, 4 an ECC error twice, 5 corrupted and the refetch late. -/
abbrev FetchFaults := List (Nat × Nat × Nat)

/-- The mode of a tile. -/
def FetchFaults.mode (fs : FetchFaults) (slot tile : Nat) : Nat :=
  match fs.find? (fun x => decide (x.1 = slot) && decide (x.2.1 = tile)) with
  | some x => x.2.2
  | none => 0

/-- One tile fetched for a band: checked, and on a safety-class layer that fails fetched once more (R227). The failure is
noted with the layer's frame (R226, R229). -/
def State.fetchTile (s : State) (l : FLayer) (f : Surface) (tile mode : Nat) : State × Fetched :=
  let id := l.st.surface
  let bytes := s.readScan l.owner (f.iaddr + tile * tileBytes f.format) (tileBytes f.format) f.dead
  let first := if mode = 2 ∨ mode = 4 then 2 else if mode = 0 then 0 else 1
  let c := checkTile id f tile bytes first
  let again := if mode = 5 then 3 else checkTile id f tile bytes (if mode = 4 then 2 else if mode = 3 then 1 else 0)
  let fail := if c = 0 then 0 else if !l.safety then c else again
  let out : Fetched := { slot := l.slot, tile := tile, fail := fail, data := bytes }
  let s := if c ≠ 0 ∧ l.safety = true ∧ fail = 0 then s.count 12 0 0 else s
  if fail = 0 then (s, out)
  else
    (s.updSlot l.slot (fun t =>
      let r := t.sealRun
      let fl := if r.failed.contains tile then r.failed else r.failed ++ [tile]
      { t with sealRun := { r with
          failed := fl, causes := r.causes ||| 2 ^ (fail - 1), gen := f.gen,
          fallback := if l.safety then fl else r.fallback } }), out)

/-- The tiles of a layer that a strip needs and the band has not fetched: not those whose footprint in the band opaque layers
above cover, nor any of a layer of alpha 0 (R335, R338). -/
def State.stripTiles (s : State) (b : Band) (l : FLayer) (above : List FLayer) (f : Surface) (hact y0 y1 x0 x1 : Nat) : List Nat :=
  if l.st.layerAlpha = 0 then []
  else
    let video := s.isVideo l.slot
    let opq := above.filter s.opaqueLayer
    let ts := ((l.st.pixelsIn x0 x1 y0 y1).flatMap (fun c => l.tilesAt video f c.1 c.2)).dedup
    let hidden (t : Nat) : Bool := (l.st.pixelsIn 0 hact y0 y1).all (fun c =>
      !(l.tilesAt video f c.1 c.2).contains t || opq.any (fun o => o.st.covers c.1 c.2))
    ts.filter (fun t => !b.fetched.any (fun x => decide (x.slot = l.slot) && decide (x.tile = t)) && !hidden t)

/-- Every fetch that a strip makes. -/
def State.fetchStrip (s : State) (b : Band) (set : FrameSet) (hact y0 y1 x0 x1 : Nat) (faults : FetchFaults) : State × Band :=
  (List.range set.layers.length).foldl (fun (acc : State × Band) k =>
    match set.layers[k]? with
    | none => acc
    | some l =>
      match acc.1.surfAny l.owner l.st.surface with
      | none => acc
      | some f =>
        let ts := acc.1.stripTiles acc.2 l (set.layers.drop (k + 1)) f hact y0 y1 x0 x1
        ts.foldl (fun (a : State × Band) t =>
          let r := a.1.fetchTile l f t (faults.mode l.slot t)
          (r.1, { a.2 with fetched := a.2.fetched ++ [r.2] })) acc) (s, b)

/-! ### Pixels (R331 to R334) -/

/-- The protected fallback of a slot at an output pixel: the registered image, or the hatch (R228). The image repeats in
screen tiles that align with the footprint of the failed tile, whose origin is given. -/
def State.fallbackPixel (s : State) (slot ox oy x y : Nat) : Nat :=
  match s.sec.fallback.get slot with
  | some im =>
    let off := ((y - oy) % 64 * 64 + (x - ox) % 64) * 4
    leNat ((im.drop off).take 4)
  | none => if (x + y) / 8 % 2 = 0 then 0xFFFFD000 else 0xFF000000

/-- The top left corner of the footprint of a tile within the band: the first output pixel that shows it. -/
def footprintOrigin (l : FLayer) (video : Bool) (f : Surface) (tile hact y0 y1 : Nat) : Nat × Nat :=
  let ps := (l.st.pixelsIn 0 hact y0 y1).filter (fun c => (l.tilesAt video f c.1 c.2).contains tile)
  ((ps.map Prod.fst).min?.getD 0, (ps.map Prod.snd).min?.getD 0)

/-- Bytes of a surface as the band fetched them; a tile it did not fetch is read from memory. -/
def State.bandRead (s : State) (b : Band) (l : FLayer) (f : Surface) (off n : Nat) : List Byte :=
  let tb := tileBytes f.format
  match b.fetched.find? (fun x => decide (x.slot = l.slot) && decide (x.tile = off / tb)) with
  | some x => (x.data.drop (off % tb)).take n
  | none => s.readScan l.owner (f.iaddr + off) n f.dead

/-- One layer blended at an output pixel (R331 to R334). -/
def State.blendLayer (s : State) (b : Band) (tone : Tone) (hact y0 y1 x y : Nat) (acc : List Nat × Bool) (l : FLayer) :
    List Nat × Bool :=
  if !l.st.covers x y || decide (l.st.layerAlpha = 0) then acc
  else match s.surfAny l.owner l.st.surface with
    | none => acc
    | some f =>
      let video := s.isVideo l.slot
      let failing := (l.tilesAt video f x y).find? (fun t =>
        b.fetched.any (fun r => decide (r.slot = l.slot) && decide (r.tile = t) && decide (r.fail ≠ 0)))
      match failing with
      | some t =>
        if l.safety then
          let o := footprintOrigin l video f t hact y0 y1
          blendPixel acc (argbColour tone (s.fallbackPixel l.slot o.1 o.2 x y)).1 65535 true
        else
          let c := argbColour tone l.st.hold
          let a16 := if l.st.alphaMode = 2 then 65535 else c.2
          blendPixel acc c.1 (blendAlpha a16 l.st.layerAlpha) false
      | none =>
        let read := s.bandRead b l f
        let px := if video then l.scaled read f x y else
          (let c := l.graphicAt x y
           pixelCodes read f l.st c.1 c.2)
        let cl := linearColour tone l.st.eotf l.st.matrix (px.take 3)
        let a16 := if l.st.alphaMode = 2 then 65535 else px.getD 3 65535
        blendPixel acc cl (blendAlpha a16 l.st.layerAlpha) l.safety

/-- The blend result of an output pixel. -/
def State.blendAt (s : State) (b : Band) (set : FrameSet) (hact y0 y1 x y : Nat) : List Nat × Bool :=
  let tone := set.tone.getD .reset
  set.layers.foldl (fun acc l => s.blendLayer b tone hact y0 y1 x y acc l) ([0, 0, 0], false)

/-- The key of a pixel in a band. -/
def pixKey (line col : Nat) : Nat := line * 4096 + col

/-- The frame that a band belongs to. -/
def Pipe.setOf (q : Pipe) (b : Band) : FrameSet := if b.next then q.nextSet else q.frameSet

/-- One strip of a band composed (R338). -/
def State.composeStrip (s : State) (pipe : Nat) (b : Band) (faults : FetchFaults) : State × Band :=
  let q := s.pipe pipe
  let set := q.setOf b
  let y0 := 64 * b.k
  let y1 := min (y0 + 64) q.timing.vact
  let x0 := 64 * b.strips
  let x1 := min (x0 + 64) q.timing.hact
  let (s, b) := s.fetchStrip b set q.timing.hact y0 y1 x0 x1 faults
  let pix := (List.range (y1 - y0)).flatMap (fun j => (List.range (x1 - x0)).map (fun i => (x0 + i, y0 + j)))
  let done := pix.foldl (fun (w : Tab (0 : Nat) × Tab (0 : Nat)) c =>
    let r := s.blendAt b set q.timing.hact y0 y1 c.1 c.2
    (w.1.set (pixKey c.2 c.1) (set.output r),
     w.2.set (pixKey c.2 c.1) (pack [(r.1.getD 0 0, 16), (r.1.getD 1 0, 16), (r.1.getD 2 0, 16)]))) (b.words, b.blend)
  (s, { b with strips := b.strips + 1, words := done.1, blend := done.2 })

/-! ### Seal results of a frame (R226, R229) -/

/-- One layer when the last band of a frame has been composed. -/
def State.sealLayer (s : State) (pipe : Nat) (l : FLayer) : State :=
  let t := s.slot l.slot
  let r := t.sealRun
  if !l.safety then
    let s := if r.failed.isEmpty then s
      else (s.raise l.owner 0x20 (hSlot l.slot) (detail [(l.st.surface, 32), (r.gen.toNat, 32), (l.slot, 8), (pipe, 8),
        (r.causes, 8), (0, 8), (r.failed.length, 16), (r.failed.headD 0, 16)])).count 13 (768 + l.slot) 0
    s.updSlot l.slot (fun t => { t with sealRun := .zero })
  else if !s.monitoring then s.updSlot l.slot (fun t => { t with sealRun := { r with failed := [], causes := 0, fallback := [] } })
  else if r.fallback.isEmpty then
    let clean := satInc 16 r.clean
    let s := s.updSlot l.slot (fun t => { t with sealRun := { SealRun.zero with clean := clean } })
    if t.escalate ≤ clean then s.releaseCause 0 (hSlot l.slot) else s
  else
    let n := satInc 16 r.consecutive
    let s := s.updSlot l.slot (fun t => { t with sealRun := { SealRun.zero with consecutive := n } })
    let up := decide (t.escalate ≠ 0) && decide (t.escalate ≤ n)
    let alarm := up || s.sec.alarms.contains (0, hSlot l.slot)
    let s := s.raiseAll ([0, l.owner].dedup) 0x23 (hSlot l.slot) (detail [(l.st.surface, 32), (r.gen.toNat, 32), (l.slot, 8), (pipe, 8),
      (r.causes, 8), (b2n alarm, 8), (r.fallback.length, 16), (n, 16)])
    let s := (s.raiseErr 0x2001 3 (hSlot l.slot) l.owner 0 0).count 12 0 1
    if up then s.assertCause 0 (hSlot l.slot) else s

/-- Every layer of the frame. -/
def State.sealFrame (s : State) (pipe : Nat) (set : FrameSet) : State := set.layers.foldl (fun s l => s.sealLayer pipe l) s

/-! ### The rows -/

/-- When a band's window closes: its scan-out begins at line 64 k (R337). -/
def Pipe.closesAt (q : Pipe) (b : Band) : Nat :=
  q.lastFrameStart + q.timing.linesNs (64 * b.k) + (if b.next then q.timing.periodNs else 0)

/-- The band that the engine takes: among the open ones that are incomplete, the one whose window closes first, then the
lower pipe (R338): pipe and place in its list. -/
def State.nextStrip (s : State) : Option (Nat × Nat) :=
  let cands := (List.range s.board.member.pipes).flatMap (fun p =>
    let q := s.pipe p
    (List.range q.bands.length).filterMap (fun j => match q.bands[j]? with
      | some b => if q.generating && decide (b.strips < q.stripCount) then some (q.closesAt b, p, j) else none
      | none => none))
  let best := cands.foldl (fun (m : Option (Nat × Nat × Nat)) c => match m with
    | some x => if c.1 < x.1 then some c else m
    | none => some c) none
  best.map (fun x => x.2)

/-- BAND_COMPOSE (R338). -/
def execBandCompose (faults : FetchFaults) (s : State) : Host.Outcome State Fault Refusal :=
  match s.nextStrip with
  | none => .next s
  | some (p, j) =>
    match (s.pipe p).bands[j]? with
    | none => .next s
    | some b =>
      let (s1, b1) := s.composeStrip p b faults
      let q := s1.pipe p
      let s2 := s1.updPipe p (fun q => { q with bands := q.bands.set j b1 })
      if b1.strips = q.stripCount ∧ b1.k + 1 = q.bandCount then .next ((s2.sealFrame p (q.setOf b1)).flushFences)
      else .next s2

/-- BAND_WINDOW_OPEN (R337). -/
def execBandWindowOpen (pipe band : Nat) (s : State) : Host.Outcome State Fault Refusal :=
  onUnit s (hPipe pipe)
    (let q := s.pipe pipe
     let nb := q.bandCount
     let own := decide (q.state = .run) && !q.openNext && decide (band = q.nextBand) && decide (band < nb)
     let ahead := q.latched && q.composeNext && q.generating &&
       (if q.openNext then decide (band = 1) && decide (q.nextBand = 1) && decide (1 < nb)
        else decide (band = 0) && (decide (q.state ≠ .run) || decide (q.nextBand = nb)))
     let b : Band :=
       { k := band, next := ahead, strips := 0, words := Tab.empty, blend := Tab.empty, fetched := [], underruns := Tab.empty }
     if (own || ahead) && decide (q.bands.length < 2) then
       s.updPipe pipe (fun q => { q with bands := q.bands ++ [b], nextBand := band + 1, openNext := ahead })
     else s)

/-- SCANOUT_UNDERRUN (R385): the pipe reaches a column whose strip is not complete. -/
def execScanoutUnderrun (pipe line column : Nat) (s : State) : Host.Outcome State Fault Refusal :=
  onUnit s (hPipe pipe)
    (let q := s.pipe pipe
     if decide (q.state = .run) && decide (line < q.timing.vact) && decide (column < q.timing.hact) then
       let hit (b : Band) : Bool := !b.next && decide (b.k = line / 64) && decide (b.strips ≤ column / 64) &&
         decide (b.underruns.get line = none)
       if q.bands.any hit then
         (s.edge (200 + 8 * pipe + 3)).updPipe pipe (fun q => { q with bands := q.bands.map (fun b =>
           if hit b then { b with underruns := b.underruns.set line (some column) } else b) })
       else s
     else s)

/-- Where a line of a band first repeats a pixel: the recorded column, or the first strip that was never completed. -/
def Band.underrunAt (b : Band) (strips line : Nat) : Option Nat :=
  match b.underruns.get line with
  | some c => some c
  | none => if b.strips < strips then some (64 * b.strips) else none

/-- One line sent (R384, R385): monitors take it, the last pixel is kept, an underrun is noted. -/
def State.sendLine (s : State) (pipe : Nat) (b : Band) (line : Nat) : State :=
  let q := s.pipe pipe
  let u := b.underrunAt q.stripCount line
  let before (c : Nat) : Nat := if c = 0 then q.lastPixel else b.words.get (pixKey line (c - 1))
  let final (c : Nat) : Nat := match u with
    | some k => if k ≤ c then before k else b.words.get (pixKey line c)
    | none => b.words.get (pixKey line c)
  let blend (c : Nat) : Nat :=
    if c < 64 * b.strips then b.blend.get (pixKey line c) else Config.missing s.freeCtr (pixKey line c)
  let s := s.monLine pipe line final blend
  s.updPipe pipe (fun q => { q with
    lastPixel := final (q.timing.hact - 1)
    ulines := q.ulines + b2n u.isSome
    ufirstLine := if u.isSome ∧ q.ulines = 0 then line else q.ufirstLine
    ufirstCol := if q.ulines = 0 then u.getD q.ufirstCol else q.ufirstCol })

/-- BAND_SCANOUT_END (R339, R384, R385): the pixels of the band as they were sent; strips not composed are abandoned. -/
def execBandScanoutEnd (pipe : Nat) (s : State) : Host.Outcome State Fault Refusal :=
  onUnit s (hPipe pipe)
    (let q := s.pipe pipe
     match q.bands.find? (fun b => !b.next) with
     | none => s
     | some b =>
       if q.state ≠ .run then s
       else
         let lines := (List.range 64).map (· + 64 * b.k) |>.filter (· < q.timing.vact)
         let s := lines.foldl (fun s y => s.sendLine pipe b y) s
         let short := q.stripCount - b.strips
         let s := s.updPipe pipe (fun q => { q with
           bands := q.bands.erase b, abandoned := q.abandoned + short, bandLate := q.bandLate + b2n (decide (short ≠ 0)) })
         let s := if short ≠ 0 then (s.count 2 pipe 4).tickFree else s
         let s := if short ≠ 0 ∧ b.k + 1 = q.bandCount then s.sealFrame pipe (q.setOf b) else s
         s.flushFences)

end Sys2Proof.Machine
end

