-- ==== Sys2Proof/Machine/Domains.lean ====
section
/-!
DEFINITION. A clock domain's PLL loses lock and relocks (19 R545, R546, R550; 21 R581): what every chapter that clocks units
from a PLL shares.
-/

namespace Sys2Proof.Machine

open Sys2Proof

/-- One clock domain. -/
def State.dom (s : State) (d : Nat) : Dom := s.clocks.dom.get d

/-- Change one clock domain. -/
def State.updDom (s : State) (d : Nat) (f : Dom → Dom) : State :=
  s.setClocks { s.clocks with dom := s.clocks.dom.upd d f }

/-- The error record of a loss, once its first outcome is known: 1 relocked, 2 offline, 3 still retrying (R581). -/
def State.pllRecord (s : State) (d outcome : Nat) : State :=
  let x := s.dom d
  if x.logged then s
  else (s.updDom d (fun x => { x with logged := true })).raiseErr 0x9008 3 (hClock d) 0xFF 0
    (detail [(d, 8), (x.relocks, 8), (outcome, 8)])

/-- Loss of lock: the bypass, the source, the fact PLL_BYPASS, the counters (R545, R609). -/
def State.domLost (s : State) (d : Nat) : State :=
  let s := s.updDom d (fun x => { x with
    state := .bypass, relocks := 0, losses := satInc 32 x.losses, logged := false, since := s.devTime })
  ((s.edge (16 + d)).count 8 d 0).setFact (hClock d) 3

/-- A relock attempt. -/
def State.domAttempt (s : State) (d : Nat) : State := s.updDom d (fun x => { x with relocks := satInc 16 x.relocks })

/-- Relock: the domain leaves its bypass and the fact clears (R546). -/
def State.domRelocked (s : State) (d : Nat) : State :=
  let x := s.dom d
  let s := (s.countBy 8 d 2 ((s.devTime - x.since) / 1000)).count 8 d 1
  let s := (s.updDom d (fun x => { x with state := .running })).pllRecord d 1
  if (s.entry (hClock d)).fact = 3 ∨ (s.entry (hClock d)).fact = 4 then (s.clearFact (hClock d)).settle (hClock d) else s

/-- The domain gives up: PLL_OFFLINE (R546). -/
def State.domOffline (s : State) (d : Nat) : State :=
  ((s.updDom d (fun x => { x with state := .offline })).pllRecord d 2).setFact (hClock d) 4

/-- Further attempts follow: the record's outcome is 3. -/
def State.domRetrying (s : State) (d : Nat) : State := s.pllRecord d 3

end Sys2Proof.Machine
end

