-- ==== Sys2Proof/Machine/Shaders.lean ====
section
/-!
DEFINITION. Shader intake and queue settings (08 R242 to R256, R306): SHADER_LOAD, PIPELINE_CREATE with its state block,
the shader cache, compilations, PIPELINE_DESTROY and QUEUE_CONFIG. SPIR-V itself is judged by free functions, since the
SPIR-V standard lies outside the spec (log 58).
-/

namespace Sys2Proof.Machine

open Sys2Proof

def opShaderLoad : Op := { code := 0x3001, mark := .g }
def opPipelineCreate : Op := { code := 0x3002, mark := .g }
def opPipelineDestroy : Op := { code := 0x3003, mark := .g }
def opQueueConfig : Op := { code := 0x3004, mark := .g }

/-- The key of an instance's module or pipeline. -/
def idKey (n id : Nat) : Nat := n * 2 ^ 32 + id

/-- A module or pipeline that a packet may name: not removed. -/
def State.module_ (s : State) (n id : Nat) : Option Module :=
  match s.gpu.modules.get (idKey n id) with
  | some m => if m.removed then none else some m
  | none => none
def State.pipeline (s : State) (n id : Nat) : Option Pipeline :=
  match s.gpu.pipelines.get (idKey n id) with
  | some m => if m.removed then none else some m
  | none => none

/-- The values of a table under keys of an instance. -/
def instCells {α : Type} {d : Option α} (t : Tab d) (n : Nat) : List (Nat × α) :=
  t.cells.filterMap (fun c => if c.1 / 2 ^ 32 = n then c.2.map (fun v => (c.1 % 2 ^ 32, v)) else none)

/-- The RESULT of ST_COMPILE_ERROR (R251). -/
def compileError (error word item : Nat) (text : List Byte) : List W32 :=
  [w32 (error % 65536), w32 word, w32 item] ++ bytesWords (takePad 256 text)

/-- SHADER_LOAD (R244): the device reads and validates the module. A 1,025th module exceeds R243 (ERROR 6). -/
def execShaderLoad (p : Packet) (s : State) : Host.Outcome State Fault Refusal :=
  packet opShaderLoad (ownHandle p) p s fun s =>
    let n := p.inst
    let len := p.u32 24
    checks [(decide (p.length = 16) && decide (p.u32 28 = 0) && decide (p.u64 16 % 4 = 0) && decide (20 ≤ len) &&
        decide (len ≤ 4194304) && decide (len % 4 = 0), .badParam)]
      (let bs := s.readInst n (p.u64 16) len
       let full := decide (1024 ≤ ((instCells s.gpu.modules n).filter (fun m => !m.2.removed)).length)
       let err := if full then 6 else Config.spirvError bs
       if err ≠ 0 then .fail .compileError (compileError err (Config.spirvWord bs) (Config.spirvItem bs) (Config.spirvText bs))
       else
         let id := s.gpu.nextModule.get n
         let sha := fixedBytes 32 (Config.sha256 bs)
         let m : Module := { bytes := len, sha := leNat sha, entries := Config.spirvEntries bs % 256, removed := false }
         .done (s.setGpu { s.gpu with
             modules := s.gpu.modules.set (idKey n id) (some m)
             nextModule := s.gpu.nextModule.set n (id + 1) }) .ok
           ([w32 id, w32 m.entries] ++ bytesWords sha))
where
  /-- Exactly `k` bytes. -/
  fixedBytes (k : Nat) (bs : List Byte) : List Byte := takePad k bs

/-! ### The graphics state block (R246) -/

/-- One 64-bit entry of a block. -/
def blockWord (bs : List Byte) (i : Nat) : Nat := leNat ((bs.drop (8 * i)).take 8)

/-- The counts of a block's header. -/
def blockColours (bs : List Byte) : Nat := bitsOf (blockWord bs 0) 16 3
def blockBindings (bs : List Byte) : Nat := bitsOf (blockWord bs 0) 32 8
def blockAttributes (bs : List Byte) : Nat := bitsOf (blockWord bs 0) 40 8

/-- The entries of each kind. -/
def attachmentWords (bs : List Byte) : List Nat := (List.range (blockColours bs)).map (fun i => blockWord bs (1 + i))
def bindingWords (bs : List Byte) : List Nat :=
  (List.range (blockBindings bs)).map (fun i => blockWord bs (1 + blockColours bs + i))
def attributeWords (bs : List Byte) : List Nat :=
  (List.range (blockAttributes bs)).map (fun i => blockWord bs (1 + blockColours bs + blockBindings bs + i))

/-- An attachment entry is in range. -/
def attachmentOk (w : Nat) : Bool :=
  decide (bitsOf w 0 3 ≤ 4) && decide (bitsOf w 4 4 ≤ 12) && decide (bitsOf w 8 4 ≤ 12) && decide (bitsOf w 12 3 ≤ 4) &&
    decide (bitsOf w 15 4 ≤ 12) && decide (bitsOf w 19 4 ≤ 12) && decide (bitsOf w 23 3 ≤ 4) && decide (w / 2 ^ 30 = 0)

/-- A binding entry is in range. -/
def bindingOk (w : Nat) : Bool := decide (bitsOf w 0 12 ≤ 2048) && decide (w / 2 ^ 13 = 0)

/-- An attribute entry is in range. -/
def attributeOk (w : Nat) : Bool :=
  decide (bitsOf w 7 9 = 0) && decide (1 ≤ bitsOf w 16 8) && decide (bitsOf w 16 8 ≤ 0x14) && decide (bitsOf w 24 8 = 0) &&
    decide (bitsOf w 32 12 ≤ 2047) && decide (w / 2 ^ 44 = 0)

/-- The whole block is in range, reserved fields are 0 and its length is right. -/
def blockOk (bs : List Byte) (len : Nat) : Bool :=
  let h := blockWord bs 0
  decide (bitsOf h 0 4 ≤ 5) && decide (bitsOf h 4 2 ≤ 2) && decide (bitsOf h 14 2 = 0) && decide (blockColours bs ≤ 4) &&
    decide (bitsOf h 19 5 = 0) && decide (bitsOf h 26 6 = 0) && decide (blockBindings bs ≤ 8) &&
    decide (blockAttributes bs ≤ 16) && decide (bitsOf h 48 16 = 0) &&
    decide (len = 8 * (1 + blockColours bs + blockBindings bs + blockAttributes bs)) &&
    (attachmentWords bs).all attachmentOk && (bindingWords bs).all bindingOk && (attributeWords bs).all attributeOk

/-! ### The shader cache (R248, R249) -/

/-- A key is used by a live pipeline of the instance. -/
def State.keyLive (s : State) (n : Nat) (k : CodeKey) : Bool := (instCells s.gpu.pipelines n).any (fun c => c.2.keys.contains k)

/-- The least recently used entry that no live pipeline uses. -/
def State.evictable (s : State) (n : Nat) : Option CacheEntry :=
  let es := (s.gpu.cache.get n).filter (fun e => !s.keyLive n e.key)
  es.find? (fun e => es.all (fun f => decide (e.used ≤ f.used)))

/-- Entries evicted until `extra` more bytes fit the limit, or none can be (R249). -/
def State.evictTo : Nat → State → Nat → Nat → State
  | 0, s, _, _ => s
  | fuel + 1, s, n, extra =>
    let es := s.gpu.cache.get n
    if (es.map (·.size)).sum + extra ≤ s.gpu.cacheMiB.get n * 1048576 then s
    else match s.evictable n with
      | some e => State.evictTo fuel (s.setGpu { s.gpu with cache := s.gpu.cache.set n (es.filter (fun f => f ≠ e)) }) n extra
      | none => s

/-- The cache of an instance brought within its limit with room for `extra` bytes. -/
def State.evict (s : State) (n extra : Nat) : State := s.evictTo ((s.gpu.cache.get n).length + 1) n extra

/-- Compiled code joins the cache where it fits; else it is kept with its pipeline only. -/
def State.cacheCode (s : State) (n : Nat) (e : CacheEntry) : State :=
  let s := s.evict n e.size
  let es := (s.gpu.cache.get n).filter (fun f => decide (f.key ≠ e.key))
  if (es.map (·.size)).sum + e.size ≤ s.gpu.cacheMiB.get n * 1048576 then
    s.setGpu { s.gpu with cache := s.gpu.cache.set n (es ++ [e]) }
  else s

/-! ### Pipelines (R245 to R247) -/

/-- WAVES of R245: waves of 32 invocations resident per cluster. -/
def waves (regs : Nat) : Nat :=
  let w := 65536 / (32 * regs)
  if w < 256 then w else Config.wavesOver regs % 256

/-- The RESULT of PIPELINE_CREATE (R245). -/
def pipelineResult (id : Nat) (hit : Bool) (q : Pipeline) : List W32 :=
  [w32 id, w32 (pack [(b2n hit, 16), (q.regs, 8), (waves q.regs, 8)]), w32 q.codeBytes, 0]

/-- A pipeline enters the instance's table. -/
def State.addPipeline (s : State) (n : Nat) (q : Pipeline) : State :=
  let id := s.gpu.nextPipeline.get n
  s.setGpu { s.gpu with
    pipelines := s.gpu.pipelines.set (idKey n id) (some q)
    nextPipeline := s.gpu.nextPipeline.set n (id + 1) }

/-- The specialisation constants of the packet. -/
def specWords (p : Packet) : List Nat := (p.wordsFrom 48)

/-- The pipeline that a packet asks for, before compilation. -/
def wantedPipeline (p : Packet) (sha0 sha1 backEnd : Nat) (blk : List Byte) : Pipeline :=
  let compute := p.flag 16 0
  let h := blockWord blk 0
  let fields := attachmentWords blk ++ (attributeWords blk).map (fun w => bitsOf w 16 8)
  let key (sha entry : Nat) : CodeKey :=
    { sha := sha, entry := entry, specs := specWords p, fields := if compute then [] else fields, backEnd := backEnd }
  { compute := compute, topology := if compute then 0 else bitsOf h 0 4,
    formats := if compute then [] else (attachmentWords blk).map (fun w => bitsOf w 0 3),
    depthFmt := if compute then 0 else bitsOf h 24 2,
    depthOn := !compute && (bitOf h 11 || bitOf h 13), components := 0,
    keys := if compute then [key sha0 (p.u8 28)] else [key sha0 (p.u8 28), key sha1 (p.u8 29)],
    regs := 0, codeBytes := 0, removed := false }

/-- The pipeline with the code that cache entries give. -/
def Pipeline.withCode (q : Pipeline) (es : List CacheEntry) : Pipeline :=
  { q with
    regs := (es.map (·.regs)).foldl max 0
    codeBytes := (es.map (·.size)).sum
    components := ((es.head?).map (·.components)).getD 0 }

/-- PIPELINE_CREATE (R245, R246, R248): from the cache where every key is there, else compiled. -/
def execPipelineCreate (p : Packet) (s : State) : Host.Outcome State Fault Refusal :=
  packet opPipelineCreate (ownHandle p) p s fun s =>
    let n := p.inst
    let compute := p.flag 16 0
    let blk := if compute then [] else s.readInst n (p.u64 32) (p.u32 40)
    checks [(decide (p.fld 16 1 7 = 0) && decide (p.u8 17 ≤ 64) && decide (p.u16 18 = 0) && decide (p.length = 32 + 8 * p.u8 17) &&
        decide (p.u16 30 = 0) && decide (p.u32 44 = 0) && decide (p.u64 32 % 8 = 0) &&
        (if compute then decide (p.u32 24 = 0) && decide (p.u64 32 = 0) else
          decide (8 ≤ p.u32 40) && decide (p.u32 40 ≤ 8 * 29) && blockOk blk (p.u32 40)) &&
        (s.module_ n (p.u32 20)).isSome && (compute || (s.module_ n (p.u32 24)).isSome), .badParam)]
      (let sha0 := ((s.module_ n (p.u32 20)).map (·.sha)).getD 0
       let sha1 := ((s.module_ n (p.u32 24)).map (·.sha)).getD 0
       let q := wantedPipeline p sha0 sha1 s.gpu.backEnd blk
       let es := s.gpu.cache.get n
       let found := q.keys.filterMap (fun k => es.find? (fun e => decide (e.key = k)))
       if 4096 ≤ ((instCells s.gpu.pipelines n).filter (fun m => !m.2.removed)).length then
         .fail .compileError (compileError 6 0xFFFFFFFF 0 (Config.compileText s.freeCtr))
       else if found.length = q.keys.length then
         let q := q.withCode found
         let es' := es.map (fun e => if q.keys.contains e.key then { e with used := s.devTime } else e)
         let id := s.gpu.nextPipeline.get n
         .done ((s.setGpu { s.gpu with cache := s.gpu.cache.set n es' }).addPipeline n q) .ok (pipelineResult id true q)
       else
         let c : Compile := { owed := { opcode := opPipelineCreate.code, p := p }, inst := n, pipeline := q }
         .owe (s.setGpu { s.gpu with compiles := s.gpu.compiles ++ [c] }))

/-- The compilation of an instance that is under way: its first (R250), if it is that of the packet. -/
def State.compiling (s : State) (n seq : Nat) : Option Compile :=
  match s.gpu.compiles.find? (fun c => decide (c.inst = n)) with
  | some c => if c.owed.p.seq = w32 seq then some c else none
  | none => none

/-- A compilation ends with an error. -/
def State.failCompile (s : State) (c : Compile) (error : Nat) : State :=
  let s1 := s.setGpu { s.gpu with compiles := s.gpu.compiles.erase c }
  s1.tickFree.finish c.owed .compileError
    (compileError error (Config.compileWord s.freeCtr) (Config.compileItem s.freeCtr) (Config.compileText s.freeCtr))

/-- SHADER_COMPILE_DONE (R250, R251, R245): the compiler's result: an error, or registers and code bytes per stage and the
vertex output components, of which more than 64 are refused (R288). -/
def execShaderCompileDone (n seq error : Nat) (stages : List (Nat × Nat)) (components : Nat) (s : State) :
    Host.Outcome State Fault Refusal :=
  match s.compiling n seq with
  | none => .next s
  | some c =>
    let error := if error = 0 ∧ 64 < components then 6 else error
    if error ≠ 0 then .next (s.failCompile c error)
    else
      let es : List CacheEntry := (c.pipeline.keys.zip stages).map (fun x =>
        { key := x.1, regs := x.2.1, components := components, size := x.2.2, used := s.devTime })
      let q := c.pipeline.withCode es
      let id := s.gpu.nextPipeline.get n
      let s := (s.setGpu { s.gpu with compiles := s.gpu.compiles.erase c }).addPipeline n q
      let s := es.foldl (fun s e => s.cacheCode n e) s
      .next (s.finish c.owed .ok (pipelineResult id false q))

/-- COMPILE_ABANDONED (R250): unfinished after 2 s, ERROR 11. -/
def execCompileAbandoned (n seq : Nat) (s : State) : Host.Outcome State Fault Refusal :=
  match s.compiling n seq with
  | none => .next s
  | some c => .next (s.failCompile c 11)

/-- Accepted work of the instance that binds a pipeline. -/
def State.pipelineUsed (s : State) (n id : Nat) : Bool :=
  (List.range 4).any (fun q => (s.gpu.queues.get (n * 4 + q)).submits.any (fun x =>
    x.tokens.any (fun t => decide (t.op = 3) && decide (t.words = [id]))))

/-- A compilation that reads a module is under way. -/
def State.moduleUsed (s : State) (n id : Nat) : Bool :=
  s.gpu.compiles.any (fun c => decide (c.inst = n) && (decide (c.owed.p.u32 20 = id) || (!c.owed.p.flag 16 0 && decide (c.owed.p.u32 24 = id))))

/-- Removed pipelines and modules that no work uses any longer are freed (R247). -/
def State.sweepPipelines (s : State) (n : Nat) : State :=
  let goneP := (instCells s.gpu.pipelines n).filter (fun c => c.2.removed && !s.pipelineUsed n c.1)
  let goneM := (instCells s.gpu.modules n).filter (fun c => c.2.removed && !s.moduleUsed n c.1)
  s.setGpu { s.gpu with
    pipelines := goneP.foldl (fun t c => t.set (idKey n c.1) none) s.gpu.pipelines
    modules := goneM.foldl (fun t c => t.set (idKey n c.1) none) s.gpu.modules }

/-- PIPELINE_DESTROY (R247). -/
def execPipelineDestroy (p : Packet) (s : State) : Host.Outcome State Fault Refusal :=
  packet opPipelineDestroy (ownHandle p) p s fun s =>
    let n := p.inst
    let id := p.u32 16
    let isModule := p.flag 20 0
    checks [(decide (p.length = 8) && decide (p.fld 20 1 31 = 0) &&
        (if isModule then (s.module_ n id).isSome else (s.pipeline n id).isSome), .badParam)]
      (let s1 := if isModule then
          s.setGpu { s.gpu with modules := s.gpu.modules.upd (idKey n id) (fun m => m.map (fun m => { m with removed := true })) }
        else
          s.setGpu { s.gpu with pipelines := s.gpu.pipelines.upd (idKey n id) (fun m => m.map (fun m => { m with removed := true })) }
       .done (s1.sweepPipelines n) .ok [])

/-! ### QUEUE_CONFIG (R256, R306) -/

/-- What the four forms check first: TARGET, length, OP; QUEUE 0 is a SAFETY instance's. -/
def queueConfig (op len : Nat) (named : Bool) (ok : Bool) (p : Packet) (s : State) (k : State → State) :
    Host.Outcome State Fault Refusal :=
  packet opQueueConfig (ownHandle p) p s fun s =>
    checks [(decide (p.length = len) && decide (p.u32 16 = op) && ok, .badParam),
        (!(named && decide (p.fld 20 0 2 = 0) && s.general p), .denied)]
      (.done ((k s).intend (hInst p.inst) false p.inst) .ok [])

/-- Change one queue. -/
def State.updQueue (s : State) (n q : Nat) (f : Queue → Queue) : State :=
  s.setGpu { s.gpu with queues := s.gpu.queues.upd (n * 4 + q) f }

/-- One queue. -/
def State.queue (s : State) (n q : Nat) : Queue := s.gpu.queues.get (n * 4 + q)

/-- QUEUE_CONFIG OP 0. -/
def execQueueConfigDepth (p : Packet) (s : State) : Host.Outcome State Fault Refusal :=
  queueConfig 0 8 true (decide (p.fld 20 2 6 = 0) && decide (1 ≤ p.u8 21) && decide (p.u8 21 ≤ 64) &&
      decide (p.fld 22 0 5 ≤ 16) && decide (p.fld 22 5 11 = 0)) p s
    (fun s => s.updQueue p.inst (p.fld 20 0 2) (fun q => { q with depth := p.u8 21, clusterMax := p.fld 22 0 5 }))

/-- QUEUE_CONFIG OP 1: a lower limit evicts (R249, R256). -/
def execQueueConfigCache (p : Packet) (s : State) : Host.Outcome State Fault Refusal :=
  queueConfig 1 8 false (decide (p.u16 20 ≤ 1024) && decide (p.u16 22 = 0)) p s
    (fun s => (s.setGpu { s.gpu with cacheMiB := s.gpu.cacheMiB.set p.inst (p.u16 20) }).evict p.inst 0)

/-- QUEUE_CONFIG OP 2: every entry that no live pipeline uses. -/
def execQueueConfigEvict (p : Packet) (s : State) : Host.Outcome State Fault Refusal :=
  queueConfig 2 4 false true p s (fun s =>
    s.setGpu { s.gpu with cache := s.gpu.cache.upd p.inst (fun es => es.filter (fun e => s.keyLive p.inst e.key)) })

/-- QUEUE_CONFIG OP 3 (R306). -/
def execQueueConfigLimits (p : Packet) (s : State) : Host.Outcome State Fault Refusal :=
  let wg := p.u32 24
  let ur := p.u16 28
  queueConfig 3 16 true (decide (p.fld 20 2 30 = 0) && (decide (wg = 0) || (decide (100 ≤ wg) && decide (wg ≤ 100000))) &&
      (decide (ur = 0) || (decide (50 ≤ ur) && decide (ur ≤ 5000))) && decide (p.u16 30 = 0)) p s
    (fun s => s.updQueue p.inst (p.fld 20 0 2) (fun q =>
      { q with wgLimit := if wg = 0 then 2000 else wg, urgentUs := if ur = 0 then 500 else ur }))

end Sys2Proof.Machine
end

