-- ==== Sys2Proof/Machine/Tokens.lean ====
section
/-!
DEFINITION. Command buffers (09 R273 to R281): tokens and their layouts, the parse rules, and the quantities of a render
pass (R284).
-/

namespace Sys2Proof.Machine

open Sys2Proof

/-! ### PASS_BEGIN (R279) -/

/-- Word `i` of a token. -/
def Token.w (t : Token) (i : Nat) : Nat := t.words.getD i 0

/-- NCOLOR and DEPTH of a PASS_BEGIN. -/
def Token.ncolor (t : Token) : Nat := bitsOf (t.w 0) 3 3
def Token.hasDepth (t : Token) : Bool := bitOf (t.w 0) 6

/-- The render area: X, Y, W, H. -/
def Token.px (t : Token) : Nat := t.w 1 % 65536
def Token.py (t : Token) : Nat := t.w 1 / 65536
def Token.pw (t : Token) : Nat := t.w 2 % 65536
def Token.ph (t : Token) : Nat := t.w 2 / 65536

/-- SURFACE_ID, LOAD, DISCARD and the clear colour of attachment `i`. -/
def Token.colSurf (t : Token) (i : Nat) : Nat := t.w (4 + 4 * i)
def Token.colLoad (t : Token) (i : Nat) : Nat := bitsOf (t.w (5 + 4 * i)) 0 2
def Token.colDiscard (t : Token) (i : Nat) : Bool := bitOf (t.w (5 + 4 * i)) 2
def Token.colClear (t : Token) (i : Nat) : List Nat :=
  [t.w (6 + 4 * i) % 65536, t.w (6 + 4 * i) / 65536, t.w (7 + 4 * i) % 65536, t.w (7 + 4 * i) / 65536]

/-- The depth words begin here. -/
def Token.dbase (t : Token) : Nat := 4 + 4 * t.ncolor
def Token.depthAddr (t : Token) : Nat := t.w t.dbase + 2 ^ 32 * t.w (t.dbase + 1)
def Token.depthFmt (t : Token) : Nat := if t.hasDepth then bitsOf (t.w (t.dbase + 2)) 0 2 else 0
def Token.depthLoad (t : Token) : Nat := bitsOf (t.w (t.dbase + 2)) 2 2
def Token.depthDiscard (t : Token) : Bool := bitOf (t.w (t.dbase + 2)) 4

/-- The colour attachments of a pass. -/
def Token.colours (t : Token) : List Nat := (List.range t.ncolor).map t.colSurf

/-- Bytes per depth sample, tile columns and storage of the depth buffer (R281). -/
def depthBytes (fmt : Nat) : Nat := if fmt = 1 then 2 else 4
def Token.depthTw (t : Token) : Nat := tilesAcross (t.px + t.pw)
def Token.depthSize (t : Token) : Nat := t.depthTw * tilesAcross (t.py + t.ph) * 4096 * depthBytes t.depthFmt

/-- No number twice. -/
def distinct : List Nat → Bool
  | [] => true
  | x :: xs => !xs.contains x && distinct xs

/-- An FP32 number from 0.0 to 1.0. -/
def unitFloat (w : Nat) : Bool := decide (w ≤ 0x3F800000) || decide (w = 0x80000000)

/-- The attachments of a pass keep to R279 to R281. -/
def State.passOk (s : State) (n : Nat) (t : Token) : Bool :=
  let col (i : Nat) : Bool := match s.surface n (t.colSurf i) with
    | some f => decide (f.format ≤ 4) && decide (t.px + t.pw ≤ f.width) && decide (t.py + t.ph ≤ f.height) &&
        decide (t.colLoad i ≤ 2) && decide (t.w (5 + 4 * i) / 8 = 0)
    | none => false
  decide (bitsOf (t.w 0) 0 2 ≤ 2) && decide (t.ncolor ≤ 4) && decide (t.w 0 / 128 = 0) &&
    decide (t.words.length = 4 + 4 * t.ncolor + (if t.hasDepth then 5 else 0)) &&
    decide (1 ≤ t.pw) && decide (t.pw ≤ 16384) && decide (1 ≤ t.ph) && decide (t.ph ≤ 16384) &&
    decide (t.w 3 / 65536 = 0) && (List.range t.ncolor).all col && distinct t.colours &&
    (!t.hasDepth || (decide (t.depthAddr % 4096 = 0) && decide (1 ≤ t.depthFmt) && decide (t.depthLoad ≤ 2) &&
      decide (t.w (t.dbase + 2) / 32 = 0) && unitFloat (t.w (t.dbase + 3)) && decide (t.w (t.dbase + 4) / 256 = 0) &&
      mappedRange (s.inst n).pages t.depthAddr t.depthSize))

/-! ### The parse (R268, R278) -/

/-- Where a parse stands: the PASS_BEGIN of the open pass, the bound pipeline, passes so far, an open occlusion query. -/
structure Parse where
  inPass : Option Token
  bound : Option Nat
  passes : Nat
  query : Bool
deriving DecidableEq, Repr

/-- At the start. -/
def Parse.start : Parse := { inPass := none, bound := none, passes := 0, query := false }

/-- The formats of a pass's colour attachments. -/
def State.passFormats (s : State) (n : Nat) (t : Token) : List Nat :=
  t.colours.map (fun id => ((s.surfAny n id).map (·.format)).getD 7)

/-- The bound pipeline fits a draw in the open pass (R278). A draw or dispatch with none bound breaks the rules too
(DEDUCED, log 62). -/
def State.drawOk (s : State) (n : Nat) (ps : Parse) : Bool :=
  match ps.inPass, ps.bound with
  | some t, some id => match s.pipeline n id with
    | some q => !q.compute && decide (q.formats = s.passFormats n t) && decide (q.depthFmt = t.depthFmt) &&
        (!q.depthOn || t.hasDepth)
    | none => false
  | _, _ => false

/-- A compute pipeline is bound outside a pass. -/
def State.dispatchOk (s : State) (n : Nat) (ps : Parse) : Bool :=
  ps.inPass.isNone && (match ps.bound with
    | some id => ((s.pipeline n id).map (·.compute)).getD false
    | none => false)

/-- The address in words `i` and `i + 1` of a token. -/
def Token.addr (t : Token) (i : Nat) : Nat := t.w i + 2 ^ 32 * t.w (i + 1)

/-- One token under the rules: where the parse stands after it, or none where it breaks a rule. -/
def State.parseToken (s : State) (n : Nat) (ps : Parse) (t : Token) : Option Parse :=
  let k := t.words.length
  let inside := ps.inPass.isSome
  let keep (ok : Bool) : Option Parse := if ok then some ps else none
  match t.op with
  | 0x00 => some ps
  | 0x01 =>
    if !inside && s.passOk n t && decide (ps.passes < 256) then
      some { ps with inPass := some t, passes := ps.passes + 1 } else none
  | 0x02 => if inside && decide (k = 0) then some { ps with inPass := none } else none
  | 0x03 => if decide (k = 1) && (s.pipeline n (t.w 0)).isSome then some { ps with bound := some (t.w 0) } else none
  | 0x04 => keep (decide (k = 3) && decide (t.w 0 ≤ 3) && decide (t.addr 1 % 32 = 0))
  | 0x05 => keep (decide (1 ≤ k) && decide (t.w 0 < 128) && decide (t.w 0 % 4 = 0) && decide (t.w 0 + 4 * (k - 1) ≤ 128))
  | 0x06 => keep (inside && decide (k = 4) && decide (t.w 0 ≤ 7))
  | 0x07 => keep (inside && decide (k = 4) && decide (t.w 0 ≤ 1))
  | 0x08 => keep (inside && decide (k = 6))
  | 0x09 => keep (inside && decide (k = 2))
  | 0x0A => keep (inside && decide (k = 4))
  | 0x0B => keep (inside && decide (k = 2) && decide (t.w 0 / 2 ^ 27 = 0) && decide (bitsOf (t.w 1) 9 7 = 0) &&
      decide (bitsOf (t.w 1) 25 7 = 0))
  | 0x10 => keep (decide (k = 4) && s.drawOk n ps)
  | 0x11 => keep (decide (k = 5) && s.drawOk n ps)
  | 0x12 => keep (decide (k = 2) && decide (t.addr 0 % 4 = 0) && s.drawOk n ps)
  | 0x13 => keep (decide (k = 2) && s.drawOk n ps)
  | 0x14 => if inside && decide (k = 2) && decide (t.addr 0 % 8 = 0) && !ps.query then some { ps with query := true } else none
  | 0x15 => if inside && decide (k = 0) && ps.query then some { ps with query := false } else none
  | 0x18 => keep (decide (k = 3) && t.words.all (fun x => decide (1 ≤ x) && decide (x ≤ 65535)) && s.dispatchOk n ps)
  | 0x19 => keep (decide (k = 2) && s.dispatchOk n ps)
  | 0x20 => keep (!inside && decide (k = 0))
  | 0x21 => keep (!inside && decide (k = 2) && decide (t.addr 0 % 8 = 0))
  | _ => none

/-- What walking a buffer gives: the tokens, the offsets of tokens that broke a rule, the place of the parse. -/
structure Walk where
  tokens : List Token
  bad : List Nat
  ps : Parse
deriving DecidableEq, Repr

/-- Walk the words of a buffer from byte offset `off`. At the first token that breaks a rule a parse stops; a reading for
execution skips it (R269). A token that runs past the end ends the walk. -/
def State.walkTokens (s : State) (n : Nat) (skip : Bool) : Nat → List Nat → Nat → Walk → Walk
  | 0, _, _, k => k
  | _ + 1, [], _, k => k
  | fuel + 1, h :: ws, off, k =>
    let cnt := h / 65536
    let t : Token := { offset := off, op := h % 256, words := ws.take cnt }
    if ws.length < cnt then { k with bad := k.bad ++ [off] }
    else
      match (if bitsOf h 8 8 = 0 then s.parseToken n k.ps t else none) with
      | some ps => s.walkTokens n skip fuel (ws.drop cnt) (off + 4 + 4 * cnt) { k with tokens := k.tokens ++ [t], ps := ps }
      | none =>
        let k' : Walk := { k with bad := k.bad ++ [off] }
        if skip then s.walkTokens n skip fuel (ws.drop cnt) (off + 4 + 4 * cnt) k' else k'

/-- The words of a command buffer. -/
def State.bufferWords (s : State) (n a bytes : Nat) : List Nat := (bytesWords (s.readInst n a bytes)).map BitVec.toNat

/-- A buffer walked from its start. -/
def State.walkBuffer (s : State) (n : Nat) (skip : Bool) (a bytes : Nat) : Walk :=
  let ws := s.bufferWords n a bytes
  s.walkTokens n skip (ws.length + 1) ws 0 { tokens := [], bad := [], ps := .start }

/-- The offset of the first failing token of a parse; a PASS_BEGIN without its PASS_END fails at its own (R278). -/
def Walk.failing (k : Walk) : Option Nat :=
  match k.bad.head? with
  | some o => some o
  | none => k.ps.inPass.map (·.offset)

/-! ### The quantities of a pass (R284) -/

/-- Bin tile columns and T. -/
def Token.binCols (t : Token) : Nat := (t.pw + 31) / 32
def Token.binTiles (t : Token) : Nat := t.binCols * ((t.ph + 31) / 32)

/-- MINPAGES. -/
def Token.minPages (t : Token) : Nat := (64 * t.binTiles + 65535) / 65536 + 2

/-- The tokens of the pass that begins at index `i`, without PASS_BEGIN and PASS_END. -/
def passBody (ts : List Token) (i : Nat) : List Token := (ts.drop (i + 1)).takeWhile (fun t => decide (t.op ≠ 2))

/-- The pipeline bound at token index `i`. -/
def boundAt (ts : List Token) (i : Nat) : Option Nat :=
  ((ts.take i).filter (fun t => decide (t.op = 3))).getLast?.map (fun t => t.w 0)

/-- The primitives of `c` vertices or indices under a topology. -/
def primitives (topology c : Nat) : Nat :=
  match topology with
  | 0 => c
  | 1 => c / 2
  | 2 => c - 1
  | 3 => c / 3
  | _ => c - 2

/-- A pipeline of the instance, removed ones in use included. -/
def State.pipelineAny (s : State) (n id : Nat) : Option Pipeline := s.gpu.pipelines.get (idKey n id)

/-- Each draw of a pass with its pipeline. -/
def State.draws (s : State) (n : Nat) (ts : List Token) (i : Nat) : List (Token × Option Pipeline) :=
  ((List.range (passBody ts i).length).map (· + i + 1)).filterMap (fun j =>
    match ts[j]? with
    | some t => if 0x10 ≤ t.op ∧ t.op ≤ 0x13 then some (t, (boundAt ts j).bind (s.pipelineAny n)) else none
    | none => none)

/-- P and C. -/
def drawPrims (d : Token × Option Pipeline) : Nat :=
  if d.1.op ≤ 0x11 then primitives ((d.2.map (·.topology)).getD 0) (d.1.w 0 * d.1.w 1) else 16384
def State.passPrims (s : State) (n : Nat) (ts : List Token) (i : Nat) : Nat := ((s.draws n ts i).map drawPrims).sum
def State.passComponents (s : State) (n : Nat) (ts : List Token) (i : Nat) : Nat :=
  ((s.draws n ts i).map (fun d => (d.2.map (·.components)).getD 0)).foldl max 0

/-- H of R284. -/
def passPages (t : Token) (prims comps : Nat) : Nat := (64 * t.binTiles + prims * (40 + 12 * comps) + 65535) / 65536

/-- The effective budget. -/
def Token.pageBudget (t : Token) : Nat := if t.w 3 % 65536 = 0 then t.minPages else t.w 3 % 65536

/-- The pass runs binned with `free` pages in the allotment (R284). -/
def State.runsBinned (s : State) (n : Nat) (ts : List Token) (i : Nat) (t : Token) (free : Nat) : Bool :=
  match bitsOf (t.w 0) 0 2 with
  | 0 => false
  | 1 => decide (t.minPages ≤ t.pageBudget) && decide (t.minPages ≤ free)
  | _ =>
    let p := s.passPrims n ts i
    let h := passPages t p (s.passComponents n ts i)
    decide (t.minPages ≤ free) && decide (h ≤ t.pageBudget) && decide (h ≤ free) && decide (p ≤ 64 * t.binTiles)

/-! ### Clear values (R280) -/

/-- `num / den` rounded to nearest, ties to even. -/
def roundEven (num den : Nat) : Nat :=
  let q := num / den
  let r := num % den
  if 2 * r < den then q else if den < 2 * r then q + 1 else q + q % 2

/-- An FP16 colour as an unsigned normalised integer of `bits` bits. -/
def halfToUnorm (bits h : Nat) : Nat :=
  let e := bitsOf h 10 5
  let m := h % 1024
  if e = 31 ∧ m ≠ 0 then Config.nanColour bits % 2 ^ bits
  else if bitOf h 15 then 0
  else
    let v := if e = 31 then 2 ^ 25 else if e = 0 then 2 * m else (1024 + m) * 2 ^ e
    roundEven (min v (2 ^ 25) * (2 ^ bits - 1)) (2 ^ 25)

/-- The bytes of a clear pixel in a packed format, from R, G, B, A in FP16. -/
def clearPixel (format : Nat) (c : List Nat) : List Byte :=
  let u (bits i : Nat) : Nat := halfToUnorm bits (c.getD i 0)
  match format with
  | 0 => leBytes 2 (pack [(u 5 2, 5), (u 6 1, 6), (u 5 0, 5)])
  | 1 => leBytes 3 (pack [(u 8 2, 8), (u 8 1, 8), (u 8 0, 8)])
  | 4 => leBytes 4 (pack [(u 10 2, 10), (u 10 1, 10), (u 10 0, 10), (u 2 3, 2)])
  | _ => leBytes 4 (pack [(u 8 2, 8), (u 8 1, 8), (u 8 0, 8), (u 8 3, 8)])

/-- An FP32 number from 0.0 to 1.0 as an unsigned normalised integer. -/
def unitToUnorm (bits w : Nat) : Nat :=
  let e := bitsOf w 23 8
  let m := w % 2 ^ 23
  let v := if bitOf w 31 then 0 else if e = 0 then 2 * m else (2 ^ 23 + m) * 2 ^ e
  roundEven (v * (2 ^ bits - 1)) (2 ^ 150)

/-- The bytes of a clear depth sample (R281). -/
def Token.clearDepth (t : Token) : List Byte :=
  let d := t.w (t.dbase + 3)
  match t.depthFmt with
  | 1 => leBytes 2 (unitToUnorm 16 d)
  | 2 => leBytes 4 d
  | _ => leBytes 4 (unitToUnorm 24 d + 2 ^ 24 * (t.w (t.dbase + 4) % 256))

end Sys2Proof.Machine
end

