-- ==== Sys2Proof/Machine/Gpu.lean ====
section
/-!
DEFINITION. SUBMITs in execution (09): acceptance, work items and their results, binned passes with their Hopper pages,
grants and partial flushes, completion, and the ends that a lost cluster or a time limit brings (08 R239, 10 R305).
-/

namespace Sys2Proof.Machine

open Sys2Proof

def opSubmit : Op := { code := 0x3010, mark := .g }
def opHopperGrant : Op := { code := 0x3011, mark := .g }

/-! ### Clusters and their time -/

/-- One cluster. -/
def State.cluster (s : State) (c : Nat) : Cluster := s.gpu.clusters.get c

/-- Change one cluster. -/
def State.updCluster (s : State) (c : Nat) (f : Cluster → Cluster) : State :=
  s.setGpu { s.gpu with clusters := s.gpu.clusters.upd c f }

/-- The clusters that work of a queue occupies. -/
def State.clustersOf (s : State) (n q : Nat) : List Nat :=
  (List.range s.board.member.clusters).filter (fun c => decide ((s.cluster c).work = some (n, q)))

/-- The SUBMIT at the head of a queue. -/
def State.head (s : State) (n q : Nat) : Option Submit := (s.queue n q).submits.head?

/-- Change the SUBMIT at the head of a queue. -/
def State.updHead (s : State) (n q : Nat) (f : Submit → Submit) : State :=
  s.updQueue n q (fun x => { x with submits := match x.submits with
    | y :: ys => f y :: ys
    | [] => [] })

/-- The time that every cluster has run since it was last charged goes to its work: the SUBMIT's cluster-time, and on a
shared cluster the virtual time V of the instance at that priority, in 1/65,536 ns per unit of weight (R258, R312). -/
def State.charge (s : State) : State :=
  (List.range s.board.member.clusters).foldl (fun s c =>
    let x := s.cluster c
    match x.work with
    | none => s
    | some (n, q) =>
      let dt := s.devTime - x.since
      let s := (s.updCluster c (fun x => { x with since := s.devTime })).updHead n q (fun y => { y with used := y.used + dt })
      let s := match s.head n q with
        | some y => if y.urgent then s.countBy 1 n (40 * q + 5 * y.pipe + 4) (dt / 1000) else s
        | none => s
      let w := (s.inst n).weight
      if x.reserved = none ∧ 0 < w then
        s.setGpu { s.gpu with vtime := s.gpu.vtime.upd (n * 4 + q) (fun v => v + dt * 65536 / w) }
      else s) s

/-- Every cluster of a queue's work becomes free. -/
def State.freeClusters (s : State) (n q : Nat) : State :=
  (s.clustersOf n q).foldl (fun s c => s.updCluster c (fun x => { x with work := none, request := none })) s.charge

/-! ### SUBMIT (R266 to R268) -/

/-- The RESULT of SUBMIT (R271). -/
def Submit.result (x : Submit) (now : Nat) : List W32 :=
  [w32 (x.ran % 65536 + 65536 * x.binned), w32 (x.flushes % 65536 + 65536 * x.demoted), w32 (min x.faults (2 ^ 32 - 1)),
    w32 x.peak, w32 x.failOffset, w32 x.abort] ++ w64 x.startTime ++ w64 now

/-- A SUBMIT as accepted; nothing of it has run. -/
def newSubmit (p : Packet) (q : Nat) (ts : List Token) (surfs : List Nat) (passes : Nat) (d : Option Nat) : Submit :=
  { owed := { opcode := opSubmit.code, p := p }, inst := p.inst, queue := q, pipe := p.fld 28 0 3, tagged := p.flag 28 3,
    grantUs := if p.u16 30 = 0 then 250 else p.u16 30, spad := p.flag 32 0, offset := p.u32 36, value := p.u64 40,
    tokens := ts, surfaces := surfs, pos := 0, started := false, startTime := 0, passes := passes, pass := 0, ran := 0,
    phase := .none, budget := 0, held := 0, minPages := 0, granted := 0, noFault := false, prims := 0, passFlushes := 0,
    tilesDone := [], tilesWritten := [], binned := 0, flushes := 0, demoted := 0, faults := 0, peak := 0,
    failOffset := 0xFFFFFFFF, abort := 0, deadline := d, misses := 0, missAt := none, used := 0, urgent := false,
    preempted := false }

/-- The RESULT of a SUBMIT that breaks a parse rule: it ran nothing. -/
def parseFailed (p : Packet) (off now : Nat) : List W32 :=
  { newSubmit p 0 [] [] 0 none with failOffset := off }.result now

/-- The pipe's next latch line as the deadline of a tagged SUBMIT. -/
def State.deadlineOf (s : State) (p : Packet) : Option Nat := if p.flag 28 3 then s.nextLatch (p.fld 28 0 3) else none

/-- Attachments of every pass of a buffer, each once. -/
def bufferSurfaces (ts : List Token) : List Nat := ((ts.filter (fun t => decide (t.op = 1))).flatMap Token.colours).dedup

/-- An instance's queue becomes ready: V is at least the lowest V of the instances already ready at the priority
(R258). -/
def State.becomeReady (s : State) (n q : Nat) : State :=
  if (s.queue n q).submits.isEmpty then
    let vs := (s.guests.filter (fun m => decide (m ≠ n) && !(s.queue m q).submits.isEmpty)).map (fun m => s.gpu.vtime.get (m * 4 + q))
    match vs.min? with
    | some v => s.setGpu { s.gpu with vtime := s.gpu.vtime.upd (n * 4 + q) (max v) }
    | none => s
  else s

/-- A SUBMIT enters its queue, or is refused: the parse, the context save area of the queue's first SUBMIT (R263), and
its writers (R215). -/
def State.enqueue (s : State) (p : Packet) (q : Nat) : Ans :=
  let n := p.inst
  let k := s.walkBuffer n false (p.u64 16) (p.u32 24)
  match k.failing with
  | some off => .fail .badParam (parseFailed p off s.devTime)
  | none =>
    let surfs := bufferSurfaces k.tokens
    let isOpen (id : Nat) : Bool := match s.surface n id with
      | some f => f.isOpen && f.closing.isNone
      | none => false
    checks [((s.queue n q).saveArea || s.structFits n 262144, .quota), (surfs.all isOpen, .busy)]
      (let x := newSubmit p q k.tokens surfs k.ps.passes (s.deadlineOf p)
       let s := s.becomeReady n q
       let s := s.updQueue n q (fun y => { y with submits := y.submits ++ [x], saveArea := true })
       let s := surfs.foldl (fun s id => s.bindWriter n id) s
       .owe (if x.tagged then s.count 1 n (40 * q + 5 * x.pipe) else s))

/-- SUBMIT. One that finds its queue at DEPTH waits (R256). -/
def execSubmit (p : Packet) (s : State) : Host.Outcome State Fault Refusal :=
  packet opSubmit (ownHandle p) p s fun s =>
    let n := p.inst
    let q := p.src.ring
    let spad := p.flag 32 0
    checks [(decide (p.length = 32) && decide (p.fld 28 4 12 = 0) && decide (p.fld 32 1 31 = 0) && decide (p.u64 16 % 4 = 0) &&
        decide (4 ≤ p.u32 24) && decide (p.u32 24 ≤ 4194304) && decide (p.u32 24 % 4 = 0) && decide (p.u16 30 ≤ 5000), .badParam),
      (!p.flag 28 3 || s.unitOk (hPipe (p.fld 28 0 3)), .noUnit),
      (!spad || (decide (p.u32 36 % 8 = 0) && decide (p.u32 36 + 8 ≤ 4096 * (s.inst n).spadBlocks.length)), .badParam)]
      (if (s.queue n q).depth ≤ (s.queue n q).submits.length ∨ (s.queue n q).waiting ≠ [] then
        .owe (s.updQueue n q (fun y => { y with waiting := y.waiting ++ [{ opcode := opSubmit.code, p := p }] }))
      else s.enqueue p q)

/-- SUBMITs that waited for room enter their queue, while there is room. -/
def State.admitWaiting : Nat → State → Nat → Nat → State
  | 0, s, _, _ => s
  | fuel + 1, s, n, q =>
    let x := s.queue n q
    match x.waiting with
    | [] => s
    | o :: os =>
      if x.depth ≤ x.submits.length then s
      else
        let s := s.updQueue n q (fun y => { y with waiting := os })
        match s.enqueue o.p q with
        | .fail st res => State.admitWaiting fuel (s.finish o st res) n q
        | .done s' st res => State.admitWaiting fuel (s'.finish o st res) n q
        | .owe s' => State.admitWaiting fuel s' n q

/-! ### Storing pixels -/

/-- Store one pixel of a packed surface. -/
def State.putPixel (s : State) (n : Nat) (f : Surface) (x y : Nat) (px : List Byte) : State :=
  s.writeInst n (f.iaddr + pixelOffset f.format f.tw x y) px

/-- The pixels of a rectangle, row by row. -/
def rectPixels (x y w h : Nat) : List (Nat × Nat) := (List.range h).flatMap (fun j => (List.range w).map (fun i => (x + i, y + j)))

/-- The address of a depth sample (R281). -/
def Token.depthAt (t : Token) (x y : Nat) : Nat :=
  let b := depthBytes t.depthFmt
  t.depthAddr + ((y / 64 * t.depthTw + x / 64) * 4096 + (y % 64 * 64 + x % 64)) * b

/-- The clear of a rectangle by LOAD 1 in every attachment that `which` admits (R282). -/
def State.clearRect (s : State) (n : Nat) (t : Token) (x y w h : Nat) (col : Nat → Bool) (depth : Bool) : State :=
  let s := ((List.range t.ncolor).filter col).foldl (fun s i =>
    match s.surfAny n (t.colSurf i) with
    | some f => (rectPixels x y w h).foldl (fun s q => s.putPixel n f q.1 q.2 (clearPixel f.format (t.colClear i))) s
    | none => s) s
  if t.hasDepth && depth then
    (rectPixels x y w h).foldl (fun s q => s.writeInst n (t.depthAt q.1 q.2) t.clearDepth) s
  else s

/-- The rectangle of bin tile `k`, cut to the render area. -/
def Token.binRect (t : Token) (k : Nat) : Nat × Nat × Nat × Nat :=
  let x := k % t.binCols * 32
  let y := k / t.binCols * 32
  (t.px + x, t.py + y, min 32 (t.pw - x), min 32 (t.ph - y))

/-- The seal tiles of a surface that a rectangle meets. -/
def Surface.tilesOf (f : Surface) (x y w h : Nat) : List Nat :=
  (List.range ((y + h + 63) / 64 - y / 64)).flatMap (fun j =>
    (List.range ((x + w + 63) / 64 - x / 64)).map (fun i => (y / 64 + j) * f.tw + (x / 64 + i)))

/-- Seal tiles of an attachment; an UNSEALED one has none (R219, R224). -/
def State.sealIf (s : State) (n id : Nat) (tiles : List Nat) : State :=
  match s.surfAny n id with
  | some f => if f.isSealed then s.sealTiles n id tiles else s
  | none => s

/-! ### Faults of the array -/

/-- GPU_FAULT to the instance, counted (R265, R609). -/
def State.gpuFault (s : State) (n q cause cluster a : Nat) : State :=
  let seq := ((s.head n q).map (fun x => x.owed.p.seq.toNat)).getD 0
  let s := s.raise n 0x30 (hCluster cluster) (detail [(cause, 8), (q, 8), (cluster, 16), (a, 64), (seq, 32)])
  (s.count 1 n 180).updHead n q (fun x => { x with faults := x.faults + 1 })

/-- DESC_FAULT, one per SUBMIT and binding (R254). -/
def State.descFault (s : State) (n q : Nat) (d : DescFault) : State :=
  let seq := ((s.head n q).map (fun x => x.owed.p.seq.toNat)).getD 0
  let s := s.raise n 0x31 (hInst n) (detail [(d.pipeline, 32), (d.set, 8), (d.binding, 8), (d.cause, 8), (0, 8),
    (min d.count (2 ^ 32 - 1), 32), (seq, 32)])
  (s.count 1 n 181).updHead n q (fun x => { x with faults := x.faults + 1 })

/-- CMD_FAULT for a token changed after the parse (R269). -/
def State.cmdFault (s : State) (n q off : Nat) : State :=
  let seq := ((s.head n q).map (fun x => x.owed.p.seq.toNat)).getD 0
  (s.raise n 0x36 (hInst n) (detail [(seq, 32), (1, 8), (0, 24), (off, 32)])).updHead n q (fun x => { x with faults := x.faults + 1 })

/-! ### Work items (R270, R275 to R287) -/

/-- One access (R272): on an unmapped page GPU_FAULT, and a write is discarded. Raster output stores only into the
attachments of its pass. -/
def State.gpuAccess (s : State) (n q : Nat) (atts : List (Nat × Nat)) (a : GpuAccess) : State :=
  let len := if a.write then a.data.length else a.len
  let inAtt := atts.any (fun r => decide (r.1 ≤ a.addr) && decide (a.addr + len ≤ r.1 + r.2))
  if a.raster && !inAtt then s
  else if len = 0 then s
  else if !mappedRange (s.inst n).pages a.addr len then s.gpuFault n q 1 a.cluster a.addr
  else if a.write then s.writeInst n a.addr a.data
  else s

/-- Where an attachment's storage lies. -/
def State.attRange (s : State) (n id : Nat) : List (Nat × Nat) :=
  match s.surfAny n id with
  | some f => [(f.iaddr, f.size)]
  | none => []

/-- The storage of a pass's attachments, its depth buffer included. -/
def State.passStorage (s : State) (n : Nat) (t : Token) : List (Nat × Nat) :=
  t.colours.flatMap (s.attRange n) ++ (if t.hasDepth then [(t.depthAddr, t.depthSize)] else [])

/-- The seal tiles of a surface that raster stores of a work item touched. -/
def State.storedTiles (f : Surface) (w : GpuWork) : List Nat :=
  (w.accesses.filter (fun a => a.raster && a.write && decide (f.iaddr ≤ a.addr) && decide (a.addr < f.iaddr + f.size))).flatMap
    (fun a =>
      let b := tileBytes f.format
      let lo := (a.addr - f.iaddr) / b
      let hi := (a.addr - f.iaddr + a.data.length - 1) / b
      (List.range (hi + 1 - lo)).map (· + lo))

/-- Sample counts of the occlusion queries of a pass (R276). -/
def State.storeSamples (s : State) (n : Nat) (body : List Token) (samples : List Nat) : State :=
  ((body.filter (fun t => decide (t.op = 0x14))).zip samples).foldl (fun s x => s.writeInst n (x.1.addr 0) (leBytes 8 x.2)) s

/-- The effects of a work item that came from outside the model. -/
def State.applyWork (s : State) (n q : Nat) (storage : List (Nat × Nat)) (w : GpuWork) : State :=
  let s := w.accesses.foldl (fun s a => s.gpuAccess n q storage a) s
  let s := w.descs.foldl (fun s d => s.descFault n q d) s
  (s.countBy 1 n 182 w.outOfRange).countBy 1 n (160 + 5 * q + 4) w.splits

/-- Skip to the next work item from the SUBMIT's place; a TIMESTAMP on the way stores `DEV_TIME` (R276). -/
def State.toItem : Nat → State → Nat → Nat → State
  | 0, s, _, _ => s
  | fuel + 1, s, n, q =>
    match s.head n q with
    | none => s
    | some x =>
      match x.tokens[x.pos]? with
      | none => s
      | some t =>
        if t.op = 0x01 ∨ t.op = 0x18 ∨ t.op = 0x19 then s
        else
          let s := if t.op = 0x21 then s.writeInst n (t.addr 0) (leBytes 8 s.devTime) else s
          State.toItem fuel (s.updHead n q (fun x => { x with pos := x.pos + 1 })) n q

/-- The next work item starts: a dispatch, or a pass in the mode that R284 chooses. An immediate pass clears its render
area at once (R282); a binned one takes MINPAGES (R284, R288). -/
def State.startItem (s : State) (n q : Nat) : State :=
  match s.head n q with
  | none => s
  | some x =>
    match x.tokens[x.pos]? with
    | none => s
    | some t =>
      let s := if x.startTime = 0 then s.updHead n q (fun x => { x with startTime := s.devTime }) else s
      if t.op ≠ 1 then s.updHead n q (fun x => { x with phase := .dispatch })
      else if s.runsBinned n x.tokens x.pos t (s.hopperFree n) then
        s.updHead n q (fun x => { x with
          phase := .binning, budget := t.pageBudget, held := t.minPages, minPages := t.minPages, granted := 0,
          noFault := bitOf (t.w 0) 2, prims := 0, passFlushes := 0, tilesDone := [], tilesWritten := [], ran := x.ran + 1,
          binned := x.binned + 1, peak := max x.peak t.minPages })
      else
        let s := s.updHead n q (fun x => { x with
          phase := .immediate, held := 0, ran := x.ran + 1,
          demoted := x.demoted + (if bitsOf (t.w 0) 0 2 = 1 then 1 else 0) })
        s.clearRect n t t.px t.py t.pw t.ph (fun i => decide (t.colLoad i = 1)) (decide (t.depthLoad = 1))

/-- An immediate pass or a dispatch completes its writes; a pass seals every tile it wrote (R219, R240). -/
def State.endItem (s : State) (n q : Nat) (w : GpuWork) : State :=
  match s.head n q with
  | none => s
  | some x =>
    match x.tokens[x.pos]? with
    | none => s
    | some t =>
      if t.op ≠ 1 then
        (s.applyWork n q [] w).updHead n q (fun x => { x with phase := .none, pos := x.pos + 1 })
      else
        let body := passBody x.tokens x.pos
        let s := (s.applyWork n q (s.passStorage n t) w).storeSamples n body w.samples
        let s := (List.range t.ncolor).foldl (fun s i =>
          match s.surfAny n (t.colSurf i) with
          | some f =>
            let cleared := if t.colLoad i = 1 then f.tilesOf t.px t.py t.pw t.ph else []
            s.sealIf n (t.colSurf i) ((cleared ++ State.storedTiles f w).dedup)
          | none => s) s
        s.updHead n q (fun x => { x with phase := .none, pos := x.pos + body.length + 2, pass := x.pass + 1 })

/-- The SUBMIT at the head may run: its instance is active and it has a cluster. -/
def State.canRun (s : State) (n q : Nat) : Bool :=
  decide ((s.inst n).state = .active) && !(s.clustersOf n q).isEmpty && decide (q < 4)

/-- SUBMIT_START (R270): the next SUBMIT of the queue starts, or within a started one the work item under way, an
immediate pass or a dispatch with the results of `work`, ends and the next one starts. The buffer is read again for
execution (R269). A binned pass ends by its bin tiles. -/
def execSubmitStart (n q : Nat) (work : GpuWork) (s : State) : Host.Outcome State Fault Refusal :=
  match s.head n q with
  | none => .next s
  | some x =>
    if !s.canRun n q || decide (x.abort ≠ 0) then .next s
    else
      let s := s.charge
      if x.started = false then
        let p := x.owed.p
        let k := (s.setPages n (s.jobPages n p)).walkBuffer n true (p.u64 16) (p.u32 24)
        let s := s.updHead n q (fun x => { x with started := true, tokens := k.tokens })
        let s := k.bad.foldl (fun s off => s.cmdFault n q off) s
        .next (s.asJob n p (fun s => (State.toItem (k.tokens.length + 1) s n q).startItem n q))
      else match x.phase with
        | .none | .immediate | .dispatch =>
          .next (s.asJob n x.owed.p (fun s =>
            (State.toItem (x.tokens.length + 1) (if x.phase = .none then s else s.endItem n q work) n q).startItem n q))
        | _ => .next s

/-! ### Binned passes (R288 to R293) -/

/-- The PASS_BEGIN of the pass under way. -/
def Submit.passToken (x : Submit) : Option Token := x.tokens[x.pos]?

/-- A binned pass in one of its phases at the head of a queue. -/
def State.binnedPass (s : State) (n q : Nat) : Option (Submit × Token) :=
  match s.head n q with
  | some x => match x.phase, x.passToken with
    | .binning, some t | .waiting, some t | .flushing, some t | .rendering, some t => some (x, t)
    | _, _ => none
  | none => none

/-- HOPPER_FAULT (R291): after `prims` primitives the pass needs a page that it may not or cannot have. It has taken pages
up to its budget or the allotment's last one. With NOFAULT it flushes at once. -/
def execHopperFault (n q prims : Nat) (s : State) : Host.Outcome State Fault Refusal :=
  match s.binnedPass n q with
  | some (x, _) =>
    if x.phase ≠ .binning ∨ s.canRun n q = false then .next s
    else
      let take := min (x.budget - x.held) (s.hopperFree n)
      let held := x.held + take
      let cause := if x.budget ≤ held then 1 else 2
      let free := s.hopperFree n - take
      let s := s.updHead n q (fun x => { x with
        held := held, prims := prims, peak := max x.peak held
        phase := if x.noFault then .flushing else .waiting })
      if x.noFault then .next s
      else
        .next ((s.raise n 0x34 (hInst n) (detail [(x.owed.p.seq.toNat, 32), (q, 8), (cause, 8), (x.pass, 16), (held, 32),
          (free, 32)])).freeClusters n q)
  | none => .next s

/-- HOPPER_GRANT_WAIT_EXPIRY (R291): GRANT_US have passed without a grant. -/
def execHopperGrantWaitExpiry (n q : Nat) (s : State) : Host.Outcome State Fault Refusal :=
  match s.head n q with
  | some x => if x.phase = .waiting then .next (s.updHead n q (fun x => { x with phase := .flushing })) else .next s
  | none => .next s

/-- HOPPER_GRANT (R292). -/
def execHopperGrant (p : Packet) (s : State) : Host.Outcome State Fault Refusal :=
  packet opHopperGrant (ownHandle p) p s fun s =>
    let n := p.inst
    let q := p.fld 20 0 2
    let pages := p.u16 24
    let pass := p.u16 22
    let named := (s.queue n q).submits.find? (fun x => decide (x.owed.p.seq.toNat = p.u32 16))
    let isHead := decide ((s.head n q).map (·.owed) = named.map (·.owed))
    match named with
    | none => .fail .badParam []
    | some x =>
      let live := isHead && decide (x.pass = pass) &&
        (decide (x.phase = .binning) || decide (x.phase = .waiting) || decide (x.phase = .flushing))
      checks [(decide (p.length = 12) && decide (p.fld 20 2 14 = 0) && decide (p.u16 26 = 0) && decide (1 ≤ pages) &&
          decide (pages ≤ 4096) && decide (pass < x.passes), .badParam), (live, .busy), (decide (pages ≤ s.hopperFree n), .quota)]
        (.done (s.updHead n q (fun x => { x with
          held := x.held + pages
          budget := x.budget + pages
          peak := max x.peak (x.held + pages)
          granted := if x.phase = .flushing then x.granted + pages else x.granted
          phase := if x.phase = .waiting then .binning else x.phase })) .ok [])

/-- The bin tiles that meet a rectangle. -/
def Token.binsMeeting (t : Token) (x y w h : Nat) : List Nat :=
  (List.range t.binTiles).filter (fun k =>
    let r := t.binRect k
    decide (r.1 < x + w) && decide (x < r.1 + r.2.2.1) && decide (r.2.1 < y + h) && decide (y < r.2.1 + r.2.2.2))

/-- Seal tiles of every colour attachment: those that `which` picks among the tiles that a bin tile meets. -/
def State.sealBins (s : State) (n : Nat) (t : Token) (k : Nat) (done written : List Nat) (whole : Bool) : State :=
  let r := t.binRect k
  t.colours.foldl (fun s id =>
    match s.surfAny n id with
    | some f =>
      let ready := (f.tilesOf r.1 r.2.1 r.2.2.1 r.2.2.2).filter (fun i =>
        let bins := t.binsMeeting (i % f.tw * 64) (i / f.tw * 64) 64 64
        (!whole || bins.all done.contains) && bins.any written.contains)
      s.sealIf n id ready
    | none => s) s

/-- What a bin tile writes out (R282, R290, R293): a touched one its attachments' pixels, which an attachment with DISCARD
keeps to itself but in a flush; an untouched one only the clear of LOAD 1. After the first flush LOAD 1 and LOAD 2 act as
LOAD 0. -/
def State.writeBin (s : State) (n : Nat) (t : Token) (k : Nat) (flush first touched : Bool) (data : List (List Byte)) : State :=
  let r := t.binRect k
  let px := rectPixels r.1 r.2.1 r.2.2.1 r.2.2.2
  let out (discard : Bool) : Bool := flush || !discard
  if touched then
    let s := (List.range t.ncolor).foldl (fun s i =>
      match s.surfAny n (t.colSurf i) with
      | some f =>
        if out (t.colDiscard i) then
          let b := bytesPerPixel f.format
          let bs := data.getD i []
          (px.zipIdx).foldl (fun s x => s.putPixel n f x.1.1 x.1.2 (takePad b (bs.drop (b * x.2)))) s
        else s
      | none => s) s
    if t.hasDepth && out t.depthDiscard then
      let b := depthBytes t.depthFmt
      let bs := data.getD t.ncolor []
      (px.zipIdx).foldl (fun s x => s.writeInst n (t.depthAt x.1.1 x.1.2) (takePad b (bs.drop (b * x.2)))) s
    else s
  else if first then
    s.clearRect n t r.1 r.2.1 r.2.2.1 r.2.2.2 (fun i => decide (t.colLoad i = 1) && out (t.colDiscard i))
      (decide (t.depthLoad = 1) && out t.depthDiscard)
  else s

/-- An untouched bin tile is written where LOAD 1 clears it. -/
def Token.clears (t : Token) : Bool :=
  (List.range t.ncolor).any (fun i => decide (t.colLoad i = 1)) || (t.hasDepth && decide (t.depthLoad = 1))

/-- One bin tile processed in the rendering phase or a flush: write-out, and the seal of every tile whose bin tiles have
all been processed. -/
def State.processBin (s : State) (n q : Nat) (x : Submit) (t : Token) (k : Nat) (touched : Bool) (data : List (List Byte)) :
    State :=
  let flush := decide (x.phase = .flushing)
  let first := decide (x.passFlushes = 0)
  let s := s.writeBin n t k flush first touched data
  let done := x.tilesDone ++ [k]
  let written := if touched || (first && t.clears) then x.tilesWritten ++ [k] else x.tilesWritten
  let s := s.sealBins n t k done written true
  s.updHead n q (fun x => { x with tilesDone := done, tilesWritten := written })

/-- BIN_TILE_DONE (R282, R290): a cluster of the pass has processed a bin tile. In the binning phase it means that binning
is over and rendering has begun. After the last tile the pass ends: its pages return (R289), and the next work item
waits for SUBMIT_START. -/
def execBinTileDone (n q tile : Nat) (touched : Bool) (data : List (List Byte)) (s : State) :
    Host.Outcome State Fault Refusal :=
  match s.binnedPass n q with
  | some (x, t) =>
    if x.phase = .waiting ∨ x.tilesDone.contains tile = true ∨ t.binTiles ≤ tile ∨ s.canRun n q = false then .next s
    else
      let s := s.charge
      let x : Submit := if x.phase = .binning then { x with phase := .rendering } else x
      let s := s.updHead n q (fun y => { y with phase := x.phase })
      let s := s.asJob n x.owed.p (fun s => s.processBin n q x t tile touched data)
      if x.phase = .rendering ∧ x.tilesDone.length + 1 = t.binTiles then
        .next (s.updHead n q (fun y => { y with
          phase := .none, held := 0, budget := 0, granted := 0, tilesDone := [], tilesWritten := [], pass := y.pass + 1,
          pos := y.pos + (passBody y.tokens y.pos).length + 2 }))
      else .next s
  | none => .next s

/-- HOPPER_FLUSHED (R293): the flush has rendered every bin tile with records; tiles without any are cleared where LOAD 1
asks for it, so that the image is that of R283. Pages beyond MINPAGES return, but those granted meanwhile; binning
resumes. -/
def execHopperFlushed (n q : Nat) (s : State) : Host.Outcome State Fault Refusal :=
  match s.binnedPass n q with
  | some (x, t) =>
    if x.phase ≠ .flushing then .next s
    else
      let rest := if x.passFlushes = 0 ∧ t.clears = true then (List.range t.binTiles).filter (fun k => !x.tilesDone.contains k) else []
      let s := rest.foldl (fun s k => match s.head n q with
        | some y => s.asJob n x.owed.p (fun s => s.processBin n q y t k false [])
        | none => s) s
      let y := (s.head n q).getD x
      let s := y.tilesWritten.foldl (fun s k => s.sealBins n t k y.tilesDone y.tilesWritten false) s
      let s := s.raise n 0x35 (hInst n) (detail [(x.owed.p.seq.toNat, 32), (q, 8), (x.passFlushes + 1, 8), (x.pass, 16), (x.prims, 32),
        (x.tilesDone.length, 32)])
      .next (s.updHead n q (fun y => { y with
        phase := .binning, flushes := y.flushes + 1, passFlushes := y.passFlushes + 1, held := y.minPages + y.granted,
        granted := 0, tilesDone := [], tilesWritten := [] }))
  | none => .next s

/-! ### The end of a SUBMIT -/

/-- A SUBMIT leaves its queue: its clusters are free, its writers unbind, pages it may have used are looked at again, the
queue has room. -/
def State.dropHead (s : State) (n q : Nat) : State :=
  match s.head n q with
  | none => s
  | some x =>
    let s := s.freeClusters n q
    let s := x.surfaces.foldl (fun s id => s.unbindWriter n id) s
    let s := s.updQueue n q (fun y => { y with submits := y.submits.tail })
    (s.settleAllDead n).sweepPipelines n

/-- No work item is left at the SUBMIT's place. -/
def Submit.atEnd (x : Submit) : Bool :=
  !(x.tokens.drop x.pos).any (fun t => decide (t.op = 0x01) || decide (t.op = 0x18) || decide (t.op = 0x19))

/-- SUBMIT_COMPLETE (R271, R272): the last work item, if an immediate pass or a dispatch is under way, ends with the
results of `work`; VALUE is stored; the final reply is written. E of the queue and pipe is the cluster-time used (R312);
deadlines met and missed are counted (R317). -/
def execSubmitComplete (n q : Nat) (work : GpuWork) (s : State) : Host.Outcome State Fault Refusal :=
  match s.head n q with
  | none => .next s
  | some x =>
    let single := decide (x.phase = .immediate) || decide (x.phase = .dispatch)
    if !x.started || !(single || decide (x.phase = .none)) || (decide (x.abort = 0) && !s.canRun n q) then .next s
    else
      let s1 := s.charge
      let s1 := if single && decide (x.abort = 0) then s1.asJob n x.owed.p (fun s => s.endItem n q work) else s1
      let y := (s1.head n q).getD x
      if !y.atEnd && decide (y.abort = 0) then .next s
      else
        let s1 := if y.abort = 0 then s1.asJob n y.owed.p (fun s => State.toItem (y.tokens.length + 1) s n q) else s1
        let y := (s1.head n q).getD y
        let s1 := if y.spad then s1.writeSpad n y.offset (leBytes 8 y.value) else s1
        let s1 := if y.tagged then
            let k := 40 * q + 5 * y.pipe
            let s1 := s1.setGpu { s1.gpu with lastE := s1.gpu.lastE.set ((n * 4 + q) * 8 + y.pipe) y.used }
            match y.missAt with
            | some d => s1.countMax 1 n (k + 3) ((s1.devTime - d) / 1000)
            | none => if y.deadline.isSome then s1.count 1 n (k + 1) else s1
          else s1
        let s1 := s1.dropHead n q
        let s1 := s1.finish y.owed (if y.abort = 0 then .ok else .timeout) (y.result s1.devTime)
        .next (State.admitWaiting ((s1.queue n q).waiting.length + 1) s1 n q)

/-- The SUBMIT at the head ends early (R272, R295, R305): nothing further of it runs. -/
def State.abortHead (s : State) (n q cause off : Nat) : State :=
  s.updHead n q (fun x => { x with
    abort := cause, failOffset := off, pos := x.tokens.length, phase := .none, held := 0, budget := 0, granted := 0 })

/-- WORKGROUP_TIME_LIMIT (R305): a workgroup of the dispatch under way has run past its queue's limit and is stopped:
GPU_FAULT (cause 2), an INST fault, and the SUBMIT ends with ABORT 2. -/
def execWorkgroupTimeLimit (n q cluster : Nat) (s : State) : Host.Outcome State Fault Refusal :=
  onUnit s (hCluster cluster) (match s.head n q with
    | some x =>
      if x.phase = .dispatch ∧ (s.cluster cluster).work = some (n, q) then
        let off := ((x.tokens[x.pos]?).map (·.offset)).getD 0xFFFFFFFF
        let s := (s.gpuFault n q 2 cluster 0).raiseErr 0x3001 2 (hCluster cluster) n x.owed.p.seq.toNat 0
        (s.count 1 n (160 + 5 * q + 3)).abortHead n q 2 off
      else s
    | none => s)

/-! ### Lost clusters (R239, R262, R295) -/

/-- Shared clusters that are online, rising. -/
def State.sharedClusters (s : State) : List Nat :=
  (List.range s.board.member.clusters).filter (fun c => !(s.cluster c).offline && decide ((s.cluster c).reserved = none))

/-- Clusters that an instance holds in reserve and that are online. -/
def State.reservedOf (s : State) (n : Nat) : List Nat :=
  (List.range s.board.member.clusters).filter (fun c => !(s.cluster c).offline && decide ((s.cluster c).reserved = some n))

/-- A mask of cluster numbers. -/
def maskOf (cs : List Nat) : Nat := (cs.map (2 ^ ·)).sum

/-- CLUSTERS_CHANGED to the holder and the manager (R265). -/
def State.clustersChanged (s : State) (n : Nat) : State :=
  let online := (List.range s.board.member.clusters).filter (fun c => !(s.cluster c).offline)
  let held := s.reservedOf n
  s.raiseAll [0, n] 0x32 (hInst n) (detail [(maskOf held, 16), (maskOf online, 16), ((s.inst n).reserved, 8), (held.length, 8)])

/-- The reservation of a lost cluster moves to the highest-numbered shared cluster; where none is left the holder's entry
is CONTRADICTED (R262). -/
def State.moveReservation (s : State) (c : Nat) : State :=
  match (s.cluster c).reserved with
  | none => s
  | some n =>
    let s := s.updCluster c (fun x => { x with reserved := none })
    let s := match s.sharedClusters.max? with
      | some d => s.updCluster d (fun x => { x with reserved := some n, request := if x.work.isSome then some s.devTime else none })
      | none => s.setFact (hInst n) (Config.factCode 0x02)
    s.clustersChanged n

/-- CLUSTER_OFFLINE (R239, R262, R295): an uncorrectable error. The work's instance has GPU_FAULT (cause 3) and an INST
fault; the cluster is offline until a full reset. A binned pass renders its bin tile again elsewhere; an immediate pass
or a dispatch ends with ABORT 1, at the draw that token `token` is, where it lies in the pass. -/
def execClusterOffline (cluster token : Nat) (s : State) : Host.Outcome State Fault Refusal :=
  onUnit s (hCluster cluster) (
    if (s.cluster cluster).offline then s
    else
      let s := s.charge
      let s : State := match (s.cluster cluster).work with
        | none => s
        | some (n, q) =>
          let seq := ((s.head n q).map (fun (x : Submit) => x.owed.p.seq.toNat)).getD 0
          let s := (s.gpuFault n q 3 cluster 0).raiseErr 0x3001 2 (hCluster cluster) n seq 0
          match s.head n q with
          | none => s
          | some x =>
            let here := ((x.tokens[x.pos]?).map Token.offset).getD 0xFFFFFFFF
            let inPass := decide (x.pos < token) && decide (token ≤ x.pos + (passBody x.tokens x.pos).length)
            match x.phase with
            | .immediate => s.abortHead n q 1 (if inPass then ((x.tokens[token]?).map Token.offset).getD here else here)
            | .dispatch => s.abortHead n q 1 here
            | _ => s
      let s := s.updCluster cluster (fun x => { x with offline := true, work := none, request := none })
      let s := (s.setFact (hCluster cluster) (Config.factCode 0x09)).raiseErr 0x3002 3 (hCluster cluster) 0xFF 0 0
      s.moveReservation cluster)

/-! ### Transitions of instances and pipes -/

/-- The SUBMITs of a queue end with ST_CANCELLED, those that wait for room too (R61, R296). -/
def State.cancelQueue (s : State) (n q : Nat) : State :=
  let k := (s.queue n q).submits.length
  let s := (List.range k).foldl (fun s _ =>
    match s.head n q with
    | some x => (s.dropHead n q).finish x.owed .cancelled []
    | none => s) s
  let ws := (s.queue n q).waiting
  ws.foldl (fun s o => s.finish o .cancelled []) (s.updQueue n q (fun y => { y with waiting := [] }))

/-- Every queue of an instance, and its compilations. -/
def State.cancelGpu (s : State) (n : Nat) : State :=
  let s := [0, 1, 2, 3].foldl (fun s q => s.cancelQueue n q) s
  let mine := s.gpu.compiles.filter (fun c => decide (c.inst = n))
  let s := s.setGpu { s.gpu with compiles := s.gpu.compiles.filter (fun c => decide (c.inst ≠ n)) }
  (mine.foldl (fun s c => s.finish c.owed .cancelled []) s).sweepPipelines n

/-- Every cluster that works for the instance is asked for (R304). -/
def State.requestClusters (s : State) (n : Nat) : State :=
  (List.range s.board.member.clusters).foldl (fun s c =>
    match (s.cluster c).work with
    | some (m, _) => if m = n ∧ (s.cluster c).request = none then s.updCluster c (fun x => { x with request := some s.devTime }) else s
    | none => s) s

/-- INST_RESET and INST_DESTROY: modules, pipelines, caches, save areas and queue settings go. -/
def State.dropGpu (s : State) (n : Nat) : State :=
  let g := s.gpu
  s.setGpu { g with
    modules := (instCells g.modules n).foldl (fun t c => t.set (idKey n c.1) none) g.modules
    pipelines := (instCells g.pipelines n).foldl (fun t c => t.set (idKey n c.1) none) g.pipelines
    nextModule := g.nextModule.set n 1
    nextPipeline := g.nextPipeline.set n 1
    cacheMiB := g.cacheMiB.set n 16
    cache := g.cache.set n []
    queues := [0, 1, 2, 3].foldl (fun t q => t.set (n * 4 + q) Queue.reset) g.queues
    vtime := [0, 1, 2, 3].foldl (fun t q => t.set (n * 4 + q) 0) g.vtime }

/-- A latch line of a pipe passes: each tagged SUBMIT with passes unfinished has missed its deadline (R309). -/
def State.missDeadlines (s : State) (pipe : Nat) : State :=
  s.guests.foldl (fun s n => [0, 1, 2, 3].foldl (fun s q =>
    let xs := (s.queue n q).submits
    let late (x : Submit) : Bool := x.tagged && decide (x.pipe = pipe) && x.deadline.isSome && decide (x.pass < x.passes)
    let s1 := xs.foldl (fun s x =>
      if late x then
        (s.raise n 0x37 (hInst n) (detail [(x.owed.p.seq.toNat, 32), (pipe, 8), (q, 8), (x.pass, 16), (x.misses + 1, 32),
          (x.used / 1000, 32)])).count 1 n (40 * q + 5 * pipe + 2)
      else s) s
    s1.updQueue n q (fun y => { y with submits := y.submits.map (fun x =>
      if late x then { x with misses := x.misses + 1, missAt := some (x.missAt.getD s1.devTime), deadline := s1.nextLatch pipe, urgent := false }
      else x) })) s) s

/-- A pipe's timing changes, stops or starts: the deadlines of its tagged SUBMITs are computed afresh or lost (R308). -/
def State.retimeDeadlines (s : State) (pipe : Nat) : State :=
  let d := s.nextLatch pipe
  s.guests.foldl (fun s n => [0, 1, 2, 3].foldl (fun s q =>
    s.updQueue n q (fun y => { y with submits := y.submits.map (fun x =>
      if x.tagged ∧ x.pipe = pipe then { x with deadline := d, urgent := x.urgent && d.isSome } else x) })) s) s

end Sys2Proof.Machine
end

