-- ==== Sys2Proof/Machine/Links.lean ====
section
/-!
DEFINITION. Display links and panels (14): link configuration and training, routing and its admission rule, stream
attributes, DSC encoders, panel power sequences and backlights. Pipes call `linksFrameStart`, `linksFrameDone` and
`linksLatch` at their own instants.
-/

namespace Sys2Proof.Machine

open Sys2Proof

def opLinkConfig : Op := { code := 0x5010, mark := .m }
def opRouteSet : Op := { code := 0x5011, mark := .m }
def opDscAssign : Op := { code := 0x5012, mark := .m }
def opPanelPower : Op := { code := 0x5013, mark := .m }
def opBacklightSet : Op := { code := 0x5014, mark := .m }
def opStreamSet : Op := { code := 0x5015, mark := .g }

/-! ### Units and streams (R401) -/

/-- The handle is a transmitter's, or a DSI port's. -/
def isTx (h : Nat) : Bool := decide (h / 256 = 0x10)
def isDsi (h : Nat) : Bool := decide (h / 256 = 0x11)
def isLink (h : Nat) : Bool := isTx h || isDsi h

/-- Every transmitter and DSI port of the member. -/
def State.linkUnits (s : State) : List Nat :=
  (List.range s.board.member.dptx).map hDptx ++ (List.range s.board.member.dsi).map hDsi

/-- One link's record. -/
def State.link (s : State) (h : Nat) : LinkUnit := s.links.unit.get h

/-- Change one link's record. -/
def State.updLink (s : State) (h : Nat) (f : LinkUnit → LinkUnit) : State :=
  s.setLinks { s.links with unit := s.links.unit.upd h f }

/-- A stream of a link, and its change. -/
def LinkUnit.stream (u : LinkUnit) (i : Nat) : Stream := if i = 0 then u.stream0 else u.stream1
def LinkUnit.updStream (u : LinkUnit) (i : Nat) (f : Stream → Stream) : LinkUnit :=
  if i = 0 then { u with stream0 := f u.stream0 } else { u with stream1 := f u.stream1 }

/-- How many stream numbers the member has, and the number of a link's stream (R401). -/
def linkStreams (m : Member) : Nat := 2 * m.dptx + m.dsi
def streamNo (m : Member) (h i : Nat) : Nat := if isTx h then 2 * (h % 256) + i else 2 * m.dptx + h % 256

/-- The link and the stream index of a stream number. -/
def streamAt (m : Member) (n : Nat) : Nat × Nat :=
  if n < 2 * m.dptx then (hDptx (n / 2), n % 2) else (hDsi (n - 2 * m.dptx), 0)

/-- The stream carries video (R408). -/
def State.carries (s : State) (h i : Nat) : Bool :=
  let u := s.link h
  let t := u.stream i
  u.cfg.enable && u.up && !u.training && !t.dropped && (match t.active with
    | some p => decide ((s.pipe p).state = .run ∨ (s.pipe p).state = .blank)
    | none => false)

/-- The transmitters or ports whose streams carry the pipe, or will. -/
def State.linksOf (s : State) (pipe : Nat) : List Nat := s.linkUnits.filter (fun h => (s.linkPipes h).contains pipe)

/-! ### The admission rule (R407) -/

/-- Rate of a MAX_RATE code in Mbps per lane (R402, R404; the DisplayPort rates, log 31). -/
def rateMbps : Nat → Nat
  | 0 => 1620
  | 1 => 2700
  | 2 => 5400
  | 3 => 8100
  | _ => 10000

/-- The code of a rate in LINK_STATE (R417). -/
def rateCode (mbps : Nat) : Nat :=
  if mbps = 1620 then 0 else if mbps = 2700 then 1 else if mbps = 5400 then 2 else if mbps = 8100 then 3
  else if mbps = 10000 then 4 else Config.rateCode mbps

/-- Bits per pixel of PIXFMT (R404; loose RGB666 takes 24, log 31). -/
def pixfmtBits : Nat → Nat
  | 0 => 16
  | 1 => 18
  | 4 => 30
  | _ => 24

/-- The encoder that serves a stream, as intended. -/
def State.dscOf (s : State) (no : Nat) : Option DscSet :=
  (List.range s.board.member.dsc).findSome? (fun e =>
    let d := s.links.dsc.get e
    let want := match d.next with
      | some n => n
      | none => d.cur
    match want with
    | some x => if x.stream = no then some x else none
    | none => none)

/-- Sixteen times the bits per pixel of a stream (R407). -/
def State.bppX16 (s : State) (h i : Nat) : Nat :=
  match s.dscOf (streamNo s.board.member h i) with
  | some d => d.bppX16
  | none =>
    let a := match ((s.link h).stream i).attrNext with
      | some a => a
      | none => ((s.link h).stream i).attr
    if isDsi h then 16 * pixfmtBits (s.link h).cfg.pixfmt else 48 * a.bpc

/-- What a stream requires, in units of 1/16,000 kbps: 1.006 × PCLK × bpp (R407). -/
def State.streamLoad (s : State) (h i : Nat) : Nat :=
  match ((s.link h).stream i).route with
  | some p => 1006 * (s.pipe p).timing.pclk * s.bppX16 h i
  | none => 0

/-- FEC runs: DSC on 8b/10b (R402). -/
def State.fecOn (s : State) (h : Nat) : Bool :=
  (List.range 2).any (fun i => (s.dscOf (streamNo s.board.member h i)).isSome)

/-- The capacity U in kbps as a fraction: of the link as trained, or, while it is down, of its intention (R406,
R407). -/
def State.linkCapacity (s : State) (h : Nat) : Nat × Nat :=
  let u := s.link h
  let lanes := if u.up && isTx h then u.lanes else u.cfg.lanes
  let mbps := if u.up && isTx h then u.mbps else rateMbps u.cfg.rate
  let mst : Nat × Nat := if u.cfg.mst then (63, 64) else (1, 1)
  if isDsi h then
    if u.cfg.vmode = 2 then (lanes * u.cfg.mbps * 1000 * 100, 105) else (2500000 * lanes, 1)
  else if mbps = 10000 then (lanes * 10000000 * 128 * mst.1, 132 * mst.2)
  else
    let fec : Nat × Nat := if s.fecOn h then (976, 1000) else (1, 1)
    (lanes * mbps * 1000 * 8 * mst.1 * fec.1, 10 * mst.2 * fec.2)

/-- ΣR ≤ U over the streams that are not dropped. -/
def State.linkFits (s : State) (h : Nat) : Bool :=
  let u := s.link h
  let sum := ((List.range 2).map (fun i => if (u.stream i).dropped then 0 else s.streamLoad h i)).sum
  decide (sum * (s.linkCapacity h).2 ≤ (s.linkCapacity h).1 * 16000)

/-- The same with no stream dropped, as ROUTE_SET, DSC_ASSIGN and STREAM_SET check it. -/
def State.linkFitsAll (s : State) (h : Nat) : Bool :=
  let sum := s.streamLoad h 0 + s.streamLoad h 1
  decide (sum * (s.linkCapacity h).2 ≤ (s.linkCapacity h).1 * 16000)

/-- LINK_STATE (R417) to the manager and the instances with regions on routed pipes. -/
def State.linkState (s : State) (h cause : Nat) : State :=
  let u := s.link h
  let video := b2n (s.carries h 0) + 2 * b2n (s.carries h 1)
  s.raiseAll (0 :: s.guests.filter (fun n => (s.linkPipes h).any (s.hasRegion n))) 0x58 h
    (detail [(cause, 8), (u.lanes % 8, 8), (rateCode u.mbps, 8), (video, 8)])

/-- One stream marked as dropped or not. -/
def State.setDropped (s : State) (h i : Nat) (b : Bool) : State :=
  s.updLink h (fun u => u.updStream i (fun t => { t with dropped := b }))

/-- After a training or a timing change: streams are dropped from the highest number downwards until the rest fit
(R407). -/
def State.recheckLink (s : State) (h : Nat) : State :=
  let s := (s.setDropped h 0 false).setDropped h 1 false
  if s.linkFits h then
    if (s.entry h).fact = 3 then (s.clearFact h).settle h else s
  else
    let s := s.setDropped h 1 true
    let s := if s.linkFits h then s else s.setDropped h 0 true
    (s.setFact h 3).linkState h 5

/-! ### Link configuration (R404, R405) -/

/-- A well-formed initialisation list: DCS and generic writes only, with their payloads within the list (R405; the DSI
data types, log 31). The fuel bounds the records. -/
def initListOk : Nat → List Byte → Bool
  | _, [] => true
  | 0, _ => false
  | f + 1, b0 :: b1 :: _ :: b3 :: bs =>
    [0x03, 0x13, 0x23, 0x05, 0x15, 0x39, 0x29].contains b0.toNat && decide (b1.toNat ≤ 252) && decide (b3 = 0) &&
      decide ((b1.toNat + 3) / 4 * 4 ≤ bs.length) && initListOk f (bs.drop ((b1.toNat + 3) / 4 * 4))
  | _, _ => false

/-- The settings of the packet. -/
def linkCfg (p : Packet) (init : List Byte) : LinkCfg :=
  if isTx p.target then
    { enable := p.flag 16 0, edp := p.flag 16 1, mst := p.flag 16 2, ssc := p.flag 16 3, lanes := p.fld 17 0 3,
      rate := p.u8 18, vmode := 0, pixfmt := 0, mbps := 0, init := [], words := p.words }
  else
    { enable := p.flag 16 0, edp := false, mst := false, ssc := false, lanes := p.fld 16 1 2 + 1, rate := 0,
      vmode := p.fld 16 3 2, pixfmt := p.fld 16 5 3, mbps := p.u16 18, init := init, words := p.words }

/-- The packet's fields are in range (R404). -/
def linkCfgOk (p : Packet) : Bool :=
  if isTx p.target then
    decide (p.length = 4) && decide (p.fld 16 4 4 = 0) && [1, 2, 4].contains (p.fld 17 0 3) && decide (p.fld 17 3 5 = 0) &&
      decide (p.u8 18 ≤ 4) && decide (p.u8 19 = 0) && !(p.flag 16 2 && p.flag 16 1) && !(decide (p.u8 18 = 4) && p.flag 16 1)
  else if isDsi p.target then
    decide (p.length = 16) && decide (p.fld 16 3 2 ≤ 2) && decide (p.fld 16 5 3 ≤ 4) && decide (p.u8 17 = 0) &&
      (decide (p.fld 16 3 2 ≠ 2) || (decide (80 ≤ p.u16 18) && decide (p.u16 18 ≤ 2500))) &&
      decide (p.u16 28 ≤ 1024) && decide (p.u16 28 % 4 = 0) && decide (p.u16 30 = 0)
  else false

/-- LINK_CONFIG (R404, R405): the intention; a transmitter with HPD high trains to it, a DSI port takes it at once. The
list is read from host memory when the packet is applied. -/
def execLinkConfig (p : Packet) (s : State) : Host.Outcome State Fault Refusal :=
  packet opLinkConfig true p s fun s =>
    let h := p.target
    let withList := isDsi h && decide (p.u64 20 ≠ 0)
    let init := if withList then s.hostBytes s.board.mgrPortInForce (p.u64 20) (p.u16 28) else []
    checks [(linkCfgOk p, .badParam), (!withList || s.busMaster 0, .badParam), (initListOk 257 init, .badParam)]
      (let c := linkCfg p init
       let s := if withList then s.tickFree else s
       let was := (s.link h).up
       let train := isTx h && c.enable && (s.link h).hpd
       let s := s.updLink h (fun u => { u with
         cfg := c
         training := train
         fails := 0
         up := if isDsi h then c.enable else u.up && c.enable })
       let s := s.intend h train 0
       let s := if was && !c.enable then s.linkState h 2 else s
       .done s .ok [])

/-! ### Routing (R406, R408) -/

/-- A pipe that runs passes through its line 0: a stream joins or leaves it at that pipe's own instants. -/
def State.pipeRuns (s : State) (p : Nat) : Bool :=
  decide ((s.pipe p).state = .run ∨ (s.pipe p).state = .blank ∨ (s.pipe p).state = .starting)

/-- The route is realised: the ROUTE_SET that waited is answered (R408). -/
def State.finishRoute (s : State) (h : Nat) : State :=
  let u := s.link h
  let there (i : Nat) : Bool := decide ((u.stream i).active = (u.stream i).route)
  match u.routeWaiting with
  | some o =>
    if there 0 && there 1 then ((s.updLink h (fun u => { u with routeWaiting := none })).settle h).finish o .ok [] else s
  | none => s

/-- One stream's route where no pipe instant is to be waited for (log 32). -/
def State.settleStream (s : State) (h i : Nat) : State :=
  let t := (s.link h).stream i
  if t.active = t.route then s
  else
    let leave := match t.active with
      | some p => !s.pipeRuns p
      | none => true
    if leave then
      let join := match t.route with
        | some q => !s.pipeRuns q
        | none => true
      s.updLink h (fun u => u.updStream i (fun t => { t with active := if join then t.route else none }))
    else s

/-- Both streams, then the waiting reply. -/
def State.settleRoutes (s : State) (h : Nat) : State := ((s.settleStream h 0).settleStream h 1).finishRoute h

/-- Streams that a pipe would feed once `h` has the given routes. -/
def State.feeds (s : State) (h : Nat) (r0 r1 : Option Nat) (p : Nat) : Nat :=
  let others := (s.linkUnits.filter (fun k => decide (k ≠ h))).flatMap s.linkPipes
  ((others ++ r0.toList ++ r1.toList).filter (fun q => decide (q = p))).length

/-- ROUTE_SET (R406 to R408). -/
def execRouteSet (p : Packet) (s : State) : Host.Outcome State Fault Refusal :=
  packet opRouteSet true p s fun s =>
    let h := p.target
    let r0 := if p.flag 16 4 then some (p.fld 16 0 4) else none
    let r1 := if p.flag 16 12 then some (p.fld 16 8 4) else none
    let fitted (r : Option Nat) : Bool := match r with
      | some q => s.present (hPipe q)
      | none => true
    let s1 := s.updLink h (fun u => (u.updStream 0 (fun t => { t with route := r0 })).updStream 1
      (fun t => { t with route := r1 }))
    let busy := (r0.toList ++ r1.toList).any (fun q => decide (2 < s.feeds h r0 r1 q))
    checks [(isLink h && decide (p.length = 4) && decide (p.fld 16 5 3 = 0) && decide (p.fld 16 13 19 = 0), .badParam),
        (fitted r0 && fitted r1, .noUnit),
        (r1.isNone || (isTx h && (s.link h).cfg.mst), .badParam),
        (r0.isNone || decide (r0 ≠ r1), .badParam),
        (!busy, .busy),
        (s1.linkFitsAll h, .quota)]
      (let old := (s.link h).routeWaiting
       let s2 := (s1.updLink h (fun u => { u with routeWaiting := some { opcode := 0x5011, p := p } })).intend h true 0
       let s3 := (s2.setDropped h 0 false).setDropped h 1 false
       .owe ((s3.finishOpt old .cancelled []).settleRoutes h))

/-! ### DSC encoders (R410) -/

/-- A pending assignment comes into force; on 8b/10b the link of the stream retrains (R410). -/
def State.applyDsc (s : State) (e : Nat) : State :=
  let d := s.links.dsc.get e
  match d.next with
  | none => s
  | some n =>
    let s := s.setLinks { s.links with dsc := s.links.dsc.set e { cur := n, next := none } }
    let touched := (d.cur.toList ++ n.toList).map (fun x => (streamAt s.board.member x.stream).1)
    (touched.foldl (fun t h =>
      if isTx h && (t.link h).up && decide ((t.link h).mbps ≠ 10000) then t.updLink h (fun u => { u with training := true })
      else t) s).settle (hDsc e)

/-- The pipe whose line 0 an encoder's change waits for, where one runs. -/
def State.dscPipe (s : State) (e : Nat) : Option Nat :=
  let d := s.links.dsc.get e
  let want := match d.next with
    | some (some n) => some n
    | _ => d.cur
  match want with
  | some x =>
    let at_ := streamAt s.board.member x.stream
    match ((s.link at_.1).stream at_.2).active with
    | some p => if s.pipeRuns p then some p else none
    | none => none
  | none => none

/-- Another encoder holds the stream. -/
def State.dscHeld (s : State) (e no : Nat) : Bool :=
  (List.range s.board.member.dsc).any (fun k => decide (k ≠ e) &&
    (let d := s.links.dsc.get k
     (match d.cur with
      | some x => decide (x.stream = no)
      | none => false) || (match d.next with
      | some (some x) => decide (x.stream = no)
      | _ => false)))

/-- DSC_ASSIGN (R410). -/
def execDscAssign (p : Packet) (s : State) : Host.Outcome State Fault Refusal :=
  packet opDscAssign true p s fun s =>
    let e := p.target % 256
    let no := p.fld 16 0 4
    let release := decide (no = 15)
    let d : DscSet := { stream := no, slices := p.fld 16 4 3, bpc10 := p.flag 16 7, bppX16 := p.u16 18 }
    let at_ := streamAt s.board.member no
    let hact := match ((s.link at_.1).stream at_.2).route with
      | some q => (s.pipe q).timing.hact
      | none => 0
    let sink := isDsi at_.1 || Config.sinkAdmitsDsc ((s.link at_.1).edidCrc.getD 0) (p.u32 16)
    let busyOwn := match (s.links.dsc.get e).cur with
      | some x =>
        let c := streamAt s.board.member x.stream
        decide (x.stream ≠ no) && s.carries c.1 c.2
      | none => false
    let s1 := s.setLinks { s.links with dsc := s.links.dsc.upd e (fun d0 => { d0 with
      next := some (if release then none else some d) }) }
    checks [(decide (p.target / 256 = 0x12) && decide (p.length = 4) && decide (p.u8 17 = 0), .badParam),
        (release || decide (no < linkStreams s.board.member), .noUnit),
        (release || ([1, 2, 4].contains d.slices && decide (128 ≤ d.bppX16) && decide (d.bppX16 ≤ 192) &&
          decide (hact % d.slices = 0) && sink), .badParam),
        (release || (!s.dscHeld e no && !busyOwn), .busy),
        (release || s1.linkFitsAll at_.1, .quota)]
      (let s2 := s1.intend p.target true 0
       .done (if (s2.dscPipe e).isSome then s2 else s2.applyDsc e) .ok [])

/-! ### Stream attributes (R409) -/

/-- The pipe of the stream that STREAM_SET names. -/
def State.streamSetPipe (s : State) (p : Packet) : Option Nat := ((s.link p.target).stream (p.fld 16 0 1)).route

/-- The manager, or an instance with a region on the stream's pipe. -/
def State.maySetStream (s : State) (p : Packet) : Bool :=
  decide (p.inst = 0) || (match s.streamSetPipe p with
    | some q => s.hasRegion p.inst q
    | none => false)

/-- Bits per component of a BPC code; 0 keeps. -/
def bpcOf (old : Nat) : Nat → Nat
  | 1 => 6
  | 2 => 8
  | 3 => 10
  | _ => old

/-- STREAM_SET (R409). -/
def execStreamSet (p : Packet) (s : State) : Host.Outcome State Fault Refusal :=
  packet opStreamSet (s.maySetStream p) p s fun s =>
    let h := p.target
    let i := p.fld 16 0 1
    let t := (s.link h).stream i
    let bpc := p.fld 16 1 3
    let a : Attr :=
      { bpc := bpcOf (match t.attrNext with
          | some a => a.bpc
          | none => t.attr.bpc) bpc,
        colorimetry := p.fld 16 4 2, tf := p.fld 16 6 2, maxCll := p.u16 20, maxFall := p.u16 22 }
    let wait := match t.active with
      | some q => s.pipeRuns q
      | none => false
    let s1 := s.updLink h (fun u => u.updStream i (fun t =>
      if wait then { t with attrNext := some a } else { t with attr := a, attrNext := none }))
    checks [(isLink h && decide (p.length = 8) && decide (bpc ≤ 3) && decide (a.colorimetry ≤ 1) && decide (a.tf ≤ 2) &&
        decide (p.fld 16 8 24 = 0) && (isTx h || (decide (i = 0) && decide (bpc = 0) && decide (a.tf = 0))), .badParam),
        (s1.linkFitsAll h, .quota)]
      (.done (s1.intend h wait p.inst) .ok [])

/-- At a pipe's latch line: the attributes of its streams (R409). -/
def State.linksLatch (s : State) (pipe : Nat) : State :=
  s.linkUnits.foldl (fun s h => [0, 1].foldl (fun s i =>
    let t := (s.link h).stream i
    match t.attrNext with
    | some a =>
      if t.active = some pipe then
        (s.updLink h (fun u => u.updStream i (fun t => { t with attr := a, attrNext := none }))).settle h
      else s
    | none => s) s) s

/-- At a pipe's line 0: streams that gain it begin, encoders change, replies follow (R408, R410). -/
def State.linksFrameStart (s : State) (pipe : Nat) : State :=
  let s := (List.range s.board.member.dsc).foldl (fun s e => if s.dscPipe e = some pipe then s.applyDsc e else s) s
  s.linkUnits.foldl (fun s h =>
    ([0, 1].foldl (fun s i =>
      let t := (s.link h).stream i
      if t.route = some pipe ∧ t.active = none then
        s.updLink h (fun u => u.updStream i (fun t => { t with active := some pipe }))
      else s) s).finishRoute h) s

/-- At the end of a pipe's frame, and when it stops: streams that lose it end (R408). -/
def State.linksFrameDone (s : State) (pipe : Nat) : State :=
  s.linkUnits.foldl (fun s h =>
    ([0, 1].foldl (fun s i =>
      let t := (s.link h).stream i
      if t.active = some pipe ∧ t.route ≠ some pipe then
        s.updLink h (fun u => u.updStream i (fun t => { t with active := none }))
      else s) s).settleRoutes h) s

/-! ### Hot-plug and training (R411, R412, R416) -/

/-- The link goes down: LINK_DOWN, no video (R412, R545). -/
def State.linkDown (s : State) (h : Nat) : State :=
  ((s.updLink h (fun u => { u with up := false, training := false })).setFact h 1).linkState h 2

/-- HPD_LOW (R412). -/
def execHpdLow (unit : Nat) (s : State) : Host.Outcome State Fault Refusal :=
  onUnit s unit (if isTx unit then (s.updLink unit (fun u => { u with hpd := false })).linkDown unit else s)

/-- HPD_IRQ (R412): the sink's link status is read; a link that lost lock retrains. No fact. -/
def execHpdIrq (unit : Nat) (lockLost : Bool) (s : State) : Host.Outcome State Fault Refusal :=
  onUnit s unit (if isTx unit && lockLost && (s.link unit).cfg.enable then
    s.updLink unit (fun u => { u with training := true }) else s)

/-- HPD_RISE (R412, R416): the EDID base block is read; a CRC other than that of the last successful training means
another panel. Training starts to the standing intention. Manufacturer ID and product code are bytes 8 to 11 of the
block (log 31). -/
def execHpdRise (unit : Nat) (edid : List Byte) (s : State) : Host.Outcome State Fault Refusal :=
  onUnit s unit (if isTx unit then
    let crc := (crc32c edid).toNat
    let u := s.link unit
    let s := s.updLink unit (fun u => { u with hpd := true, edidCrc := some crc, training := u.cfg.enable, fails := 0 })
    match u.goodCrc with
    | some g =>
      if g ≠ crc then
        s.raise 0 0x5A unit (detail [(g, 32), (crc, 32), (leNat ((edid.drop 8).take 2), 16),
          (leNat ((edid.drop 10).take 2), 16)])
      else s
    | none => s
  else s)

/-- LINK_TRAINING_DONE (R411, R407): what the sink reached, never above the intention. The first failure of an 8b/10b
retry is tried again; the third in a row records TRAIN_FAIL. -/
def execLinkTrainingDone (unit : Nat) (ok : Bool) (lanes mbps : Nat) (s : State) : Host.Outcome State Fault Refusal :=
  onUnit s unit (if isTx unit && (s.link unit).training then
    let u := s.link unit
    if ok then
      let s := s.updLink unit (fun u => { u with
        up := true
        training := false
        fails := 0
        lanes := min lanes u.cfg.lanes
        mbps := min mbps (rateMbps u.cfg.rate)
        goodCrc := u.edidCrc })
      let e := s.entry unit
      let s := if e.fact = 1 ∨ e.fact = 2 then s.clearFact unit else s
      let s := if (s.link unit).routeWaiting.isNone then s.settle unit else s
      ((s.linkState unit (if u.up then 3 else 1)).recheckLink unit)
    else
      let s := s.updLink unit (fun u => { u with fails := u.fails + 1, up := false, training := decide (u.fails + 1 < 3) })
      if u.fails + 1 = 3 then (s.setFact unit 2).linkState unit 4 else s
  else s)

/-- TRAIN_RETRY (R411): once a second while HPD is high. -/
def execTrainRetry (unit : Nat) (s : State) : Host.Outcome State Fault Refusal :=
  onUnit s unit (if isTx unit && (s.link unit).hpd && (s.link unit).cfg.enable && decide (3 ≤ (s.link unit).fails) then
    s.updLink unit (fun u => { u with training := true, fails := 3 }) else s)

/-! ### Panel power and backlight (R413 to R415) -/

/-- Change a panel. -/
def State.updPanel (s : State) (h : Nat) (f : Panel → Panel) : State :=
  s.updLink h (fun u => { u with panel := f u.panel })

/-- The GPIO balls of a configuration. -/
def PanelCfg.gpios (c : PanelCfg) : List Nat := [c.vddGpio, c.blenGpio] ++ (if c.rstUsed then [c.rstGpio] else [])

/-- The configuration in an OP 2 packet (R413). -/
def panelCfg (p : Packet) : PanelCfg :=
  { vddGpio := p.fld 17 0 5, vddPol := p.flag 17 7, blenGpio := p.fld 18 0 5, blenPol := p.flag 18 7,
    rstGpio := p.fld 19 0 5, rstUsed := p.flag 19 6, rstPol := p.flag 19 7, pwm := p.fld 20 0 3, tVdd := p.u16 22,
    tBlon := p.u16 24, tBloff := p.u16 26, tOff := p.u16 28, blMin := p.u16 30 }

/-- Another panel uses one of the balls or the PWM output. -/
def State.panelClash (s : State) (h : Nat) (c : PanelCfg) : Bool :=
  s.linkUnits.any (fun k => decide (k ≠ h) && (match (s.link k).panel.cfg with
    | some d => decide (d.pwm = c.pwm) || c.gpios.any d.gpios.contains
    | none => false))

/-- PANEL_POWER OP 2 (R413). -/
def execPanelPowerConfigure (p : Packet) (s : State) : Host.Outcome State Fault Refusal :=
  packet opPanelPower true p s fun s =>
    let c := panelCfg p
    checks [(isLink p.target && decide (p.length = 16) && decide (p.u8 16 = 2) && decide (p.fld 17 5 2 = 0) &&
        decide (p.fld 18 5 2 = 0) && decide (p.fld 19 5 1 = 0) && decide (p.fld 20 3 5 = 0) && decide (p.u8 21 = 0) &&
        decide (c.tVdd ≤ 2000) && decide (c.tBlon ≤ 2000) && decide (c.tBloff ≤ 2000) && decide (c.tOff ≤ 10000), .badParam),
        (!s.panelClash p.target c, .busy)]
      (.done ((s.updPanel p.target (fun d => { d with cfg := some c })).intend p.target false 0) .ok [])

/-- The panel's PWM counts toward its duty from now: the present duty of a linear ramp (R415). -/
def Panel.dutyAt (d : Panel) (now : Nat) : Nat :=
  if decide (d.rampMs = 0) || decide (d.rampStart + d.rampMs * 1000000 ≤ now) then d.duty
  else
    let t := now - d.rampStart
    let len := d.rampMs * 1000000
    if d.rampFrom ≤ d.duty then d.rampFrom + (d.duty - d.rampFrom) * t / len
    else d.rampFrom - (d.rampFrom - d.duty) * t / len

/-- The BLEN ball: low while its pipe is steeped, and while the device is not in Brew or has shed its load (R556, R559,
R573). -/
def State.blenOut (s : State) (h : Nat) : Bool :=
  (s.link h).panel.blen && s.awake && !(s.linkPipes h).any (fun q => (s.pipe q).steeped)

/-- The duty at the BL_PWM ball: low while BLEN is low, else at least BL_MIN (R415, R556). -/
def State.backlight (s : State) (h : Nat) : Nat :=
  let d := (s.link h).panel
  if s.blenOut h then max (d.dutyAt s.devTime) (match d.cfg with
    | some c => c.blMin
    | none => 0) else 0

/-- The last step: the reply and PANEL_POWER_DONE with the time the sequence took (R414, R417). -/
def State.panelDone (s : State) (h op : Nat) : State :=
  let d := (s.link h).panel
  let s := s.updPanel h (fun d => { d with seqOp := none, waiting := none })
  ((s.finishOpt d.waiting .ok []).raise 0 0x59 h (detail [(op, 32), ((s.devTime - d.start) / 1000, 32)])).settle h

/-- The supply may go on: T_OFF_MS has passed since it went off (R413, R414). -/
def State.panelRested (s : State) (h : Nat) : Bool :=
  let d := (s.link h).panel
  match d.offTime, d.cfg with
  | some t, some c => decide (t + c.tOff * 1000000 ≤ s.devTime)
  | _, _ => true

/-- Step 1 of OP 1: VDD on, reset held where RST_USED. -/
def Panel.stepOn (d : Panel) : Panel :=
  { d with vdd := true, inReset := (match d.cfg with
      | some c => c.rstUsed
      | none => false), step := 1 }

/-- PANEL_POWER OP 1 (R414). A sequence under way on the panel is answered ST_BUSY (log 33). -/
def execPanelPowerOn (p : Packet) (s : State) : Host.Outcome State Fault Refusal :=
  packet opPanelPower true p s fun s =>
    let h := p.target
    checks [(isLink h && decide (p.length = 4) && decide (p.u32 16 = 1), .badParam), ((s.link h).panel.seqOp.isNone, .busy)]
      (let go := s.panelRested h
       let s := (s.updPanel h (fun d => { d with
         on := true
         seqOp := some 1
         step := 0
         waiting := some { opcode := 0x5013, p := p }
         start := s.devTime })).intend h true 0
       .owe (if go then s.updPanel h Panel.stepOn else s))

/-- PANEL_POWER OP 0 (R414). -/
def execPanelPowerOff (p : Packet) (s : State) : Host.Outcome State Fault Refusal :=
  packet opPanelPower true p s fun s =>
    let h := p.target
    checks [(isLink h && decide (p.length = 4) && decide (p.u32 16 = 0), .badParam),
        (!(s.linkPipes h).any s.pipeMonitored, .busy), ((s.link h).panel.seqOp.isNone, .busy)]
      (.owe ((s.updPanel h (fun d => { d with
         on := false
         seqOp := some 0
         step := 1
         blen := false
         waiting := some { opcode := 0x5013, p := p }
         start := s.devTime })).intend h true 0))

/-- PANEL_SEQUENCE_STEP (R414): the time of the next step has come. Step 3 of OP 1 waits for a video frame. -/
def execPanelSequenceStep (unit : Nat) (s : State) : Host.Outcome State Fault Refusal :=
  onUnit s unit (
    let d := (s.link unit).panel
    match d.seqOp, d.step with
    | some 1, 0 => s.updPanel unit Panel.stepOn
    | some 1, 1 => s.updPanel unit (fun d => { d with inReset := false, step := 2 })
    | some 1, 2 =>
      if s.carries unit 0 || s.carries unit 1 then s.updPanel unit (fun d => { d with video := true, step := 3 }) else s
    | some 1, 3 =>
      (s.updPanel unit (fun d => { d with blen := true, rampFrom := 0, rampStart := s.devTime, step := 4 })).panelDone unit 1
    | some 0, 1 =>
      (s.updPanel unit (fun d => { d with
        video := false
        vdd := false
        inReset := false
        offTime := some s.devTime
        step := 2 })).panelDone unit 0
    | _, _ => s)

/-- BACKLIGHT_SET (R415). -/
def execBacklightSet (p : Packet) (s : State) : Host.Outcome State Fault Refusal :=
  packet opBacklightSet true p s fun s =>
    let f := p.u32 20
    checks [(isLink p.target && decide (p.length = 8) && decide (p.u16 18 ≤ 5000) &&
        (decide (f = 0) || (decide (100 ≤ f) && decide (f ≤ 50000))), .badParam)]
      (.done ((s.updPanel p.target (fun d => { d with
         rampFrom := d.dutyAt s.devTime
         rampStart := s.devTime
         rampMs := p.u16 18
         duty := p.u16 16
         freq := if f = 0 then d.freq else f })).intend p.target false 0) .ok [])

end Sys2Proof.Machine
end

