-- ==== Sys2Proof/Machine/Secure.lean ====
section
/-!
DEFINITION. Cupper and the secure world (18): the mailbox and the gateway, the secure services, the migration key, debug
unlocking and JTAG, tone voices, the secure watchdog and Cupper's restart.
-/

namespace Sys2Proof.Machine

open Sys2Proof

/-! ### Images in flash (R513 to R515) -/

/-- The flash slot from which a unit starts: the preferred one where its image verifies, then the other (R514, R515).
Slots are 0 for A and 1 for B. -/
def State.imageIn (s : State) (unit : Nat) : Option Nat :=
  let ok (i : Nat) : Bool :=
    let f := s.firmware.slots.get (2 * unit + i)
    f.good && decide (s.firmware.counter.get unit ≤ f.secVer)
  let pref := b2n (bitOf s.firmware.prefB unit)
  if ok pref then some pref else if ok (1 - pref) then some (1 - pref) else none

/-- A unit runs the image of a slot. -/
def State.runImage (s : State) (unit slot : Nat) : State :=
  s.setFirmware { s.firmware with
    running := s.firmware.running.set unit (s.firmware.slots.get (2 * unit + slot)).version }

/-- Cupper leaves its boot ROM with the image of a slot: its watchdog period (R513, R525), its holds, its services;
the neighbour-refresh generators are reseeded (R528). -/
def State.startCupper (s : State) (slot : Nat) : State :=
  let f := s.firmware.slots.get (2 + slot)
  let s := s.runImage 1 slot
  let s := (s.setMemc { s.memc with seeds := Config.seed s.freeCtr }).tickFree
  s.setSec { s.sec with
    available := true, unavail := 0, holds := true, halted := false, wdogKick := s.devTime,
    wdogMs := if f.wdogMs = 0 then 50 else f.wdogMs }

/-! ### Mailbox and gateway (R501 to R505) -/

/-- MAILBOX_FULL_SET: 64 bytes and FULL; a write to a full slot is discarded and counted. -/
def execMailboxFullSet (toCupper : Bool) (slot : Nat) (data : List Byte) (s : State) :
    Host.Outcome State Fault Refusal :=
  let x := s.sec
  if 16 ≤ slot then .next s
  else if toCupper then
    if !x.available then .next s
    else if (x.toCupper.get slot).full then .next (s.setSec { x with discarded := x.discarded + 1 })
    else .next ((s.setSec { x with
      toCupper := x.toCupper.upd slot (fun m => { m with full := true, data := data.take 64 }) }).edge (47 + slot))
  else if (x.toBarista.get slot).full then .next (s.setSec { x with discarded := x.discarded + 1 })
  else .next ((s.setSec { x with
    toBarista := x.toBarista.upd slot (fun m => { m with full := true, data := data.take 64 }) }).edge 63)

/-- What the entry table says of an entry (R502). -/
def entryMarked (e : Nat) : Bool := bitOf (Config.entryTable e) 0
def entryOrigin (e : Nat) : Nat := bitsOf (Config.entryTable e) 1 2
def entryArgs (e : Nat) : Nat := min 60 (bitsOf (Config.entryTable e) 7 8)

/-- The sender of the packet behind a call is within ORIGIN: 0 any, 1 the manager, 2 a SAFETY instance or the manager. -/
def State.originOk (s : State) (e inst : Nat) : Bool :=
  match entryOrigin e with
  | 0 => true
  | 1 => decide (inst = 0)
  | 2 => decide (inst = 0) || s.isSafety inst
  | _ => false

/-- The bytes of the refusal that Cupper writes; the spec does not lay them out, so they are free (log 55). -/
def refusalBytes (ctr : Nat) : List Byte := (List.range 64).map (Config.refusalByte ctr)

/-- Cupper refuses a call (R503): nothing acted on, a refusal in the slot toward the cores, a NOTE record, the packet
denied. -/
def State.refuseCall (s : State) (slot inst : Nat) (cause : Option Owed) : State :=
  let x := s.sec
  let s := s.setSec { x with
    refusals := x.refusals + 1
    toBarista := x.toBarista.upd slot (fun m => { m with full := true, data := refusalBytes s.freeCtr }) }
  ((s.tickFree.edge 63).raiseErr 0xB002 0 hCupper inst 0 0).finishOpt cause .denied []

/-- GATEWAY_CALL (R502, R503): entry and core are stored with the slot and FULL is set in one step. While secure services
are unavailable the call is answered without reaching the mailbox (R528); on a full slot it is discarded and counted. -/
def execGatewayCall (core slot entry inst : Nat) (data : List Byte) (cause : Option Packet) (opcode : Nat) (s : State) :
    Host.Outcome State Fault Refusal :=
  let x := s.sec
  let o : Option Owed := cause.map (fun p => { opcode := opcode, p := p })
  if 16 ≤ slot ∨ 64 ≤ entry then .next s
  else if !x.available then .next (s.finishOpt o .secureUnavailable [])
  else if (x.toCupper.get slot).full || (x.toCupper.get slot).owed then
    .next (s.setSec { x with discarded := x.discarded + 1 })
  else if !entryMarked entry || !s.originOk entry inst || decide (entryArgs entry < data.length) then
    .next ((s.edge (47 + slot)).refuseCall slot inst o)
  else
    let m : Mbox := { full := true, data := data, entry := entry, core := core, owed := true, cause := o }
    .next ((s.setSec { x with toCupper := x.toCupper.set slot m }).edge (47 + slot))

/-- GATEWAY_RETURN (R504): FULL on the slot of the same index toward the cores; the call is no longer owed. The packet
behind the call is answered by its own row (log 56). -/
def execGatewayReturn (slot : Nat) (data : List Byte) (s : State) : Host.Outcome State Fault Refusal :=
  let x := s.sec
  if !x.available || !(x.toCupper.get slot).owed || (x.toBarista.get slot).full then .next s
  else
    .next ((s.setSec { x with
      toCupper := x.toCupper.upd slot (fun m => { m with owed := false, cause := none })
      toBarista := x.toBarista.upd slot (fun m => { m with full := true, data := data.take 64 }) }).edge 63)

/-- GATEWAY_TIMEOUT (R505): 5 ms have passed; the packet is answered and the slot stays owed. -/
def execGatewayTimeout (slot : Nat) (s : State) : Host.Outcome State Fault Refusal :=
  let m := s.sec.toCupper.get slot
  if m.owed then
    .next ((s.setSec { s.sec with toCupper := s.sec.toCupper.set slot { m with cause := none } }).finishOpt m.cause .timeout [])
  else .next s

/-! ### Secure services (R506 to R511) -/

def opSecService : Op := { code := 0xB001, mark := .a }

/-- A SEC_SERVICE packet: TARGET, SERVICE and reserved bits, the length, the fields' own checks (step 10); then
availability (R507), from which STATUS is exempt. -/
def secService (service : Nat) (len : Packet → Nat) (own : Bool) (p : Packet) (s : State) (ok : Bool)
    (units : Bool) (k : State → Ans) : Host.Outcome State Fault Refusal :=
  packet opSecService own p s fun s =>
    checks [(decide (p.target = hCupper) && decide (p.length = len p) && decide (p.u32 16 = service) && ok, .badParam),
        (units, .noUnit), (decide (service = 1) || s.sec.available, .secureUnavailable)] (k s)

/-- STATUS (R506): answered by the firmware itself while services are unavailable. -/
def execStatus (p : Packet) (s : State) : Host.Outcome State Fault Refusal :=
  secService 0x01 (fun _ => 4) true p s true true fun s =>
    let x := s.sec
    .done s .ok [w32 (pack [(b2n x.available, 1), (b2n s.armed, 1), (0, 2), (x.debug, 4), (x.unavail, 8), (x.wdogMs, 16)]),
      w32 x.causes, w32 x.holdRefusals, 0]

/-- Free bytes from the DRBG (R499, log 38). -/
def State.drbg (s : State) (n : Nat) : List Byte := (List.range n).map (Config.random s.freeCtr)

/-- RANDOM. -/
def execRandom (p : Packet) (s : State) : Host.Outcome State Fault Refusal :=
  let n := p.fld 20 0 9
  secService 0x02 (fun _ => 8) true p s (decide (1 ≤ n) && decide (n ≤ 256) && decide (p.fld 20 9 23 = 0)) true fun s =>
    .done s.tickFree .ok (padWords (s.drbg n))

/-- Exactly `n` bytes. -/
def fixBytes (n : Nat) (bs : List Byte) : List Byte := (List.range n).map (fun i => bs.getD i 0)

/-- Bytes 16 to 87 of the attestation RESULT (R511). -/
def State.attested (s : State) (nonce : List Byte) : List Byte :=
  leBytes 4 s.fwCupper ++ leBytes 4 (s.firmware.running.get 2) ++
    leBytes 4 (if s.board.member.sense then s.firmware.running.get 4 else 0) ++
    leBytes 4 (Config.memberCode s.board.member % 65536) ++ leBytes 8 Config.deviceId ++ fixBytes 48 nonce

/-- ATTEST (R511): the versions, DEVICE_ID and the nonce, signed with the attestation key (key 0 of the free signature
function, log 39). -/
def execAttest (p : Packet) (s : State) : Host.Outcome State Fault Refusal :=
  secService 0x03 (fun _ => 52) true p s true true fun s =>
    let body := s.attested (p.bytesFrom 20)
    .done s .ok (bytesWords (body ++ fixBytes 96 (Config.signature 0 body)))

/-- FALLBACK_SET (R508): the image stands from the pipe's next latch line; CLEAR restores the hatch. -/
def execFallbackSet (p : Packet) (s : State) : Host.Outcome State Fault Refusal :=
  let i := p.fld 20 0 6
  let clear := p.flag 20 6
  let a := p.u64 24
  secService 0x10 (fun _ => 16) (s.isSafety p.inst && decide ((s.slot i).holder = some p.inst)) p s
    (decide (p.fld 20 7 25 = 0) && (clear || (decide (a % 64 = 0) && mappedRange (s.inst p.inst).pages a 16384))) true
    fun s =>
      let x := s.sec
      if clear then .done (s.setSec { x with fallback := x.fallback.set i none, fallbackNext := x.fallbackNext.set i none }) .ok []
      else .done (s.setSec { x with fallbackNext := x.fallbackNext.set i (some (s.readInst p.inst a 16384)) }) .ok []

/-- The latch line of a slot's pipe takes its new fallback image (R508). -/
def State.latchFallback (s : State) (i : Nat) : State :=
  match s.sec.fallbackNext.get i with
  | some b => s.setSec { s.sec with fallback := s.sec.fallback.set i (some b), fallbackNext := s.sec.fallbackNext.set i none }
  | none => s

/-- A slot's fallback image is discarded (R508). -/
def State.dropFallback (s : State) (i : Nat) : State :=
  s.setSec { s.sec with fallback := s.sec.fallback.set i none, fallbackNext := s.sec.fallbackNext.set i none }

/-- LAYER_ESCALATE (R509): in force at the next frame. -/
def execLayerEscalate (p : Packet) (s : State) : Host.Outcome State Fault Refusal :=
  let i := p.fld 20 0 6
  secService 0x11 (fun _ => 8) (decide (p.inst = 0) || (s.isSafety p.inst && decide ((s.slot i).holder = some p.inst))) p s
    (decide (p.fld 20 6 2 = 0) && decide (p.u16 22 = 0)) (s.unitOk (hSlot i)) fun s =>
      .done (s.setSec { s.sec with escLayer := s.sec.escLayer.set i (some (p.u8 21)) }) .ok []

/-- PIPE_ESCALATE (R509). -/
def execPipeEscalate (p : Packet) (s : State) : Host.Outcome State Fault Refusal :=
  let i := p.fld 20 0 3
  secService 0x12 (fun _ => 8) (decide (p.inst = 0) || (s.isSafety p.inst && s.hasRegion p.inst i)) p s
    (decide (p.fld 20 3 5 = 0) && decide (p.u16 22 = 0)) (s.unitOk (hPipe i)) fun s =>
      .done (s.setSec { s.sec with escPipe := s.sec.escPipe.set i (some (p.u8 21)) }) .ok []

/-- Values set for the next frame of a pipe come into force (R509). -/
def State.takeEscalate (s : State) (pipe : Nat) : State :=
  let s := match s.sec.escPipe.get pipe with
    | some v => (s.updPipe pipe (fun q => { q with escalate := v })).setSec { s.sec with escPipe := s.sec.escPipe.set pipe none }
    | none => s
  (List.range s.board.member.slots).foldl (fun s i =>
    match s.sec.escLayer.get i with
    | some v =>
      if (s.slot i).current.pipe = pipe then
        (s.updSlot i (fun t => { t with escalate := v })).setSec { s.sec with escLayer := s.sec.escLayer.set i none }
      else s
    | none => s) s

/-- A segment of a tone pattern: silence or 100 to 8,000 Hz, for 10 to 5,000 ms. -/
def segmentOk (w : Nat) : Bool :=
  let f := w % 65536
  let d := w / 65536
  (decide (f = 0) || (decide (100 ≤ f) && decide (f ≤ 8000))) && decide (10 ≤ d) && decide (d ≤ 5000)

/-- TONE_PATTERN (R510). -/
def execTonePattern (p : Packet) (s : State) : Host.Outcome State Fault Refusal :=
  let i := p.fld 20 0 4
  let n := p.fld 21 0 5
  let segs := p.wordsFrom 24
  secService 0x13 (fun _ => 8 + 4 * n) (decide (p.inst = 0) || s.isSafety p.inst) p s
    (decide (5 ≤ i) && decide (p.fld 20 4 4 = 0) && decide (1 ≤ n) && decide (n ≤ 16) && decide (p.fld 21 5 3 = 0) &&
      decide (p.u16 22 = 0) && segs.all segmentOk) true fun s =>
      .done (s.setSec { s.sec with patterns := s.sec.patterns.set i (some (segs.map (fun w => (w % 65536, w / 65536)))) }) .ok []

/-- ALARM_TEST (R511): ALARM_N for MS milliseconds. -/
def execAlarmTest (p : Packet) (s : State) : Host.Outcome State Fault Refusal :=
  let ms := p.u16 20
  secService 0x20 (fun _ => 8) (decide (p.inst = 0)) p s
    (decide (1 ≤ ms) && decide (ms ≤ 10000) && decide (p.u16 22 = 0)) true fun s => .done (s.assertCause 5 0xFFFF) .ok []

/-- ALARM_TEST_END (R524): MS milliseconds have passed. -/
def execAlarmTestEnd (s : State) : Host.Outcome State Fault Refusal := .next (s.releaseCause 5 0xFFFF)

/-! ### The migration key (R512) -/

def opMigrationKey : Op := { code := 0xB002, mark := .m }

/-- What both forms check. -/
def migrationKey (op : Nat) (p : Packet) (s : State) (k : State → Ans) : Host.Outcome State Fault Refusal :=
  packet opMigrationKey true p s fun s =>
    checks [(decide (p.target = hCupper) && decide (p.length = 44) && decide (p.u32 16 = op), .badParam),
        (s.sec.available, .secureUnavailable), (s.sec.keyFused, .denied)] (k s)

/-- MIGRATION_KEY OP 0: unwrapped under the fleet key; the unwrap is the crypto engine's (log 39). -/
def execMigrationKeyInstall (p : Packet) (s : State) : Host.Outcome State Fault Refusal :=
  migrationKey 0 p s fun s =>
    match Config.unwrap (p.bytesFrom 20) with
    | none => .fail .denied []
    | some key => .done (s.setSec { s.sec with key := some key }) .ok []

/-- MIGRATION_KEY OP 1. -/
def execMigrationKeyErase (p : Packet) (s : State) : Host.Outcome State Fault Refusal :=
  migrationKey 1 p s fun s => .done (s.setSec { s.sec with key := none }) .ok []

/-! ### Debug (R517 to R519) -/

/-- Enables with those they imply (R517): bit 1 implies 0, 3 implies 2, 2 implies 0, 3 implies 1. -/
def impliedEnables (r : Nat) : Nat :=
  let b3 := bitOf r 3
  let b2 := bitOf r 2 || b3
  let b1 := bitOf r 1 || b3
  let b0 := bitOf r 0 || b1 || b2
  pack [(b2n b0, 1), (b2n b1, 1), (b2n b2, 1), (b2n b3, 1)]

def opDebugChallenge : Op := { code := 0xB003, mark := .m }

/-- DEBUG_CHALLENGE (R518): a nonce of the DRBG; none after eight failed responses. -/
def execDebugChallenge (p : Packet) (s : State) : Host.Outcome State Fault Refusal :=
  packet opDebugChallenge true p s fun s =>
    let req := impliedEnables (p.fld 16 0 4)
    let nonce := s.drbg 48
    checks [(decide (p.target = hCupper) && decide (p.length = 4) && decide (p.fld 16 4 28 = 0), .badParam),
        (s.sec.available, .secureUnavailable), (decide (s.sec.debugFails < 8), .denied)]
      (.done (s.tickFree.setSec { s.sec with challenge := some { nonce := nonce, request := req, time := s.devTime } }) .ok
        (bytesWords (leBytes 8 Config.deviceId ++ nonce ++ leBytes 4 req)))

def opDebugResponse : Op := { code := 0xB004, mark := .m }

/-- DEBUG_UNLOCK (R531) to the manager. -/
def State.debugUnlock (s : State) (granted : Nat) : State :=
  s.raise 0 0xB2 hCupper (detail [(granted, 4), (s.sec.debug, 4), (s.sec.debugFails, 8)])

/-- DEBUG_RESPONSE (R518): the challenge serves one response, whatever its outcome (log 57). -/
def execDebugResponse (p : Packet) (s : State) : Host.Outcome State Fault Refusal :=
  packet opDebugResponse true p s fun s =>
    let x := s.sec
    let sig := (p.bytesFrom 16).take 96
    let pub := (p.bytesFrom 16).drop 96
    checks [(decide (p.target = hCupper) && decide (p.length = 192), .badParam), (decide (x.debugFails < 8), .denied)]
      (match x.challenge with
       | none => .fail .badParam []
       | some c =>
         checks [(decide (s.devTime ≤ c.time + 60000000000), .badParam), (x.available, .secureUnavailable)]
           (let spent := s.setSec { x with challenge := none }
            if bitOf c.request 3 && s.armed then .done spent .busy []
            else if Config.verifies pub sig (leBytes 8 Config.deviceId ++ c.nonce ++ leBytes 4 c.request) &&
                decide (Config.sha384 pub = Config.debugKeyHash) then
              .done ((spent.setSec { spent.sec with addedDebug := spent.sec.addedDebug ||| c.request }).debugUnlock c.request) .ok []
            else .done (spent.setSec { spent.sec with debugFails := spent.sec.debugFails + 1 }) .denied []))

/-- JTAG_ACCESS (R517, R519): served under the enables in force, else refused without effect. `bus` shows what the
debugger reads: the IDCODE and secure memory are free (log 54), memory of the normal world is DRAM as the model holds
it. What a debugger's write to Cupper's memory does to Cupper is not modelled (log 54). -/
def execJtagAccess (op : JtagOp) (s : State) : Host.Outcome State Fault Refusal :=
  let en := s.sec.debug
  match op with
  | .idcode => .next (s.setBus (leBytes 4 Config.idcode))
  | .bypass => .next s
  | .other => .next s
  | .trace _ => .next s
  | .haltCore c on =>
    if bitOf en 1 && decide (c < 4) then
      .next (s.setSec { s.sec with coresHalted :=
        s.sec.coresHalted - (if bitOf s.sec.coresHalted c then 2 ^ c else 0) + (if on then 2 ^ c else 0) })
    else .next s
  | .haltCupper on => if bitOf en 3 && s.sec.available then .next (s.setSec { s.sec with halted := on }) else .next s
  | .readMem a n => if bitOf en 1 then .next (s.setBus (Mem.read s.dram a n)) else .next s
  | .writeMem a bs => if bitOf en 1 then .next (s.setDram (Mem.write s.dram a bs)) else .next s
  | .readSecure n =>
    if bitOf en 3 then .next (s.setBus ((List.range n).map (Config.secureByte s.freeCtr))).tickFree else .next s
  | .writeSecure _ => .next s

/-- SEC_VIOLATION (R498): a read returns zeros, a write is discarded; counted, with a NOTE record that names initiator
and instance. -/
def execSecViolation (initiator inst : Nat) (write : Bool) (len : Nat) (s : State) : Host.Outcome State Fault Refusal :=
  let s := if write then s else s.setBus (List.replicate len 0)
  .next ((s.setSec { s.sec with violations := s.sec.violations + 1 }).raiseErr 0xB001 0 hCupper inst 0 initiator)

/-! ### Tone voices (17 R492) -/

def opTonePlay : Op := { code := 0x8014, mark := .sfty }

/-- A voice by number, 0 or 1. -/
def State.voice (s : State) (v : Nat) : Option Voice := s.audio.voices.get v

/-- Pattern `i` can be played: 0 to 4 always, 5 to 15 once loaded. -/
def State.patternLoaded (s : State) (i : Nat) : Bool := decide (i < 5) || (s.sec.patterns.get i).isSome

/-- TONE_PLAY without STOP. While secure services are unavailable the refusal itself counts as arming where the voice has
a mask with an output that feeds an enabled TDM port (R530). -/
def execTonePlay (p : Packet) (s : State) : Host.Outcome State Fault Refusal :=
  packet opTonePlay true p s fun s =>
    let v := p.fld 16 0 1
    let pat := p.fld 17 0 4
    let lvl := p.i16 18
    checks [(decide (p.target = hTone) && decide (p.length = 8) && decide (p.fld 16 1 7 = 0) && decide (p.fld 17 4 4 = 0) &&
        decide (-6000 ≤ lvl) && decide (lvl ≤ 0) && decide (p.u16 22 = 0) && s.patternLoaded pat, .badParam)]
      (if s.sec.available then
        let x : Voice := { inst := p.inst, pattern := pat, level := lvl, repeat_ := p.u16 20 }
        .done ((s.setAudio { s.audio with voices := s.audio.voices.set v (some x) }).intend hTone false p.inst).armEdge .ok []
      else if !s.sec.wdogFatal && (s.audio.voiceMasks v).any (fun m => (maskBits 24 m).any s.audio.feedsTdm) then
        .done (s.wdogSteps s.sec.unavail) .secureUnavailable []
      else .fail .secureUnavailable [])

/-- TONE_PLAY with STOP. -/
def execToneStop (p : Packet) (s : State) : Host.Outcome State Fault Refusal :=
  packet opTonePlay true p s fun s =>
    checks [(decide (p.target = hTone) && decide (p.length = 8) && p.flag 16 1 && decide (p.fld 16 2 6 = 0) &&
        decide (p.fld 17 4 4 = 0) && decide (p.u16 22 = 0), .badParam), (s.sec.available, .secureUnavailable)]
      (.done ((s.setAudio { s.audio with voices := s.audio.voices.set (p.fld 16 0 1) none }).intend hTone false p.inst).armEdge .ok [])

/-- TONE_END: a voice has played REPEAT cycles. -/
def execToneEnd (voice : Nat) (s : State) : Host.Outcome State Fault Refusal :=
  match s.voice voice with
  | some x => if x.repeat_ = 0 then .next s else .next (s.setAudio { s.audio with voices := s.audio.voices.set voice none }).armEdge
  | none => .next s

/-! ### The secure watchdog (R525 to R529) -/

/-- SECURE_WDOG_KICK: the count restarts. -/
def execSecureWdogKick (s : State) : Host.Outcome State Fault Refusal :=
  if s.sec.available then .next (s.setSec { s.sec with wdogKick := s.devTime }) else .next s

/-- The watchdog counts: Cupper has left its boot ROM, and no debugger with S_INVASIVE has halted it (R519, R525). -/
def State.wdogCounts (s : State) : Bool := s.sec.available && !(s.sec.halted && bitOf s.sec.debug 3)

/-- SECURE_WDOG: the period has elapsed. -/
def execSecureWdog (s : State) : Host.Outcome State Fault Refusal :=
  if s.wdogCounts then .next (s.secureLost 1) else .next s

/-- CUPPER_SRAM_UNCORR (R500): handled as an expiry, with UNAVAIL 3. -/
def execCupperSramUncorr (s : State) : Host.Outcome State Fault Refusal :=
  if s.sec.available then .next (s.secureLost 3) else .next s

/-- Cupper starts again after a loss (R529): holds, services, the fact clears, SECURE_STATE (cause 2). -/
def State.restartCupper (s : State) (slot : Nat) : State :=
  let s := s.startCupper slot
  let s := s.setSec { s.sec with lastRestart := some s.devTime }
  ((s.clearFact hCupper).settle hCupper).secureState 2

/-- CUPPER_RESTART: 100 ms after a loss; a failed restart leaves Cupper down with UNAVAIL 4. The restart never runs
where the full reset of R526 waits. -/
def execCupperRestart (s : State) : Host.Outcome State Fault Refusal :=
  if s.sec.available || s.sec.wdogFatal || !(decide (s.sec.unavail = 1) || decide (s.sec.unavail = 3)) then .next s
  else match s.imageIn 1 with
    | some slot => .next (s.restartCupper slot)
    | none => .next (s.setSec { s.sec with unavail := 4 })

end Sys2Proof.Machine
end

