-- ==== Sys2Proof/Machine/Pipes.lean ====
section
/-!
DEFINITION. Display pipes (13): timing, states, latch line and frame start, events and subscriptions, quiet windows, loss of
the pixel clock.
-/

namespace Sys2Proof.Machine

open Sys2Proof

def opPipeTiming : Op := { code := 0x5001, mark := .m }
def opPipeEnable : Op := { code := 0x5002, mark := .m }
def opLineMatchSet : Op := { code := 0x5003, mark := .g }

/-- TARGET is a pipe. -/
def isPipe (p : Packet) : Bool := decide (p.target / 256 = 0x0F)

/-- The pipes of the member. -/
def State.pipeList (s : State) : List Nat := List.range s.board.member.pipes

/-- What the pipe is to do now: its intention, with RUN held at BLANK while it is steeped
(R556, R377). -/
def Pipe.effective (q : Pipe) : Nat := if decide (q.intent = 2) && q.steeped then 1 else q.intent

/-! ### Band SRAM (R336) -/

/-- Bytes of two band slots of a width. -/
def bandBytes (w : Nat) : Nat := 2 * 64 * w * 4

/-- Enabled for the pool: the pipe holds band slots or is to. -/
def Pipe.enabled (q : Pipe) : Bool := q.bandSlots || decide (q.intent ≠ 0)

/-- The band slots of every enabled pipe fit the pool. -/
def State.bandPoolOk (s : State) : Bool :=
  decide ((s.pipeList.map (fun p => if (s.pipe p).enabled then bandBytes (s.pipe p).want.hact else 0)).sum ≤
    s.board.member.bandMiB * 1048576)

/-! ### Timing (R373 to R376, R379, R380) -/

/-- The timing of the payload. -/
def timingOf (p : Packet) : Timing :=
  { pclk := p.u32 16, hact := p.u16 20, hfp := p.u16 22, hsync := p.u16 24, hbp := p.u16 26, vact := p.u16 28,
    vfp := p.u16 30, vsync := p.u16 32, vbp := p.u16 34, hpos := p.flag 36 0, vpos := p.flag 36 1,
    lead := if p.fld 36 2 3 = 0 then 2 else p.fld 36 2 3, qwMode := p.fld 36 5 2, qwGuard := p.fld 36 8 8 }

/-- The fields that both forms check. -/
def leadFieldsOk (p : Packet) : Bool :=
  isPipe p && decide (p.length = 24) && decide (p.u16 38 = 0) && decide (p.fld 36 2 3 ≤ 4) && decide (p.fld 36 5 2 ≤ 2)

/-- LATCH is at least 64 (R375). -/
def Timing.latchOk (t : Timing) : Bool := decide (64 * t.lead + 64 ≤ t.vtotal)

/-- The ranges of R374 and the checks of R375 on the timing itself. -/
def Timing.ok (t : Timing) : Bool :=
  decide (25000 ≤ t.pclk) && decide (t.pclk ≤ 600000) && decide (320 ≤ t.hact) && decide (t.hact ≤ 4096) &&
    decide (t.hact % 2 = 0) && decide (240 ≤ t.vact) && decide (t.vact ≤ 4096) &&
    [t.hfp, t.hsync, t.hbp, t.vfp, t.vsync, t.vbp].all (fun x => decide (1 ≤ x)) &&
    decide (32 ≤ t.hfp + t.hsync + t.hbp) && decide (t.htotal ≤ 8192) && decide (t.vtotal ≤ 8192) &&
    decide (64 * ((t.vact + 63) / 64) ≤ t.vtotal) && t.latchOk

/-- A region clipped to the active area; one with nothing left is removed (R76). -/
def clipRegion (t : Timing) (r : Region) : Option Region :=
  let w := min (r.left + r.width) t.hact - r.left
  let h := min (r.top + r.height) t.vact - r.top
  if w = 0 ∨ h = 0 then none else some { r with width := w, height := h }

/-- Subscriptions of instances without a region on the pipe end (R388). -/
def State.dropSubs (s : State) (pipe : Nat) : State :=
  s.guests.foldl (fun s n =>
    if s.hasRegion n pipe then s else s.setPipes { s.pipes with subs := s.pipes.subs.set (n * 8 + pipe) none }) s

/-- A timing comes into force: regions and monitors are looked at again, and the links' rates (R76, R396, R407). -/
def State.timingForce (s : State) (pipe : Nat) (t : Timing) : State :=
  let s := s.updPipe pipe (fun q => { q with timing := t, timingNext := none, leadOnly := false })
  let s := s.guests.foldl (fun s n => s.updInst n (fun i =>
    { i with regions := i.regions.filterMap (fun r => if r.unit = pipe then clipRegion t r else some r) })) s
  let s := s.dropSubs pipe
  let s := (List.range 16).foldl (fun s k => s.monTiming (16 * pipe + k)) s
  ((s.linksOf pipe).foldl (fun s h => s.recheckLink h) s).retimeDeadlines pipe

/-- The PIPE_TIMING packets that wait are answered (R379, R380). -/
def State.answerTiming (s : State) (pipe : Nat) : State :=
  let os := (s.pipe pipe).timingWaiting
  os.foldl (fun s o => s.finish o .ok []) (s.updPipe pipe (fun q => { q with timingWaiting := [] }))

/-- PIPE_TIMING (R374, R375, R379). -/
def execPipeTiming (p : Packet) (s : State) : Host.Outcome State Fault Refusal :=
  packet opPipeTiming true p s fun s =>
    let k := p.target % 256
    let t := timingOf p
    let q := s.pipe k
    let s' := s.updPipe k (fun q => { q with timingNext := some t, leadOnly := false })
    checks [(leadFieldsOk p && !p.flag 36 7 && t.ok, .badParam), (!q.enabled || s'.bandPoolOk, .quota),
      (!q.enabled || s'.budgetOk, .quota)]
      (let o : Owed := { opcode := opPipeTiming.code, p := p }
       match q.state with
       | .run | .blank => .owe ((s'.updPipe k (fun q => { q with timingWaiting := q.timingWaiting ++ [o] })).intend p.target true p.inst)
       | .starting =>
         .owe (((s.timingForce k t).updPipe k (fun q => { q with
           timingWaiting := q.timingWaiting ++ [o], leadIn := false, latched := false, bands := [], nextBand := 0,
           openNext := false })).intend p.target true p.inst)
       | _ => .done ((s.timingForce k t).intend p.target false p.inst) .ok [])

/-- PIPE_TIMING with LEAD_ONLY (R380). -/
def execPipeTimingLeadOnly (p : Packet) (s : State) : Host.Outcome State Fault Refusal :=
  packet opPipeTiming true p s fun s =>
    let k := p.target % 256
    let q := s.pipe k
    let n := timingOf p
    let t : Timing := { q.want with lead := n.lead, qwMode := n.qwMode, qwGuard := n.qwGuard }
    checks [(leadFieldsOk p && p.flag 36 7 && q.timed && t.latchOk, .badParam)]
      (let o : Owed := { opcode := opPipeTiming.code, p := p }
       match q.state with
       | .run | .blank | .starting =>
         .owe ((s.updPipe k (fun q => { q with
           timingNext := some t, leadOnly := q.leadOnly || q.timingNext.isNone, timingWaiting := q.timingWaiting ++ [o] })).intend
             p.target true p.inst)
       | _ => .done ((s.timingForce k t).intend p.target false p.inst) .ok [])

/-! ### States (R377, R378) -/

/-- PIPE_CLOCK to the manager and the instances with regions on the pipe (R390). -/
def State.pipeClock (s : State) (pipe cause : Nat) : State :=
  s.raiseAll (0 :: s.regionHolders pipe) 0x54 (hPipe pipe)
    (detail [(pipe, 8), (cause, 8), ((s.pipe pipe).attempts, 8), (0, 8), ((s.pipe pipe).frame, 32)])

/-- Bookkeeping of an underrun frame, cleared. -/
def Pipe.freshFrame (q : Pipe) : Pipe :=
  { q with ulines := 0, ufirstLine := 0, ufirstCol := 0, abandoned := 0, bandLate := 0, frameDone := false }

/-- Time spent in HELD and OFFLINE is counted as the pipe leaves the state (R400). -/
def State.countHeld (s : State) (pipe : Nat) : State :=
  let q := s.pipe pipe
  let us := (s.devTime - q.heldSince) / 1000
  match q.state with
  | .held => s.countBy 2 pipe 7 us
  | .offline => s.countBy 2 pipe 8 us
  | _ => s

/-- The fact of a lost pixel clock clears (R397, R398). -/
def State.clearPixFact (s : State) (pipe : Nat) : State :=
  let e := s.entry (hPipe pipe)
  if e.agree = .contradicted then s.clearFact (hPipe pipe) else s

/-- The pipe stops: OFF, its band slots freed (R377, R398, R665). A timing that waited is taken. -/
def State.stopPipe (s : State) (pipe : Nat) : State :=
  let q := s.pipe pipe
  let s := (s.countHeld pipe).clearPixFact pipe
  let s := s.updPipe pipe (fun q => { q.freshFrame with
    state := .off, leadIn := false, latched := false, composeNext := false, bandSlots := false, bands := [], nextBand := 0,
    openNext := false, restartZero := true, lastPixel := 0 })
  let s := match q.timingNext with
    | some t => s.timingForce pipe t
    | none => s
  let s := ((s.linksFrameDone pipe).retimeDeadlines pipe).answerTiming pipe
  let s := s.setTouch { s.touch with window := s.touch.window.set pipe false }
  let s := s.finishOpt (s.pipe pipe).enableWaiting .ok []
  let s := s.finishOpt (s.pipe pipe).steepWaiting .ok []
  ((s.updPipe pipe (fun q => { q with enableWaiting := none, steepWaiting := none })).settle (hPipe pipe)).flushFences

/-- PIPE_ENABLE (R377, R336, R396). -/
def execPipeEnable (p : Packet) (s : State) : Host.Outcome State Fault Refusal :=
  packet opPipeEnable true p s fun s =>
    let k := p.target % 256
    let st := p.fld 16 0 2
    let q := s.pipe k
    let s' := s.updPipe k (fun q => { q with intent := st })
    let fromOff := decide (q.state = .off) && decide (st ≠ 0)
    checks [(isPipe p && decide (p.length = 4) && decide (p.fld 16 2 30 = 0) && decide (st ≠ 3) && (decide (st = 0) || q.timed), .badParam)]
      (if st = q.intent then .done s .ok []
       else checks [(!fromOff || s'.bandPoolOk, .quota), (!fromOff || s'.budgetOk, .quota),
          (decide (st = 2) || !s.pipeMonitored k, .busy)]
          (let o : Owed := { opcode := opPipeEnable.code, p := p }
           let s1 := (s'.finishOpt q.enableWaiting .cancelled []).updPipe k (fun q => { q with enableWaiting := none })
           let wait (s : State) : State := s.updPipe k (fun q => { q with enableWaiting := some o })
           match q.state with
           | .off =>
             .owe ((wait (s1.updPipe k (fun q => { q with
               state := .starting, leadIn := false, bandSlots := true, restartZero := true, attempts := 0 }))).intend p.target true p.inst)
           | .run | .blank => .owe ((wait s1).intend p.target true p.inst)
           | .starting =>
             if st = 0 then .done ((s1.intend p.target false p.inst).stopPipe k) .ok []
             else .owe ((wait s1).intend p.target true p.inst)
           | .held | .offline =>
             if st = 0 then .done (((s1.intend p.target false p.inst).noteGen p).stopPipe k) .ok []
             else .done (s1.intend p.target false p.inst) .ok []))

/-- PIXEL_PLL_LOCKED (R378): the timing generator runs a lead-in frame. -/
def execPixelPllLocked (pipe : Nat) (s : State) : Host.Outcome State Fault Refusal :=
  onUnit s (hPipe pipe)
    (let q := s.pipe pipe
     if decide (q.state = .starting) && !q.leadIn && q.timing.pclk != 0 then
       ((s.updPipe pipe (fun q => { q.freshFrame with
         leadIn := true, latched := false, composeNext := false, lastFrameStart := s.devTime, lastPixel := 0, bands := [],
         nextBand := 0, openNext := false })).count 2 pipe 1).retimeDeadlines pipe
     else s)

/-! ### The latch line (R382) -/

/-- LATCH_LINE: everything that waits for the latch line of the pipe is taken together (R382). -/
def execLatchLine (pipe : Nat) (s : State) : Host.Outcome State Fault Refusal :=
  onUnit s (hPipe pipe)
    (let q := s.pipe pipe
     if !q.generating || q.latched then s
     else
       let s := if q.leadIn then s else s.edge (200 + 8 * pipe + 4)
       let s := s.updPipe pipe (fun q => { q with zfloor := q.floor, zfloorNext := none })
       let s := s.latchLayers pipe
       let s := if (s.pipe pipe).commitsTaken = 0 then s else s.edge (200 + 8 * pipe + 5)
       let s := s.slotList.foldl (fun s i => if (s.slot i).current.pipe = pipe then s.latchFallback i else s) s
       let s := (s.latchColour pipe).linksLatch pipe
       let c := s.stage pipe
       let set : FrameSet :=
         { layers := s.frameLayers pipe, tone := some c.tone, lut := c.lut, sun := c.sInForce, guard := c.gInForce }
       let compose := decide ((s.pipe pipe).effective = 2) && ((s.pipe pipe).timingNext.isNone || (s.pipe pipe).leadOnly)
       let s := s.updPipe pipe (fun q => { q with latched := true, nextSet := set, composeNext := compose })
       let s := if q.zfloorNext.isSome ∧ q.timingNext.isNone = true ∧ q.enableWaiting.isNone = true then s.settle (hPipe pipe) else s
       ((s.missDeadlines pipe).armEdge).flushFences)

/-! ### Frame start (R378 to R380, R17, R349) -/

/-- The touch-ownership map of the frame (R348, R349): none on a member without a sense die (R9). -/
def State.buildTouchMap (s : State) (pipe : Nat) : State :=
  let map : List TouchLayer := (s.pipe pipe).frameSet.layers.reverse.map (fun l =>
    { slot := l.slot, owner := l.owner, safety := l.safety, touchOff := l.st.touchOff, x := l.st.dstX, y := l.st.dstY,
      w := l.st.dstW, h := l.st.dstH })
  if s.board.member.sense then s.updPipe pipe (fun q => { q with touchMap := map }) else s

/-- The reply that a POWER_STATE of this pipe waits for: after the first blank frame, or after the first composed one (R556). -/
def State.steepReply (s : State) (pipe : Nat) (old : PipeState) : State :=
  let q := s.pipe pipe
  let reached := if q.steeped then decide (old = .blank) else decide (old = if q.intent = 2 then .run else .blank)
  if reached then (s.finishOpt q.steepWaiting .ok []).updPipe pipe (fun q => { q with steepWaiting := none }) else s

/-- Line 0 of a frame that the pipe scans in a new state: FRAME, the states taken at the latch line, the map, monitors,
links and replies. -/
def State.beginFrame (s : State) (pipe : Nat) (st : PipeState) : State :=
  let q := s.pipe pipe
  let run := decide (st = .run)
  let frame := if !run then q.frame else if q.restartZero then 0 else (q.frame + 1) % 2 ^ 32
  let s := s.updPipe pipe (fun q => { q.freshFrame with
    state := st, leadIn := false, latched := false, composeNext := false, lastFrameStart := s.devTime, frame := frame,
    restartZero := q.restartZero && !run, frameSet := q.nextSet,
    bands := if run then (q.bands.filter (·.next)).map (fun b => { b with next := false }) else [],
    nextBand := if run && q.openNext then q.nextBand else 0, openNext := false,
    lastPixel := if run then q.lastPixel else 0 })
  let s := if run then s.count 2 pipe 0 else s
  let s := ((s.buildTouchMap pipe).takeEscalate pipe).monFrameStart pipe
  let s := if q.leadOnly then (match q.timingNext with
    | some t => s.timingForce pipe t
    | none => s) else s
  let s := (s.linksFrameStart pipe).answerTiming pipe
  let reached := decide (st = if (s.pipe pipe).effective = 2 then .run else .blank)
  if reached then
    ((s.finishOpt (s.pipe pipe).enableWaiting .ok []).updPipe pipe (fun q => { q with enableWaiting := none })).settle (hPipe pipe)
  else s

/-- FRAME_START: the end of one frame and line 0 of the next (R377 to R380). -/
def execFrameStart (pipe : Nat) (s : State) : Host.Outcome State Fault Refusal :=
  onUnit s (hPipe pipe)
    (let q := s.pipe pipe
     if !q.generating || !q.latched then s
     else
       let s := (s.linksFrameDone pipe).steepReply pipe q.state
       if q.intent = 0 then s.stopPipe pipe
       else match q.timingNext, q.leadOnly with
         | some t, false =>
           ((s.updPipe pipe (fun q => { q.freshFrame with
             state := .starting, leadIn := false, latched := false, composeNext := false, bands := [], nextBand := 0,
             openNext := false })).timingForce pipe t).flushFences
         | _, _ =>
           let st : PipeState :=
             if q.effective ≠ 2 then .blank
             else match q.state with
               | .blank => if q.composeNext then .run else .blank
               | _ => .run
           (s.beginFrame pipe st).flushFences)

/-! ### Events (R388 to R390, R386, R387) -/

/-- LINE_MATCH_SET (R388). -/
def execLineMatchSet (p : Packet) (s : State) : Host.Outcome State Fault Refusal :=
  packet opLineMatchSet (decide (p.inst = 0) || s.hasRegion p.inst (p.target % 256)) p s fun s =>
    let k := p.target % 256
    let sub : Subscription :=
      { line := p.u16 16, lineEn := p.flag 18 0, vblankEn := p.flag 18 1, doneEn := p.flag 18 2, underrunEn := p.flag 18 3 }
    checks [(isPipe p && decide (p.length = 4) && decide (p.fld 18 4 12 = 0) &&
        (!(s.pipe k).timed || decide (sub.line < (s.pipe k).want.vtotal)), .badParam)]
      (.done (s.setPipes { s.pipes with subs := s.pipes.subs.set (p.inst * 8 + k) (some sub) }) .ok [])

/-- The instances, the manager among them, whose subscription on a pipe has a property. -/
def State.subscribers (s : State) (pipe : Nat) (f : Subscription → Bool) : List Nat :=
  (0 :: s.guests).filter (fun n => match s.pipes.subs.get (n * 8 + pipe) with
    | some x => f x
    | none => false)

/-- LINE_MATCH (R389): in RUN and BLANK, at a subscribed line. -/
def execLineMatch (pipe line : Nat) (s : State) : Host.Outcome State Fault Refusal :=
  onUnit s (hPipe pipe)
    (let q := s.pipe pipe
     let tos := s.subscribers pipe (fun x => x.lineEn && decide (x.line = line))
     if (decide (q.state = .run) || decide (q.state = .blank)) && decide (line < q.timing.vtotal) && !tos.isEmpty then
       (s.edge (200 + 8 * pipe + 1)).raiseAll tos 0x51 (hPipe pipe) (detail [(q.frame, 32), (pipe, 16), (line, 16)])
     else s)

/-- VBLANK_START (R389): the operand is the measured frame period in ns. -/
def execVblankStart (pipe period : Nat) (s : State) : Host.Outcome State Fault Refusal :=
  onUnit s (hPipe pipe)
    (let q := s.pipe pipe
     if decide (q.state = .run) || decide (q.state = .blank) then
       (s.edge (200 + 8 * pipe)).raiseAll (s.subscribers pipe (·.vblankEn)) 0x50 (hPipe pipe)
         (detail [(q.frame, 32), (pipe, 16), (q.timing.vact, 16), (period, 32)])
     else s)

/-- The frame in progress shows safety content (R387). -/
def Pipe.safetyFrame (q : Pipe) : Bool := q.frameSet.layers.any (·.safety)

/-- The SAFETY instances with a layer on a pipe. -/
def State.safetyOn (s : State) (pipe : Nat) : List Nat :=
  (s.guests.filter s.isSafety).filter (fun n => (s.slotsOf n).any (fun i =>
    (s.slot i).current.enable && decide ((s.slot i).current.pipe = pipe)))

/-- Cupper's part at the end of a frame with safety content: with an underrun SAFETY_UNDERRUN, a DEGR record and ALARM_N
after ESCALATE frames in a row; without one the release after as many (R387). -/
def State.safetyFrameDone (s : State) (pipe : Nat) : State :=
  let q := s.pipe pipe
  if !s.monitoring then s
  else if decide (q.ulines = 0) || !q.safetyFrame then
    let clean := satInc 16 q.uclean
    let s := s.updPipe pipe (fun q => { q with uclean := clean, uconsec := 0 })
    if q.escalate ≤ clean then s.releaseCause 1 (hPipe pipe) else s
  else
    let n := satInc 16 q.uconsec
    let s := s.updPipe pipe (fun q => { q with uclean := 0, uconsec := n })
    let up := decide (q.escalate ≠ 0) && decide (q.escalate ≤ n)
    let alarm := up || s.sec.alarms.contains (1, hPipe pipe)
    let s := s.raiseAll (0 :: s.safetyOn pipe) 0x56 (hPipe pipe)
      (detail [(q.frame, 32), (pipe, 8), (n, 8), (q.ulines, 16), (b2n alarm, 32)])
    let s := (s.raiseErr 0x5001 3 (hPipe pipe) 0xFF 0 0).count 2 pipe 9
    if up then s.assertCause 1 (hPipe pipe) else s

/-- FRAME_DONE (R386, R387, R389). -/
def execFrameDone (pipe : Nat) (s : State) : Host.Outcome State Fault Refusal :=
  onUnit s (hPipe pipe)
    (let q := s.pipe pipe
     if q.state ≠ .run ∨ q.frameDone = true then s
     else
       let s := (s.edge (200 + 8 * pipe + 2)).raiseAll (s.subscribers pipe (·.doneEn)) 0x52 (hPipe pipe)
         (detail [(q.frame, 32), (pipe, 8), (q.commitsTaken, 8), (q.ulines, 16), (q.bandLate, 16)])
       let s := if q.ulines = 0 then s
         else ((s.countBy 2 pipe 2 q.ulines).count 2 pipe 3).raiseAll ((0 :: s.subscribers pipe (·.underrunEn)).dedup) 0x53
           (hPipe pipe) (detail [(q.frame, 32), (pipe, 16), (q.ufirstLine, 16), (q.ufirstCol, 16), (q.ulines, 16), (q.abandoned, 16)])
       (s.safetyFrameDone pipe).updPipe pipe (fun q => { q with frameDone := true }))

/-- QUIET_WINDOW (R391): a window's edge, as it reaches the sense die over the link. Windows with no length left are not
sent. -/
def execQuietWindow (pipe : Nat) (opens : Bool) (s : State) : Host.Outcome State Fault Refusal :=
  onUnit s (hPipe pipe)
    (let q := s.pipe pipe
     let t := q.timing
     let vertical := decide (2 * t.qwGuard < (t.vtotal - t.vact) * t.htotal)
     let horizontal := decide (t.qwMode = 2) && decide (2 * t.qwGuard < t.htotal - t.hact)
     let sends := (decide (q.state = .run) || decide (q.state = .blank)) && decide (t.qwMode ≠ 0) && (vertical || horizontal) &&
       s.touch.d2dUp && s.board.member.sense
     if opens && !sends then s else s.setTouch { s.touch with window := s.touch.window.set pipe opens })

/-! ### Loss of the pixel clock (R397, R398, R665) -/

/-- The clock domain of a pipe (R533). -/
def State.pixDom (s : State) (pipe : Nat) : Nat := s.board.member.domPix + pipe

/-- Loss of the pixel clock in RUN or BLANK (R397, step 1). -/
def State.pixLost (s : State) (pipe : Nat) : State :=
  let q := s.pipe pipe
  if (decide (q.state = .run) || decide (q.state = .blank)) && decide (q.intent ≠ 0) then
    let s := s.updPipe pipe (fun q => { q with
      state := .held, attempts := 0, heldSince := s.devTime, leadIn := false, latched := false, composeNext := false,
      bands := [], nextBand := 0, openNext := false })
    let s := s.setTouch { s.touch with window := s.touch.window.set pipe false }
    let s := (s.domLost (s.pixDom pipe)).edge (200 + 8 * pipe + 6)
    let s := (s.setFact (hPipe pipe) 1).count 2 pipe 5
    ((s.pipeClock pipe 1).retimeDeadlines pipe).flushFences
  else s

/-- PIX_HELD. -/
def execPixHeld (pipe : Nat) (s : State) : Host.Outcome State Fault Refusal := onUnit s (hPipe pipe) (s.pixLost pipe)

/-- The pipe has its clock back: it restarts with a lead-in frame. A waiting timing is taken. -/
def State.pixRestart (s : State) (pipe cause : Nat) (zero : Bool) : State :=
  let s := ((s.countHeld pipe).domRelocked (s.pixDom pipe)).count 2 pipe 6
  let s := s.updPipe pipe (fun q => { q with state := .starting, leadIn := false, restartZero := q.restartZero || zero })
  let s := match (s.pipe pipe).timingNext with
    | some t => s.timingForce pipe t
    | none => s
  (s.clearPixFact pipe).pipeClock pipe cause

/-- A relock attempt in HELD (R397, steps 2 and 3): at 50, 100 and 150 us; at 190 us the pipe is OFFLINE. -/
def State.pixAttempt (s : State) (pipe : Nat) (locked : Bool) : State :=
  let q := s.pipe pipe
  if q.state ≠ .held then s
  else
    let s := (s.updPipe pipe (fun q => { q with attempts := satInc 8 q.attempts })).domAttempt (s.pixDom pipe)
    if locked then s.pixRestart pipe 2 false
    else if q.attempts + 1 < 3 then s
    else
      let s := (s.countHeld pipe).updPipe pipe (fun q => { q with state := .offline, heldSince := s.devTime })
      let s := ((s.domOffline (s.pixDom pipe)).setFact (hPipe pipe) 2).edge (200 + 8 * pipe + 7)
      (s.pipeClock pipe 3).retimeDeadlines pipe

/-- PIX_RELOCK_ATTEMPT. -/
def execPixRelockAttempt (pipe : Nat) (locked : Bool) (s : State) : Host.Outcome State Fault Refusal :=
  onUnit s (hPipe pipe) (s.pixAttempt pipe locked)

/-- A retry in OFFLINE (R398): once a second. -/
def State.pixRetry (s : State) (pipe : Nat) (locked : Bool) : State :=
  if (s.pipe pipe).state ≠ .offline then s
  else
    let s := (s.updPipe pipe (fun q => { q with attempts := satInc 8 q.attempts })).domAttempt (s.pixDom pipe)
    if locked then s.pixRestart pipe 4 true else s

/-- PIX_OFFLINE_RETRY. -/
def execPixOfflineRetry (pipe : Nat) (locked : Bool) (s : State) : Host.Outcome State Fault Refusal :=
  onUnit s (hPipe pipe) (s.pixRetry pipe locked)

/-- PIX_UNLOCK_AT_STOP (R665): the clock is lost in the last frame before OFF. -/
def execPixUnlockAtStop (pipe : Nat) (s : State) : Host.Outcome State Fault Refusal :=
  onUnit s (hPipe pipe)
    (let q := s.pipe pipe
     if (decide (q.state = .run) || decide (q.state = .blank)) && decide (q.intent = 0) then
       ((s.edge (200 + 8 * pipe + 6)).count 2 pipe 5).stopPipe pipe
     else s)

end Sys2Proof.Machine
end

