-- ==== Sys2Proof/Machine/Sched.lean ====
section
/-!
DEFINITION. The scheduling of the Roaster array (08 R257 to R261; 10 R298 to R315): urgency, the assignment of free
clusters, pre-emption requests and the freeing of clusters. Where the spec leaves open which of several equal clusters or
instances is taken, the model takes the lowest number (DESIGN CHOICE, log 63).
-/

namespace Sys2Proof.Machine

open Sys2Proof

/-- A queue has work that can use clusters now: its instance is active, its head SUBMIT neither waits for a grant nor is
ended. -/
def State.ready (s : State) (n q : Nat) : Bool :=
  decide ((s.inst n).state = .active) && (match s.head n q with
    | some x => decide (x.phase ≠ .waiting) && decide (x.abort = 0)
    | none => false)

/-- It may take another cluster under CLUSTER_MAX (R256). -/
def State.wantsMore (s : State) (n q : Nat) : Bool :=
  s.ready n q && (decide ((s.queue n q).clusterMax = 0) || decide ((s.clustersOf n q).length < (s.queue n q).clusterMax))

/-- Instances with ready work of a priority. -/
def State.readyAt (s : State) (q : Nat) : List Nat := s.guests.filter (fun n => s.ready n q)

/-! ### Urgency (R311, R312) -/

/-- The earlier of two deadlines with their pipes. -/
def earlier (a b : Option (Nat × Nat)) : Option (Nat × Nat) :=
  match a, b with
  | some x, some y => if y.1 < x.1 then some y else some x
  | some x, none => some x
  | none, y => y

/-- The effective deadline of a queue's head and its pipe: the earliest D among it and the SUBMITs behind it (R311). -/
def State.effDeadline (s : State) (n q : Nat) : Option (Nat × Nat) :=
  (s.queue n q).submits.foldl (fun d x => earlier d (x.deadline.map (fun t => (t, x.pipe)))) none

/-- k of R312. -/
def State.usable (s : State) (n q : Nat) : Nat :=
  let sh := s.sharedClusters.length
  let m := (s.queue n q).clusterMax
  (if m = 0 then sh else min m sh) + (s.reservedOf n).length

/-- The slack S of a queue's head in ns, where it has a deadline. -/
def State.slack (s : State) (n q : Nat) : Option Int :=
  match s.effDeadline n q, s.head n q with
  | some (d, pipe), some x =>
    let rem := s.gpu.lastE.get ((n * 4 + q) * 8 + pipe) - x.used
    some ((d : Int) - s.devTime - (rem / s.usable n q : Nat))
  | _, _ => none

/-- The head SUBMIT of every queue P1 to P3 is urgent or not; at P0 urgency does not apply (R312, R315). -/
def State.evalUrgency (s : State) : State :=
  s.guests.foldl (fun s n => [1, 2, 3].foldl (fun s q =>
    match s.slack n q with
    | some v => s.updHead n q (fun x => { x with urgent := decide (v ≤ ((s.queue n q).urgentUs * 1000 : Nat)) })
    | none => s.updHead n q (fun x => { x with urgent := false })) s) s

/-- URGENCY_EVALUATION: at least every 50 us. -/
def execUrgencyEvaluation (s : State) : Host.Outcome State Fault Refusal := .next s.charge.evalUrgency

/-- V of an instance at a priority, and the lowest V of the ready ones. -/
def State.vOf (s : State) (n q : Nat) : Nat := s.gpu.vtime.get (n * 4 + q)
def State.vMin (s : State) (q : Nat) : Nat := ((s.readyAt q).map (fun n => s.vOf n q)).min?.getD 0

/-- The lead of an instance is below LEAD_MAX, 1.5 ms for each shared cluster (R313). -/
def State.leadOk (s : State) (n q : Nat) : Bool :=
  decide ((s.inst n).weight * (s.vOf n q - s.vMin q) / 65536 < 1500000 * s.sharedClusters.length)

/-! ### The assignment of free clusters (R257, R258, R261, R313) -/

/-- The head of a queue is urgent. -/
def State.isUrgent (s : State) (n q : Nat) : Bool := ((s.head n q).map (·.urgent)).getD false

/-- The deadline by which urgent work is ordered. -/
def State.dueAt (s : State) (n q : Nat) : Nat := ((s.effDeadline n q).map (·.1)).getD 0

/-- The first of a list that no other beats under a measure. -/
def firstLeast (f : Nat → Nat) (ns : List Nat) : Option Nat := ns.find? (fun n => ns.all (fun m => decide (f n ≤ f m)))

/-- The instance that a free shared cluster goes to at a priority. -/
def State.pickAt (s : State) (q : Nat) : Option Nat :=
  let cands := s.guests.filter (fun n => s.wantsMore n q)
  if q = 0 then
    match cands.find? (fun n => decide (s.gpu.p0Last < n)) with
    | some n => some n
    | none => cands.head?
  else
    let heavy := cands.filter (fun n => decide (0 < (s.inst n).weight))
    let urgent := heavy.filter (fun n => s.isUrgent n q && s.leadOk n q)
    match firstLeast (fun n => s.dueAt n q) urgent with
    | some n => some n
    | none => match firstLeast (fun n => s.vOf n q) heavy with
      | some n => some n
      | none => cands.head?

/-- The highest priority at which some instance takes a shared cluster. -/
def State.pickShared (s : State) : Option (Nat × Nat) :=
  [0, 1, 2, 3].findSome? (fun q => (s.pickAt q).map (fun n => (n, q)))

/-- The holder's work that a reserved cluster runs: at its highest ready priority (R261). -/
def State.pickReserved (s : State) (n : Nat) : Option (Nat × Nat) :=
  ([0, 1, 2, 3].find? (fun q => s.wantsMore n q)).map (fun q => (n, q))

/-- A free online cluster goes to work, if there is any for it. -/
def State.assign (s : State) (c : Nat) : State :=
  let x := s.cluster c
  if x.offline || x.work.isSome then s
  else
    let pick := match x.reserved with
      | some n => s.pickReserved n
      | none => s.pickShared
    match pick with
    | none => s
    | some (n, q) =>
      let s := s.updCluster c (fun x => { x with work := some (n, q), since := s.devTime, request := none })
      let s := s.updHead n q (fun y => { y with preempted := false })
      if x.reserved = none ∧ q = 0 then s.setGpu { s.gpu with p0Last := n } else s

/-! ### Pre-emption requests (R257, R258, R313) -/

/-- An instance's share of the shared clusters at a priority, rounded down; 0 without weight. -/
def State.shareOf (s : State) (n q : Nat) : Nat :=
  let sum := ((s.readyAt q).map (fun m => (s.inst m).weight)).sum
  (s.inst n).weight * s.sharedClusters.length / sum

/-- Shared clusters that work of a queue occupies, without those already asked for. -/
def State.sharedHeld (s : State) (n q : Nat) : List Nat :=
  (s.clustersOf n q).filter (fun c => decide ((s.cluster c).reserved = none) && decide ((s.cluster c).request = none))

/-- Work of another instance at the same priority takes a busy shared cluster: urgent work from untagged work, from later
deadlines, and from a leader beyond its share (R313); a weight from weight 0 (R259); an instance below its share from one
above it (R258). -/
def State.outranked (s : State) (c n q : Nat) : Bool :=
  decide (q ≠ 0) && s.guests.any (fun m => decide (m ≠ n) && s.wantsMore m q && decide (0 < (s.inst m).weight) &&
    ((s.isUrgent m q && s.leadOk m q && ((s.effDeadline n q).isNone || decide (s.dueAt m q < s.dueAt n q) ||
        (!s.leadOk n q && decide (s.shareOf n q < (s.sharedHeld n q).length)))) ||
      decide ((s.inst n).weight = 0) ||
      (!s.isUrgent n q && decide ((s.clustersOf m q).length < s.shareOf m q) &&
        decide (s.shareOf n q < ((s.sharedHeld n q).filter (fun d => decide (d ≤ c))).length))))

/-- Other work is to have a busy cluster. -/
def State.wanted (s : State) (c : Nat) : Bool :=
  let x := s.cluster c
  match x.work with
  | none => false
  | some (n, q) =>
    match x.reserved with
    | some h => decide (h ≠ n) || (List.range q).any (fun r => s.wantsMore h r)
    | none => (List.range q).any (fun r => s.guests.any (fun m => s.wantsMore m r)) || s.outranked c n q

/-- A pre-emption request on a cluster, counted (R299, R317). -/
def State.request (s : State) (c : Nat) : State :=
  match (s.cluster c).work with
  | some (n, q) =>
    if (s.cluster c).request = none then
      (s.updCluster c (fun x => { x with request := some s.devTime })).count 1 n (160 + 5 * q)
    else s
  | none => s

/-- SCHEDULING_DECISION: urgency, free clusters to work in rising order, then requests for the clusters that other work is
to have. -/
def execSchedulingDecision (s : State) : Host.Outcome State Fault Refusal :=
  let cs := List.range s.board.member.clusters
  let s := s.charge.evalUrgency
  let s := cs.foldl State.assign s
  .next (cs.foldl (fun s c => if s.wanted c then s.request c else s) s)

/-- PREEMPT_REQUEST (R298, R304). -/
def execPreemptRequest (cluster : Nat) (s : State) : Host.Outcome State Fault Refusal :=
  onUnit s (hCluster cluster) (s.charge.request cluster)

/-- The bound of R302 in us for the work of a SUBMIT, and the UNIT code of R316. -/
def preemptBound : Phase → Nat × Nat
  | .binning => (80, 1)
  | .rendering => (80, 2)
  | .flushing => (80, 2)
  | .dispatch => (150, 3)
  | _ => (150, 1)

/-- CLUSTER_FREE (R299, R302, R303): the unit in progress has ended and the context is saved. Past the bound, the
instance and the manager receive PREEMPT_LATE. -/
def execClusterFree (cluster : Nat) (s : State) : Host.Outcome State Fault Refusal :=
  onUnit s (hCluster cluster) (
    let x := s.cluster cluster
    match x.work, x.request with
    | some (n, q), some t =>
      let s := s.charge
      let us := (s.devTime - t) / 1000
      let ph := ((s.head n q).map (·.phase)).getD .none
      let seq := ((s.head n q).map (fun y => y.owed.p.seq.toNat)).getD 0
      let k := 160 + 5 * q
      let s := if (preemptBound ph).1 < us then
          (s.raiseAll [n, 0] 0x38 (hCluster cluster) (detail [(cluster, 16), ((preemptBound ph).2, 8), (0, 8), (us, 32), (seq, 32),
            (q, 8)])).count 1 n (k + 1)
        else s
      let s := (s.countMax 1 n (k + 2) us).updCluster cluster (fun x => { x with work := none, request := none })
      if (s.clustersOf n q).isEmpty then s.updHead n q (fun y => { y with preempted := true }) else s
    | _, _ => s)

end Sys2Proof.Machine
end

