-- ==== Sys2Proof/Machine/Quotas.lean ====
section
/-!
DEFINITION. Quota lists (02 R70 to R76; 05 R166, R167): their form, the six checks of R71 in order, and how a list that
passes them takes effect as one step.
-/

namespace Sys2Proof.Machine

open Sys2Proof

/-! ### Form (R166) -/

/-- One entry of a quota list: KIND, the value words, and whether they lie within LENGTH with a whole header word. -/
structure QEntry where
  kind : Nat
  words : List Nat
  whole : Bool
deriving DecidableEq, Repr

/-- Read `k` entries; the words left over come back with them. -/
def parseQuota : Nat → List Nat → List QEntry × List Nat
  | 0, ws => ([], ws)
  | _ + 1, [] => ([{ kind := 0, words := [], whole := false }], [])
  | k + 1, w :: ws =>
    let n := bitsOf w 8 8
    let e : QEntry :=
      { kind := bitsOf w 0 8, words := ws.take n, whole := decide (w < 65536) && decide (n ≤ ws.length) && decide (1 ≤ n) }
    let r := parseQuota k (ws.drop n)
    (e :: r.1, r.2)

/-- The first value word, and the pipe or panel of a region list. -/
def QEntry.value (e : QEntry) : Nat := e.words.headD 0
def QEntry.unit (e : QEntry) : Nat := if e.kind = 0x06 then e.value % 16 else e.value % 4

/-- The kind takes a region list. -/
def QEntry.isList (e : QEntry) : Bool := decide (e.kind = 0x06) || decide (e.kind = 0x0D)

/-- The rectangles of a region list. -/
def rectsOf (unit : Nat) : List Nat → List Region
  | a :: b :: r =>
    { unit := unit, left := a % 65536, top := a / 65536, width := b % 65536, height := b / 65536 } :: rectsOf unit r
  | _ => []

def QEntry.rects (e : QEntry) : List Region := rectsOf e.unit (e.words.drop 1)

/-- Two entries are for one kind, and one pipe or panel. -/
def QEntry.same (a b : QEntry) : Bool := decide (a.kind = b.kind) && (!a.isList || decide (a.unit = b.unit))

/-- The kinds that the manager's own handle accepts (R318). -/
def managerKinds : List Nat := [0x04, 0x05, 0x0A, 0x11]

/-- Check 1 for the entry at `k`. `drain` says that the packet has a DRAIN other than 0. -/
def quotaForm (n : Nat) (drain : Bool) (es : List QEntry) (k : Nat) (e : QEntry) : Bool :=
  e.whole && (if n = 0 then managerKinds.contains e.kind else decide (1 ≤ e.kind) && decide (e.kind ≤ 0x12)) &&
    (if e.isList then decide (e.words.length % 2 = 1) && decide (e.words.length ≤ 33) else decide (e.words.length = 1)) &&
    !(es.take k).any e.same && !(drain && decide (e.kind = 0x12))

/-! ### Ranges and units (R70 to R72, R74) -/

/-- The value that a list gives a kind, or the present one. -/
def quotaValue (es : List QEntry) (kind dflt : Nat) : Nat :=
  match es.find? (fun e => decide (e.kind = kind)) with
  | some e => e.value
  | none => dflt

/-- Two rectangles share a pixel. -/
def rectsMeet (a b : Region) : Bool :=
  decide (a.unit = b.unit) && decide (a.left < b.left + b.width) && decide (b.left < a.left + a.width) &&
    decide (a.top < b.top + b.height) && decide (b.top < a.top + a.height)

/-- No two of a list of rectangles meet. -/
def noneMeet : List Region → Bool
  | [] => true
  | r :: rs => !rs.any (rectsMeet r) && noneMeet rs

/-- The other guests. -/
def State.others (s : State) (n : Nat) : List Nat := s.guests.filter (fun m => decide (m ≠ n))

/-- Regions obey R74: at least 64 pixels a side, within the active area of a configured pipe, at most 16 on the pipe,
and those of GENERAL instances apart from one another. -/
def State.regionsOk (s : State) (n : Nat) (safety : Bool) (pipe : Nat) (rs : List Region) : Bool :=
  let t := (s.pipe pipe).want
  let theirs := (s.others n).flatMap (fun m => s.regionsOn m pipe)
  let general := (s.others n).flatMap (fun m => if s.isSafety m then [] else s.regionsOn m pipe)
  rs.all (fun r => decide (64 ≤ r.width) && decide (64 ≤ r.height) &&
      (decide (t.pclk = 0) || (decide (r.left + r.width ≤ t.hact) && decide (r.top + r.height ≤ t.vact)))) &&
    decide (theirs.length + rs.length ≤ 16) &&
    (safety || (noneMeet rs && rs.all (fun r => !general.any (rectsMeet r))))

/-- Check 3: ranges, ways 0 and 1, regions. `i` is the record the list is applied to. -/
def State.quotaRange (s : State) (n : Nat) (i : Inst) (es : List QEntry) (e : QEntry) : Bool :=
  let v := e.value
  match e.kind with
  | 0x01 => es.any (fun x => decide (x.kind = 0x03)) || decide (i.hopper ≤ 32 * v)
  | 0x02 => decide (v ≤ 256)
  | 0x03 => decide (v ≤ 32 * quotaValue es 0x01 i.blocks.length)
  | 0x04 => decide (v ≤ 16)
  | 0x05 => decide (v ≤ 48)
  | 0x06 => decide (v < 16) && (!s.present (hPipe e.unit) || s.regionsOk n i.safety e.unit e.rects)
  | 0x07 => decide (v ≤ 255)
  | 0x08 => decide (v ≤ 4)
  | 0x09 => decide (v % 4 = 0) && decide (v < 65536)
  | 0x0A => decide ((if n = 0 then 4 else 1) ≤ v) && decide (v ≤ 256)
  | 0x0C => decide (v ≤ 2048)
  | 0x0D => decide (v < 4)
  | 0x0E => [0, 1, 2, 3].all (fun k => decide (bitsOf v (8 * k) 8 ≤ 64))
  | 0x0F => decide (v < 256)
  | 0x10 => decide (v ≤ 400)
  | 0x11 => decide (v ≤ 512)
  | 0x12 => decide (1 ≤ v) && decide (v ≤ 200)
  | _ => true

/-- Check 4: units absent in the member (R72, R5). -/
def State.quotaUnits (s : State) (e : QEntry) : Bool :=
  let m := s.board.member
  match e.kind with
  | 0x06 => decide (e.unit < m.pipes)
  | 0x09 => decide (e.value < 2 ^ m.slcWays)
  | 0x0D => decide (e.unit < m.touchPanels)
  | 0x0F => decide (e.value < 2 ^ m.haptics)
  | _ => true

/-! ### Pools (R37, R71) -/

/-- The sum of a quota over the other guests. -/
def State.othersSum (s : State) (n : Nat) (f : Inst → Nat) : Nat := ((s.others n).map (fun m => f (s.inst m))).sum

/-- The slots of kind 0x04 or 0x05 of the member (R318). -/
def State.kindSlots (s : State) (kind : Nat) : List Nat :=
  let m := s.board.member
  if kind = 0x04 then List.range m.videoSlots else (List.range m.graphicSlots).map (· + m.videoSlots)

/-- Slots of a kind that an instance holds, and those nobody does. -/
def State.heldSlots (s : State) (n kind : Nat) : List Nat := (s.kindSlots kind).filter (fun i => decide ((s.slot i).holder = some n))
def State.freeSlots (s : State) (kind : Nat) : List Nat := (s.kindSlots kind).filter (fun i => decide ((s.slot i).holder = none))

/-- Credits that count against the pool for every instance but one: the greater of the limit and those held (R71). -/
def State.creditsOthers (s : State) (n : Nat) : Nat :=
  ((0 :: s.guests).map (fun m => if m = n then 0 else max (s.inst m).credits (s.creditsHeld m))).sum

/-- The Hopper allotment has room in the grant (R78; DEDUCED, log 70). -/
def State.hopperFits (s : State) (n : Nat) (i : Inst) (blocks v : Nat) : Bool :=
  decide (v ≤ i.hopper) ||
    decide ((s.structBytes n + 65536 * (v - i.hopper) + 65535) / 65536 + i.frames.length ≤ 32 * blocks)

/-- Check 5 for the value `v` of a kind. A create may count on blocks that the scrubber holds (R601). -/
def State.poolOk (s : State) (n : Nat) (i : Inst) (create : Bool) (es : List QEntry) (kind v : Nat) : Bool :=
  let m := s.board.member
  match kind with
  | 0x01 => decide (s.othersSum n (·.blocks.length) + v + (if create then 0 else s.memc.zeroing.length) ≤ s.dramTotal) ||
      decide (v ≤ i.blocks.length)
  | 0x02 => decide (s.othersSum n (·.spadBlocks.length) + v ≤ spadTotal)
  | 0x03 => s.hopperFits n i (quotaValue es 0x01 i.blocks.length) v
  | 0x04 | 0x05 => decide (v ≤ (s.heldSlots n kind).length + (s.freeSlots kind).length)
  | 0x08 => decide (s.othersSum n (·.reserved) + v ≤ m.safeClusters)
  | 0x0A => decide (s.creditsOthers n + max v (s.creditsHeld n) ≤ 1024)
  | 0x0C => decide (s.othersSum n (·.tokens) + v ≤ 2048)
  | 0x0E => [0, 1, 2, 3].all (fun k => decide (s.othersSum n (fun x => x.reportBufs k) + bitsOf v (8 * k) 8 ≤
      (if k < m.touchPanels then 64 else 0)))
  | 0x10 => decide (s.othersSum n (·.hvTokens) + v ≤ (if m.sense then 400 else 0))
  | 0x11 => decide (s.othersSum n (·.descs) + (if n = 0 then 0 else (s.inst 0).descs) + v ≤ 4096)
  | _ => true

/-- The kinds that a create omits count with their defaults (R70). -/
def State.defaultsOk (s : State) (n : Nat) (i : Inst) (es : List QEntry) : Bool :=
  [(0x0A, 64), (0x11, 64)].all (fun d => es.any (fun e => decide (e.kind = d.1)) || s.poolOk n i true es d.1 d.2)

/-! ### Holdings (R72, R73, R200, R440) -/

/-- Grant blocks in use: some page of them is mapped or pinned. -/
def Inst.usedBlocks (i : Inst) : List Nat := i.blocks.filter (fun b => i.frames.any (fun f => decide (f / 2097152 = b)))

/-- Scratchpad blocks in use, by their place in the grant (R200). -/
def State.usedSpad (s : State) (n : Nat) : List Nat :=
  let areas := (List.range 4).flatMap (fun k => match s.area n k with
    | some a => [(a.offset, 256 * (s.inst n).reportBufs k)]
    | none => [])
  let fences := (s.surf.fences.filter (fun f => decide (f.inst = n) && f.spad)).map (fun f => (f.offset, 8))
  let subs := (List.range 4).flatMap (fun q => ((s.queue n q).submits.filter (·.spad)).map (fun x => (x.offset, 8)))
  (List.range (s.inst n).spadBlocks.length).filter (fun k =>
    (areas ++ fences ++ subs).any (fun r => decide (r.2 ≠ 0) && decide (r.1 < 4096 * (k + 1)) && decide (4096 * k < r.1 + r.2)))

/-- Check 6: the entry may take effect, and the number in use that a refusal shows. -/
def State.quotaHeld (s : State) (n : Nat) (i : Inst) (e : QEntry) : Bool × Nat :=
  let v := e.value
  let hit (f : Inst → Nat) : Bool := (s.others n).any (fun m => decide (f (s.inst m) &&& v ≠ 0))
  match e.kind with
  | 0x01 => (decide (i.usedBlocks.length ≤ v), i.usedBlocks.length)
  | 0x02 => (!(s.usedSpad n).any (fun k => decide (v ≤ k)), (s.usedSpad n).length)
  | 0x04 | 0x05 =>
    let busy := (s.heldSlots n e.kind).filter (fun k => !s.slotEmpty k)
    (decide (busy.length ≤ v), busy.length)
  | 0x09 => (!hit (·.ways) && decide (s.memc.classWays.all (fun w => decide (w &&& v = 0))), 0)
  | 0x0B => (!hit (·.streams), 0)
  | 0x0D => (e.rects.all (fun r => !(s.others n).any (fun m => (s.inst m).tregions.any (rectsMeet r))), 0)
  | 0x0F => (!hit (·.haptics), 0)
  | _ => (true, 0)

/-! ### The checks in order (R71, R167) -/

/-- RESULT of a refused list. -/
def quotaResult (index kind inUse : Nat) : List W32 := [w32 (index + 65536 * kind), w32 inUse]

/-- The first entry that fails a check, as a refusal. -/
def firstFail (es : List QEntry) (st : Status) (ok : Nat → QEntry → Bool × Nat) : Option (Status × List W32) :=
  es.zipIdx.findSome? (fun x =>
    let r := ok x.2 x.1
    if r.1 then none else some (st, quotaResult x.2 x.1.kind r.2))

/-- Checks 1 to 4. -/
def State.quotaForms (s : State) (n : Nat) (i : Inst) (drain : Bool) (es : List QEntry) : Option (Status × List W32) :=
  firstFail es .badParam (fun k e => (quotaForm n drain es k e, 0)) <|>
    firstFail es .denied (fun _ e => (decide (e.kind ≠ 0x08) || decide (e.value = 0) || i.safety, 0)) <|>
    firstFail es .badParam (fun _ e => (s.quotaRange n i es e, 0)) <|>
    firstFail es .noUnit (fun _ e => (s.quotaUnits e, 0))

/-- Checks 5 and 6. -/
def State.quotaPools (s : State) (n : Nat) (i : Inst) (create : Bool) (es : List QEntry) : Option (Status × List W32) :=
  firstFail es .quota (fun _ e => (s.poolOk n i create es e.kind e.value, 0)) <|>
    (if create && !s.defaultsOk n i es then some (Status.quota, quotaResult 0xFFFF 0 0) else none) <|>
    firstFail es .busy (fun _ e => s.quotaHeld n i e)

/-! ### How a list takes effect (R73, R75) -/

/-- Blocks for a grant: free ones as R172 places them, then ones that the scrubber still holds. -/
def State.takeBlocks (s : State) (safety : Bool) (n : Nat) : List Nat :=
  let a := s.chooseBlocks safety n
  a ++ (s.memc.zeroing.filter (fun b => !s.grantedBlocks.contains b)).take (n - a.length)

/-- DRAM blocks, zero-filled. -/
def zeroBlocks (m : Mem) (bs : List Nat) : Mem := bs.foldl (fun m b => m.zero (b * 2097152) 2097152) m

/-- Scratchpad blocks, zero-filled. -/
def zeroSpad (m : Mem) (bs : List Nat) : Mem := bs.foldl (fun m b => m.zero (b * 4096) 4096) m

/-- The DRAM grant becomes `v` blocks; returned ones are zero-filled at once. -/
def State.setDramGrant (s : State) (n v : Nat) : State :=
  let i := s.inst n
  if i.blocks.length ≤ v then
    s.updInst n (fun i => { i with blocks := i.blocks ++ s.takeBlocks i.safety (v - i.blocks.length) })
  else
    let gone := ((i.blocks.filter (fun b => !i.usedBlocks.contains b)).reverse).take (i.blocks.length - v)
    (s.setDram (zeroBlocks s.dram gone)).updInst n (fun i => { i with blocks := i.blocks.filter (fun b => !gone.contains b) })

/-- The scratchpad grant becomes `v` blocks: appended at the end, or returned from it (R200). -/
def State.setSpadGrant (s : State) (n v : Nat) : State :=
  let i := s.inst n
  if i.spadBlocks.length ≤ v then
    s.updInst n (fun i => { i with spadBlocks := i.spadBlocks ++ takeFree s.spadHeld spadTotal 0 (v - i.spadBlocks.length) })
  else
    (s.setSpad (zeroSpad s.spad (i.spadBlocks.drop v))).updInst n (fun i => { i with spadBlocks := i.spadBlocks.take v })

/-- A slot passes to a holder, or to nobody: empty, without a fallback image. -/
def State.passSlot (s : State) (i : Nat) (h : Option Nat) : State := (s.giveSlot i h).dropFallback i

/-- The slots of a kind become `v`: the lowest free ones come, the highest empty ones go (R318). -/
def State.setSlots (s : State) (n kind v : Nat) : State :=
  let held := s.heldSlots n kind
  if held.length ≤ v then ((s.freeSlots kind).take (v - held.length)).foldl (fun s i => s.passSlot i (some n)) s
  else (((held.filter s.slotEmpty).reverse).take (held.length - v)).foldl (fun s i => s.passSlot i none) s

/-- The reservation becomes `v` clusters: the highest-numbered online shared ones come (R260), the lowest go; work on them
is asked to stop at its next pre-emption point (R73). -/
def State.setReserved (s : State) (n v : Nat) : State :=
  let held := s.reservedOf n
  let s := s.updInst n (fun i => { i with reserved := v })
  if held.length ≤ v then
    ((s.sharedClusters.reverse).take (v - held.length)).foldl (fun s c =>
      s.updCluster c (fun x => { x with
        reserved := some n
        request := if x.work.isSome && decide (x.request = none) then some s.devTime else x.request })) s
  else (held.take (held.length - v)).foldl (fun s c => s.updCluster c (fun x => { x with reserved := none })) s

/-- The streams become those of a mask: a removed one ramps to silence and its tokens return. -/
def State.setStreams (s : State) (n v : Nat) : State :=
  let gone := (List.range 32).filter (fun k => bitOf (s.inst n).streams k && !bitOf v k)
  (gone.foldl (fun s k => s.closeStream k false) s).updInst n (fun i => { i with streams := v })

/-- The haptic channels become those of a mask: a removed one brakes its effect and leaves (R73, R467). -/
def State.setHapticChans (s : State) (n v : Nat) : State :=
  let gone := (List.range 8).filter (fun k => bitOf (s.inst n).haptics k && !bitOf v k)
  (gone.foldl (fun s k => s.removeChan n k) s).updInst n (fun i => { i with haptics := v })

/-- The regions on a pipe are replaced; a subscription without a region ends (R75, R388). Layers are clipped from the
pipe's next latch line. -/
def State.setRegions (s : State) (n pipe : Nat) (rs : List Region) : State :=
  (s.updInst n (fun i => { i with regions := i.regions.filter (fun r => decide (r.unit ≠ pipe)) ++ rs })).dropSubs pipe

/-- One entry takes effect. -/
def State.applyEntry (s : State) (n : Nat) (e : QEntry) : State :=
  let v := e.value
  match e.kind with
  | 0x01 => s.setDramGrant n v
  | 0x02 => s.setSpadGrant n v
  | 0x03 => s.updInst n (fun i => { i with hopper := v })
  | 0x04 | 0x05 => s.setSlots n e.kind v
  | 0x06 => s.setRegions n e.unit e.rects
  | 0x07 => s.updInst n (fun i => { i with weight := v })
  | 0x08 => s.setReserved n v
  | 0x09 => s.updInst n (fun i => { i with ways := v })
  | 0x0A => s.updInst n (fun i => { i with credits := v })
  | 0x0B => s.setStreams n v
  | 0x0C => s.updInst n (fun i => { i with tokens := v })
  | 0x0D => s.updInst n (fun i => { i with tregions := i.tregions.filter (fun r => decide (r.unit ≠ e.unit)) ++ e.rects })
  | 0x0E => s.updInst n (fun i => { i with touchBufs := v })
  | 0x0F => s.setHapticChans n v
  | 0x10 => s.updInst n (fun i => { i with hvTokens := v })
  | 0x11 => s.updInst n (fun i => { i with descs := v })
  | 0x12 => s.updInst n (fun i => { i with drainMs := v })
  | _ => s

/-- A list takes effect. -/
def State.applyQuotas (s : State) (n : Nat) (es : List QEntry) : State := es.foldl (fun s e => s.applyEntry n e) s

/-! ### The packets -/

def opInstCreate : Op := { code := 0x0020, mark := .m }
def opInstQuotaSet : Op := { code := 0x0022, mark := .m }

/-- The instance that an instance packet names in TARGET. -/
def instTarget (p : Packet) : Nat := p.target % 256
def instHandle (p : Packet) : Bool := decide (p.target / 256 = 2)

/-- INST_CREATE (R54, R58, R70, R165): the grants are taken and the instance is QUIESCED and unbound. Where some of its
blocks are still with the scrubber, the reply waits for them (R601). -/
def execInstCreate (p : Packet) (s : State) : Host.Outcome State Fault Refusal :=
  packet opInstCreate true p s fun s =>
    let n := instTarget p
    let q := parseQuota (p.u16 20) (p.wordsFrom 24)
    let es := q.1
    let i : Inst := { Inst.none with
      state := .quiesced, safety := decide (p.u8 16 = 1), drainMs := if p.u8 17 = 0 then 20 else p.u8 17,
      autoreset := !p.flag 18 0 }
    let head := instHandle p && decide (8 ≤ p.length) && decide (p.u8 16 ≤ 1) && decide (p.u8 17 ≤ 200) &&
      decide (p.u16 18 ≤ 1) && decide (p.u16 22 = 0) && q.2.isEmpty
    if !head then .fail .badParam (quotaResult 0xFFFF 0 0)
    else match s.quotaForms n i (decide (p.u8 17 ≠ 0)) es with
    | some f => .fail f.1 f.2
    | none =>
      if n = 0 ∨ s.exists_ n = true then .fail .busy (quotaResult 0xFFFF 0 0)
      else match s.quotaPools n i true es with
      | some f => .fail f.1 f.2
      | none =>
        if i.safety && !s.sec.available then .fail .secureUnavailable []
        else
          let s := ((s.updInst n (fun _ => i)).applyQuotas n es).intend (hInst n) false 0
          if (s.inst n).blocks.any (fun b => s.memc.zeroing.contains b) then
            .owe (s.setMemc { s.memc with waitingCreates := s.memc.waitingCreates ++ [{ opcode := opInstCreate.code, p := p }] })
          else .done s .ok []

/-- INST_QUOTA_SET (R70 to R73, R318): one indivisible step. -/
def execInstQuotaSet (p : Packet) (s : State) : Host.Outcome State Fault Refusal :=
  packet opInstQuotaSet true p s fun s =>
    let n := instTarget p
    let q := parseQuota (p.u16 16) (p.wordsFrom 20)
    let es := q.1
    let i := s.inst n
    let head := instHandle p && decide (4 ≤ p.length) && decide (p.u16 18 = 0) && q.2.isEmpty && decide (i.state ≠ .absent)
    if !head then .fail .badParam (quotaResult 0xFFFF 0 0)
    else match s.quotaForms n i false es with
    | some f => .fail f.1 f.2
    | none =>
      if i.state = .wedged then .fail .wedged []
      else match s.quotaPools n i false es with
      | some f => .fail f.1 f.2
      | none =>
        if i.state = .quiescing ∨ i.state = .resetting then .fail .busy (quotaResult 0xFFFF 0 0)
        else .done ((s.applyQuotas n es).intend (hInst n) false 0) .ok []

/-- SCRUB_DONE (R601): the scrubber has zero-filled its blocks; they are free, or their creates are answered. -/
def execScrubDone (s : State) : Host.Outcome State Fault Refusal :=
  let os := s.memc.waitingCreates
  let s := s.setDram (zeroBlocks s.dram s.memc.zeroing)
  let s := s.setMemc { s.memc with zeroing := [], waitingCreates := [] }
  .next (os.foldl (fun s o => s.finish o .ok []) s)

end Sys2Proof.Machine
end

