-- ==== Sys2Proof/Machine/Instances.lean ====
section
/-!
DEFINITION. The life cycle of instances (02 R56 to R69, R77 to R93; 05 R165, R168; 21 R592 to R596): quiesce, reset,
freeze, save, restore, thaw, destroy, and an instance that wedges.
-/

namespace Sys2Proof.Machine

open Sys2Proof

def opInstBind : Op := { code := 0x0021, mark := .m }
def opInstQuiesce : Op := { code := 0x0023, mark := .m }
def opInstReset : Op := { code := 0x0024, mark := .m }
def opInstFreeze : Op := { code := 0x0025, mark := .m }
def opInstSave : Op := { code := 0x0026, mark := .m }
def opInstRestore : Op := { code := 0x0027, mark := .m }
def opInstThaw : Op := { code := 0x0028, mark := .m }
def opInstDestroy : Op := { code := 0x0029, mark := .m }

/-- The status of a life-cycle command in a state that its row of R58 does not name (R60). -/
def State.lifeStatus (s : State) (n : Nat) (allowed : List InstState) (needsQuiesce : Bool) : Option Status :=
  let st := (s.inst n).state
  if n = 0 then some .badParam
  else if allowed.contains st then none
  else match st with
    | .quiescing | .resetting => some .busy
    | .wedged => some .wedged
    | .bound | .active => some (if needsQuiesce then .quiesceRequired else .badParam)
    | _ => some .badParam

/-- A status that some test found ends the execution. -/
def Ans.stop (st : Option Status) (k : Ans) : Ans := match st with
  | some st => .fail st []
  | none => k

/-! ### Stopping an instance's work (R61, R592) -/

/-- An accepted packet still lacks its final reply. -/
def State.unanswered (s : State) (a : Accepted) : Bool :=
  !s.tp.replies.any (fun r => decide (r.status ≠ .pending) && replyOf r a)

/-- Later answers to the started packets of an instance that still lack one are discarded. -/
def State.voidPackets (s : State) (n : Nat) : State :=
  let mine := s.tp.accepted.filter (fun a => decide (a.p.inst = n) && a.applied && s.unanswered a)
  s.setTp { s.tp with voided := s.tp.voided ++ mine.map (·.p) }

/-- The instance's packets and replies are dropped and their credits return. -/
def State.dropPackets (s : State) (n : Nat) : State :=
  s.setTp { s.tp with
    accepted := s.tp.accepted.filter (fun a => decide (a.p.inst ≠ n))
    replies := s.tp.replies.filter (fun r => decide (r.inst ≠ n)) }

/-- SUBMITs that have not started end at once (R61). -/
def State.cancelWaitingSubmits (s : State) (n : Nat) : State :=
  [0, 1, 2, 3].foldl (fun s q =>
    let xs := (s.queue n q).submits.filter (fun x => !x.started)
    let ws := (s.queue n q).waiting
    let s := xs.foldl (fun s x => x.surfaces.foldl (fun s id => s.unbindWriter n id) s) s
    let s := s.updQueue n q (fun y => { y with submits := y.submits.filter (·.started), waiting := [] })
    let s := xs.foldl (fun s x => s.finish x.owed .cancelled []) s
    (ws.foldl (fun s o => s.finish o .cancelled []) s).sweepPipelines n) s

/-- A copy or SEAL ends with ST_CANCELLED and no RESULT (R61). -/
def State.cancelJob (s : State) (j : CopyJob) : State := (s.dropJob j).finish j.owed .cancelled []

/-- Copies that have not started end at once (R61). -/
def State.cancelWaitingCopies (s : State) (n : Nat) : State :=
  (s.copy.filter (fun j => decide (j.inst = n) && j.engine.isNone)).foldl (fun s j => s.cancelJob j) s

/-- What the running descriptor had moved at its 64 KiB or tile boundary (R592, R197): how much is free (log 69). A SEAL
leaves the seals it had written. -/
def State.movePart (s : State) (j : CopyJob) : State :=
  match j.descs, j.engine with
  | d :: _, some e =>
    let k := Config.piecesMoved s.freeCtr
    let seq := j.owed.p.seq.toNat
    let host := s.hostBytes (s.portOf j.inst) d.src d.length
    if d.kind = 6 then
      match s.surfAny j.inst j.surface with
      | some f => (if f.isSealed then s.sealTiles j.inst j.surface ((f.rowTiles d.tileRow d.tileRows).take k) else s).tickFree
      | none => s.tickFree
    else if d.kind = 4 then
      match s.surfAny j.inst d.surface with
      | some f =>
        let tb := tileBytes f.format
        let a := f.iaddr + d.tileRow * f.rowBytes
        ((s.writeInst j.inst a (host.take (k * tb))).sealTiles j.inst d.surface ((f.rowTiles d.tileRow d.tileRows).take k)).tickFree
      | none => s.tickFree
    else
      let cut := min (65536 * k) d.length
      if cut = 0 then s.tickFree else (s.runDesc j.inst e seq { d with length := cut } host).tickFree
  | _, _ => s

/-- The packets on the engines stop at the boundary of the running descriptor. -/
def State.cancelCopies (s : State) (n : Nat) : State :=
  (s.copy.filter (fun j => decide (j.inst = n))).foldl (fun s j =>
    let running := match j.engine with
      | some e => decide (s.engineJob e = some j)
      | none => false
    (if running then s.asJob n j.owed.p (fun s => s.movePart j) else s).cancelJob j) s

/-- WRITE_ENDs that wait end with ST_CANCELLED; unsignalled retire fences are discarded (R236). -/
def State.cancelWindows (s : State) (n : Nat) : State :=
  let s := (s.surfacesOf n).foldl (fun (s : State) (f : Nat × Surface) =>
    (s.finishOpt f.2.closing .cancelled []).updSurface n f.1 (fun g => { g with closing := none })) s
  s.setSurf { s.surf with fences := s.surf.fences.filter (fun f => decide (f.inst ≠ n)) }

/-- A quiesce, a reset or a destruction clears the instance's keep-awake hold (20 R558). -/
def State.dropAwake (s : State) (n : Nat) : State :=
  if bitOf s.power.keepAwake n then s.setPower { s.power with keepAwake := s.power.keepAwake - 2 ^ n } else s

/-- Intake stops for a quiesce or a fence: queued work that has not started, waiting layer states, haptics and touch end at
once (R61, R592); clusters are asked for (R304). -/
def State.stopIntake (s : State) (n : Nat) (d : Drain) : State :=
  let s := s.updInst n (fun i => { i with state := .quiescing, drain := d, stopped := s.devTime })
  let s := ((((s.dropAwake n).dropWaiting n).cancelHaptics n).cancelTouch n).requestClusters n
  (s.cancelWaitingSubmits n).cancelWaitingCopies n

/-- A freeze under way becomes a quiesce or a fence (R67): the bound runs on. -/
def State.convertFreeze (s : State) (n : Nat) (d : Drain) : State :=
  let o := (s.inst n).freezeWaiting
  let t := (s.inst n).stopped
  let s := (s.updInst n (fun i => { i with freezeWaiting := none })).finishOpt o .cancelled []
  (s.stopIntake n d).updInst n (fun i => { i with stopped := t })

/-- All work of an instance ends in every engine. -/
def State.cancelWork (s : State) (n : Nat) : State :=
  let s := s.cancelCopies n
  let s := s.charge.cancelGpu n
  let s := (s.cancelAudio n).pauseAudio n false
  let s := ((s.cancelHaptics n).cancelTouch n).cancelWindows n
  s.settleAllDead n

/-- Every accepted packet that still lacks a reply is answered ST_CANCELLED (R61). -/
def State.answerCancelled (s : State) (n : Nat) : State :=
  let mine := s.tp.accepted.filter (fun a => decide (a.p.inst = n) && s.unanswered a)
  mine.foldl (fun s a =>
    let s := s.answer a.opcode a.p .cancelled []
    if a.applied then s.setTp { s.tp with voided := s.tp.voided ++ [a.p] } else s) s

/-- Replies go out as long as they can. -/
def State.writeReplies : Nat → State → Nat → State
  | 0, s, _ => s
  | k + 1, s, f => State.writeReplies k (s.writeReply (f / 32) (f % 32)) f

/-- Replies that wait for ring space are discarded when the drain bound expires (R119). -/
def State.discardReplies (s : State) (n : Nat) : State :=
  let k := (s.tp.replies.filter (fun r => decide (r.inst = n))).length
  (s.countBy 0 n 30 k).dropPackets n

/-- The instance enters QUIESCED: its events are withdrawn, its entry has settled, the quiesce is answered (R61, R148). -/
def State.enterQuiesced (s : State) (n : Nat) : State :=
  let i := s.inst n
  let fence := decide (i.drain = .fence)
  let s := (s.dropAwake n).withdrawEvents n
  let s := s.updInst n (fun i => { i with
    state := .quiesced, drain := .none, cause := if fence then 2 else 1, deferred := fence && i.autoreset,
    waiting := none, frozen := none })
  let s := s.count 0 n (if fence then 36 else 35)
  (s.settle (hInst n)).finishOpt i.waiting .ok []

/-- The clusters have reached their pre-emption points (R304, R592). -/
def State.clustersIdle (s : State) (n : Nat) : Bool := [0, 1, 2, 3].all (fun q => (s.clustersOf n q).isEmpty)

/-- Work ends, packets are answered and replies written; under a fence packets are dropped without one (R81). -/
def State.drainWork (s : State) (n : Nat) : State :=
  let i := s.inst n
  let s := s.cancelWork n
  if i.drain = .fence then s.dropPackets n
  else
    let s := s.answerCancelled n
    match i.fn with
    | some k => State.writeReplies s.tp.replies.length s k
    | none => s.dropPackets n

/-- QUIESCE_DRAINED (R61, R592): replies that still wait for ring space keep the instance QUIESCING (R119). -/
def execQuiesceDrained (n : Nat) (s : State) : Host.Outcome State Fault Refusal :=
  let i := s.inst n
  onUnit s (hInst n) (
    if i.state ≠ .quiescing ∨ i.drain = .freeze ∨ s.clustersIdle n = false ∨ n = 0 then s
    else
      let s := s.drainWork n
      if s.tp.replies.any (fun r => decide (r.inst = n)) then s
      else (s.dropPackets n).enterQuiesced n)

/-- INST_QUIESCE (R58, R60, R61, R67). -/
def execInstQuiesce (p : Packet) (s : State) : Host.Outcome State Fault Refusal :=
  packet opInstQuiesce true p s fun s =>
    let n := instTarget p
    let i := s.inst n
    let o : Owed := { opcode := opInstQuiesce.code, p := p }
    let freezing := decide (i.state = .quiescing) && decide (i.drain = .freeze)
    checks [(instHandle p && decide (p.length = 0), .badParam)]
      (if freezing then
        let s := s.convertFreeze n .quiesce
        .owe ((s.updInst n (fun i => { i with waiting := some o })).intend (hInst n) true 0)
      else Ans.stop (s.lifeStatus n [.bound, .active, .frozen, .quiesced] false)
        (match i.state with
        | .quiesced => .done s .ok []
        | .frozen =>
          let s := (s.dropWaiting n).cancelWork n
          let s := if i.fn = none then s.dropPackets n else s.answerCancelled n
          .done ((s.enterQuiesced n).intend (hInst n) false 0) .ok []
        | _ =>
          let s := s.stopIntake n .quiesce
          .owe ((s.updInst n (fun i => { i with waiting := some o })).intend (hInst n) true 0)))

/-! ### Binding, reset, destruction (R58, R65, R82) -/

/-- INST_BIND (R58, R60): to a function that exists, that no guest is bound to, and that is not the manager's. -/
def execInstBind (p : Packet) (s : State) : Host.Outcome State Fault Refusal :=
  packet opInstBind true p s fun s =>
    let n := instTarget p
    let port := p.fld 16 0 4
    let fn := p.u8 17
    let k := fnKey port fn
    checks [(instHandle p && decide (p.length = 4) && decide (p.fld 16 4 4 = 0) && decide (p.u16 18 = 0), .badParam),
        (decide (port < s.board.member.ports), .noUnit),
        (s.fnExists port fn && decide (k ≠ s.managerFn), .badParam)]
      (Ans.stop (s.lifeStatus n [.quiesced, .frozen] true)
        (checks [(decide (s.boundTo k = none), .badParam)]
          (.done ((s.updInst n (fun i =>
            { i with fn := some k, frozen := i.frozen.map (fun f => { f with fn := none }) })).intend (hInst n) false 0)
            .ok [])))

/-- Steps 1 to 3 of R65: slots emptied, pins and fences released, the address space unmapped, the shader cache
discarded. Storage still in scan-out stays pinned (R237). -/
def State.beginReset (s : State) (n : Nat) : State :=
  let s := (s.dropAwake n).emptySlots n
  let s := ((s.dropSurfaces n).dropGpu n).closeAudio n
  let s := (s.dropMons n).setPipes { (s.dropMons n).pipes with
    subs := (List.range 8).foldl (fun t q => t.set (n * 8 + q) none) (s.dropMons n).pipes.subs }
  let s := (List.range 4).foldl (fun s k => s.setArea n k none) s
  let pins := (s.surfacesOf n).map (fun f => (f.2.iaddr, f.2.size))
  let kept := (s.inst n).pages.filter (fun q => pins.any (fun r =>
    decide (q.va * 65536 < r.1 + r.2) && decide (r.1 < q.va * 65536 + pageSize q.big)))
  let dead : List DeadPages := kept.map (fun q =>
    { iaddr := q.va * 65536, count := 1, big := q.big, pages := [q], waiting := none, jobs := [], notifyRelease := false })
  s.updInst n (fun i => { i with state := .resetting, deferred := false, pages := [], dead := i.dead ++ dead })

/-- INST_RESET (R58, R65). -/
def execInstReset (p : Packet) (s : State) : Host.Outcome State Fault Refusal :=
  packet opInstReset true p s fun s =>
    let n := instTarget p
    checks [(instHandle p && decide (p.length = 0), .badParam)]
      (Ans.stop (s.lifeStatus n [.quiesced] true)
        (checks [((s.inst n).fn.isSome, .badParam)]
          (let s := s.beginReset n
           .owe ((s.updInst n (fun i => { i with waiting := some { opcode := opInstReset.code, p := p } })).intend
             (hInst n) true 0))))

/-- INST_DESTROY (R58, R65): the grants are zero-filled before they return, so the instance is RESETTING until then. -/
def execInstDestroy (p : Packet) (s : State) : Host.Outcome State Fault Refusal :=
  packet opInstDestroy true p s fun s =>
    let n := instTarget p
    checks [(instHandle p && decide (p.length = 0), .badParam)]
      (Ans.stop (s.lifeStatus n [.quiesced] true)
        (let s := s.beginReset n
         .owe ((s.updInst n (fun i => { i with waiting := some { opcode := opInstDestroy.code, p := p } })).intend
           (hInst n) true 0)))

/-- The grants are zero-filled, but for frames that scan-out still pins. -/
def State.scrubGrants (s : State) (n : Nat) : State :=
  let i := s.inst n
  let keep := i.frames
  let frames := i.blocks.flatMap (fun b => (List.range 32).map (fun j => b * 2097152 + j * 65536))
  let s := s.setDram ((frames.filter (fun f => !keep.contains f)).foldl (fun m f => m.zero f 65536) s.dram)
  s.setSpad (zeroSpad s.spad i.spadBlocks)

/-- The slots, channels, streams and clusters of a destroyed instance return. -/
def State.returnGrants (s : State) (n : Nat) : State :=
  let s := (s.slotsOf n).foldl (fun s i => s.passSlot i none) s
  (((s.setHapticChans n 0).setStreams n 0).setReserved n 0).dropPackets n

/-- RESET_SCRUBBED (R65): after INST_RESET or an automatic reset the function's registers return to their reset values and
the instance is BOUND; after INST_DESTROY it is ABSENT, once nothing of it is in scan-out. -/
def execResetScrubbed (n : Nat) (s : State) : Host.Outcome State Fault Refusal :=
  let i := s.inst n
  onUnit s (hInst n) (
    if i.state ≠ .resetting then s
    else if (i.waiting.map (·.opcode)) = some opInstDestroy.code then
      if !(s.surfacesOf n).isEmpty then s
      else
        let s := (s.scrubGrants n).returnGrants n
        let s := (s.updInst n (fun _ => Inst.none)).settle (hInst n)
        s.finishOpt i.waiting .ok []
    else
      let s := s.scrubGrants n
      let s := match i.fn with
        | some k => s.resetFnRegs k
        | none => s
      let s := (s.updInst n (fun i => { i with state := .bound, waiting := none })).settle (hInst n)
      s.finishOpt i.waiting .ok [])

/-- A function exists for R82: its port's PERST_N is deasserted and its link up, and a VF exists under R47. -/
def State.fnLive (s : State) (k : Nat) : Bool :=
  let q := s.ports.get (k / 32)
  !q.perst && q.linkUp && s.fnExists (k / 32) (k % 32)

/-- AUTORESET (R82): an instance that a fence quiesced is reset once its function exists. -/
def execAutoreset (n : Nat) (s : State) : Host.Outcome State Fault Refusal :=
  let i := s.inst n
  onUnit s (hInst n) (
    if i.state = .quiesced ∧ i.deferred = true ∧ (i.fn.map s.fnLive) = some true then s.beginReset n else s)

/-! ### Freeze and thaw (R66 to R69, R90) -/

/-- A copy packet has no descriptor left that reads or writes host memory. -/
def CopyJob.internal (j : CopyJob) : Bool := !j.descs.any CopyDesc.usesHost

/-- INST_FREEZE (R58, R66): intake stops; haptics brake and audio falls silent. -/
def execInstFreeze (p : Packet) (s : State) : Host.Outcome State Fault Refusal :=
  packet opInstFreeze true p s fun s =>
    let n := instTarget p
    checks [(instHandle p && decide (p.length = 0), .badParam)]
      (Ans.stop (s.lifeStatus n [.active] false)
        (let s := s.updInst n (fun i => { i with
           state := .quiescing, drain := .freeze, stopped := s.devTime,
           freezeWaiting := some { opcode := opInstFreeze.code, p := p } })
         let s := ((s.requestClusters n).freezeHaptics n).pauseAudio n true
         .owe (s.intend (hInst n) true 0)))

/-- FREEZE_SAVED (R66): every host descriptor has run and every context is saved; replies to completed packets go out,
and the instance is FROZEN. -/
def execFreezeSaved (n : Nat) (s : State) : Host.Outcome State Fault Refusal :=
  let i := s.inst n
  onUnit s (hInst n) (
    if i.state ≠ .quiescing ∨ i.drain ≠ .freeze ∨ s.clustersIdle n = false ∨
        (s.copy.any (fun j => decide (j.inst = n) && !j.internal)) = true then s
    else
      let s := match i.fn with
        | some k => State.writeReplies s.tp.replies.length s k
        | none => s
      let f := s.fn (i.fn.getD 0)
      let z : Frozen :=
        { time := s.devTime, discarded := 0, fn := i.fn,
          heads := (List.range 4).map (fun r => (f.sq.get r).head.toNat),
          lastSeqs := (List.range 4).map (fun r => (f.sq.get r).lastSeq), restored := false }
      let s := s.updInst n (fun i => { i with state := .frozen, drain := .none, freezeWaiting := none, frozen := some z })
      (s.settle (hInst n)).finishOpt i.freezeWaiting .ok [])

/-- The function's rings at a thaw (R69): the SEQs of the freeze; after cause SAME also the ring positions. -/
def State.thawRings (s : State) (k : Nat) (z : Frozen) (same : Bool) : State :=
  [0, 1, 2, 3].foldl (fun s r => s.updSq k r (fun q =>
    { q with lastSeq := z.lastSeqs.getD r 0, head := if same then w32 (z.heads.getD r 0) else q.head })) s

/-- INST_THAW (R69, R90, R149): the instance leaves FROZEN, then INST_THAWED, then CONTACTS_RESET where it holds a report
area (R68). Fences whose condition came to hold meanwhile signal (R236). -/
def execInstThaw (p : Packet) (s : State) : Host.Outcome State Fault Refusal :=
  packet opInstThaw true p s fun s =>
    let n := instTarget p
    let i := s.inst n
    checks [(instHandle p && decide (p.length = 0), .badParam)]
      (Ans.stop (s.lifeStatus n [.frozen] false)
        (match i.fn, i.frozen with
        | some k, some z =>
          let same := decide (z.fn = some k)
          let cause := if z.restored then 3 else if same then 1 else 2
          let s := s.thawRings k z (same && !z.restored)
          let s := (s.updInst n (fun i => { i with state := .active, frozen := none })).pauseAudio n false
          let s := s.raise n 0x05 (hInst n) (detail [(cause, 8), (0, 24), (z.time, 64), (z.discarded, 32)])
          let s := if (List.range 4).any (fun k => (s.area n k).isSome) then
              s.raise n 0x60 (hTouch 0xFF) (detail [(0xFF, 8), (1, 8)])
            else s
          .done (s.intend (hInst n) false 0).flushFences .ok []
        | _, _ => .fail .badParam []))

/-! ### The instance image (R86 to R93) -/

/-- The next multiple of 64. -/
def up64 (n : Nat) : Nat := (n + 63) / 64 * 64

/-- Section offsets, from the offset of the first. -/
def sectionOffsets : Nat → List (Nat × List Byte) → List (Nat × Nat × Nat)
  | _, [] => []
  | off, (kind, bs) :: r => (kind, off, bs.length) :: sectionOffsets (up64 (off + bs.length)) r

/-- Sections laid out, each on a 64-byte boundary, the last one not padded. -/
def layoutSections : List (List Byte) → List Byte
  | [] => []
  | [b] => b
  | b :: r => b ++ List.replicate (up64 b.length - b.length) 0 ++ layoutSections r

/-- The image of a frozen instance (R91, R92). The sections' own layout is free (log 41). -/
def State.imageBytes (s : State) (n : Nat) (sealed shaders : Bool) : List Byte :=
  let c := s.freeCtr
  let i := s.inst n
  let kinds := (List.range 11).map (· + 1) ++ (if shaders then [12] else [])
  let secs := kinds.map (fun k => (k, Config.imageSection c k))
  let first := up64 (64 + 16 * kinds.length)
  let offs := sectionOffsets first secs
  let nonce := if sealed then leNat ((List.range 12).map (Config.random c)) else 0
  let key := s.sec.key.getD 0
  let bodies := secs.map (fun x => if sealed then (List.range x.2.length).map (fun k => Config.gcmSeal key nonce k x.2) else x.2)
  let dir := offs.flatMap (fun o => leBytes 4 o.1 ++ leBytes 4 0 ++ leBytes 4 o.2.1 ++ leBytes 4 o.2.2)
  let body := layoutSections bodies
  let len := first + body.length + (if sealed then 16 else 0) + 4
  let head := leBytes 4 0x4D494C5A ++ leBytes 2 0x0100 ++ leBytes 2 (b2n sealed + 2 * b2n shaders) ++ leBytes 8 len ++
    leBytes 2 (Config.memberCode s.board.member % 65536) ++ leBytes 1 n ++ leBytes 1 (b2n i.safety) ++
    leBytes 4 (s.firmware.running.get 2) ++ leBytes 8 ((i.frozen.map (·.time)).getD 0) ++ leBytes 2 kinds.length ++
    leBytes 2 0 ++ leBytes 12 nonce ++ leBytes 16 0
  let pre := head ++ dir
  let all := pre ++ List.replicate (first - pre.length) 0 ++ body ++
    (if sealed then (List.range 16).map (fun k => Config.gcmTag key nonce k (pre ++ body)) else [])
  all ++ leBytes 4 (crc32c all).toNat

/-- INST_SAVE (R86, R168): it writes the image or, where it does not fit, gives the length. -/
def execInstSave (p : Packet) (s : State) : Host.Outcome State Fault Refusal :=
  packet opInstSave true p s fun s =>
    let n := instTarget p
    let sealed := p.flag 28 0
    checks [(instHandle p && decide (p.length = 16) && decide (p.u64 16 % 64 = 0) && decide (p.fld 28 2 30 = 0), .badParam),
        (s.busMaster 0, .badParam)]
      (Ans.stop (s.lifeStatus n [.frozen] false)
        (checks [(!sealed || (s.sec.available && s.sec.key.isSome), .secureUnavailable)]
          (let img := s.imageBytes n sealed (p.flag 28 1)
           if p.u32 24 < img.length then .fail .badParam (w64 img.length)
           else .done (s.writeHost s.board.mgrPortInForce (p.u64 16) img).tickFree .ok (w64 img.length))))

/-- What the sections of an image say: the instance with its quotas (`blocks` counts them, pages name a block by its index in the
grant), its slots by number, surfaces, streams, areas, copies, packets, GPU tables, generations. -/
structure ImageContent where
  inst : Inst
  slots : List (Nat × Slot)
  surfaces : List (Nat × Surface)
  nextId : Nat
  fences : List Fence
  streams : List (Nat × AStream)
  areas : List (Nat × TArea)
  jobs : List CopyJob
  accepted : List Accepted
  replies : List Reply
  queues : List (Nat × Queue)
  modules : List (Nat × Module)
  pipelines : List (Nat × Pipeline)
  gens : List (Nat × W32)
  lastSeqs : List W32
deriving DecidableEq, Repr

/-- The sections of an image read (R91, R93; free as their layout is, log 41): none where they are malformed. -/
opaque restoredContent (image : List Byte) : Option ImageContent

/-- The image's header and directory are well formed (R87, R91): magic, major version, length, entries within it. -/
def imageFormOk (bs : List Byte) : Bool :=
  let at_ (o n : Nat) : Nat := leNat ((bs.drop o).take n)
  let k := at_ 32 2
  decide (64 ≤ bs.length) && decide (at_ 0 4 = 0x4D494C5A) && decide (at_ 5 1 = 1) && decide (at_ 8 8 = bs.length) &&
    decide (64 + 16 * k ≤ bs.length) &&
    (List.range k).all (fun j => decide (at_ (64 + 16 * j + 8) 4 % 64 = 0) &&
      decide (at_ (64 + 16 * j + 8) 4 + at_ (64 + 16 * j + 12) 4 ≤ bs.length))

/-- The CRC-32C that ends an image (R92). -/
def imageCrcOk (bs : List Byte) : Bool :=
  decide (4 ≤ bs.length) && decide (leNat (bs.drop (bs.length - 4)) = (crc32c (bs.take (bs.length - 4))).toNat)

/-- The units that the content names are fitted (R87). -/
def State.imageUnits (s : State) (c : ImageContent) : Bool :=
  let m := s.board.member
  c.inst.regions.all (fun r => decide (r.unit < m.pipes)) && c.inst.tregions.all (fun r => decide (r.unit < m.touchPanels)) &&
    decide (c.inst.ways < 2 ^ m.slcWays) && decide (c.inst.haptics < 2 ^ m.haptics) &&
    c.slots.all (fun x => decide (x.1 < m.slots))

/-- Its grants and holdings fit the free pools. -/
def State.imagePools (s : State) (n : Nat) (c : ImageContent) : Bool :=
  let i := c.inst
  decide (i.blocks.length ≤ s.dramFree) && decide (i.spadBlocks.length + s.spadHeld.length ≤ spadTotal) &&
    [(0x08, i.reserved), (0x0A, max i.credits c.accepted.length), (0x0C, i.tokens), (0x0E, i.touchBufs), (0x10, i.hvTokens),
      (0x11, i.descs)].all (fun x => s.poolOk n Inst.none false [] x.1 x.2)

/-- Slots, channels, ways and streams that it names are free. -/
def State.imageFree (s : State) (n : Nat) (c : ImageContent) : Bool :=
  c.slots.all (fun x => decide ((s.slot x.1).holder = none)) &&
    [(0x09, c.inst.ways), (0x0B, c.inst.streams), (0x0F, c.inst.haptics)].all (fun x =>
      (s.quotaHeld n Inst.none { kind := x.1, words := [x.2], whole := true }).1)

/-- A layer outside the instance's regions on the target is restored disabled (R88). -/
def State.restoredSlot (s : State) (n : Nat) (t : Slot) : Slot × Bool :=
  let out (l : LayerState) : Bool := l.enable && !covered (s.regionsOn n l.pipe) l.dstX l.dstY l.dstW l.dstH
  let off (l : LayerState) : LayerState := if out l then { l with enable := false } else l
  ({ t with holder := some n, intended := off t.intended, current := off t.current }, out t.intended || out t.current)

/-- The restored instance takes its place (R87, R88): blocks from the target's free lists, everything else as the image
says; FROZEN and unbound. -/
def State.placeImage (s : State) (n time : Nat) (c : ImageContent) : State :=
  let i := c.inst
  let blocks := s.takeBlocks i.safety i.blocks.length
  let spad := takeFree s.spadHeld spadTotal 0 i.spadBlocks.length
  let pages := i.pages.map (fun q => { q with phys := blocks.getD (q.phys / 2097152) 0 * 2097152 + q.phys % 2097152 })
  let z : Frozen :=
    { time := time, discarded := 0, fn := none, heads := [], lastSeqs := c.lastSeqs, restored := true }
  let i' : Inst := { i with
    state := .frozen, fn := none, drain := .none, waiting := none, freezeWaiting := none, deferred := false, blocks := blocks,
    spadBlocks := spad, pages := pages, dead := [], reserved := 0, frozen := some z }
  let own (p : Packet) : Packet := { p with inst := n }
  let s := (s.updInst n (fun _ => i')).setReserved n i.reserved
  let s := s.setSurf { s.surf with
    table := c.surfaces.foldl (fun t x => t.set (surfKey n x.1) (some x.2)) s.surf.table
    nextId := s.surf.nextId.set n c.nextId
    fences := s.surf.fences ++ c.fences.map (fun f => { f with inst := n }) }
  let s := c.streams.foldl (fun s x => s.updStream x.1 (fun _ => { x.2 with paused := true })) s
  let s := c.areas.foldl (fun s x => s.setArea n x.1 (some x.2)) s
  let s := s.setCopy (s.copy ++ c.jobs.map (fun j => { j with inst := n, engine := none, owed := { j.owed with p := own j.owed.p } }))
  let s := s.setTp { s.tp with
    accepted := s.tp.accepted ++ c.accepted.map (fun a => { a with p := own a.p })
    replies := s.tp.replies ++ c.replies.map (fun r => { r with inst := n }) }
  let s := s.setGpu { s.gpu with
    queues := c.queues.foldl (fun t x => t.set (n * 4 + x.1) { x.2 with
      submits := x.2.submits.map (fun y => { y with inst := n, owed := { y.owed with p := own y.owed.p } }) }) s.gpu.queues
    modules := c.modules.foldl (fun t x => t.set (idKey n x.1) (some x.2)) s.gpu.modules
    pipelines := c.pipelines.foldl (fun t x => t.set (idKey n x.1) (some x.2)) s.gpu.pipelines }
  let s := c.slots.foldl (fun (s : State) x =>
    let r := s.restoredSlot n x.2
    let s := s.updSlot x.1 (fun _ => r.1)
    if r.2 then s.raise n 0x40 (hSlot x.1) (detail [(x.1, 8), (r.1.current.pipe, 8), (1, 8), (0, 8), (r.1.current.dstX, 16),
      (r.1.current.dstY, 16), (r.1.current.dstW, 16), (r.1.current.dstH, 16)]) else s) s
  c.gens.foldl (fun s g => if g.2 = 0 then s else s.setEntry g.1 { s.entry g.1 with gen := g.2 }) s

/-- INST_RESTORE (R87, R512): its refusals in the order of R87. -/
def execInstRestore (p : Packet) (s : State) : Host.Outcome State Fault Refusal :=
  packet opInstRestore true p s fun s =>
    let n := instTarget p
    let img := s.hostBytes s.board.mgrPortInForce (p.u64 16) (p.u32 24)
    let sealed := bitOf (leNat ((img.drop 6).take 2)) 0
    let time := leNat ((img.drop 24).take 8)
    let able := s.sec.available && s.sec.key.isSome
    checks [(instHandle p && decide (p.length = 12) && decide (p.u64 16 % 64 = 0) && s.busMaster 0, .badParam),
        (decide (n ≠ 0) && !s.exists_ n, .busy), (imageCrcOk img, .badCrc), (!sealed || able, .secureUnavailable),
        (!sealed || Config.gcmOpens (s.sec.key.getD 0) img, .denied), (imageFormOk img, .badParam)]
      (match restoredContent img with
      | none => .fail .badParam []
      | some c =>
        checks [(s.imageUnits c, .noUnit), (s.imagePools n c, .quota), (s.imageFree n c, .busy),
            (!c.inst.safety || s.sec.available, .secureUnavailable)]
          (.done (((s.placeImage n time c).intend (hInst n) false 0).tickFree) .ok []))

/-! ### Wedged instances (R63, R594, R595) -/

/-- The place of an engine in the table of R592, for naming the wedging engine. -/
def engineOrder (h : Nat) : Nat :=
  match h / 256 with
  | 0x09 => h % 256
  | 0x08 => 256 + h % 256
  | 0x0D | 0x0F => 512
  | 0x17 => 768 + h % 256
  | 0x15 => 1024 + h % 256
  | 0x16 => 1280
  | 0x14 => 1536 + h % 256
  | _ => 2048 + h % 65536

/-- An engine counts as undrained only for work of the instance that it had started (R63). -/
def State.undrained (s : State) (n h : Nat) : Bool :=
  s.present h && (match h / 256 with
  | 0x09 => (match (s.cluster (h % 256)).work with
    | some (m, _) => decide (m = n)
    | none => false)
  | 0x08 => s.copy.any (fun j => decide (j.inst = n) && decide (j.engine = some (h % 256)))
  | 0x17 => decide ((s.inst n).streams ≠ 0)
  | 0x15 => bitOf (s.inst n).haptics (h % 256)
  | 0x14 => decide ((s.inst n).touchBufs ≠ 0)
  | _ => false)

/-- A wedged copy engine's other packets that have not started move, each whole, to the engine with the fewest queued
descriptors; a wedged cluster goes offline (R595). -/
def State.wedgeEngine (s : State) (n h : Nat) : State :=
  let s := s.setFact h 0x00F0
  match h / 256 with
  | 0x08 =>
    let e := h % 256
    (s.copy.filter (fun j => decide (j.engine = some e) && decide (j.inst ≠ n) && decide (j.descs.length = j.total))).foldl
      (fun s j => match s.chooseEngine with
        | some e' => s.setCopy (updFirst (fun k => decide (k = j)) (fun k => { k with engine := some e' }) s.copy)
        | none => s) s
  | 0x09 =>
    let s := s.updCluster (h % 256) (fun x => { x with offline := true, work := none, request := none })
    (s.raiseErr 0x3002 3 h 0xFF 0 0).moveReservation (h % 256)
  | _ => s

/-- The instance becomes WEDGED (R594): INST_WEDGED to the manager, then the record and the ST_WEDGED reply; its packets get
no reply, its holdings stay held, its events are withdrawn. -/
def State.wedge (s : State) (n : Nat) (engines : List Nat) : State :=
  let i := s.inst n
  let first := engines.headD 0
  let s := engines.foldl (fun s h => s.wedgeEngine n h) (s.updInst n (fun i => { i with state := .wedged }))
  let lost := (s.tp.accepted.filter (fun a => decide (a.p.inst = n) && s.unanswered a)).length
  let s := s.raise 0 0xA1 (hInst n) (detail [(n, 8), (0, 8), (first, 16), (s.err.nextSeqno, 32),
    ((s.devTime - i.stopped) / 1000, 32), (lost, 32)])
  let s := (s.voidPackets n).withdrawEvents n
  let s := s.setTp { s.tp with replies := s.tp.replies.filter (fun r => decide (r.inst ≠ n)) }
  let s := s.raiseErr 0x0002 3 (hInst n) n 0 first
  let s := s.updInst n (fun i => { i with drain := .none, cause := 3, wedge := first, waiting := none, freezeWaiting := none })
  let s := s.finishOpt i.freezeWaiting .wedged []
  s.finishOpt i.waiting .wedged []

/-- DRAIN_BOUND_EXPIRY (R63, R119, R595): with engines undrained the instance wedges; otherwise replies that wait for space
are discarded and it is QUIESCED, or FROZEN. -/
def execDrainBoundExpiry (n : Nat) (undrained : List Nat) (s : State) : Host.Outcome State Fault Refusal :=
  let i := s.inst n
  let es := sortBy (fun a b => decide (engineOrder a ≤ engineOrder b)) (undrained.filter (s.undrained n))
  onUnit s (hInst n) (
    if i.state ≠ .quiescing ∨ n = 0 then s
    else if !es.isEmpty then s.wedge n es.dedup
    else if i.drain = .freeze ∨ s.clustersIdle n = false then s
    else ((s.drainWork n).discardReplies n).enterQuiesced n)

/-- WEDGED_ENGINE_FREE (R595): the wedged instance's work on a copy engine has ended; its tokens stay held, and the engine
takes other work again. Number 255 stands for no engine. -/
def execWedgedEngineFree (unit : Nat) (s : State) : Host.Outcome State Fault Refusal :=
  onUnit s unit (
    if unit / 256 = 8 then
      s.setCopy (s.copy.map (fun j =>
        if decide (j.engine = some (unit % 256)) && decide ((s.inst j.inst).state = .wedged) then { j with engine := some 255 } else j))
    else s)

end Sys2Proof.Machine
end

