-- ==== Sys2Proof/Machine/Ports.lean ====
section
/-!
DEFINITION. Host ports and their functions (02 R46, R47, R81 to R85; 23 R636, R637): fences and their triggers, link
training, configuration requests.
-/

namespace Sys2Proof.Machine

open Sys2Proof

/-- INST_FENCED (R81). -/
def State.instFenced (s : State) (k trigger n : Nat) (frozen : Bool) : State :=
  s.raise 0 0x04 (hInst n) (detail [(k / 32, 4), (0, 4), (k % 32, 8), (trigger, 8), (n, 8), (b2n frozen, 32)])

/-- The manager's packets that came through its function are dropped without a reply (R85). -/
def State.dropManagerPackets (s : State) : State :=
  let mine (p : Packet) : Bool := decide (p.inst = 0) && (match p.src with
    | .sq _ _ _ => true
    | .mgmt _ => false)
  let lost := s.tp.accepted.filter (fun a => mine a.p && a.applied && s.unanswered a)
  s.setTp { s.tp with
    accepted := s.tp.accepted.filter (fun a => !mine a.p)
    replies := s.tp.replies.filter (fun r => decide (r.inst ≠ 0) || r.isMgmt)
    voided := s.tp.voided ++ lost.map (·.p) }

/-- Packets of a fenced instance: no reply is written any more (R81). -/
def State.muteInst (s : State) (n : Nat) : State :=
  let s := s.voidPackets n
  s.setTp { s.tp with replies := s.tp.replies.filter (fun r => decide (r.inst ≠ n)) }

/-- A fence event on one function (R81, R84, R85, R67): the manager is told, the instance quiesces with cause FENCE, the
function's registers return to their reset values (R104). A frozen instance stays frozen. -/
def State.fenceFn (s : State) (k trigger : Nat) : State :=
  if k = s.managerFn then ((s.instFenced k trigger 0 false).dropManagerPackets).resetFnRegs k
  else match s.boundTo k with
  | none => s.resetFnRegs k
  | some n =>
    let i := s.inst n
    let s := s.instFenced k trigger n (decide (i.state = .frozen))
    let s : State := match i.state with
      | .bound | .active => (s.muteInst n).stopIntake n .fence
      | .quiescing =>
        if i.drain = .freeze then (s.muteInst n).convertFreeze n .fence
        else (s.muteInst n).updInst n (fun i => { i with drain := .fence })
      | .frozen => s.updInst n (fun i => { i with frozen := i.frozen.map (fun f => { f with fn := none }) })
      | _ => s
    let s := if i.state = .frozen then s else s.withdrawEvents n
    s.resetFnRegs k

/-- The bits of a function's configuration space return to PCIe's reset values (PRESUMED, log 10). -/
def State.pcieReset (s : State) (k : Nat) : State :=
  s.updFn k (fun f => { f with
    busMaster := false, memorySpace := false, msixEnable := false, fnMask := false, msix := Tab.empty, pba := 0,
    cplTimeout := 0 })

/-- The functions that exist on a port. -/
def State.functionsOf (s : State) (port : Nat) : List Nat :=
  (List.range (s.board.member.vfs + 1)).filter (s.fnExists port)

/-- VF Enable and NumVFs change: the VFs that cease to exist are fenced (R47, R81). -/
def State.setVfs (s : State) (port : Nat) (enable : Bool) (num : Nat) : State :=
  let before := s.functionsOf port
  let q := s.ports.get port
  let s' := s.setPorts (s.ports.set port { q with vfEnable := enable, numVfs := num % 65536 })
  let gone := before.filter (fun f => !s'.fnExists port f)
  let t := gone.foldl (fun s f => (s.fenceFn (fnKey port f) 4).pcieReset (fnKey port f)) s
  t.setPorts (t.ports.set port { t.ports.get port with vfEnable := enable, numVfs := num % 65536 })

/-- Every function of a port is fenced, and the link is down (R85, R543). -/
def State.fencePort (s : State) (port trigger : Nat) : State :=
  let s := (s.functionsOf port).foldl (fun s f => (s.fenceFn (fnKey port f) trigger).pcieReset (fnKey port f)) s
  s.setPorts (s.ports.set port { s.ports.get port with vfEnable := false, numVfs := 0, linkUp := false, training := false })

/-- FUNCTION_LEVEL_RESET (R81, R83): the reset of a PF clears VF Enable as PCIe defines, so its VFs cease to exist (PRESUMED,
log 71). -/
def execFunctionLevelReset (port fn : Nat) (s : State) : Host.Outcome State Fault Refusal :=
  onPort s port (
    if !s.fnExists port fn then s
    else
      let k := fnKey port fn
      let s := (s.fenceFn k 2).pcieReset k
      if fn = 0 then s.setVfs port false 0 else s)

/-- Bus Master Enable of a function clears: a fence (R81). -/
def State.clearBusMaster (s : State) (k : Nat) : State :=
  if (s.fn k).busMaster then (s.fenceFn k 3).updFn k (fun f => { f with busMaster := false }) else s

/-- BUS_MASTER_ENABLE_CLEARED. -/
def execBusMasterEnableCleared (port fn : Nat) (s : State) : Host.Outcome State Fault Refusal :=
  onPort s port (if s.fnExists port fn then s.clearBusMaster (fnKey port fn) else s)

/-- VF_ENABLE_CLEARED: VF Enable and NumVFs as the host writes them. -/
def execVfEnableCleared (port : Nat) (enable : Bool) (numVfs : Nat) (s : State) : Host.Outcome State Fault Refusal :=
  onPort s port (s.setVfs port enable numVfs)

/-- PERST_N_ASSERTED (R85). -/
def execPerstNAsserted (port : Nat) (s : State) : Host.Outcome State Fault Refusal :=
  onPort s port (
    let s := s.fencePort port 1
    s.setPorts (s.ports.set port { s.ports.get port with perst := true }))

/-- PERST_N_DEASSERTED (R636): training starts once a reference has been selected. -/
def execPerstNDeasserted (port : Nat) (s : State) : Host.Outcome State Fault Refusal :=
  onPort s port (s.setPorts (s.ports.set port
    { s.ports.get port with perst := false, training := decide (s.boot.stage ≠ 0) && !(s.ports.get port).linkUp }))

/-- HOST_LINK_UP (R636). -/
def execHostLinkUp (port : Nat) (s : State) : Host.Outcome State Fault Refusal :=
  let q := s.ports.get port
  onPort s port (if q.training && !q.perst then s.setPorts (s.ports.set port { q with training := false, linkUp := true, fcDone := true }) else s)

/-- Training starts again where PERST_N is high and the port's own reference is healthy (R535, R636). -/
def State.retrainPort (s : State) (port : Nat) : State :=
  let q := s.ports.get port
  s.setPorts (s.ports.set port { q with training := !q.perst && !q.linkUp && (s.clocks.refs.get port).healthy })

/-- HOST_LINK_DOWN (R543, R545). -/
def execHostLinkDown (port : Nat) (s : State) : Host.Outcome State Fault Refusal :=
  onPort s port ((s.fencePort port 5).retrainPort port)

/-- CONFIG_REQUEST (R637): Request Retry Status before step 5, which changes nothing; served afterwards. What a read of
the configuration space returns is PCIe's. -/
def execConfigRequest (port fn : Nat) (field : CfgField) (value : Nat) (s : State) : Host.Outcome State Fault Refusal :=
  let k := fnKey port fn
  let on := bitOf value 0
  onPort s port (
    if decide (s.boot.stage < 4) || !s.fnExists port fn then s
    else match field with
    | .read => s
    | .busMaster => if on then s.updFn k (fun f => { f with busMaster := true }) else s.clearBusMaster k
    | .memorySpace => s.updFn k (fun f => { f with memorySpace := on })
    | .vfEnable => if fn = 0 then s.setVfs port on (s.ports.get port).numVfs else s
    | .numVfs => if fn = 0 then s.setVfs port (s.ports.get port).vfEnable value else s
    | .completionTimeout => s.updFn k (fun f => { f with cplTimeout := value % 32 })
    | .msixEnable => (s.updFn k (fun f => { f with msixEnable := on })).flushPba k
    | .functionMask => (s.updFn k (fun f => { f with fnMask := on })).flushPba k)

end Sys2Proof.Machine
end

