-- ==== Sys2Proof/Machine/Pools.lean ====
section
/-!
DEFINITION. The pools of R37 as the capability report and the bean counters see them: totals, holdings of each instance
and of the device, free units (01 R37 to R40; 05 R158; 21 R605).
-/

namespace Sys2Proof.Machine

open Sys2Proof

/-- Report buffers of a guest on all panels (R442). -/
def State.touchHeld (s : State) (n : Nat) : Nat :=
  ((List.range s.board.member.touchPanels).map (fun i => match s.area n i with
    | some a => popcount 64 a.held
    | none => 0)).sum

/-- Units of pool `i`, in the order of R37, that instance `n` holds. -/
def State.poolHeld (s : State) (i n : Nat) : Nat :=
  match i with
  | 0 => s.creditsHeld n
  | 2 => s.hopperHeld n
  | 3 => (s.inst n).blocks.length
  | 4 => (s.inst n).spadBlocks.length
  | 5 => (s.slotsOf n).length
  | 6 => s.tokensHeld n
  | 7 => s.touchHeld n
  | 8 => s.descsHeld n
  | 9 => s.hvHeld n
  | _ => 0

/-- Units that device-private holders have: blocks with the scrubber (R601), HV tokens of braking channels (R592). -/
def State.poolDevice (s : State) (i : Nat) : Nat :=
  match i with
  | 3 => (s.memc.zeroing.filter (fun b => !s.grantedBlocks.contains b)).length
  | 9 => s.hvDevice
  | _ => 0

/-- All instances. -/
def State.everyInst (s : State) : List Nat := List.range (s.board.member.instances + 1)

/-- TOTAL of a pool on the member (R37). -/
def State.poolTotal (s : State) (i : Nat) : Nat :=
  match i with
  | 0 => 1024
  | 1 => ((List.range s.board.member.ports).map (fun p => if (s.ports.get p).fcDone then Config.fcCredits p else 0)).sum
  | 2 => (s.everyInst.map (fun n => max (s.inst n).hopper (s.hopperHeld n))).sum
  | 3 => s.dramTotal
  | 4 => spadTotal
  | 5 => s.board.member.slots
  | 6 => 2048
  | 7 => 64 * s.board.member.touchPanels
  | 8 => 4096
  | 9 => if s.board.member.sense then 400 else 0
  | _ => 0

/-- Units held by all instances. -/
def State.poolSum (s : State) (i : Nat) : Nat := (s.everyInst.map (s.poolHeld i)).sum

/-- FREE: the total less what is held (R37). -/
def State.poolFree (s : State) (i : Nat) : Nat := s.poolTotal i - s.poolDevice i - s.poolSum i

/-- The sum of R37 holds: nothing is held beyond the total. -/
def State.poolBalanced (s : State) (i : Nat) : Bool :=
  decide (s.poolDevice i + s.poolSum i + s.poolFree i = s.poolTotal i)

/-- A guest's own quota of the matching kind (R158). -/
def State.poolQuota (s : State) (i n : Nat) : Nat :=
  let x := s.inst n
  match i with
  | 0 => x.credits
  | 2 => max x.hopper (s.hopperHeld n)
  | 3 => x.blocks.length
  | 4 => x.spadBlocks.length
  | 5 => (s.slotsOf n).length
  | 6 => x.tokens
  | 7 => x.touchBufs
  | 8 => x.descs
  | 9 => x.hvTokens
  | _ => 0

/-- The pools are formed at step 7 of the boot (R154, R631). -/
def State.poolsFormed (s : State) : Bool := decide (s.boot.stage = 6)

/-- TOTAL and FREE of a pool as the capability report shows them to an instance (R154, R158). -/
def State.poolFigures (s : State) (n i : Nat) : Nat × Nat :=
  if !s.poolsFormed then (0, 0)
  else if n = 0 then (s.poolTotal i, s.poolFree i)
  else (s.poolQuota i n, s.poolQuota i n - s.poolHeld i n)

end Sys2Proof.Machine
end

