-- ==== Sys2Proof/Machine/Device.lean ====
section
/-!
DEFINITION. The device packets of group 0x0 and the ledger's own events (01 R20 to R30; 05 R156 to R164; 21 R604, R605):
NOP, the capability report, reading the ledger, fetching events, port sizes, the order to reset, facts and sweeps.
-/

namespace Sys2Proof.Machine

open Sys2Proof

def opNop : Op := { code := 0x0001, mark := .a }
def opDeviceCaps : Op := { code := 0x0002, mark := .a }
def opLedgerRead : Op := { code := 0x0003, mark := .a }
def opEventFetch : Op := { code := 0x0004, mark := .m }
def opPortConfig : Op := { code := 0x0010, mark := .m }
def opDeviceReset : Op := { code := 0x0011, mark := .m }

/-- NOP (R156). -/
def execNop (p : Packet) (s : State) : Host.Outcome State Fault Refusal :=
  packet opNop true p s fun s =>
    checks [(decide (p.target = hDevice) && decide (p.length ≤ 4076), .badParam)] (.done s .ok p.words)

/-! ### The capability report (R157 to R159) -/

/-- The fields of `FN_CAPS` (R100) and CAPS (R157). -/
def capsField (m : Member) : Nat :=
  pack [(m.pipes, 4), (m.clusters, 5), (m.channels, 4), (m.instances, 5), (m.ports, 3), (m.touchChannels, 9),
    (m.haptics, 4), (m.videoSlots, 5), (m.graphicSlots, 6), (b2n m.zcGain, 1), (m.dsc, 4), (m.dptx, 3), (m.dsi, 2)]

/-- PORT_LANES: port 0 is a x4 port, the others are x2 (00, R636); absent ports read 0. -/
def laneField (m : Member) : Nat :=
  pack ((List.range 4).map (fun p => (if p < m.ports then (if p = 0 then 4 else 2) else 0, 4)))

/-- The 132 bytes of the report as instance `n` sees it. -/
def State.capsReport (s : State) (n : Nat) : List W32 :=
  let m := s.board.member
  [w32 (pack [(1, 16), (Config.memberCode m, 16)]), w32 (s.firmware.booted.get 2), w32 s.fwCupper,
    w32 (if m.sense then s.firmware.booted.get 4 else 0)] ++ w64 (capsField m) ++
  [w32 s.board.dramMiB, w32 (pack [(8533, 16), (m.slcWays, 8), (2, 8)]),
    w32 (pack [(m.bandMiB, 8), (8, 8), (m.gpuL2MiB, 8), (m.geoFrontEnds, 8)]),
    w32 (pack [(m.safeClusters, 8), (m.vfs, 8), (m.touchPanels, 8), (16, 8)]),
    w32 (pack [(m.clockDomains, 8), (s.board.mgrPortInForce, 4), (0, 4), (laneField m, 16)]),
    w32 (pack [(b2n m.zcGain, 1), (b2n m.sense, 1), (b2n s.sec.available, 1), (b2n s.sec.keyFused, 1),
      (b2n s.power.retained, 1)]), w32 10] ++
  (List.range 10).flatMap (fun i => [w32 (s.poolFigures n i).1, w32 (s.poolFigures n i).2])

/-- DEVICE_CAPS. -/
def execDeviceCaps (p : Packet) (s : State) : Host.Outcome State Fault Refusal :=
  packet opDeviceCaps true p s fun s =>
    checks [(decide (p.target = hDevice) && decide (p.length = 0), .badParam)] (.done s .ok (s.capsReport p.inst))

/-! ### LEDGER_READ (R160) -/

/-- Codes of LOOP_STATE. -/
def loopCode : Option Loop → Nat
  | none => 0
  | some l => match l.state with
    | .free => 1
    | .pinned => 2
    | .constrained => 3
    | .overridden => 4

/-- The owning instance of a unit; 0xFF where it is shared or not owned (02 R53). -/
def State.ownerOf (s : State) (h : Nat) : Nat :=
  let i := h % 256
  match h / 256 with
  | 0x02 => i
  | 0x0D => (s.slot i).holder.getD 0xFF
  | 0x13 => if (s.mon i).want.enable then (s.mon i).owner else 0xFF
  | 0x15 => (s.hapticOwner i).getD 0xFF
  | _ => 0xFF

/-- The PIPE_TIMING payload of a timing (R374). -/
def Timing.payload (t : Timing) : List W32 :=
  [w32 t.pclk, w32 (pack [(t.hact, 16), (t.hfp, 16)]), w32 (pack [(t.hsync, 16), (t.hbp, 16)]),
    w32 (pack [(t.vact, 16), (t.vfp, 16)]), w32 (pack [(t.vsync, 16), (t.vbp, 16)]),
    w32 (pack [(b2n t.hpos, 1), (b2n t.vpos, 1), (if t.pclk = 0 then 0 else t.lead, 3), (t.qwMode, 2), (0, 1), (t.qwGuard, 8)])]

/-- STATE codes of a pipe (R399), of a panel (R450) and of a clock domain (R550). -/
def PipeState.code : PipeState → Nat
  | .off => 0
  | .starting => 1
  | .run => 2
  | .blank => 3
  | .held => 4
  | .offline => 5

def TState.code : TState → Nat
  | .off => 0
  | .starting => 1
  | .scanning => 2
  | .paused => 3
  | .offline => 4

def DomState.code : DomState → Nat
  | .gated => 0
  | .running => 1
  | .bypass => 2
  | .offline => 3

/-- INTENT of a pipe: PIPE_TIMING's payload, then the PIPE_ENABLE word (R399). -/
def Pipe.intentWords (q : Pipe) : List W32 := q.want.payload ++ [w32 q.intent]

/-- FACT of a pipe (R399): the line at the read and the measured pixel clock are free (log 35); in HELD the clock is the
bypass, REF itself, and 0 is read while none runs. -/
def State.pipeFact (s : State) (k : Nat) : List W32 :=
  let q := s.pipe k
  [w32 q.state.code, w32 q.frame,
    w32 (pack [(if q.generating then Config.measure s.freeCtr (hPipe k) 0 else 0, 16), (q.timing.latch, 16)]),
    w32 (match q.state with
      | .run | .blank | .starting => Config.measure s.freeCtr (hPipe k) 2
      | .held => 100000
      | _ => 0)]

/-- FACT of a touch panel (R450). -/
def State.touchFact (s : State) (i : Nat) : List W32 :=
  let t := s.tp_ i
  [w32 (pack [(t.state.code, 3), (b2n t.ownWindows, 1), (b2n t.wet, 1), (b2n t.glove, 1), (b2n t.uncalibrated, 1), (0, 1),
    (t.faulty.length, 8), (t.rate16, 16)]), w32 t.frame]

/-- Payload words of a panel that nothing has configured read 0. -/
def orZeros (ws : List W32) (n : Nat) : List W32 := if ws.isEmpty then List.replicate n 0 else ws

/-- NOMINAL_KHZ of a clock domain (R532, R550), following the commands and loops of the units it clocks: throttling sets
GPU, FAB and BLEND (R568, R571), a pipe's timing its PIX domain, links and audio theirs. -/
def throttleKhz (level : Nat) : Nat × Nat × Nat :=
  let gpu := [1400, 1200, 1000, 800, 600].getD level 400
  let fab := if level ≤ 5 then 1600 else if level = 6 then 1200 else 800
  let blend := if level ≤ 7 then 1200 else if level = 8 then 1000 else 800
  (gpu * 1000, fab * 1000, blend * 1000)

def State.nominalKhz (s : State) (d : Nat) : Nat :=
  let m := s.board.member
  let level := s.loopOut hPower 0
  if d = 0 then 33
  else if d = 1 then 16000
  else if d = 2 ∨ d = 3 then 100000
  else if d = 4 then (throttleKhz level).2.1
  else if d = 5 then 500000
  else if d = 6 then (throttleKhz (max level s.power.gpuLevelV)).1
  else if d = 7 then (throttleKhz level).2.2
  else if d = 8 then 1066667
  else if d = 9 then 24576
  else if d = 10 then 22579
  else if d = 11 then s.audio.xrate / 1000
  else if d < m.domSense then 250000
  else if d < m.domPix then 48000
  else if d < m.domDpl then (s.pipe (d - m.domPix)).want.pclk
  else if d < m.domDsi then (s.links.unit.get (hDptx (d - m.domDpl))).mbps * 100
  else (s.links.unit.get (hDsi (d - m.domDsi))).mbps * 125

/-- The priority order of the references: from the strapped port on, absent ports skipped (R535). -/
def State.refOrder (s : State) : List Nat :=
  ((List.range 4).map (fun i => (s.board.refsel + i) % 4)).filter (fun p => decide (p < s.board.member.ports))

/-- HEALTH (R550). -/
def State.refHealth (s : State) : Nat := pack ((List.range 4).map (fun p => (b2n (s.clocks.refs.get p).healthy, 1)))

/-- FACT of a clock domain (R550); frequencies are measured (log 35). -/
def State.clockFact (s : State) (d : Nat) : List W32 :=
  let x := s.dom d
  let ref (v : Nat) : Nat := if d = 2 then v else 0
  [w32 (pack [(x.state.code, 8), (ref s.clocks.selected, 4), (ref s.refHealth, 4), (x.relocks, 16)]),
    w32 (Config.measure s.freeCtr (hClock d) 1), w32 x.losses]

/-- WAKE_STATUS (R566). -/
def Wake.word (w : Wake) : Nat :=
  pack [(b2n w.vreg, 1), (b2n w.osc, 1), (b2n w.memRdy, 1), (b2n w.logic, 1), (w.last, 2), (0, 2), (w.source, 4),
    (w.arg, 4), (w.wakeTime, 16)]

/-- INTENT words of an entry; free where no chapter lays them out (log 74). -/
def State.intentWords (s : State) (h : Nat) : List W32 :=
  let i := h % 256
  match h / 256 with
  | 0x0F => (s.pipe i).intentWords
  | 0x14 => orZeros (s.tp_ i).cfg.words 5 ++ orZeros ((s.tp_ i).modeNext.getD (s.tp_ i).mode).words 11
  | 0x1A => [w32 (if i = 2 then s.refOrder.headD 0 else s.nominalKhz i)]
  | _ => Config.ledgerWords s.freeCtr h 0

/-- FACT words of an entry: the running versions in the device entry (R613), WAKE_STATUS in the power control entry (R566). -/
def State.factWords (s : State) (h : Nat) : List W32 :=
  let i := h % 256
  match h / 256 with
  | 0x00 => (List.range 7).map (fun u => w32 (s.firmware.running.get (u + 1)))
  | 0x0F => s.pipeFact i
  | 0x14 => s.touchFact i
  | 0x1A => s.clockFact i
  | 0x1B => w32 s.power.wake.word :: Config.ledgerWords s.freeCtr h 1
  | _ => Config.ledgerWords s.freeCtr h 1

/-- The RESULT of LEDGER_READ. -/
def State.ledgerResult (s : State) (h loop : Nat) : List W32 :=
  let e := s.entry h
  let i := s.intentWords h
  let f := s.factWords h
  [e.gen, w32 (pack [(e.agree.code, 2), (loopCode (s.loop h loop), 3), (0, 3), (s.ownerOf h, 8), (e.fact, 16)]),
    w32 (pack [(4 * i.length, 16), (4 * f.length, 16)])] ++ i ++ f

/-- LEDGER_READ. -/
def execLedgerRead (p : Packet) (s : State) : Host.Outcome State Fault Refusal :=
  packet opLedgerRead true p s fun s =>
    checks [(decide (p.length = 4) && decide (p.fld 16 8 24 = 0), .badParam)]
      (.done s.tickFree .ok (s.ledgerResult p.target (p.u8 16)))

/-! ### EVENT_FETCH (R161) -/

/-- The records of instance 0 that have arisen join the queue of the manager's function (R142, R150). -/
def State.settleManager (s : State) : State :=
  let k := s.managerFn
  let mine := s.tp.raised.filter (fun r => decide (r.inst = 0))
  mine.foldl (fun s r => s.maskOrDeliver k r)
    (s.setTp { s.tp with raised := s.tp.raised.filter (fun r => decide (r.inst ≠ 0)) })

/-- EVENT_FETCH: up to MAX held records, then the EVENTS_LOST that is due after the last of them. -/
def execEventFetch (p : Packet) (s : State) : Host.Outcome State Fault Refusal :=
  packet opEventFetch true p s fun s =>
    let max := p.fld 16 0 8
    checks [(decide (p.target = hDevice) && decide (p.length = 4) && decide (p.fld 16 8 24 = 0) && decide (1 ≤ max) &&
        decide (max ≤ 64), .badParam)]
      (let s := s.settleManager
       let k := s.managerFn
       let f := s.fn k
       let due : List EvRec := if f.lost = 0 then [] else [eventsLost 0 s.devTime f.lost f.lostCode 0]
       let all := f.holding ++ due
       let got := all.take max
       let tookLost := decide (f.holding.length < got.length)
       let s := s.updFn k (fun f => { f with
         holding := f.holding.drop max
         lost := if tookLost then 0 else f.lost })
       .done s .ok (w32 (pack [(got.length, 8), (all.length - got.length, 8)]) :: got.flatMap (fun r => bytesWords r.bytes)))

/-! ### PORT_CONFIG (R163, R48) -/

/-- A size byte: 0 leaves the size as it is. -/
def sizeByteOk (lo hi v : Nat) : Bool := decide (v = 0) || (decide (lo ≤ v) && decide (v ≤ hi))

/-- The size after the byte. -/
def newSize (old v : Nat) : Nat := if v = 0 then old else v

/-- PORT_CONFIG: the word is applied as one step. -/
def execPortConfig (p : Packet) (s : State) : Host.Outcome State Fault Refusal :=
  packet opPortConfig true p s fun s =>
    let k := p.target % 256
    let q := s.ports.get k
    let pf := p.u8 16
    let vf := p.u8 17
    let pf4 := p.u8 18
    let vf4 := p.u8 19
    checks [(decide (p.target / 256 = 0x01) && decide (p.length = 4) && sizeByteOk 26 32 pf && sizeByteOk 26 32 vf &&
          sizeByteOk 12 20 pf4 && sizeByteOk 12 20 vf4, .badParam),
        ((decide (vf = 0) && decide (vf4 = 0)) || !q.vfEnable, .busy),
        ((decide (pf = 0) && decide (pf4 = 0)) || !(s.fn (fnKey k 0)).memorySpace, .busy)]
      (let q' : Port := { q with
         bar2Pf := newSize q.bar2Pf pf
         bar2Vf := newSize q.bar2Vf vf
         bar4Pf := newSize q.bar4Pf pf4
         bar4Vf := newSize q.bar4Vf vf4 }
       .done ((s.setPorts (s.ports.set k q')).intend p.target false p.inst) .ok [])

/-! ### DEVICE_RESET (R164) -/

/-- DEVICE_RESET: the reply, then no further packet is accepted; the full reset (FULL_RESET) follows. -/
def execDeviceReset (p : Packet) (s : State) : Host.Outcome State Fault Refusal :=
  packet opDeviceReset true p s fun s =>
    checks [(decide (p.target = hDevice) && decide (p.length = 8) && decide (p.u32 16 = 0x52535430) &&
        decide (p.fld 20 1 31 = 0), .badParam)]
      (if s.err.resetWanted then .done s .ok []
       else .done (s.setErr { s.err with resetWanted := true, resetCause := 4, causeSeqno := 0, retainDisplay := p.flag 20 0 })
         .ok [])

/-! ### Facts (R21, R26, R27, R604) -/

/-- LEDGER_FACT: a fact contradicts the unit's intention, or replaces the one that does (R26, R29). -/
def execLedgerFact (unit fact : Nat) (s : State) : Host.Outcome State Fault Refusal :=
  onUnit s unit (if fact = 0 then s else s.setFact unit fact)

/-- LEDGER_FACT_CLEARED (R27). -/
def execLedgerFactCleared (unit : Nat) (s : State) : Host.Outcome State Fault Refusal := onUnit s unit (s.clearFact unit)

/-- SETTLED (R21). -/
def execSettled (unit : Nat) (s : State) : Host.Outcome State Fault Refusal := onUnit s unit (s.settle unit)

/-- The ledger's entry differs from a fact that the hardware shows (0 for none). -/
def State.factDiffers (s : State) (unit fact : Nat) : Bool :=
  s.present unit && (if fact = 0 then decide ((s.entry unit).agree = .contradicted) else
    !(decide ((s.entry unit).agree = .contradicted) && decide ((s.entry unit).fact = fact)))

/-- A difference is applied, and a LEDGER_RESYNC record names the unit (R604). -/
def State.resyncOne (s : State) (unit fact : Nat) : State :=
  if s.factDiffers unit fact then
    (if fact = 0 then s.clearFact unit else s.setFact unit fact).raiseErr 0x0005 0 unit 0xFF 0 0
  else s

/-- A fact sweep. -/
def State.resync (s : State) (facts : List (Nat × Nat)) : State := facts.foldl (fun s f => s.resyncOne f.1 f.2) s

/-- LEDGER_RESYNC: every 100 ms. -/
def execLedgerResync (facts : List (Nat × Nat)) (s : State) : Host.Outcome State Fault Refusal := .next (s.resync facts)

/-! ### The bean counters' sweep (R605) -/

/-- BEAN_MISMATCH of a pool found by a sweep; the holder, its count and the recount are what the sweep found (log 76). -/
def State.beanMismatch (s : State) (pool : Nat) : State :=
  let f (k : Nat) : Nat := Config.measure s.freeCtr pool k
  s.tickFree.raiseErr 0x0001 4 hDevice 0xFF 0
    (detail [(pool, 8), (f 0, 8), (2, 8), (0, 8), (s.poolTotal pool, 32), (f 1, 32), (f 2, 32), (f 3, 32)])

/-- A sweep: it counts, and each pool whose counts do not agree is a fault. -/
def State.beanSweep (s : State) (mismatched : List Nat) : State :=
  (mismatched.filter (fun i => decide (i < 10))).foldl (fun s i => s.beanMismatch i)
    (s.setErr { s.err with audits := (s.err.audits + 1) % 2 ^ 32 })

/-- BEAN_SWEEP: every 1 ms; also a pool whose own figures do not balance is a mismatch. -/
def execBeanSweep (mismatched : List Nat) (s : State) : Host.Outcome State Fault Refusal :=
  .next (s.beanSweep (mismatched ++ (List.range 10).filter (fun i => !s.poolBalanced i && !mismatched.contains i)))

end Sys2Proof.Machine
end

