-- ==== Sys2Proof/Machine/Sense.lean ====
section
/-!
DEFINITION. The die-to-die link (01 R12 to R15): its frames, its loss as each die declares it, and its return, when the
sense die is configured again from the ledger.
-/

namespace Sys2Proof.Machine

open Sys2Proof

/-- D2D_FRAME (R13): the main die, or the sense die, receives a frame and checks it. -/
def execD2dFrame (main valid : Bool) (s : State) : Host.Outcome State Fault Refusal :=
  onUnit s hD2d (
    let t := s.touch
    if main then s.setTouch { t with
      d2dBad := if valid then 0 else t.d2dBad + 1
      d2dSeen := if valid then s.devTime else t.d2dSeen }
    else s.setTouch { t with senseBad := if valid then 0 else t.senseBad + 1 })

/-- What the sense die does by itself when it declares the link lost (R14): drives and boost off, scans stopped. -/
def State.senseLost (s : State) : State :=
  let s := (s.setTouch { s.touch with senseUp := false }).dropAllDrives 5
  (List.range s.board.member.touchPanels).foldl (fun s i =>
    if (s.tp_ i).cfg.enable then s.stopPanel i 4 .offline else s) s

/-- What the main die does when it declares the link lost (R15): the record, and LINK_OFFLINE on every panel (0x0001),
channel (0x0004) and the boost (0x0002). -/
def State.mainLost (s : State) : State :=
  let s := (s.setTouch { s.touch with d2dUp := false }).raiseErr 0x0004 3 hD2d 0xFF 0 0
  let s := (List.range s.board.member.touchPanels).foldl (fun s i => s.setFact (hTouch i) 0x0001) s
  let s := (List.range s.board.member.haptics).foldl (fun s i => s.setFact (hHaptic i) 0x0004) s
  s.setFact hBoost 0x0002

/-- D2D_LINK_LOST: 16 us without a valid frame, or the eighth failing one, at one die. -/
def execD2dLinkLost (main : Bool) (s : State) : Host.Outcome State Fault Refusal :=
  onUnit s hD2d (
    if main then (if s.touch.d2dUp then s.mainLost else s)
    else if s.touch.senseUp then s.senseLost else s)

/-- D2D_LINK_RETRY (R15): an attempt, every 100 ms while the link is down; the counts of failing frames start afresh.
Its success is D2D_LINK_UP. -/
def execD2dLinkRetry (s : State) : Host.Outcome State Fault Refusal :=
  onUnit s hD2d (
    if s.touch.d2dUp && s.touch.senseUp then s else s.setTouch { s.touch with d2dBad := 0, senseBad := 0 })

/-- An offline fact clears, where it is the one that stands. -/
def State.clearFactIf (s : State) (h fact : Nat) : State :=
  if (s.entry h).fact = fact then s.clearFact h else s

/-- D2D_LINK_UP (R15, R612): the sense-die image is loaded again from the preferred slot, its configuration from the
ledger's intentions; panels start under Power-up, and armed regions bring the boost back. -/
def execD2dLinkUp (s : State) : Host.Outcome State Fault Refusal :=
  onUnit s hD2d (
    let f := s.firmware
    let i := b2n (bitOf f.prefB 4)
    let i := if (f.slots.get (8 + i)).good then i else 1 - i
    if s.touch.d2dUp && s.touch.senseUp || !(f.slots.get (8 + i)).good then s
    else
      let s := s.setTouch { s.touch with d2dUp := true, senseUp := true, d2dBad := 0, senseBad := 0, d2dSeen := s.devTime }
      let s := s.setFirmware { f with running := f.running.set 4 (f.slots.get (8 + i)).version }
      let s := (List.range s.board.member.touchPanels).foldl (fun s i =>
        let s := s.clearFactIf (hTouch i) 0x0001
        if (s.tp_ i).cfg.enable then s.updTp i (fun t => { t with state := .starting }) else s.settle (hTouch i)) s
      let s := (List.range s.board.member.haptics).foldl (fun s i =>
        (s.clearFactIf (hHaptic i) 0x0004).settle (hHaptic i)) s
      ((s.clearFactIf hBoost 0x0002).settle hBoost).boost)

end Sys2Proof.Machine
end

