-- ==== Sys2Proof/Machine/Clocks.lean ====
section
/-!
DEFINITION. References and PLLs (19): failover, degraded mode and the way back, the checks of the slow oscillators, loss of
lock and relock of each domain.
-/

namespace Sys2Proof.Machine

open Sys2Proof

/-! ### Events (R551) -/

/-- The REF domain's handle. -/
def hRef : Nat := hClock 2

/-- CLOCK_REF to the manager. -/
def State.clockRef (s : State) (cause port khz : Nat) : State :=
  s.raise 0 0x9C hRef (detail [(cause, 8), (s.clocks.selected, 8), (port, 8), (0, 8), (khz, 32), (s.refHealth, 4)])

/-- CLOCK_PLL to the manager; the frequency is measured (log 35). -/
def State.clockPll (s : State) (d cause : Nat) : State :=
  s.tickFree.raise 0 0x9D (hClock d) (detail [(d, 8), (cause, 8), ((s.dom d).relocks, 8), (0, 8),
    (Config.measure s.freeCtr (hClock d) 2, 32)])

/-- A reference is healthy. -/
def State.refOk (s : State) (port : Nat) : Bool :=
  decide (port < s.board.member.ports) && (s.clocks.refs.get port).healthy

/-- Mark a reference. -/
def State.setRef (s : State) (port : Nat) (ok : Bool) : State :=
  s.setClocks { s.clocks with refs := s.clocks.refs.set port { healthy := ok, since := s.devTime } }

/-! ### Holdover (R538) -/

/-- The internal PLLs: those of FAB to AUDB, SENSE, the pixel clocks and the display PHYs; AUDX and the host PHYs have their
own sources (R532). -/
def internalPll (m : Member) (d : Nat) : Bool :=
  (decide (4 ≤ d) && decide (d ≤ 10)) || (decide (m.domSense ≤ d) && decide (d < m.clockDomains))

/-- Every internal PLL enters or leaves holdover. -/
def State.setHoldover (s : State) (b : Bool) : State :=
  ((List.range s.board.member.clockDomains).filter (internalPll s.board.member)).foldl
    (fun s d => s.updDom d (fun x => { x with holdover := b })) s

/-- PLL_HOLDOVER: the selected reference shows no edge. -/
def execPllHoldover (port : Nat) (s : State) : Host.Outcome State Fault Refusal :=
  onPort s port (if s.clocks.selected = port then s.setHoldover true else s)

/-! ### Failure of references (R536, R540 to R544) -/

/-- WARMRC_FAULT (R539): monitoring is suspended and the selected reference kept. -/
def State.warmrcFault (s : State) : State :=
  if s.clocks.suspended then s
  else
    (((s.setClocks { s.clocks with suspended := true }).setFact (hClock 1) 6).raiseErr 0x9005 3 (hClock 1) 0xFF 0 0).clockRef
      7 0 0

/-- The first-priority port is selected: the REF entry leaves CONTRADICTED (R544, R27). -/
def State.settleRef (s : State) : State :=
  if some s.clocks.selected = s.refOrder.head? then (s.clearFact hRef).settle hRef else s

/-- The ports whose own reference has failed lose their links (R543). -/
def State.dropDeadPorts (s : State) : State :=
  (List.range s.board.member.ports).foldl (fun s p =>
    let q := s.ports.get p
    if (q.linkUp || q.training) && !s.refOk p then s.fencePort p 5 else s) s

/-- The selected reference has failed: failover (R541), or degraded mode where no other is healthy (R542). -/
def State.failover (s : State) (port khz : Nat) : State :=
  match s.refOrder.find? s.refOk with
  | some p =>
    let s := ((s.setClocks { s.clocks with selected := p }).setHoldover false).edge 1
    let s := ((s.setFact hRef 1).raiseErr 0x9001 1 hRef 0xFF 0 0).count 8 2 3
    (s.clockRef 1 port khz).settleRef
  | none =>
    let s := ((s.setClocks { s.clocks with selected := 0xF, degraded := true }).setHoldover false).edge 1
    let s := ((s.setFact hRef 2).raiseErr 0x9002 3 hRef 0xFF 0 0).count 8 2 3
    (s.clockRef 5 port khz).dropDeadPorts

/-- WARMRC's count over 3 cycles of WARM32 deviates by more than 3 % (46,875 / 32 counts nominal; R540). -/
def warmrcShortBad (counts : Nat) : Bool :=
  decide (100 * 32 * counts + 3 * 46875 < 100 * 46875) || decide (103 * 46875 < 100 * 32 * counts)

/-- Every healthy reference fails in one window, with errors of one sign (R540). -/
def State.commonFailure (s : State) (failed : List (Nat × Nat)) : Bool :=
  (List.range s.board.member.ports).all (fun p => !s.refOk p || failed.any (fun f => decide (f.1 = p))) &&
    (failed.all (fun f => decide (f.2 < 90000)) || failed.all (fun f => decide (110000 < f.2)))

/-- REFCLK_FAIL: references whose window left its range, each with its measured frequency in kHz (0: missing); `warmrc` is
the count of the check of R540. -/
def execRefclkFail (failed : List (Nat × Nat)) (warmrc : Nat) (s : State) : Host.Outcome State Fault Refusal :=
  let bad := failed.filter (fun f => s.refOk f.1)
  .next (
    if s.clocks.suspended || bad.isEmpty then s
    else if s.commonFailure bad && !s.clocks.xtalLost && warmrcShortBad warmrc then s.warmrcFault
    else
      let s := bad.foldl (fun s f => s.setRef f.1 false) s
      let s := (bad.filter (fun f => decide (f.1 ≠ s.clocks.selected))).foldl (fun s f => s.clockRef 2 f.1 f.2) s
      match bad.find? (fun f => decide (f.1 = s.clocks.selected)) with
      | some f => s.failover f.1 f.2
      | none => s)

/-- REFCLK_HEALTHY (R536, R544): 16 healthy windows. -/
def execRefclkHealthy (port khz : Nat) (s : State) : Host.Outcome State Fault Refusal :=
  onPort s port (
    if s.refOk port || s.clocks.suspended then s
    else ((s.setRef port true).clockRef 3 port khz).retrainPort port)

/-- The place of a reference in the priority order. -/
def State.refRank (s : State) (port : Nat) : Nat := s.refOrder.idxOf port

/-- REF_SWITCH_BACK (R544): in degraded mode to the first healthy reference; else to one of higher priority that has been
healthy for 1 s. Leaving degraded mode for another than the first-priority port leaves REF_FAILOVER (log 77). -/
def execRefSwitchBack (port : Nat) (s : State) : Host.Outcome State Fault Refusal :=
  onPort s port (
    if !s.refOk port then s
    else if s.clocks.degraded then
      if s.refOrder.find? s.refOk = some port then
        let s := (s.setClocks { s.clocks with selected := port, degraded := false }).setHoldover false
        let s := s.clockRef 6 port 100000
        if some port = s.refOrder.head? then s.settleRef else s.setFact hRef 1
      else s
    else if s.refRank port < s.refRank s.clocks.selected then
      ((s.setClocks { s.clocks with selected := port }).clockRef 4 port 100000).settleRef
    else s)

/-! ### The slow oscillators (R539) -/

/-- WARMRC_CHECK: the count over 32 cycles of WARM32, 15,625 nominal; a passing check ends the fault. -/
def execWarmrcCheck (counts : Nat) (s : State) : Host.Outcome State Fault Refusal :=
  .next (
    if decide (100 * counts + 3 * 15625 < 100 * 15625) || decide (103 * 15625 < 100 * counts) then s.warmrcFault
    else if s.clocks.suspended then
      ((s.setClocks { s.clocks with suspended := false }).clearFact (hClock 1)).settle (hClock 1)
    else s)

/-- XTAL_LOST: WARM32 shows no edge for 1 ms. -/
def execXtalLost (s : State) : Host.Outcome State Fault Refusal :=
  .next (if s.clocks.xtalLost then s
    else ((s.setClocks { s.clocks with xtalLost := true }).setFact (hClock 0) 5).raiseErr 0x9006 0 (hClock 0) 0xFF 0 0)

/-! ### Loss of lock (R545, R546) -/

/-- What a domain clocks, by its index (R533). -/
inductive DomKind where
  | fixed | fab | engine | memc | sense | host (port : Nat) | pix (pipe : Nat) | link (h : Nat)
deriving DecidableEq, Repr

def domKind (m : Member) (d : Nat) : DomKind :=
  if d < 4 ∨ d = 11 then .fixed
  else if d = 4 ∨ d = 5 then .fab
  else if d = 8 then .memc
  else if d < 11 then .engine
  else if d < m.domSense then .host (d - 12)
  else if d < m.domPix then .sense
  else if d < m.domDpl then .pix (d - m.domPix)
  else if d < m.domDsi then .link (hDptx (d - m.domDpl))
  else .link (hDsi (d - m.domDsi))

/-- The sense die without its clock (R545, R14, R447). -/
def State.senseStopped (s : State) : State :=
  (List.range s.board.member.touchPanels).foldl (fun s i =>
    if (s.tp_ i).cfg.enable then s.stopPanel i 4 .paused else s) (s.dropAllDrives 5)

/-- The sense die has its clock again: panels start under Power-up, armed regions bring the boost back. -/
def State.senseStarted (s : State) : State :=
  ((List.range s.board.member.touchPanels).foldl (fun s i =>
    if (s.tp_ i).cfg.enable ∧ (s.tp_ i).state = .paused then s.updTp i (fun t => { t with state := .starting }) else s) s).boost

/-- PLL_FAB feeds FAB and CUP: one loss, one record (R545, R581). -/
def State.fabLost (s : State) : State :=
  let s := (s.domLost 4).domLost 5
  let s := s.updDom 5 (fun x => { x with logged := true })
  let s := (s.clockPll 4 1).clockPll 5 1
  if s.clocks.degraded then (s.updDom 4 (fun x => { x with logged := true })).raiseErr 0x9003 4 (hClock 4) 0xFF 0 0 else s

/-- PLL_UNLOCK: by the table of R545. A domain without a PLL of its own, or already out of lock, is not concerned. -/
def execPllUnlock (domain : Nat) (s : State) : Host.Outcome State Fault Refusal :=
  onUnit s (hClock domain) (
    let lost (s : State) : State := (s.domLost domain).clockPll domain 1
    if decide ((s.dom domain).state ≠ .running) then s
    else match domKind s.board.member domain with
    | .fixed => s
    | .fab => s.fabLost
    | .engine => lost s
    | .memc => ((lost s).updDom domain (fun x => { x with logged := true })).raiseErr 0x9004 4 (hClock domain) 0xFF 0 0
    | .sense => (lost s).senseStopped
    | .host p => (lost s).fencePort p 5
    | .pix q => s.pixLost q
    | .link h => (lost s).linkDown h)

/-- An attempt of PLL_FAB: three, then FATAL. -/
def State.fabAttempt (s : State) (locked : Bool) : State :=
  if (s.dom 4).state ≠ .bypass then s
  else
    let s := (s.domAttempt 4).domAttempt 5
    if locked then (((s.domRelocked 4).domRelocked 5).clockPll 4 2).clockPll 5 2
    else if (s.dom 4).relocks < 3 then s
    else (s.updDom 4 (fun x => { x with logged := true })).raiseErr 0x9003 4 (hClock 4) 0xFF 0 0

/-- PLL_RELOCK_ATTEMPT (R545, R546). The record of a loss gets its outcome at the first failed attempt, SENSE's at its
third (R581). -/
def execPllRelockAttempt (domain : Nat) (locked : Bool) (s : State) : Host.Outcome State Fault Refusal :=
  onUnit s (hClock domain) (
    let attempt (tries : Nat) (back : State → State) : State :=
      if (s.dom domain).state ≠ .bypass then s
      else
        let s := s.domAttempt domain
        if locked then back ((s.domRelocked domain).clockPll domain 2)
        else if (s.dom domain).relocks < tries then s
        else s.domRetrying domain
    match domKind s.board.member domain with
    | .fixed | .memc => s
    | .fab => s.fabAttempt locked
    | .engine => attempt 1 id
    | .sense => attempt 3 State.senseStarted
    | .host p => attempt 1 (fun s => s.retrainPort p)
    | .pix q => if (s.pipe q).state = .offline then s.pixRetry q locked else s.pixAttempt q locked
    | .link h => attempt 1 (fun s => s.updLink h (fun u => { u with training := u.cfg.enable && (u.hpd || isDsi h) })))

end Sys2Proof.Machine
end

