-- ==== Sys2Proof/Machine/Reset.lean ====
section
/-!
DEFINITION. Shedding the load and the full reset (20 R562, R573; 21 R597 to R602): what a full reset leaves, and what
Warmer retention, the flash and the fuses carry across it.
-/

namespace Sys2Proof.Machine

open Sys2Proof

/-- The load is shed (R573, step 2): drives stop without braking and the boost is off; clocks, pixels, backlights and TDM
outputs are held off while `shed` stands. -/
def State.shedLoad (s : State) : State :=
  let s := s.dropAllDrives 5
  s.setPower { s.power with shed := true }

/-- A pipe as the display configuration area restores it (R562): its timing and its intention. -/
def Pipe.retain (q : Pipe) : Pipe :=
  { Pipe.reset with timing := q.want, intent := q.intent }

/-- A link as the area restores it: its settings, routes, attributes and panel; HPD is a pin. -/
def LinkUnit.retain (u : LinkUnit) : LinkUnit :=
  let stream (t : Stream) : Stream := { Stream.reset with route := t.route, attr := t.attrNext.getD t.attr }
  { LinkUnit.reset with
    cfg := u.cfg, hpd := u.hpd, stream0 := stream u.stream0, stream1 := stream u.stream1,
    panel := { Panel.reset with cfg := u.panel.cfg, on := u.panel.on, duty := u.panel.duty, freq := u.panel.freq } }

/-- A DSC encoder, a colour stage and a region monitor as the area restores them. -/
def Dsc.retain (d : Dsc) : Dsc := { Dsc.reset with next := some (d.next.getD d.cur) }
def Colour.retain (c : Colour) : Colour :=
  { Colour.reset with tone := c.toneNext.getD c.tone, lut := c.lutNext.getD c.lut }
def Mon.retain (m : Mon) : Mon := { Mon.reset with cfg := m.want, owner := m.owner }

/-- The display configuration, or nothing of it where the area is not valid (R562, R602). -/
def State.retainDisplay (s old : State) (keep : Bool) : State :=
  let m := old.board.member
  let links := (List.range m.dptx).map hDptx ++ (List.range m.dsi).map hDsi
  if keep then
    let s := (List.range m.pipes).foldl (fun s i => s.updPipe i (fun _ => (old.pipe i).retain)) s
    let s := (List.range m.pipes).foldl (fun s i => s.updStage i (fun _ => (old.stage i).retain)) s
    let s := (List.range (16 * m.pipes)).foldl (fun s i => s.updMon i (fun _ => (old.mon i).retain)) s
    let s := links.foldl (fun s h => s.updLink h (fun _ => (old.link h).retain)) s
    s.setLinks { s.links with
      dsc := (List.range m.dsc).foldl (fun t i => t.set i (old.links.dsc.get i).retain) s.links.dsc }
  else links.foldl (fun s h => s.updLink h (fun u => { u with hpd := (old.link h).hpd })) s

/-- The display configuration survives: always while the area is valid, except after a DEVICE_RESET that does not ask for
it (R602). -/
def State.keepsDisplay (s : State) (cause : Nat) : Bool :=
  s.power.retained && (decide (cause ≠ 4) || s.err.retainDisplay)

/-- The error queue across a full reset (R590): PRIOR everywhere; a power-on or a Shelf exit empties it. -/
def State.errAfter (s : State) (cause : Nat) : Err :=
  let e := s.err
  let cold := decide (cause = 1) || decide (cause = 2)
  let wdog := decide (cause = 5) || decide (cause = 6)
  let recent := (e.recent.filter (fun t => decide (s.power.rtcNs ≤ t + 60000000000))) ++ (if wdog then [s.power.rtcNs] else [])
  { Err.reset with
    queue := if cold then [] else e.queue.map (fun r => { r with prior := true })
    lost := if cold then 0 else e.lost
    nextSeqno := if cold then 1 else e.nextSeqno
    resetCause := cause
    causeSeqno := if wdog then e.causeSeqno else 0
    resets := if cause = 1 then 0 else e.resets + 1
    byCause := e.byCause.upd cause (· + 1)
    recent := recent
    held := wdog && decide (3 ≤ recent.length) }

/-- The power control unit across a full reset: the RTC, the settings and the refusal log in the standing area, the sag
records and pins stay (R562, R567, R598); the ready bits of WAKE_STATUS clear. -/
def State.powerAfter (s : State) (keep : Bool) : Power :=
  let w := s.power
  { Power.reset with
    rtcNs := w.rtcNs, refusals := w.refusals, overflow := w.overflow, recent := w.recent, retained := keep,
    resetPin := w.resetPin, tripped := w.tripped, cfg := w.cfg, temps := w.temps, vddMv := w.vddMv,
    wake := { w.wake with vreg := false, osc := false, memRdy := false, logic := false }
    sag := { w.sag with sag := none, sagFatal := false } }

/-- The preference mask once the selections of R618 have taken effect. -/
def Firmware.preferred (f : Firmware) : Nat :=
  ((List.range 8).map (fun u => match f.selected.get u with
    | some i => if i = 1 then 2 ^ u else 0
    | none => if bitOf f.prefB u then 2 ^ u else 0)).sum

/-- Firmware and flash across a full reset: nothing runs, the staging is lost, a selected slot is preferred (R613, R618,
R619). -/
def Firmware.afterReset (f : Firmware) : Firmware :=
  { f with
    prefB := f.preferred, selected := Tab.empty, running := Tab.empty, booted := Tab.empty, deferred := Tab.empty,
    parts := [], refill := none }

/-- Region 1 by default: the capacity that region 0 leaves, on all channels (06 Interleave regions, R170). -/
def defaultRegions (b : Board) : List MemRegion :=
  [{ chmask := 2 ^ b.member.channels - 1, grain := 12, ecc := false, retain := false, sizeMiB := b.dramMiB - 256 }, .empty,
    .empty]

/-- The full reset sequence, steps 1 to 5 (R598): every unit but the Warmer is held in reset and DEV_TIME is 0. Links
are down and BAR0 of every function is at its reset values; PERST_N and HPD are pins. Blocks that instances held pass
to the scrubber (R601). Cause WATCHDOG is kept by the Warmer; DEBUG ends (R519, R524; log 78). The host's memory
and the queue of commands are outside. -/
def State.fullReset (s : State) (cause : Nat) : State :=
  let keep := s.keepsDisplay cause
  let cold := decide (cause = 1) || decide (cause = 2)
  let e := s.errAfter cause
  let total := ((defaultRegions s.board).map MemRegion.blocks).sum
  let scrub := if cold then [] else (s.grantedBlocks ++ s.memc.zeroing).dedup.filter (fun b => decide (b < total))
  let t : State := { State.reset with
    pending := s.pending
    board := s.board
    freeCtr := s.freeCtr
    hostMem := s.hostMem
    bus := s.bus
    ports := (List.range s.board.member.ports).foldl (fun t p =>
      t.set p { Port.reset with perst := (s.ports.get p).perst }) Tab.empty
    memc := { Memc.reset with zeroing := scrub, regions := defaultRegions s.board }
    err := e
    power := s.powerAfter keep
    firmware := s.firmware.afterReset
    sec := { Sec.reset with
      keyFused := s.sec.keyFused, fuseDebug := s.sec.fuseDebug, alarms := s.sec.alarms.filter (fun a => decide (a.1 = 3)) }
    boot := { Boot.reset with
      lastCause := cause, stage := if e.held then 15 else 0, fail := if e.held then 6 else 0, discarded := s.boot.discarded } }
  t.retainDisplay s keep

/-- The device may boot: not held by RESET_N, by the reset limit, by a thermal trip or by a Last-pour save, and not in
Shelf (R570, R573, R599, R600). -/
def State.mayBoot (s : State) : Bool :=
  !s.power.resetPin && !s.err.held && !s.power.tripped && !s.power.poured && decide (s.power.state ≠ .shelf) &&
    decide (s.boot.stage ≤ 1)

end Sys2Proof.Machine
end

