-- ==== Sys2Proof/Machine/Power.lean ====
section
/-!
DEFINITION. The power control unit (20): ordering Steep, Warm and Shelf, refusals, the way back, keep-awake, settings,
throttling and adaptive voltage, the Last-pour save; refresh derating (06 R178) and the wake scan (15 R449), which ride on
the same measurements; accesses that time out and gates (19 R548, R549), which entries wait for.
-/

namespace Sys2Proof.Machine

open Sys2Proof

def opPowerState : Op := { code := 0x9001, mark := .g }
def opKeepAwake : Op := { code := 0x9002, mark := .g }
def opPowerConfig : Op := { code := 0x9003, mark := .m }

/-! ### Refusals (R561) -/

/-- The same refuser: one counter for each reason, unit and instance. -/
def Refused.same (a b : Refused) : Bool :=
  decide (a.reason = b.reason) && decide (a.unit = b.unit) && decide (a.inst = b.inst)

/-- The counters after one more refusal: at most 64 of them. -/
def bumpRefused (r : Refused) : List (Refused × Nat) → List (Refused × Nat)
  | [] => [(r, 1)]
  | x :: xs => if x.1.same r then (r, x.2 + 1) :: xs else x :: bumpRefused r xs

/-- The count of a refuser; 0 where it has no counter. -/
def refusedCount (r : Refused) (xs : List (Refused × Nat)) : Nat := ((xs.find? (fun x => x.1.same r)).map (·.2)).getD 0

/-- A refused or aborted entry is counted and told with POWER_REFUSED (R561, R577). -/
def State.refuse (s : State) (r : Refused) (asked : PState) (sender : Nat) : State :=
  let w := s.power
  let known := w.refusals.any (fun x => x.1.same r)
  let full := !known && decide (64 ≤ w.refusals.length)
  let refusals := if full then w.refusals else bumpRefused r w.refusals
  let recent := w.recent ++ [(r, s.devTime)]
  let s := s.setPower { w with
    refusals := refusals
    overflow := if full then w.overflow + 1 else w.overflow
    recent := recent.drop (recent.length - 16) }
  s.raise sender 0x91 hPower (detail [(r.reason, 8), (r.inst, 8), (r.unit, 16), (r.arg, 8), (asked.code, 2), (0, 22),
    (refusedCount r refusals, 32)])

/-! ### POWER_CHANGED (R577) -/

/-- The pipes steeped by their owners, as a mask. -/
def State.steepedMask (s : State) : Nat := maskOf (s.pipeList.filter (fun p => (s.pipe p).steeped))

/-- POWER_CHANGED to the manager and every bound instance. -/
def State.powerChanged (s : State) (entered left : PState) (aborted : Bool) (source arg us : Nat) : State :=
  s.raiseAll (0 :: s.guests.filter (fun n => (s.inst n).fn.isSome)) 0x90 hPower
    (detail [(entered.code, 2), (left.code, 2), (b2n aborted, 4), (source, 4), (arg, 4), (s.steepedMask, 16), (us, 32)])

/-! ### Dropped segments in Warm (06 R171, R173, R185, R186) -/

/-- Where a region's share begins in a channel, in MiB (R170, R171): after region 0 and the lower-numbered regions. -/
def State.shareBase (s : State) (r c : Nat) : Nat :=
  256 / s.board.member.channels + (((s.memc.regions.take (r - 1)).map (·.share c)).sum)

/-- A segment of a channel, one eighth of it, keeps its contents: region 0 or a region with RETAIN lies in it. Bounds are
compared in eighths of a MiB. -/
def State.segmentKept (s : State) (c seg : Nat) : Bool :=
  let cap := s.board.dramMiB / s.board.member.channels
  let meets (a n : Nat) : Bool := decide (0 < n) && decide (8 * a < cap * (seg + 1)) && decide (cap * seg < 8 * (a + n))
  meets 0 (256 / s.board.member.channels) ||
    [1, 2, 3].any (fun r =>
      let g := s.memc.regions.getD (r - 1) .empty
      g.retain && meets (s.shareBase r c) (g.share c))

/-- A block of a region has a part in a dropped segment: it is spread over the region's channels; an ECC region holds 7 data
bytes in 8. -/
def State.blockDropped (s : State) (b : Nat) : Bool :=
  let r := blockRegion s.memc.regions b
  let g := s.memc.regions.getD (r - 1) .empty
  let n := popcount 8 g.chmask
  let cap := s.board.dramMiB / s.board.member.channels
  let o := b - regionStart s.memc.regions r
  -- the block's extent in a channel, in units of 1 / (7 n) MiB
  let lo := if g.ecc then 16 * o else 14 * o
  let hi := if g.ecc then 16 * (o + 1) else 14 * (o + 1)
  (maskBits 8 g.chmask).any (fun c =>
    let base := s.shareBase r c * 7 * n
    (List.range 8).any (fun seg =>
      decide (8 * (base + lo) < cap * (seg + 1) * 7 * n) && decide (cap * seg * 7 * n < 8 * (base + hi)) &&
        !s.segmentKept c seg))

/-- The granted blocks that Warm drops. -/
def State.warmLost (s : State) : List Nat := s.grantedBlocks.filter s.blockDropped

/-! ### The checks of an entry (R559, step 1; R521, R558, R186) -/

/-- The first guest with blocks in a region without RETAIN that is neither QUIESCED nor ABSENT, and that region. -/
def State.unretained (s : State) : Option (Nat × Nat) :=
  (s.guests.flatMap (fun n =>
    if (s.inst n).state = .quiesced then []
    else ((s.inst n).blocks.map (blockRegion s.memc.regions)).filterMap (fun r =>
      if (s.memc.regions.getD (r - 1) .empty).retain then none else some (n, r)))).head?

/-- The checks after that of keep-awake holds. -/
def State.entryHold (s : State) (target : PState) : Option (Refused × Status) :=
  if s.armed && s.sec.holds then some ({ reason := 2, unit := hCupper, inst := 0, arg := 0 }, .secureHold)
  else if target = .warm then
    match s.unretained with
    | some (n, r) => some ({ reason := 5, unit := hDevice, inst := n, arg := r }, .busy)
    | none => none
  else none

/-- What refuses an entry, and the status. -/
def State.entryRefusal (s : State) (target : PState) (force : Bool) : Option (Refused × Status) :=
  match (maskBits 17 s.power.keepAwake).head? with
  | some n =>
    if force && decide (target = .shelf) then s.entryHold target
    else some ({ reason := 1, unit := hInst n, inst := n, arg := 0 }, .busy)
  | none => s.entryHold target

/-- A refused entry: counted, told, and under a secure hold also in HOLD_REFUSALS (R520). -/
def State.refuseEntry (s : State) (r : Refused) (target : PState) (sender : Nat) : State :=
  (if r.reason = 2 then s.countHold else s).refuse r target sender

/-! ### The entry (R559) -/

/-- Step 2: GPU work is asked off its clusters, effects brake, streams fall silent, panels stop. Holdings stay (R40). -/
def State.quietDown (s : State) : State :=
  let ns := 0 :: s.guests
  let s := ns.foldl (fun s n => ((s.requestClusters n).freezeHaptics n).pauseAudio n true) s
  (List.range s.board.member.touchPanels).foldl (fun s i =>
    if (s.tp_ i).state = .scanning ∨ (s.tp_ i).state = .starting then s.stopPanel i 7 .paused else s) s

/-- The device resumes Brew: streams go on, but not those of a frozen instance, and panels start (R559, R565). -/
def State.resume (s : State) : State :=
  let ns := (0 :: s.guests).filter (fun n => decide ((s.inst n).state ≠ .frozen))
  let s := ns.foldl (fun s n => s.pauseAudio n false) s
  (List.range s.board.member.touchPanels).foldl (fun s i =>
    if (s.tp_ i).cfg.enable ∧ (s.tp_ i).state = .paused then
      s.updTp i (fun t => { t with state := .starting, resetCause := 7 })
    else s) s

/-- The copy engine and the owner of a descriptor that still runs (R561). -/
def State.runningCopy (s : State) : Option (Nat × Nat) :=
  (List.range 8).findSome? (fun e => (s.engineJob e).map (fun j => (e, j.inst)))

/-- Step 3: the reply, which means "entry started", and POWER_CHANGED. -/
def State.startEntry (s : State) (e : PEntry) : State :=
  let s := s.finishOpt e.owed .ok []
  (s.setPower { s.power with entry := some { e with owed := none, started := true } }).powerChanged e.target .brew false 0 0 0

/-- The entry ends without reaching its state: counted and told; an order whose reply is owed is answered ST_BUSY; those who
were told of the entry learn that it aborted (R559 to R561). -/
def State.abortEntry (s : State) (r : Refused) (source arg : Nat) : State :=
  match s.power.entry with
  | none => s
  | some e =>
    let s := (s.setPower { s.power with entry := none }).refuse r e.target e.sender
    let s := (s.finishOpt e.owed .busy []).resume
    if e.started then s.powerChanged .brew e.target true source arg 0 else s

/-- A pipe stops generating for a power state; its intention stays. -/
def State.haltPipe (s : State) (k : Nat) : State :=
  let q := s.pipe k
  if q.state = .off then s
  else
    let s := s.updPipe k (fun q => { q.freshFrame with
      state := .off, leadIn := false, latched := false, composeNext := false, bands := [], nextBand := 0, openNext := false })
    ((s.setTouch { s.touch with window := s.touch.window.set k false }).retimeDeadlines k).flushFences

/-- Nanoseconds of the last and of the next edge of WARM32, 32,768 a second, at or after `ns` (R43). -/
def warmEdge (ns : Nat) : Nat := (ns + 1) * 32768 / 1000000000
def warmNext (ns : Nat) : Nat := (warmEdge ns + 1) * 1000000000 / 32768
def warmFloor (ns : Nat) : Nat := warmEdge ns * 1000000000 / 32768

/-- Steps 4 to 6: Cupper releases its holds, registers go to retention, DRAM to self-refresh, the ready bits clear. A sag mark
that counts is one written from here on (R576). -/
def State.completeEntry (s : State) (e : PEntry) : State :=
  let s := s.pipeList.foldl (fun s k => s.haltPipe k) s
  let s := s.linkUnits.foldl (fun s h => s.updLink h (fun u => { u with up := false, training := false })) s
  let s := s.setSec { s.sec with holds := false }
  let s := (List.range s.board.member.touchPanels).foldl (fun s i => s.updTp i (fun t => { t with runs := [] })) s
  let w := s.power
  s.setPower { w with
    state := e.target, entry := none, steepAuto := e.auto && decide (e.target = .steep),
    rtcAlarm := if e.alarm = 0 then none else some (w.rtcNs / 1000000000 + e.alarm), railOn := false,
    sag := { w.sag with sagMark := false }, rtcNs := warmFloor w.rtcNs,
    wake := { w.wake with vreg := false, osc := false, memRdy := false, logic := false } }

/-- An idle moment of an entry under way: first the running descriptors have had their 2 ms (DMA_BUSY, or step 3), then the
point of no return is reached. -/
def State.advanceEntry (s : State) : State :=
  match s.power.entry with
  | none => s
  | some e =>
    if !e.started then
      match s.runningCopy with
      | some (k, n) => s.abortEntry { reason := 3, unit := hCopy k, inst := n, arg := 0 } 0 0
      | none => s.startEntry e
    else s.completeEntry e

/-- Steps 1 and 2 have passed: the entry is under way; step 3 follows at once where no descriptor runs. -/
def State.beginEntry (s : State) (e : PEntry) : State :=
  let s := s.quietDown
  if s.runningCopy.isNone then s.startEntry e else s.setPower { s.power with entry := some e }

/-! ### POWER_STATE (R555 to R557) -/

/-- STATE of the packet. -/
def askedState (p : Packet) : PState :=
  match p.fld 16 0 2 with
  | 0 => .brew
  | 1 => .steep
  | 2 => .warm
  | _ => .shelf

/-- The fields that both forms share. -/
def powerFieldsOk (p : Packet) : Bool :=
  decide (p.length = 8) && decide (p.fld 16 3 5 = 0) && decide (p.u8 17 = 0) &&
    (!p.flag 16 2 || decide (p.fld 16 0 2 = 3)) &&
    (decide (p.fld 16 0 2 ≠ 1) || decide (p.u16 18 = 0) || (decide (25 ≤ p.u16 18) && decide (p.u16 18 ≤ 1000)))

/-- POWER_STATE of the device (R555, R557, R559). -/
def execPowerState (p : Packet) (s : State) : Host.Outcome State Fault Refusal :=
  packet opPowerState (decide (p.inst = 0)) p s fun s =>
    let target := askedState p
    checks [(decide (p.target = hPower) && powerFieldsOk p, .badParam)]
      (if target = .brew then .done (s.intend hPower false p.inst) .ok []
       else match s.entryRefusal target (p.flag 16 2) with
         | some (r, st) => .done (s.refuseEntry r target p.inst) st []
         | none =>
           let s := s.intend hPower false p.inst
           let s := s.setPower { s.power with
             periodMs := if target = .steep then (if p.u16 18 = 0 then 100 else p.u16 18) else s.power.periodMs }
           let o : Owed := { opcode := opPowerState.code, p := p }
           let e : PEntry :=
             { target := target, auto := false, sender := p.inst, owed := some o, started := false, alarm := p.u32 20 }
           if s.runningCopy.isNone then .done (s.beginEntry { e with owed := none }) .ok [] else .owe (s.beginEntry e))

/-- A guest owns the display of a pipe: it alone holds a region there (R555). -/
def State.ownsDisplay (s : State) (n pipe : Nat) : Bool := decide (s.regionHolders pipe = [n])

/-- The first enabled monitor of a pipe (R556, R561). -/
def State.firstMon (s : State) (pipe : Nat) : Nat :=
  (((List.range 16).map (· + 16 * pipe)).find? (fun i => (s.mon i).want.enable)).getD (16 * pipe)

/-- A steeped pipe goes back to its intention (R556). -/
def State.wakePipe (s : State) (pipe : Nat) : State :=
  let q := s.pipe pipe
  if q.steeped then
    (s.finishOpt q.steepWaiting .cancelled []).updPipe pipe (fun q => { q with steeped := false, steepWaiting := none })
  else s

/-- POWER_STATE of a pipe (R555, R556): its reply follows the first blank, or the first composed, frame. -/
def execPowerStatePipe (p : Packet) (s : State) : Host.Outcome State Fault Refusal :=
  let k := p.target % 256
  packet opPowerState (decide (p.inst = 0) || s.ownsDisplay p.inst k) p s fun s =>
    let q := s.pipe k
    let steep := decide (p.fld 16 0 2 = 1)
    let o : Owed := { opcode := opPowerState.code, p := p }
    let wait (s : State) : State := s.updPipe k (fun q => { q with steepWaiting := some o })
    checks [(isPipe p && powerFieldsOk p && decide (p.fld 16 0 2 ≤ 1), .badParam)]
      (if steep && s.pipeMonitored k then
        let m := s.firstMon k
        .done (s.refuse { reason := 7, unit := hMon m, inst := (s.mon m).owner, arg := k } .steep p.inst) .busy []
       else
        let s := s.finishOpt q.steepWaiting .cancelled []
        let s := s.updPipe k (fun q => { q with steeped := steep, steepWaiting := none })
        if steep then
          (if q.state = .run then .owe (wait s) else .done s .ok [])
        else
          (if decide (q.state = .blank) && decide (q.intent = 2) then .owe (wait s) else .done s .ok []))

/-- STEEP_AUTO_CHECK (R557): every enabled pipe, and there is one (log 79), is steeped and STEEP_AUTO is set. -/
def execSteepAutoCheck (s : State) : Host.Outcome State Fault Refusal :=
  let on := s.pipeList.filter (fun k => decide ((s.pipe k).intent ≠ 0))
  .next (
    if s.accepting && s.power.cfg.autoSteep && !on.isEmpty && on.all (fun k => (s.pipe k).steeped) && decide (s.boot.stage = 6) then
      match s.entryRefusal .steep false with
      | some (r, _) => s.refuseEntry r .steep 0
      | none =>
        (s.setPower { s.power with periodMs := 100 }).beginEntry
          { target := .steep, auto := true, sender := 0, owed := none, started := false, alarm := 0 }
    else s)

/-! ### KEEP_AWAKE (R558) -/

/-- KEEP_AWAKE; it advances no generation. -/
def execKeepAwake (p : Packet) (s : State) : Host.Outcome State Fault Refusal :=
  packet opKeepAwake (ownHandle p) p s fun s =>
    let m := s.power.keepAwake
    let on := p.flag 16 0
    let m' := if on && !bitOf m p.inst then m + 2 ^ p.inst else if !on && bitOf m p.inst then m - 2 ^ p.inst else m
    checks [(decide (p.length = 4) && decide (p.fld 16 1 31 = 0), .badParam)]
      (.done (s.setPower { s.power with keepAwake := m' }) .ok [])

/-! ### POWER_CONFIG (R567, R575) -/

/-- POWER_CONFIG OP 0. -/
def execPowerConfig (p : Packet) (s : State) : Host.Outcome State Fault Refusal :=
  packet opPowerConfig true p s fun s =>
    let t := p.u8 19
    let c : PowerCfg :=
      { railGpio := p.fld 17 0 2, railPol := p.flag 17 2, pgoodGpio := p.fld 17 3 2, pgoodPol := p.flag 17 5,
        autoSteep := p.flag 17 6, vsenseThr := p.u8 18, tTarget := if t = 0 then 105 else t, pmicBus := p.fld 20 0 2,
        pmicEn := p.flag 20 2, pmicAddr := p.fld 20 3 7, pmicReg := p.u8 22 }
    checks [(decide (p.target = hPower) && decide (p.length = 8) && decide (p.u8 16 = 0) && decide (p.fld 17 7 1 = 0) &&
        decide (p.u8 18 ≤ 50) && (decide (t = 0) || (decide (85 ≤ t) && decide (t ≤ 110))) && decide (p.fld 20 10 6 = 0) &&
        decide (p.u8 23 = 0), .badParam)]
      (.done ((s.setPower { s.power with cfg := c }).intend hPower false p.inst) .ok [])

/-- POWER_CONFIG OP 2: erases last-pour slots. -/
def execPowerConfigRelease (p : Packet) (s : State) : Host.Outcome State Fault Refusal :=
  packet opPowerConfig true p s fun s =>
    checks [(decide (p.target = hPower) && decide (p.length = 4) && decide (p.u8 16 = 2) && decide (p.fld 17 4 4 = 0) &&
        decide (p.u16 18 = 0), .badParam)]
      (let g := s.power.sag
       let pours := g.pours.setAll (maskBits 4 (p.fld 17 0 4)) none
       .done (s.setPower { s.power with sag := { g with pours := pours } }) .ok [])

/-! ### Waking (R553, R554, R563 to R566) -/

/-- A wake source serves a state (R564). -/
def wakes (st : PState) (source : Nat) : Bool :=
  match st with
  | .brew => false
  | .steep => decide (1 ≤ source) && decide (source ≤ 5)
  | .warm => decide (2 ≤ source) && decide (source ≤ 5)
  | .shelf => decide (source = 2) || decide (source = 3)

/-- The source is there: a fitted port's pin, host wake or PERST_N edge, an armed RTC alarm, an enabled panel. -/
def State.sourceReady (s : State) (source arg : Nat) (alarm : Bool) : Bool :=
  match source with
  | 1 => decide (arg < s.board.member.touchPanels)
  | 2 | 5 => decide (arg < s.board.member.ports)
  | 3 => alarm
  | 4 => (s.ports.get arg).hostWake
  | _ => false

/-- WAKE_STATUS latches the source; the host wake that was served falls. -/
def State.latchWake (s : State) (left : PState) (source arg us : Nat) : State :=
  let s := if source = 4 then s.setPorts (s.ports.upd arg (fun q => { q with hostWake := false })) else s
  s.setPower { s.power with
    rtcAlarm := if source = 3 then none else s.power.rtcAlarm
    wake := { vreg := true, osc := true, memRdy := true, logic := true, last := left.code, source := source, arg := arg,
              wakeTime := min (us / 10) 65535 } }

/-- The device calls its hosts at an exit that no host wake caused (R554). -/
def State.callHosts (s : State) (source : Nat) : State :=
  if source = 4 then s
  else s.setPower { s.power with wakeLow := 2 ^ s.board.member.ports - 1, wakeLowSince := s.devTime }

/-- The exit from Steep or Warm (R565): every step in its order; blocks that Warm dropped are zero-filled, displays, panels
and audio start again, pipes steeped by their owners stay steeped. A sag mark makes the exit a full reset (R576). -/
def State.wakeUp (s : State) (source arg us : Nat) : State :=
  let left := s.power.state
  if s.power.sag.sagMark then
    let s := s.latchWake left 6 0 0
    (s.setPower { s.power with sag := { s.power.sag with sagMark := false } }).fullReset 7
  else
    let lost := if left = .warm then s.warmLost else []
    let s := s.latchWake left source arg us
    let s := s.setPower { s.power with state := .brew, steepAuto := false }
    let s := (s.setDram (zeroBlocks s.dram lost)).setMemc { s.memc with lost := lost }
    let s := s.setSec { s.sec with holds := s.sec.available }
    let s := s.pipeList.foldl (fun s k =>
      if (s.pipe k).intent ≠ 0 then
        s.updPipe k (fun q => { q with state := .starting, bandSlots := true, restartZero := true, attempts := 0 })
      else s) s
    let s := s.linkUnits.foldl (fun s h => s.updLink h (fun u => { u with training := u.cfg.enable && (u.hpd || isDsi h) })) s
    ((s.callHosts source).resume).powerChanged .brew left false source arg us

/-- WAKE_SOURCE: the exit, or, before the point of no return, the abort of an entry, with the source served as a wake from
the state that was never reached (R560). -/
def execWakeSource (source arg wakeUs : Nat) (s : State) : Host.Outcome State Fault Refusal :=
  .next (
    match s.power.entry with
    | some e =>
      if wakes e.target source && s.sourceReady source arg (decide (e.alarm ≠ 0)) then
        let unit := if source = 1 then hTouch arg else if source = 3 then hPower else hPort arg
        (s.abortEntry { reason := 6, unit := unit, inst := 0, arg := source } source arg).latchWake e.target source arg wakeUs
      else s
    | none =>
      if decide (s.power.state = .steep) || decide (s.power.state = .warm) then
        if wakes s.power.state source && s.sourceReady source arg s.power.rtcAlarm.isSome then s.wakeUp source arg wakeUs else s
      else s)

/-- HOST_WAKE (R553): raised in Steep and Warm, and while an entry is under way; the Warmer keeps it until it is served. -/
def execHostWake (port : Nat) (s : State) : Host.Outcome State Fault Refusal :=
  onPort s port (
    if s.power.entry.isSome || decide (s.power.state = .steep) || decide (s.power.state = .warm) then
      if bitOf s.power.wakeLow port then s else s.setPorts (s.ports.upd port (fun q => { q with hostWake := true }))
    else s)

/-- MEM_LOST (R186): the zero-fill is done; one record for each region with affected blocks. -/
def execMemLost (s : State) : Host.Outcome State Fault Refusal :=
  let bs := s.memc.lost
  let s := s.setMemc { s.memc with lost := [] }
  .next ([1, 2, 3].foldl (fun s r =>
    let n := (bs.filter (fun b => decide (blockRegion s.memc.regions b = r))).length
    if n = 0 then s else s.memLost r n) s)

/-- SHELF_EXIT (R563, R654): the rails are enabled; at power-good the device has left Shelf with a full reset, and the boot
may begin. -/
def execShelfExit (source arg : Nat) (powerGood : Bool) (s : State) : Host.Outcome State Fault Refusal :=
  .next (
    if s.power.state ≠ .shelf then s
    else if !s.power.railOn && !(wakes .shelf source && s.sourceReady source arg s.power.rtcAlarm.isSome) then s
    else
      let w := if s.power.railOn then s.power.railWake else (source, arg)
      if powerGood then
        let s := s.latchWake .shelf w.1 w.2 0
        (s.setPower { s.power with state := .brew }).fullReset 2
      else s.setPower { s.power with railOn := true, railWake := w })

/-- PGOOD_TIMEOUT (R654): the device stays in Shelf. -/
def execPgoodTimeout (s : State) : Host.Outcome State Fault Refusal :=
  .next (if decide (s.power.state = .shelf) && s.power.railOn then s.setPower { s.power with railOn := false } else s)

/-! ### The wake scan (15 R449) -/

/-- One zone in one scan: the first scan arms it unless it is above; it arms after two scans below. The result says whether
it hits. -/
def scanZone (z : WakeZone) (run : Option ZoneRun) (delta : Nat) : ZoneRun × Bool :=
  let above := decide (z.threshold < delta)
  let r := run.getD { above := 0, below := 0, armed := !above }
  let r' : ZoneRun :=
    { above := if above then r.above + 1 else 0, below := if above then 0 else r.below + 1,
      armed := r.armed || decide (2 ≤ (if above then 0 else r.below + 1)) }
  (r', decide (z.kind ≠ 0) && r.armed && above && (decide (z.kind = 3) || decide (2 ≤ r'.above)))

/-- The zones of a panel against a scan's values. -/
def scanZones (zs : List WakeZone) (runs : List ZoneRun) (ds : List Nat) : List (ZoneRun × Bool) :=
  (List.range zs.length).map (fun k =>
    scanZone (zs.getD k { kind := 0, hch := 0, threshold := 0, x := 0, y := 0, w := 0, h := 0 }) (runs[k]?) (ds.getD k 0))

/-- STEEP_WAKE_SCAN: the deltas (or forces in mN) of the panel's zones in one scan. A hit is told with TOUCH_WAKE, wakes a
steeped pipe to which the panel is MAPPED, and wakes the device from Steep (R449, R556, R565); WAKE_TIME is measured
(log 35). -/
def execSteepWakeScan (panel : Nat) (deltas : List Nat) (s : State) : Host.Outcome State Fault Refusal :=
  onUnit s (hTouch panel) (
    let t := s.tp_ panel
    let mapped := t.cfg.mapped && (s.pipe t.cfg.pipe).steeped
    if !(decide (s.power.state = .steep) || (decide (s.power.state = .brew) && mapped)) || !s.touch.senseUp then s
    else
      let rs := scanZones t.zones t.runs deltas
      let s := s.updTp panel (fun t => { t with runs := rs.map (·.1) })
      match (List.range rs.length).find? (fun k => ((rs.map (·.2)).getD k false)) with
      | none => s
      | some k =>
        let s := s.raise 0 0x65 (hTouch panel) (detail [(panel, 8), (k, 8), (0, 16), (deltas.getD k 0, 32)])
        let s := if mapped then s.wakePipe t.cfg.pipe else s
        if s.power.state = .steep then s.tickFree.wakeUp 1 panel (Config.measure s.freeCtr hPower 3) else s)

/-! ### Thermal throttling and adaptive voltage (R568 to R571) -/

/-- The sensors of the junctions: 0 to 11 on the main die, 12 on the sense die (R609). -/
def junction (i : Nat) : Bool := decide (i ≤ 12)

/-- The hottest junction sensor and its reading in 0.1 C, of a sample. -/
def hottest : List (Nat × Int) → Option (Nat × Int)
  | [] => none
  | x :: xs => match hottest xs with
    | none => if junction x.1 then some x else none
    | some y => if junction x.1 ∧ y.2 ≤ x.2 then some x else some y

/-- THERMAL, at most once every 100 ms except for a trip (R577). -/
def State.thermalEvent (s : State) (cause : Nat) (hot : Nat × Int) : State :=
  let due := decide (cause = 3) || (match s.power.thermalTime with
    | some t => decide (t + 100000000 ≤ s.devTime)
    | none => true)
  if due then
    (s.raise 0 0x92 hPower (detail [(s.loopOut hPower 0, 8), (cause, 8), (ofSigned 16 hot.2, 16), (hot.1, 8)])).setPower
      { s.power with thermalTime := some s.devTime }
  else s

/-- Temperatures and their maxima since the full reset (R609). -/
def State.noteTemps (s : State) (temps : List (Nat × Int)) : State :=
  let w := s.power
  s.setPower { w with
    temps := temps.foldl (fun t x => t.set x.1 x.2) w.temps
    tempMax := temps.foldl (fun t x => t.set x.1 (if (w.tempMax.keys.contains x.1) ∧ x.2 ≤ w.tempMax.get x.1
      then w.tempMax.get x.1 else x.2)) w.tempMax }

/-- One step of the throttle level (R569): one up while above T_TARGET, one down after 100 ms at or below T_TARGET - 5; from
112 C upwards past HIGH or past a pin. -/
def State.throttle (s : State) (hot : Nat × Int) : State :=
  let w := s.power
  let t := hot.2
  let target : Int := 10 * w.cfg.tTarget
  let out := s.loopOut hPower 0
  let past (o : Nat) : Bool := match s.loop hPower 0 with
    | some l => decide (l.wanted o ≠ o)
    | none => false
  if target < t then
    let s := s.setPower { w with coolMs := 0 }
    let up := min 9 (out + 1)
    let s := s.stepLoop hPower 0 (out + 1) (if decide (1120 ≤ t) && past up then some up else none)
    if out < s.loopOut hPower 0 then s.thermalEvent 1 hot else s
  else if t ≤ target - 50 then
    if w.coolMs + 1 < 100 then (s.setPower { w with coolMs := w.coolMs + 1 }).stepLoop hPower 0 out none
    else
      let s := (s.setPower { w with coolMs := 0 }).stepLoop hPower 0 (out - 1) none
      if s.loopOut hPower 0 < out then s.thermalEvent 2 hot else s
  else (s.setPower { w with coolMs := 0 }).stepLoop hPower 0 out none

/-- THERMAL_TRIP (R570): the load is shed, and the device is held in full reset until it has cooled. -/
def State.thermalTrip (s : State) (hot : Nat × Int) : State :=
  let s := (s.thermalEvent 3 hot).shedLoad
  (s.setPower { s.power with tripped := true }).raiseErr 0x9007 4 hPower 0xFF 0 (detail [(ofSigned 16 hot.2, 16)])

/-- THERMAL_SAMPLE: the sensors, every 1 ms; 120 C for 1 ms with L at 9 trips. -/
def execThermalSample (temps : List (Nat × Int)) (s : State) : Host.Outcome State Fault Refusal :=
  let s := s.noteTemps temps
  .next (
    match hottest temps with
    | none => s
    | some hot =>
      if !s.awake || decide (s.boot.stage ≠ 6) then s
      else
        let s := s.throttle hot
        if decide (1200 ≤ hot.2) && decide (s.loopOut hPower 0 = 9) then
          if s.power.hotMs = 0 then s.setPower { s.power with hotMs := 1 } else (s.setPower { s.power with hotMs := 0 }).thermalTrip hot
        else s.setPower { s.power with hotMs := 0 })

/-- THERMAL_TRIP_RELEASE (R570): the hottest sensor reads 100 C or less; the boot may begin. -/
def execThermalTripRelease (temp : Int) (s : State) : Host.Outcome State Fault Refusal :=
  .next (if s.power.tripped && decide (temp ≤ 1000) && decide (s.boot.stage ≠ 6) then
    s.setPower { s.power with tripped := false } else s)

/-- ADAPTIVE_VOLTAGE_STEP (R571): `passMv` is the least voltage at which the delay monitors pass at the present GPU clock,
`level` the fastest throttle level they pass at the voltage that a pin or HIGH allows. -/
def execAdaptiveVoltageStep (passMv level : Nat) (s : State) : Host.Outcome State Fault Refusal :=
  .next (
    if !s.power.cfg.pmicEn || !s.awake then s
    else
      let s := s.stepLoop hPower 1 (passMv + 10) none
      let mv := s.loopOut hPower 1
      s.setPower { s.power with vddMv := mv, gpuLevelV := if mv < passMv then min 9 level else 0 })

/-- REFRESH_DERATING (06 R178): the interval that the DRAM's temperature report requires; a shorter one than LOW or a pin
is used all the same. -/
def execRefreshDerating (channel required : Nat) (s : State) : Host.Outcome State Fault Refusal :=
  onUnit s (hChannel channel) (
    let h := hChannel channel
    let short := match s.loop h 0 with
      | some l => decide (required < l.low) || (match l.pin with
        | some v => decide (required < clampN l.low l.high v)
        | none => false)
      | none => false
    s.stepLoop h 0 required (if short then some required else none))

/-! ### The Last-pour save (R572 to R576, R655) -/

/-- TJ: the hottest junction sensor now. -/
def State.tj (s : State) : Int :=
  match hottest (s.power.temps.keys.map (fun k => (k, s.power.temps.get k))) with
  | some x => x.2
  | none => 0

/-- The monitors in mismatch (R575). -/
def State.monsInMismatch (s : State) : List Nat := (List.range 128).filter (fun i => (s.mon i).limitReached)

/-- The sag record's core (R575). -/
def State.pour (s : State) (cause vsense : Nat) (late fatal : Bool) : Pour :=
  { cause := cause, state := s.power.state.code, time := s.devTime, rtc := s.power.rtcNs / 1000000000,
    sequence := s.power.sag.saves + 1, fatal := fatal, lateShed := late, tj := s.tj, vsense := vsense,
    errors := s.err.queue,
    insts := (List.range 17).map (fun n => ((s.inst n).state.code, (s.inst n).safety, (s.genOf (hInst n)).toNat, s.creditsHeld n)),
    pools := (List.range 10).map (fun i => (s.poolTotal i, s.poolFree i)), causes := s.sec.alarms,
    mismatches := s.monsInMismatch, tele := s.tele.cells }

/-- The first erased slot of the last-pour area. -/
def Sag.erased (g : Sag) : Option Nat := [0, 1, 2, 3].find? (fun k => (g.pours.get k).isNone)

/-- A sag (R572, R573, R576): in Brew the save runs to its end; in Steep, Warm or Shelf, or once the units are held, only a
mark is written. A second sag is ignored. -/
def State.takeSag (s : State) (cause vsense : Nat) (late fatal : Bool) : State :=
  if s.power.poured then s
  else if decide (s.power.state ≠ .brew) || decide (s.boot.stage ≠ 6) then
    s.setPower { s.power with sag := { s.power.sag with sagMark := true } }
  else
    let s := s.abortEntry { reason := 8, unit := hPower, inst := 0, arg := 0 } 0 0
    let s := (s.edge 2).shedLoad
    let r := s.pour cause vsense late fatal
    let g := s.power.sag
    let pours := match g.erased with
      | some k => g.pours.set k (some r)
      | none => g.pours
    let g' : Sag := { g with pours := pours, saves := g.saves + 1, sag := some cause, sagFatal := fatal, sagRecord := some r }
    s.setPower { s.power with poured := true, sag := g' }

/-- SUPPLY_SAG: PWRFAIL_N (1), VSENSE (2) or both (3); `late` says that step 3 was not reached by 100 us, `fatal` that a
FATAL fault arose during the save. -/
def execSupplySag (cause vsense : Nat) (late fatal : Bool) (s : State) : Host.Outcome State Fault Refusal :=
  .next (s.takeSag cause vsense late fatal)

/-- SUPPLY_RESTORED (R573): the full reset with wake source 6; a boot then follows. -/
def execSupplyRestored (s : State) : Host.Outcome State Fault Refusal :=
  .next (
    if s.power.poured then
      let last := match s.power.sag.sagRecord with
        | some r => r.state
        | none => 0
      let s := s.setPower { s.power with poured := false, wake := { s.power.wake with last := last, source := 6, arg := 0, wakeTime := 0 } }
      s.fullReset 7
    else s)

/-- VAON falls (R655): the Warmer resets and retention is lost; the next boot is a power-on. -/
def State.vaonLost (s : State) : State :=
  let f := s.firmware
  let g := s.power.sag
  let t := s.fullReset 1
  let t := t.setPower { Power.reset with resetPin := s.power.resetPin, sag := { Sag.reset with pours := g.pours, saves := g.saves } }
  let t := t.setSec { t.sec with alarms := [] }
  (State.retainDisplay (t.setPipes Pipes.reset) s false).setFirmware f.afterReset

/-- RAIL_FALL (R655): 0 a main-die rail, 1 VDD33_SENSE, 2 VAON, 3 a rail out of order while the rails rise. -/
def execRailFall (rail vsense : Nat) (s : State) : Host.Outcome State Fault Refusal :=
  .next (
    match rail with
    | 0 => s.takeSag 2 vsense false false
    | 1 =>
      if !s.board.member.sense then s
      else
        let s := if s.touch.senseUp then s.senseLost else s
        if s.touch.d2dUp then s.mainLost else s
    | 2 => s.vaonLost
    | _ => s)

/-! ### Accesses that time out, and gates (19 R548, R549) -/

/-- A Barista core or Cupper. -/
def isCore (h : Nat) : Bool := decide (h / 256 = 0x03) || decide (h / 256 = 0x04)

/-- BUS_TIMEOUT (R548): an access by `initiator` (a handle) to `unit` completes with an error; `inst` is the instance whose
work made it, 0xFF for device-private work. An entry under way aborts (R559). -/
def execBusTimeout (inst initiator unit : Nat) (write : Bool) (len : Nat) (s : State) : Host.Outcome State Fault Refusal :=
  let s := s.abortEntry { reason := 4, unit := unit, inst := if inst = 0xFF then 0 else inst, arg := 0 } 0 0
  .next (
    if initiator / 256 = 0x01 then
      let s := s.count 14 (0x100 + initiator % 4) 0
      if write then s else s.setBus (List.replicate len 0xFF)
    else if isCore initiator then s.raiseErr 0x0003 0 unit inst 0 0
    else if inst = 0xFF then
      (if s.present unit then s.setFact unit (Config.factCode 3) else s).raiseErr 0x0003 3 unit 0xFF 0 0
    else s.raiseErr 0x0003 2 unit inst 0 0)

/-- GATE_REQUEST (R549): refused at once under a secure hold; else the gate waits while an access is pending at the block,
and then closes. A closed gate opens by itself when work comes, and has no other visible effect (R547). -/
def execGateRequest (unit : Nat) (pending : Bool) (s : State) : Host.Outcome State Fault Refusal :=
  onUnit s unit (
    if s.sec.holds && heldUnit unit then s.countHold
    else
      let ws := s.memc.gateWaiting.filter (fun h => decide (h ≠ unit))
      s.setMemc { s.memc with gateWaiting := if pending then ws ++ [unit] else ws })

end Sys2Proof.Machine
end

