-- ==== Sys2Proof/Machine/Refill.lean ====
section
/-!
DEFINITION. Refill and calibration (22): images and their verification (18 R513, R514), the open Refill, what a commit does
to flash and to the running unit, the preferred slots, user calibration and recalibration.
-/

namespace Sys2Proof.Machine

open Sys2Proof

def opRefillBegin : Op := { code := 0xC001, mark := .m }
def opRefillData : Op := { code := 0xC002, mark := .m }
def opRefillCommit : Op := { code := 0xC003, mark := .m }
def opRefillAbort : Op := { code := 0xC004, mark := .m }
def opSlotSelect : Op := { code := 0xC005, mark := .m }
def opCalRead : Op := { code := 0xC006, mark := .a }
def opUsercalWrite : Op := { code := 0xC007, mark := .m }
def opRecalTouch : Op := { code := 0xC008, mark := .g }
def opRecalHaptic : Op := { code := 0xC009, mark := .m }
def opRecalDram : Op := { code := 0xC00A, mark := .m }
def opRecalMic : Op := { code := 0xC00B, mark := .m }

/-! ### Images (R513, R514, R638) -/

/-- A header field of `n` bytes at an offset. -/
def imgField (d : List Byte) (off n : Nat) : Nat := leNat ((d.drop off).take n)

def imgVersion (d : List Byte) : Nat := imgField d 8 4
def imgSecVer (d : List Byte) : Nat := imgField d 12 4
def imgBodyLen (d : List Byte) : Nat := imgField d 16 4
def imgBody (d : List Byte) : List Byte := (d.drop 272).take (imgBodyLen d)

/-- Bytes of one flash slot of a unit (R638). -/
def slotBytes : Nat → Nat
  | 1 => 2 ^ 19
  | 2 => 2 ^ 24
  | 3 => 2 ^ 22
  | 5 => 2 ^ 21
  | _ => 2 ^ 20

/-- Steps 1 to 4 of R514 on a header, against the unit's fused security counter. -/
def headerOk (unit counter : Nat) (d : List Byte) : Bool :=
  decide (imgField d 0 4 = 0x4D494A5A) && decide (imgField d 4 2 = 1) && decide (imgField d 6 1 = unit) &&
    decide (imgBodyLen d % 4 = 0) && decide (272 + imgBodyLen d ≤ slotBytes unit) &&
    decide (imgField d 7 1 < 4) && !Config.keyRevoked (imgField d 7 1) &&
    decide (Config.sha384 ((d.drop 80).take 96) = Config.keyHash (imgField d 7 1)) &&
    Config.verifies ((d.drop 80).take 96) ((d.drop 176).take 96) (d.take 176) &&
    decide (counter ≤ imgSecVer d)

/-- Step 5 of R514. -/
def bodyOk (d : List Byte) : Bool := decide (Config.sha384 (imgBody d) = (d.drop 24).take 48)

/-- The flash slot after an image has been written to it. -/
def slotOf (d : List Byte) (good : Bool) : FwSlot :=
  if good then { version := imgVersion d, secVer := imgSecVer d, wdogMs := imgField d 20 2, good := true } else .empty

/-- The slot that is not preferred. -/
def State.otherSlot (s : State) (unit : Nat) : Nat := 1 - b2n (bitOf s.firmware.prefB unit)

/-- A unit's slot becomes preferred at once; the other preference block is written (R617, R639). -/
def State.prefer (s : State) (unit slot : Nat) : State :=
  let f := s.firmware
  let rest := f.prefB - (if bitOf f.prefB unit then 2 ^ unit else 0)
  s.setFirmware { f with
    prefB := rest + (if slot = 1 then 2 ^ unit else 0), prefSeq := (f.prefSeq + 1) % 2 ^ 32, selected := f.selected.set unit none }

/-! ### REFILL_STATE (R628) -/

/-- REFILL_STATE to the manager; the longest pause is measured (log 35). -/
def State.refillState (s : State) (unit cause version : Nat) (advanced flashed live : Bool) : State :=
  s.tickFree.raise 0 0xC0 hDevice (detail [(unit, 8), (cause, 8), (b2n advanced, 1), (b2n flashed, 1), (b2n live, 1), (0, 13),
    (version, 32), (if live then Config.measure s.freeCtr hDevice 6 else 0, 32)])

/-- The open Refill ends without having changed anything: cause 2 rejected, 3 aborted or discarded. -/
def State.dropRefill (s : State) (r : Refill) (cause : Nat) : State :=
  (s.setFirmware { s.firmware with refill := none }).refillState r.unit cause (imgVersion r.data) false false false

/-! ### Opening, filling and ending a Refill (R614 to R616) -/

/-- The image's length: a header and a body of a multiple of 4, up to 16 MiB. -/
def refillLengthOk (n : Nat) : Bool := decide (272 ≤ n) && decide (n ≤ 2 ^ 24) && decide (n % 4 = 0)

/-- REFILL_BEGIN. -/
def execRefillBegin (p : Packet) (s : State) : Host.Outcome State Fault Refusal :=
  packet opRefillBegin true p s fun s =>
    let unit := p.u8 16
    checks [(decide (p.target = hDevice) && decide (p.length = 8) && decide (p.fld 16 10 22 = 0) && decide (1 ≤ unit) &&
          decide (unit ≤ 7) && (p.flag 16 8 || p.flag 16 9) && refillLengthOk (p.u32 20), .badParam),
        (decide (unit ≠ 4) || s.board.member.sense, .noUnit), (s.firmware.refill.isNone, .busy)]
      (let r : Refill := { unit := unit, live := p.flag 16 8, flash := p.flag 16 9, length := p.u32 20, data := [] }
       .done (s.setFirmware { s.firmware with refill := some r }) .ok [])

/-- REFILL_DATA. -/
def execRefillData (p : Packet) (s : State) : Host.Outcome State Fault Refusal :=
  packet opRefillData true p s fun s =>
    match s.firmware.refill with
    | none => .fail .badParam []
    | some r =>
      let d := p.bytesFrom 20
      checks [(decide (p.target = hDevice) && decide (8 ≤ p.length) && decide (p.length ≤ 4076) &&
          decide (p.u32 16 = r.data.length) && decide (r.data.length + d.length ≤ r.length), .badParam)]
        (.done (s.setFirmware { s.firmware with refill := some { r with data := r.data ++ d } }) .ok [])

/-- A REFILL_COMMIT has been applied and its final reply is not yet written. -/
def State.committing (s : State) : Bool :=
  s.firmware.refill.isNone && s.tp.replies.any (fun r => decide (r.opcode = opRefillCommit.code))

/-- REFILL_ABORT. -/
def execRefillAbort (p : Packet) (s : State) : Host.Outcome State Fault Refusal :=
  packet opRefillAbort true p s fun s =>
    checks [(decide (p.target = hDevice) && decide (p.length = 0), .badParam), (!s.committing, .busy)]
      (match s.firmware.refill with
       | some r => .done (s.dropRefill r 3) .ok []
       | none => .done s .ok [])

/-- REFILL_TIMEOUT: 10 s without a packet. -/
def execRefillTimeout (s : State) : Host.Outcome State Fault Refusal :=
  .next (match s.firmware.refill with
    | some r => s.dropRefill r 3
    | none => s)

/-! ### Live procedures (R620, R252) -/

/-- The pipelines of an instance that live, by key. -/
def State.livePipelines (s : State) (n : Nat) : List Nat :=
  s.gpu.pipelines.keys.filter (fun k => decide (k / 2 ^ 32 = n) && (match s.gpu.pipelines.get k with
    | some q => !q.removed
    | none => false))

/-- One pipeline is compiled again; what the new back end makes of it is free (log 83). -/
def recompiled (ctr backEnd key : Nat) (q : Pipeline) : Pipeline :=
  { q with
    keys := q.keys.map (fun k => { k with backEnd := backEnd })
    regs := Config.measure ctr key 7
    codeBytes := Config.measure ctr key 8 }

/-- A back end of another version: every live pipeline is compiled again, older cache entries go, each instance with live
pipelines is told. -/
def State.newBackEnd (s : State) (backEnd : Nat) : State :=
  let ns := 0 :: s.guests
  let live := ns.flatMap s.livePipelines
  let g := s.gpu
  let t := s.setGpu { g with
    backEnd := backEnd
    pipelines := live.foldl (fun t k => t.upd k (fun q => q.map (recompiled s.freeCtr backEnd k))) g.pipelines
    cache := ns.foldl (fun t n => t.upd n (fun es => es.filter (fun e => decide (e.key.backEnd = backEnd)))) g.cache }
  ns.foldl (fun t n =>
    let k := (s.livePipelines n).length
    if k = 0 then t else t.raise n 0x33 (hInst n) (detail [(k, 32), (backEnd, 32)])) t.tickFree

/-- A unit runs an image of a version. -/
def State.runs (s : State) (unit version : Nat) : State :=
  s.setFirmware { s.firmware with running := s.firmware.running.set unit version }

/-- The parts that take a deferred image, each at its own moment: DRAM channels, or the PHYs of links. -/
def State.deferredParts (s : State) (unit : Nat) : List Nat :=
  let m := s.board.member
  if unit = 6 then (List.range m.channels).map hChannel
  else (List.range m.ports).map hPort ++ (List.range m.dptx).map hDptx ++ (List.range m.dsi).map hDsi

/-- The sense-die controller switches: each scanning panel's contacts end, and it resumes with its baselines. -/
def State.switchPanels (s : State) : State :=
  (List.range s.board.member.touchPanels).foldl (fun s i =>
    if (s.tp_ i).state = .scanning then (s.cancelContacts i 5).contactsReset i else s) s

/-- The running unit takes the image; units 6 and 7 take it part by part later. -/
def State.takeLive (s : State) (unit : Nat) (d : List Byte) : State :=
  let v := imgVersion d
  match unit with
  | 1 =>
    let w := imgField d 20 2
    (s.runs 1 v).setSec { s.sec with wdogKick := s.devTime, wdogMs := if w = 0 then 50 else w }
  | 2 =>
    let b := Config.backEnd (imgBody d)
    let s := s.runs 2 v
    if b = s.gpu.backEnd then s else s.newBackEnd b
  | 4 => s.switchPanels.runs 4 v
  | 6 | 7 =>
    let f := s.firmware
    s.setFirmware { f with
      deferred := f.deferred.set unit (some v)
      parts := f.parts.filter (fun x => decide (x.1 ≠ unit)) ++ (s.deferredParts unit).map (fun h => (unit, h)) }
  | u => s.runs u v

/-- REFILL_DEFERRED_TAKEN: a channel or a PHY takes the image; after the last part the unit runs it. -/
def execRefillDeferredTaken (unit part : Nat) (s : State) : Host.Outcome State Fault Refusal :=
  .next (
    let f := s.firmware
    if !f.parts.contains (unit, part) then s
    else
      let left := f.parts.erase (unit, part)
      let s := s.setFirmware { f with parts := left }
      if left.any (fun x => decide (x.1 = unit)) then s
      else
        let v := (f.deferred.get unit).getD 0
        let s := (s.runs unit v)
        (s.setFirmware { s.firmware with deferred := f.deferred.set unit none }).refillState unit 4 v false false true)

/-! ### REFILL_COMMIT (R617, R619, R634) -/

/-- Step 2 is the boot ROM's: Cupper's own image while its images have failed (R634). -/
def State.romVerifies (s : State) (unit : Nat) : Bool :=
  decide (unit = 1) && !s.sec.available && decide (s.sec.unavail = 2)

/-- Both slots of the unit hold images that verify with SEC_VER at or above `v`. -/
def State.bothSlotsAt (s : State) (unit v : Nat) : Bool :=
  [0, 1].all (fun i =>
    let x := s.firmware.slots.get (2 * unit + i)
    x.good && decide (s.firmware.counter.get unit ≤ x.secVer) && decide (v ≤ x.secVer))

/-- Step 4: the non-preferred slot is erased and programmed; it becomes preferred where its image is good. -/
def State.programSlot (s : State) (unit : Nat) (d : List Byte) : State :=
  let i := s.otherSlot unit
  let ok := bodyOk d
  let s := s.setFirmware { s.firmware with slots := s.firmware.slots.set (2 * unit + i) (slotOf d ok) }
  if ok then s.prefer unit i else s

/-- Step 6: the counter is raised where both slots allow it. -/
def State.advanceCounter (s : State) (unit v : Nat) : State :=
  s.setFirmware { s.firmware with counter := s.firmware.counter.set unit (max v (s.firmware.counter.get unit)) }

/-- A commit that step 2, 3, 4 or 5 rejects. -/
def State.rejectCommit (s : State) (r : Refill) (programmed : Bool) : State :=
  (if programmed then s.programSlot r.unit r.data else s).dropRefill r 2

/-- Steps 4 to 6 of a commit whose image is good, and its outcome. -/
def State.commitRefill (s : State) (r : Refill) (advance : Bool) (inst : Nat) : State × Status :=
  let d := r.data
  let rom := s.romVerifies r.unit
  let s := if r.flash then s.programSlot r.unit d else s
  let s := if rom then s.restartCupper (b2n (bitOf s.firmware.prefB 1)) else s
  let skip := r.live && decide (r.unit = 4) && !(s.touch.d2dUp && s.touch.senseUp)
  let s := if r.live && !skip then s.takeLive r.unit d else s
  let adv := advance && s.bothSlotsAt r.unit (imgSecVer d)
  let s := if adv then s.advanceCounter r.unit (imgSecVer d) else s
  let s := s.setFirmware { s.firmware with refill := none }
  let done := r.live && !skip && decide (r.unit < 6)
  let s := s.refillState r.unit (if skip && !r.flash then 2 else 1) (imgVersion d) adv r.flash done
  if skip then (s, .offline) else (s.intend hDevice false inst, .ok)

/-- REFILL_COMMIT. -/
def execRefillCommit (p : Packet) (s : State) : Host.Outcome State Fault Refusal :=
  packet opRefillCommit true p s fun s =>
    match s.firmware.refill with
    | none => .fail .badParam []
    | some r =>
      let rom := s.romVerifies r.unit
      checks [(decide (p.target = hDevice) && decide (p.length = 4) && decide (p.fld 16 1 31 = 0) &&
            decide (r.data.length = r.length), .badParam),
          (!rom || !r.live, .badParam), (s.sec.available || rom, .secureUnavailable)]
        (if !(headerOk r.unit (s.firmware.counter.get r.unit) r.data && decide (272 + imgBodyLen r.data = r.length)) then
           .done (s.rejectCommit r false) .imageRejected []
         else if r.live && !Config.formatsMatch r.unit (imgBody r.data) then .done (s.rejectCommit r false) .imageRejected []
         else if !bodyOk r.data then .done (s.rejectCommit r r.flash) .imageRejected []
         else
           let x := s.commitRefill r (p.flag 16 0) p.inst
           .done x.1 x.2 [])

/-! ### SLOT_SELECT (R618) -/

/-- SLOT_SELECT: the slot is preferred from the next full reset; the preference block is written. -/
def execSlotSelect (p : Packet) (s : State) : Host.Outcome State Fault Refusal :=
  packet opSlotSelect true p s fun s =>
    let unit := p.u8 16
    let i := p.fld 17 0 1
    let x := s.firmware.slots.get (2 * unit + i)
    checks [(decide (p.target = hDevice) && decide (p.length = 4) && decide (p.fld 16 9 23 = 0) && decide (1 ≤ unit) &&
          decide (unit ≤ 7), .badParam),
        (decide (unit ≠ 4) || s.board.member.sense, .noUnit), (s.sec.available, .secureUnavailable),
        (x.good && decide (s.firmware.counter.get unit ≤ x.secVer), .imageRejected)]
      (let f := s.firmware
       let f' : Firmware := { f with selected := f.selected.set unit (some i), prefSeq := (f.prefSeq + 1) % 2 ^ 32 }
       .done ((s.setFirmware f').intend hDevice false p.inst) .ok [])

/-! ### User calibration (R621 to R623) -/

/-- The key of a user-cal record. -/
def calKey (kind index : Nat) : Nat := 16 * kind + index

/-- KIND of a unit's record; 0 where the unit has none. -/
def calKind (h : Nat) : Nat :=
  match h / 256 with
  | 0x14 => 1
  | 0x15 => 2
  | 0x17 => 3
  | _ => 0

/-- Two bytes of a signed value. -/
def s16 (v : Int) : List Byte := leBytes 2 (ofSigned 16 v)

/-- BODY of a touch record: a code per channel padded to four bytes, TC in ppm per °C, then the baselines row by row (log
47). TC is that of the record in flash, by default -400. -/
def State.touchCalBody (s : State) (i : Nat) : List Byte :=
  let t := s.tp_ i
  let n := t.cfg.ntx + t.cfg.nrx
  let old := s.firmware.userCal.get (calKey 1 i)
  let tc := if calOk old then (old.drop (calTc n)).take 4 else leBytes 4 (ofSigned 32 (-400))
  (List.range n).map (fun k => BitVec.ofNat 8 (t.codes.get k)) ++ List.replicate ((4 - n % 4) % 4) 0 ++ tc ++
    t.cfg.nodes.flatMap (fun k => leBytes 2 (t.base.get k))

/-- BODY of a haptic record: the RESULT of R454 from offset 18, then the FORCE_GAIN delta. -/
def State.hapticCalBody (s : State) (i : Nat) : List Byte :=
  let c := s.chan i
  leBytes 2 c.fres ++ leBytes 4 c.capPf ++ leBytes 2 c.q ++ leBytes 2 0 ++ leBytes 4 c.forceZero ++ leBytes 4 (s.gainDelta i)

/-- BODY of the microphones' record: eight trims. -/
def State.micCalBody (s : State) : List Byte := (List.range 8).flatMap (fun k => s16 (s.audio.trims.get k))

/-- A unit's record of the calibration now in use; the sense-die temperature is measured (log 35). -/
def State.calRecord (s : State) (h : Nat) : List Byte :=
  let kind := calKind h
  let i := h % 256
  let body := match kind with
    | 1 => s.touchCalBody i
    | 2 => s.hapticCalBody i
    | _ => s.micCalBody
  let hash := if kind = 1 then (crc32c (wordBytes (s.tp_ i).cfg.words)).toNat else 0
  let b := leBytes 1 kind ++ leBytes 1 i ++ leBytes 2 (12 + body.length + 4) ++ leBytes 4 hash ++
    leBytes 2 (Config.measure s.freeCtr h 9) ++ leBytes 2 0 ++ body
  b ++ leBytes 4 (crc32c b).toNat

/-- A record takes its place in the user-cal area; an empty one is an erased one. -/
def State.putCal (s : State) (h : Nat) (bs : List Byte) : State :=
  s.setFirmware { s.firmware with userCal := s.firmware.userCal.set (calKey (calKind h) (h % 256)) bs }

/-- The trims of a microphones' record, in 0.01 dB within ±600, apply at once. -/
def State.applyTrims (s : State) (bs : List Byte) : State :=
  s.setAudio { s.audio with
    trims := (List.range 8).foldl (fun t k => t.set k (clampI (-600) 600 (signed 16 (leNat ((bs.drop (12 + 2 * k)).take 2)))))
      s.audio.trims }

/-- USERCAL_WRITE OP 0. -/
def execUsercalStore (p : Packet) (s : State) : Host.Outcome State Fault Refusal :=
  packet opUsercalWrite true p s fun s =>
    checks [(decide (calKind p.target ≠ 0) && decide (p.length = 4) && decide (p.u32 16 = 0), .badParam)]
      (.done ((s.putCal p.target (s.calRecord p.target)).tickFree) .ok [])

/-- USERCAL_WRITE OP 1: factory values apply from the unit's next start. -/
def execUsercalErase (p : Packet) (s : State) : Host.Outcome State Fault Refusal :=
  packet opUsercalWrite true p s fun s =>
    checks [(decide (calKind p.target ≠ 0) && decide (p.length = 4) && decide (p.u32 16 = 1), .badParam)]
      (.done (s.putCal p.target []) .ok [])

/-- USERCAL_WRITE OP 2: a record from host memory. -/
def execUsercalWrite (p : Packet) (s : State) : Host.Outcome State Fault Refusal :=
  packet opUsercalWrite true p s fun s =>
    let addr := p.u64 20
    let port := s.board.mgrPortInForce
    let len := leNat (s.hostBytes port (addr + 2) 2)
    let bs := s.hostBytes port addr len
    checks [(decide (calKind p.target ≠ 0) && decide (p.length = 12) && decide (p.u32 16 = 2) && s.busMaster 0 && calOk bs &&
        decide (leNat (bs.take 1) = calKind p.target) && decide (leNat ((bs.drop 1).take 1) = p.target % 256), .badParam)]
      (let s := (s.putCal p.target bs).tickFree
       .done (if calKind p.target = 3 then s.applyTrims bs else s) .ok [])

/-! ### CAL_READ (R624) -/

/-- Words of an OTP or fuse item (log 34). -/
def factoryWords (item index n : Nat) : List W32 := (List.range n).map (fun k => w32 (Config.factory item index k))

/-- Half-words of an item, two to a word. -/
def factoryHalves (item index n : Nat) : List Byte := (List.range n).flatMap (fun k => leBytes 2 (Config.factory item index k))

/-- The user-cal records of a kind in order; a RESULT holds at most 4,076 bytes (R110; log 85). -/
def State.calRecords (s : State) (kind : Nat) : List Byte :=
  ((List.range 16).flatMap (fun i => s.firmware.userCal.get (calKey kind i))).take 4076

/-- The item's unit is fitted. -/
def State.calFitted (s : State) (item index : Nat) : Bool :=
  let m := s.board.member
  match item with
  | 2 => decide (0 < m.touchChannels)
  | 3 => decide (0 < m.haptics)
  | 5 => decide (index = 3) || m.sense
  | _ => true

/-- INDEX lies within the item. -/
def State.calIndexOk (s : State) (item index : Nat) : Bool :=
  let m := s.board.member
  match item with
  | 0 | 1 => decide (index = 0)
  | 2 => decide (64 * index < max 1 m.touchChannels)
  | 3 => decide (index < max 1 m.haptics)
  | 4 => decide (1024 * index < Config.certificate.length)
  | 5 => decide (1 ≤ index) && decide (index ≤ 3)
  | _ => false

/-- The RESULT of CAL_READ. -/
def State.calResult (s : State) (item index : Nat) : List W32 :=
  match item with
  | 0 => w64 Config.deviceId ++ factoryWords 0 0 1
  | 1 => factoryWords 1 0 1 ++ padWords (factoryHalves 1 1 13)
  | 2 => padWords (factoryHalves 2 index 64)
  | 3 => factoryWords 3 index 2
  | 4 => w32 Config.certificate.length :: padWords ((Config.certificate.drop (1024 * index)).take 1024)
  | _ => padWords (s.calRecords index)

/-- CAL_READ. -/
def execCalRead (p : Packet) (s : State) : Host.Outcome State Fault Refusal :=
  packet opCalRead true p s fun s =>
    let item := p.u8 16
    let index := p.u8 17
    checks [(decide (p.target = hDevice) && decide (p.length = 4) && decide (p.u16 18 = 0) && s.calIndexOk item index, .badParam),
        (s.calFitted item index, .noUnit)] (.done s .ok (s.calResult item index))

/-! ### Recalibration while running (R625) -/

/-- RECAL_DONE to the sender and the manager. -/
def State.recalDone (s : State) (p : Packet) (h outcome value : Nat) : State :=
  s.raiseAll (if p.inst = 0 then [0] else [p.inst, 0]) 0xC1 h (detail [(h, 16), (outcome, 8), (0, 8), (value, 32)])

/-- A guest holds the rectangle within one of its touch regions on the panel. -/
def State.ownsTouchRect (s : State) (n i x y w h : Nat) : Bool :=
  (s.inst n).tregions.any (fun r => decide (r.unit = i) && decide (r.left ≤ x) && decide (r.top ≤ y) &&
    decide (x + w ≤ r.left + r.width) && decide (y + h ≤ r.top + r.height))

/-- The whole panel is recalibrated: contacts end, codes are trimmed and baselines taken anew (measured, log 35). -/
def State.recalPanel (s : State) (i : Nat) : State :=
  let c := (s.tp_ i).cfg
  let v (k : Nat) : Nat := Config.measure s.freeCtr (hTouch i) (1024 + k)
  let s := (s.cancelContacts i 6).updTp i (fun t => { t with
    codes := (List.range (c.ntx + c.nrx)).foldl (fun u k => u.set k (v k % 251)) t.codes
    base := c.nodes.foldl (fun u k => u.set k (v (1024 + k) % 65536)) t.base
    frac := Tab.empty
    absorb := []
    uncalibrated := false })
  s.tickFree.contactsReset i

/-- RECAL_TOUCH. -/
def execRecalTouch (p : Packet) (s : State) : Host.Outcome State Fault Refusal :=
  let i := p.target % 256
  let c := (s.tp_ i).cfg
  let whole := decide (p.u16 24 = 0)
  let x := if whole then 0 else p.u16 20
  let y := if whole then 0 else p.u16 22
  let w := if whole then c.width else p.u16 24
  let h := if whole then c.height else p.u16 26
  packet opRecalTouch (decide (p.inst = 0) || (!p.flag 16 0 && s.ownsTouchRect p.inst i x y w h)) p s fun s =>
    checks [(decide (p.target / 256 = 0x14) && decide (p.length = 12) && decide (p.fld 16 1 31 = 0) && decide (x + w ≤ c.width) &&
          decide (y + h ≤ c.height), .badParam),
        (s.touch.d2dUp && s.touch.senseUp, .offline)]
      (if (s.tp_ i).state ≠ .scanning then .done (s.recalDone p p.target 2 0) .ok []
       else
         let nodes := c.nodesIn x y w h
         let s := if whole then s.recalPanel i else s.rebase i nodes
         let s := if p.flag 16 0 then (s.putCal p.target (s.calRecord p.target)).tickFree else s
         .done (s.recalDone p p.target (if p.flag 16 0 then 1 else 0) (if whole then c.nodes.length else nodes.length)) .ok [])

/-- RECAL_HAPTIC: as ACTUATOR_CHECK OP 1; it fails where the verdict is not good. -/
def execRecalHaptic (p : Packet) (s : State) : Host.Outcome State Fault Refusal :=
  packet opRecalHaptic true p s fun s =>
    let i := p.target % 256
    checks ((decide (p.target / 256 = 0x15) && decide (p.length = 4) && decide (p.fld 16 1 31 = 0), .badParam) :: s.checkGates p)
      (let good := decide (s.checkVerdict i = 0)
       let store := good && p.flag 16 0
       let s := s.runCheck i true
       let s := if store then (s.putCal p.target (s.calRecord p.target)).tickFree else s
       .done (s.recalDone p p.target (if !good then 2 else if store then 1 else 0) 0) .ok [])

/-- RECAL_DRAM: a retrain of each channel in turn; whether it converges is measured (log 35). -/
def execRecalDram (p : Packet) (s : State) : Host.Outcome State Fault Refusal :=
  packet opRecalDram true p s fun s =>
    let cs := if p.target = hDevice then List.range s.board.member.channels else [p.target % 256]
    checks [((decide (p.target = hDevice) || decide (p.target / 256 = 0x06)) && decide (p.length = 0), .badParam)]
      (let ok (c : Nat) : Bool := decide (Config.measure s.freeCtr (hChannel c) 10 % 2 = 0)
       let s := cs.foldl (fun s c => s.retrain c (ok c)) s.tickFree
       .done (s.recalDone p p.target (if cs.all ok then 0 else 2) 0) .ok [])

/-- RECAL_MIC answers ST_BUSY while an actuator drives, and ST_OFFLINE as a check does (R454, R625). -/
def State.micGates (s : State) : List (Bool × Status) :=
  [((List.range s.board.member.haptics).all (fun i => !(s.chan i).driving), .busy),
    (!s.board.member.sense || (s.touch.d2dUp && decide ((s.entry hBoost).fact ≠ 1)), .offline)]

/-- RECAL_MIC: trims within ±600; what the comparison finds is measured (log 35). -/
def execRecalMic (p : Packet) (s : State) : Host.Outcome State Fault Refusal :=
  packet opRecalMic true p s fun s =>
    let mask := p.u8 16
    let ref := p.fld 16 8 3
    let secs := p.fld 16 11 5
    let mics := maskBits 8 mask
    checks ((decide (p.target = hAudio) && decide (p.length = 4) && decide (p.fld 16 17 15 = 0) && decide (1 ≤ secs) &&
          decide (secs ≤ 10) && bitOf s.audio.mics ref && mics.all (bitOf s.audio.mics), .badParam) :: s.micGates)
      (let trim (k : Nat) : Int := clampI (-600) 600 (signed 16 (Config.measure s.freeCtr hAudio (16 + k)))
       let t := mics.foldl (fun t k => t.set k (if k = ref then s.audio.trims.get k else trim k)) s.audio.trims
       let s := (s.setAudio { s.audio with trims := t }).tickFree
       let s := if p.flag 16 16 then (s.putCal p.target (s.calRecord p.target)).tickFree else s
       .done (s.recalDone p p.target (if p.flag 16 16 then 1 else 0)
         (match mics.head? with
          | some k => ofSigned 32 (s.audio.trims.get k)
          | none => 0)) .ok [])

end Sys2Proof.Machine
end

