-- ==== Sys2Proof/Machine/Boot.lean ====
section
/-!
DEFINITION. The boot sequence (23 R629 to R637): straps, the reference, the images, DRAM training, the ledger and what is
restored; a boot without a reference, a flash that does not answer, a sag during boot; recovery (R643).
-/

namespace Sys2Proof.Machine

open Sys2Proof

/-- The stage and its failure code. -/
def State.bootAt (s : State) (stage fail : Nat) : State := s.setBoot { s.boot with stage := stage, fail := fail }

/-- A ready bit of WAKE_STATUS and those below it. -/
def State.readyBits (s : State) (n : Nat) : State :=
  let w := s.power.wake
  s.setPower { s.power with
    wake := { w with vreg := true, osc := decide (2 ≤ n), memRdy := decide (3 ≤ n), logic := decide (4 ≤ n) } }

/-- Step 1: straps are sampled (R629, R630), monitoring starts; `healthy` has a bit for every healthy REFCLK. -/
def State.bootStraps (s : State) (healthy : Nat) : State :=
  let b := s.board
  let s := s.setBoard { b with mgrPortInForce := if b.mgrport < b.member.ports then b.mgrport else 0 }
  let s := s.setPower { s.power with shed := false }
  ((List.range b.member.ports).foldl (fun s p => s.setRef p (bitOf healthy p)) s).readyBits 1

/-- Ports whose PERST_N is high start link training (R631, R636), where their own reference runs. -/
def State.trainPorts (s : State) : State := (List.range s.board.member.ports).foldl (fun s p => s.retrainPort p) s

/-- Step 2: the first healthy reference in priority order, if there is one. One that is not of first priority contradicts
the REF entry's intention, which the ledger holds once it is built (log 86). -/
def State.bootReference (s : State) : Option State :=
  match s.refOrder.find? s.refOk with
  | none => none
  | some p => some (((s.setClocks { s.clocks with selected := p, degraded := false }).readyBits 2).trainPorts)

/-- Degraded mode at boot (R632, R542). -/
def State.bootDegraded (s : State) : State :=
  let s := (s.setClocks { s.clocks with selected := 0xF, degraded := true }).readyBits 2
  let s := ((s.setFact hRef 2).raiseErr 0x9002 3 hRef 0xFF 0 0).clockRef 5 0 0
  s.setBoot { s.boot with fail := 1 }

/-- Step 3: Cupper's image; without one the device starts with secure services unavailable, UNAVAIL 2 (R515, R633). -/
def State.bootCupper (s : State) : State :=
  match s.imageIn 1 with
  | some i => (s.startCupper i).setBoot { s.boot with cupperB := decide (i = 1) }
  | none =>
    let s := s.setSec { s.sec with available := false, unavail := 2 }
    (s.setEntry hCupper { s.entry hCupper with agree := .contradicted, fact := 1 }).setBoot { s.boot with fail := 2 }

/-- A unit runs its image, or VERSION reads 0. -/
def State.bootImage (s : State) (unit : Nat) : State :=
  match s.imageIn unit with
  | some i => s.runImage unit i
  | none => s.runs unit 0

/-- An entry that holds an offline fact when the ledger is built. -/
def State.bornOffline (s : State) (h fact : Nat) : State :=
  s.setEntry h { s.entry h with agree := .contradicted, fact := fact }

/-- Step 6: the images of the GPU, the audio DSPs, the sense die and the PHYs; the units of a failed image are offline
(R633). -/
def State.bootUnits (s : State) : State :=
  let m := s.board.member
  let s := ((s.bootImage 3).bootImage 5).bootImage 7
  let s := if m.sense then s.bootImage 4 else s
  let s := if (s.imageIn 3).isSome then s
    else (List.range m.clusters).foldl (fun s c =>
      (s.setGpu { s.gpu with clusters := s.gpu.clusters.upd c (fun x => { x with offline := true }) }).bornOffline (hCluster c)
        (Config.factCode 0x09)) s
  let s := if (s.imageIn 5).isSome then s else s.bornOffline hAudio (Config.factCode 0x17)
  if !m.sense || (s.imageIn 4).isSome then s
  else
    let s := s.setTouch { s.touch with d2dUp := false, senseUp := false }
    let s := (List.range m.touchPanels).foldl (fun s i => s.bornOffline (hTouch i) 1) s
    let s := (List.range m.haptics).foldl (fun s i => s.bornOffline (hHaptic i) 4) s
    s.bornOffline hBoost 2

/-- User calibration applies at the units' start (R621, R623). -/
def State.bootCalibration (s : State) : State :=
  let s := (List.range s.board.member.haptics).foldl (fun s i =>
    let bs := s.firmware.userCal.get (calKey 2 i)
    let f (off n : Nat) : Nat := leNat ((bs.drop off).take n)
    if calOk bs then s.updChan i (fun c => { c with fres := f 12 2, capPf := f 14 4, q := f 18 2, forceZero := f 22 4 }) else s) s
  if calOk (s.firmware.userCal.get (calKey 3 0)) then s.applyTrims (s.firmware.userCal.get (calKey 3 0)) else s

/-- Step 7: the restored display starts (R602, R631): pipes lock, links train, panels go on. -/
def State.bootDisplay (s : State) : State :=
  if !s.power.retained then s
  else
    let s := (List.range s.board.member.pipes).foldl (fun s k =>
      if (s.pipe k).intent ≠ 0 then
        (s.updPipe k (fun q => { q with state := .starting, bandSlots := true, restartZero := true })).setEntry (hPipe k)
          { s.entry (hPipe k) with agree := .settling }
      else s) s
    let s := s.linkUnits.foldl (fun s h =>
      let s := s.updLink h (fun u => { u with training := u.cfg.enable && (u.hpd || isDsi h) })
      if (s.link h).panel.on then
        let s := s.updPanel h (fun d => { d with seqOp := some 1, step := 0, start := s.devTime })
        if s.panelRested h then s.updPanel h Panel.stepOn else s
      else s) s
    s.setBoot { s.boot with restored := true }

/-- The last-pour area at boot (R575): a full one loses the record of lowest SEQUENCE. -/
def State.lowestPour (s : State) : Option Nat :=
  let g := s.power.sag
  if g.erased.isSome then none
  else [0, 1, 2, 3].find? (fun k => [0, 1, 2, 3].all (fun j =>
    decide (((g.pours.get k).map (·.sequence)).getD 0 ≤ ((g.pours.get j).map (·.sequence)).getD 0)))

/-- LASTPOUR_FOUND for every record (R575, R577). -/
def State.pourEvents (s : State) : State :=
  let drop := s.lowestPour
  let s := [0, 1, 2, 3].foldl (fun s k => match s.power.sag.pours.get k with
    | some r => s.raise 0 0x93 hPower (detail [(k, 2), (b2n (decide (drop = some k)), 1), (0, 5), (r.cause, 8), (0, 16),
        (r.sequence, 32), (r.time, 32)])
    | none => s) s
  match drop with
  | some k => s.setPower { s.power with sag := { s.power.sag with pours := s.power.sag.pours.set k none } }
  | none => s

/-- Step 8: DEVICE_RESTARTED, then the last-pour records (R611, R631). -/
def State.bootDone (s : State) : State :=
  let e := s.err
  let prior := (e.queue.filter (·.prior)).length
  let s := s.bootAt 6 s.boot.fail
  let s := s.raise 0 0xA2 hDevice (detail [(e.resetCause, 8), (b2n s.boot.restored, 1), (0, 7), (0, 16), (e.causeSeqno, 32),
    (prior, 32), (e.resets, 32)])
  s.pourEvents

/-- Cause WATCHDOG is kept until Cupper has compared every enabled monitor once; where none is enabled it is released as the
boot completes (R526). -/
def State.bootAlarms (s : State) : State :=
  let ms := (List.range (16 * s.board.member.pipes)).filter (fun i => (s.mon i).want.enable)
  let held := s.sec.alarms.contains (3, 0xFFFF)
  let s := s.setSec { s.sec with awaiting := if held && s.sec.available then ms else [] }
  if held && s.sec.available && ms.isEmpty then s.releaseCause 3 0xFFFF else s

/-- Steps 4 to 6. `mismatch` is a channel that trained to another capacity than channel 0 (R169). The boot then stands in
STAGE 4: configuration space is served, and packets find the device not ready (R154, R637). -/
def State.bootOn (s : State) (mismatch : Option Nat) : State :=
  if (s.imageIn 6).isNone then s.bootAt 14 4
  else
    let s := (s.bootImage 6).readyBits 3
    let s := match mismatch with
      | some c => if c ≠ 0 ∧ s.present (hChannel c) then s.raiseErr 0x1001 4 (hChannel c) 0xFF 0 0 else s
      | none => s
    match s.imageIn 2 with
    | none => s.bootAt 14 3
    | some i =>
      let s := (s.runImage 2 i).setBoot { s.boot with baristaB := decide (i = 1) }
      let s := s.bootUnits.bootCalibration
      (s.setFirmware { s.firmware with booted := s.firmware.running }).bootAt 4 s.boot.fail

/-- Steps 7 and 8: the ledger is built, the display restored, and the device is ready. -/
def State.bootLedger (s : State) : State :=
  let s := if s.clocks.degraded || some s.clocks.selected = s.refOrder.head? then s else s.bornOffline hRef 1
  let c := s.err.resetCause
  let s := if c = 1 ∨ c = 2 then s else s.raiseErr 0x0006 0 hDevice 0xFF 0 (detail [(c, 8)])
  let s := (s.bootDisplay.readyBits 4).bootAlarms
  (s.setBoot { s.boot with lastCause := c }).bootDone

/-- What is left of a boot that stands in STAGE 4. -/
def State.bootFinish (s : State) : State := if s.boot.stage = 4 then s.bootLedger else s

/-- BOOT (R631): every step in turn; with `pause` the boot stands in STAGE 4 while the next commands come, and another BOOT
brings it to its end (log 123). Without a healthy reference the boot waits at step 2. -/
def execBoot (healthy : Nat) (mismatch : Option Nat) (pause : Bool) (s : State) : Host.Outcome State Fault Refusal :=
  .next (
    if s.boot.stage = 4 then s.bootLedger
    else if !s.mayBoot then s
    else
      let s := s.bootStraps healthy
      match s.bootReference with
      | none => s.bootAt 1 0
      | some s => if pause then s.bootCupper.bootOn mismatch else (s.bootCupper.bootOn mismatch).bootFinish)

/-- BOOT_NO_REFERENCE (R632): after 100 ms the boot goes on in degraded mode. -/
def execBootNoReference (mismatch : Option Nat) (s : State) : Host.Outcome State Fault Refusal :=
  .next (
    if !s.mayBoot || decide (s.boot.stage ≠ 1) || (s.refOrder.find? s.refOk).isSome then s
    else (s.bootDegraded.bootCupper.bootOn mismatch).bootFinish)

/-- FLASH_SFDP_TIMEOUT (R633): the boot halts at step 3. -/
def execFlashSfdpTimeout (healthy : Nat) (s : State) : Host.Outcome State Fault Refusal :=
  .next (
    if !s.mayBoot then s
    else
      let s := if s.boot.stage = 1 then s else s.bootStraps healthy
      (match s.bootReference with
       | some s => s
       | none => s.bootDegraded).bootAt 15 5)

/-- SUPPLY_SAG_AT_BOOT (R635): load is shed, a mark is written, and the boot starts again from step 1; this is no full
reset. -/
def execSupplySagAtBoot (s : State) : Host.Outcome State Fault Refusal :=
  .next (
    if decide (1 < s.boot.stage) && decide (s.boot.stage ≠ 4) then s
    else
      let s := s.shedLoad
      let w := s.power
      let t := s.setPower { w with
        sag := { w.sag with sagMark := true }
        wake := { w.wake with vreg := false, osc := false, memRdy := false, logic := false } }
      t.bootAt 0 0)

/-! ### Recovery (R643) -/

/-- The recovery registers take writes: a boot stopped for an image, and no image has been verified since. -/
def State.recovering (s : State) : Bool := decide (s.boot.stage = 14) && decide (s.boot.recResult ≠ 3)

/-- The unit whose image failed. -/
def State.failedUnit (s : State) : Nat := if s.boot.fail = 4 then 6 else 2

/-- START: slot A of the unit is erased. -/
def State.recStart (s : State) (unit : Nat) : State :=
  if s.recovering && decide (unit = s.failedUnit) then
    let s := s.setFirmware { s.firmware with slots := s.firmware.slots.set (2 * unit) .empty }
    s.setBoot { s.boot with recUnit := unit, recData := [], recOffset := 0, recResult := 1 }
  else s

/-- A full DATA write programs the page at OFFSET, which must follow what has been written. -/
def State.recPage (s : State) (data : List Byte) : State :=
  let b := s.boot
  if !s.recovering || decide (data.length ≠ 256) then s
  else if b.recOffset ≠ b.recData.length then s.setBoot { b with recResult := 5 }
  else s.setBoot { b with recData := b.recData ++ data, recOffset := (b.recOffset + 256) % 2 ^ 24, recResult := 2 }

/-- COMMIT: slot A is verified; a good image makes it preferred. -/
def State.recCommit (s : State) : State :=
  let u := s.failedUnit
  let d := s.boot.recData
  if !s.recovering then s
  else if headerOk u (s.firmware.counter.get u) d && decide (272 + imgBodyLen d ≤ d.length) && bodyOk d then
    let s := (s.setFirmware { s.firmware with slots := s.firmware.slots.set (2 * u) (slotOf d true) }).prefer u 0
    s.setBoot { s.boot with recResult := 3 }
  else s.setBoot { s.boot with recResult := 4 }

/-- RECOVERY_START. -/
def execRecoveryStart (unit : Nat) (s : State) : Host.Outcome State Fault Refusal := .next (s.recStart unit)

/-- RECOVERY_DATA. -/
def execRecoveryData (data : List Byte) (s : State) : Host.Outcome State Fault Refusal := .next (s.recPage data)

/-- RECOVERY_COMMIT. -/
def execRecoveryCommit (s : State) : Host.Outcome State Fault Refusal := .next s.recCommit

end Sys2Proof.Machine
end

