-- ==== Sys2Proof/Machine/Faults.lean ====
section
/-!
DEFINITION. The faults group (21): telemetry, the error queue and its handling, the bean counters' report, diagnostics,
and the triggers of the full reset that come from outside.
-/

namespace Sys2Proof.Machine

open Sys2Proof

def opTelemetryRead : Op := { code := 0xA001, mark := .g }
def opErrorRead : Op := { code := 0xA002, mark := .m }
def opBeanRead : Op := { code := 0xA003, mark := .m }
def opDiagRun : Op := { code := 0xA004, mark := .m }

/-! ### TELEMETRY_READ (R607 to R609) -/

/-- SIZE of a set. -/
def teleSize : Nat → Option Nat
  | 0 => some 38
  | 1 => some 183
  | 2 => some 10
  | 3 => some 3
  | 4 => some 8
  | 5 => some 2
  | 6 => some 3
  | 7 => some 161
  | 8 => some 4
  | 9 => some 8
  | 10 => some 16
  | 11 => some 56
  | 12 => some 4
  | 13 => some 4
  | _ => none

/-- The unit that a set's SCOPE names exists; a set of the device reads no SCOPE. -/
def State.scopePresent (s : State) (set scope : Nat) : Bool :=
  match set with
  | 0 | 1 => s.present (hInst scope)
  | 2 => s.present (hPipe scope)
  | 3 => s.present (hMon scope)
  | 4 => s.present (hTouch scope)
  | 5 => decide (scope < 32)
  | 6 => decide (scope < 24)
  | 8 => s.present (hClock scope)
  | 9 => s.present (hChannel scope)
  | 13 => s.present (hHaptic scope)
  | _ => true

/-- What a guest may read: its own instance, and the units it owns. -/
def State.mayReadTele (s : State) (n set scope : Nat) : Bool :=
  decide (n = 0) || (match set with
    | 0 | 1 => decide (scope = n)
    | 3 => (s.mon scope).want.enable && decide ((s.mon scope).owner = n)
    | 5 => decide (s.streamHolder scope = n)
    | 13 => decide (s.hapticOwner scope = some n)
    | _ => false)

/-- A refuser packed as (reason, instance, unit, ARG). -/
def Refused.pack (r : Refused) : Nat := Sys2Proof.pack [(r.reason, 8), (r.inst, 8), (r.unit, 16), (r.arg, 8)]

/-- The refusal set: 64 entries of two words, the overflow, the last 16. -/
def State.refusalWord (s : State) (i : Nat) : Nat :=
  let w := s.power
  let two (xs : List (Refused × Nat)) (j : Nat) : Nat := match xs[j / 2]? with
    | some x => if j % 2 = 0 then x.1.pack else x.2
    | none => 0
  if i < 128 then two w.refusals i else if i = 128 then w.overflow else two w.recent (i - 129)

/-- One counter of a set. -/
def State.counter (s : State) (set scope idx : Nat) : Nat :=
  match set with
  | 7 => s.refusalWord idx
  | 10 => if 9 ≤ idx then s.err.byCause.get (idx - 8) else s.tele.get (tkey 10 0 idx)
  | 11 => ofSigned 64 (if idx < 32 then s.power.temps.get idx else s.power.tempMax.get (idx - 32))
  | 12 => s.tele.get (tkey 12 0 idx)
  | _ => s.tele.get (tkey set scope idx)

/-- TELEMETRY_READ. -/
def execTelemetryRead (p : Packet) (s : State) : Host.Outcome State Fault Refusal :=
  packet opTelemetryRead true p s fun s =>
    let set := p.u8 16
    let scope := p.u8 17
    let first := p.u16 18
    let size := (teleSize set).getD 0
    let count := min 500 (size - first)
    checks [(decide (p.target = hDevice) && decide (p.length = 4) && (teleSize set).isSome, .badParam),
        (s.mayReadTele p.inst set scope, .denied), (s.scopePresent set scope, .noUnit)]
      (.done s .ok (w64 s.devTime ++ [w32 (pack [(count, 16), (size, 16)]), 0] ++
        (List.range count).flatMap (fun i => w64 (s.counter set scope (first + i)))))

/-! ### The error queue (R580, R588 to R591) -/

/-- A record as the queue delivers it: 64 bytes, its CRC last. -/
def ErrRec.bytes (r : ErrRec) : List Byte :=
  let b := leBytes 2 r.code ++
    leBytes 2 (pack [(r.severity, 3), (b2n r.escalated, 1), (b2n r.superseded, 1), (b2n r.prior, 1), (b2n r.injected, 1),
      (b2n r.handled, 1), (r.inst, 8)]) ++
    leBytes 2 r.unit ++ leBytes 2 r.count ++ leBytes 8 r.time ++ leBytes 4 r.seqno ++ leBytes 4 r.related ++
    leBytes 4 r.seq ++ leBytes 32 r.detail
  b ++ leBytes 4 (crc32c b).toNat

/-- ACK: the oldest records go, up to the first without HANDLED. -/
def ackErrors : Nat → List ErrRec → List ErrRec
  | 0, q => q
  | _ + 1, [] => []
  | n + 1, r :: q => if r.handled then ackErrors n q else r :: q

/-- ERROR_READ. -/
def execErrorRead (p : Packet) (s : State) : Host.Outcome State Fault Refusal :=
  packet opErrorRead true p s fun s =>
    let max := p.u8 16
    let ack := p.u8 17
    checks [(decide (p.target = hDevice) && decide (p.length = 4) && decide (p.u16 18 = 0) && decide (max ≤ 63) &&
        decide (ack ≤ 64), .badParam)]
      (let q := ackErrors ack s.err.queue
       let got := q.take max
       let e := s.err
       .done (s.setErr { e with queue := q, lost := 0 }) .ok
         ([w32 (pack [(got.length, 16), (q.length, 16)]), w32 e.lost, w32 e.lostTotal,
           w32 ((e.handling.map (·.seqno)).getD 0)] ++ got.flatMap (fun r => bytesWords r.bytes)))

/-! ### BEAN_READ (R606) -/

/-- One pool's block of 88 bytes. -/
def State.beanBlock (s : State) (i : Nat) : List W32 :=
  [w32 i, w32 (s.poolTotal i), w32 (s.poolFree i), w32 (s.poolDevice i)] ++
    (List.range 17).map (fun n => w32 (s.poolHeld i n)) ++ [0]

/-- BEAN_READ. -/
def execBeanRead (p : Packet) (s : State) : Host.Outcome State Fault Refusal :=
  packet opBeanRead true p s fun s =>
    let pool := p.fld 16 0 4
    checks [(decide (p.target = hDevice) && decide (p.length = 4) && decide (p.fld 16 4 28 = 0) &&
        (decide (pool ≤ 9) || decide (pool = 15)), .badParam)]
      (let pools := if pool = 15 then List.range 10 else [pool]
       .done s.tickFree .ok (w64 s.devTime ++ [w32 s.err.audits, w32 (Config.transfers s.freeCtr)] ++
         pools.flatMap s.beanBlock))

/-! ### DIAG_RUN (R610) -/

/-- The RESULT of a test. -/
def diagResult (test outcome value : Nat) : List W32 := [w32 (pack [(test, 8), (outcome, 8)]), w32 value]

/-- BEAN_AUDIT: a sweep at once; a pool out of balance is FATAL, and no reply follows. -/
def execBeanAudit (p : Packet) (s : State) : Host.Outcome State Fault Refusal :=
  packet opDiagRun true p s fun s =>
    checks [(decide (p.target = hDevice) && decide (p.length = 4) && decide (p.word 16 = 1), .badParam)]
      (let bad := (List.range 10).filter (fun i => !s.poolBalanced i)
       let s' := s.beanSweep bad
       if bad.isEmpty then .done s' .ok (diagResult 1 0 0) else .owe s')

/-- FACT_SWEEP: VALUE counts the differences applied. -/
def execFactSweep (p : Packet) (s : State) : Host.Outcome State Fault Refusal :=
  packet opDiagRun true p s fun s =>
    checks [(decide (p.target = hDevice) && decide (p.length = 4) && decide (p.word 16 = 2), .badParam)]
      (let facts := Config.sweepFacts s.freeCtr
       let run := facts.foldl
         (fun (a : State × Nat) f => (a.1.resyncOne f.1 f.2, if a.1.factDiffers f.1 f.2 then a.2 + 1 else a.2)) (s.tickFree, 0)
       .done run.1 .ok (diagResult 2 (if run.2 = 0 then 0 else 1) run.2))

/-- The severities that R581 lists for a code; none for a code it does not name. -/
def errSeverities : Nat → List Nat
  | 0x0001 => [4]
  | 0x0002 => [3]
  | 0x0003 => [0, 2, 3]
  | 0x0004 => [3]
  | 0x0005 => [0]
  | 0x0006 => [0]
  | 0x1001 => [4]
  | 0x1002 => [1]
  | 0x1003 => [4]
  | 0x1004 => [2]
  | 0x1005 => [1]
  | 0x1006 => [4]
  | 0x1007 => [4, 2]
  | 0x2001 => [3]
  | 0x3001 => [2]
  | 0x3002 => [3]
  | 0x5001 => [3]
  | 0x5002 => [3]
  | 0x6001 => [3]
  | 0x7001 => [3]
  | 0x7002 => [3]
  | 0x9001 => [1]
  | 0x9002 => [3]
  | 0x9003 => [4]
  | 0x9004 => [4]
  | 0x9005 => [3]
  | 0x9006 => [0]
  | 0x9007 => [4]
  | 0x9008 => [3]
  | 0xB001 => [0]
  | 0xB002 => [0]
  | 0xB003 => [4]
  | 0xB004 => [3]
  | _ => []

/-- INJECT: the record takes part in merging, escalation, overflow and notification, and nothing else. VALUE is the SEQNO of
the record, of the one it merged into where it merges (DEDUCED, log 80). UNIT is not checked (DEDUCED, log 81). -/
def execInject (p : Packet) (s : State) : Host.Outcome State Fault Refusal :=
  packet opDiagRun true p s fun s =>
    let code := p.u16 20
    let inst := p.u8 22
    let unit := p.u16 24
    let sev := p.fld 26 0 3
    checks [(decide (p.target = hDevice) && decide (p.length = 12) && decide (p.word 16 = 3) && decide (p.u8 23 = 0) &&
        decide (p.fld 26 3 13 = 0) && (decide (inst ≤ 16) || decide (inst = 0xFF)) &&
        (errSeverities code).contains sev && decide (sev ≠ 4), .badParam)]
      (let s' := s.raiseErr code sev unit inst 0 0 true
       let seqno := if s'.err.nextSeqno = s.err.nextSeqno then ((s.err.queue.getLast?).map (·.seqno)).getD 0 else s.err.nextSeqno
       .done s' .ok (diagResult 3 0 seqno))

/-! ### Records and their handling (R582 to R587) -/

/-- The queue's record of a handled firmware copy is marked, where it is still there (R588). -/
def markHandled (r : ErrRec) (superseded : Bool) (q : List ErrRec) : List ErrRec :=
  q.map (fun x => if x.seqno = r.seqno ∧ x.prior = false then { x with handled := true, superseded := superseded } else x)

/-- Steps of this handling are skipped (R585): since the record was raised its unit has come to hold an offline fact, or its
instance has been stopped. A DEGR handling's own fact does not count; it is the record's severity that tells (log 82). -/
def State.superseded (s : State) (r : ErrRec) : Bool :=
  (decide (r.severity ≤ 2) && !r.offlineAt && s.offlineFact r.unit) || (!r.downAt && s.instDown r.inst)

/-- ERROR_LOGGED (R611). -/
def State.errorLogged (s : State) (r : ErrRec) : State :=
  s.raise 0 0xA0 r.unit (detail [(r.seqno, 32), (r.code, 16), (r.severity, 3), (b2n r.escalated, 1), (0, 4), (r.inst, 8),
    (r.unit, 16), (s.err.queue.length, 16), (s.err.lost, 32)])

/-- A handling ends: HANDLED, ERROR_LOGGED for INST and DEGR, and what it pre-empted resumes. -/
def State.finishHandling (s : State) (r : ErrRec) : State :=
  let sup := s.superseded r
  let s := if sup then s.count 10 0 8 else s
  let e := s.err
  let s := s.setErr { e with
    queue := markHandled r sup e.queue, handling := e.preempted.head?, preempted := e.preempted.tail }
  if r.severity = 2 ∨ r.severity = 3 then s.errorLogged r else s

/-- One turn of the handling: the record in hand ends, else the oldest waiting one is taken in hand. Nothing is handled once
a full reset is wanted (R586). -/
def State.handleOne (s : State) : State :=
  let e := s.err
  if e.resetWanted then s
  else match e.handling with
    | some r => s.finishHandling r
    | none => match e.toHandle with
      | r :: rs => s.setErr { e with handling := some r, toHandle := rs }
      | [] => s

/-- ERROR_RECORD: a record of R581 is raised, merged or queued; without one, the handling advances. -/
def execErrorRecord (record : Option ErrArg) (s : State) : Host.Outcome State Fault Refusal :=
  .next (
    match record with
    | some a =>
      if (errSeverities a.code).contains a.severity && s.present a.unit then
        s.raiseErr a.code a.severity a.unit a.inst a.seq a.detail
      else s
    | none => s.handleOne)

/-! ### Triggers of the full reset (R598 to R600) -/

/-- The reset under way is held at step 5 and goes on with its own cause and count (R600). -/
def State.rehold (s : State) : State :=
  let t := s.fullReset 3
  let e := s.err
  (t.setErr { e with held := false }).setBoot { t.boot with lastCause := s.boot.lastCause, stage := 0, fail := 0 }

/-- RESET_N_LOW: the full reset of cause 3, or a hold of the one under way; deferred during a Last-pour save (R576, R600).
A device in Shelf has no power beyond the Warmer. -/
def execResetNLow (s : State) : Host.Outcome State Fault Refusal :=
  let s := s.setPower { s.power with resetPin := true }
  .next (
    if s.power.poured || decide (s.power.state = .shelf) then s
    else if s.boot.stage = 6 then s.shedLoad.fullReset 3
    else s.rehold)

/-- RESET_N_RISE: the boot may begin. -/
def execResetNRise (s : State) : Host.Outcome State Fault Refusal :=
  .next (s.setPower { s.power with resetPin := false })

/-- FULL_RESET: the sequence that a DEVICE_RESET or a FATAL record wanted (R164, R586, R598). -/
def execFullReset (s : State) : Host.Outcome State Fault Refusal :=
  .next (
    if s.err.resetWanted && decide (s.boot.stage = 6) && !s.power.poured then s.shedLoad.fullReset s.err.resetCause else s)

end Sys2Proof.Machine
end

