-- ==== Sys2Proof/Machine/Management.lean ====
section
/-!
DEFINITION. The management port (03 R126 to R128; 23 R640 to R643): SMBus transactions and their PEC, MCTP messages, Ibnov
packets and the basic status registers over it. The framing is that of DSP0236 and DSP0237 (PRESUMED, log 87).
-/

namespace Sys2Proof.Machine

open Sys2Proof

/-- The Warmer serves the port in every power state but Shelf (R641). -/
def State.mgmtOn (s : State) : Bool := decide (s.power.state ≠ .shelf)

/-- A message is discarded and counted. -/
def State.mgmtDiscard (s : State) : State := s.setBoot { s.boot with discarded := s.boot.discarded + 1 }

/-- A response goes to the requester. -/
def State.mgmtSend (s : State) (bs : List Byte) : State := s.setTp { s.tp with mgmtOut := s.tp.mgmtOut ++ [bs] }

/-- A whole message of a tag leaves the arrived ones. -/
def State.mgmtServed (s : State) (tag : Nat) : State :=
  s.setBoot { s.boot with arrived := s.boot.arrived.filter (fun m => decide (m.1 ≠ tag)) }

/-! ### SMBUS_TRANSACTION (R126, R640, R641) -/

/-- The message types that are served: control, and vendor-defined with a KIND of R641 and no integrity check. -/
def mgmtTypeOk (body : List Byte) : Bool :=
  let t := (body.getD 0 0xFF).toNat
  decide (t = 0x00) || (decide (t = 0x7E) && decide (1 ≤ (body.getD 3 0).toNat) && decide ((body.getD 3 0).toNat ≤ 3))

/-- A packet of a message: start opens the tag's assembly, end makes the message whole. -/
def State.mgmtPacket (s : State) (tag : Nat) (som eom : Bool) (body : List Byte) : State :=
  let b := s.boot
  let old := (b.asm.find? (fun m => decide (m.1 = tag))).map (·.2)
  let rest := b.asm.filter (fun m => decide (m.1 ≠ tag))
  match (if som then some [] else old) with
  | none => s
  | some got =>
    let all := got ++ body
    if !eom then s.setBoot { b with asm := rest ++ [(tag, all)] }
    else
      let s := s.setBoot { b with asm := rest }
      if mgmtTypeOk all then s.setBoot { s.boot with arrived := s.boot.arrived ++ [(tag, all)] } else s.mgmtDiscard

/-- SMBUS_TRANSACTION: every byte of a block write to the device, from the address byte to the PEC. A failed PEC is NACKed,
and what follows up to the next start of message is discarded. -/
def execSmbusTransaction (bytes : List Byte) (s : State) : Host.Outcome State Fault Refusal :=
  let n := bytes.length
  let flags := (bytes.getD 7 0).toNat
  let tag := flags % 8
  let som := bitOf flags 7
  let eid := (bytes.getD 5 0).toNat
  .next (
    if !s.mgmtOn || decide ((bytes.getD 0 0).toNat ≠ 2 * (0x68 + s.board.smbaddr)) || decide (n < 9) then s
    else if crc8 (bytes.take (n - 1)) ≠ bytes.getD (n - 1) 0 then
      let b := s.boot
      (s.setBoot { b with nacked := true, skipping := true, asm := b.asm.filter (fun m => decide (m.1 ≠ tag)) }).mgmtDiscard
    else
      let s := s.setBoot { s.boot with nacked := false }
      if decide ((bytes.getD 1 0).toNat ≠ 0x0F) || decide ((bytes.getD 2 0).toNat + 4 ≠ n) || decide (eid ≠ s.boot.eid.getD 0) then s
      else if s.boot.skipping && !som then s
      else (s.setBoot { s.boot with skipping := false }).mgmtPacket tag som (bitOf flags 6) ((bytes.take (n - 1)).drop 8))

/-- MCTP_MESSAGE_TIMEOUT: the next packet of a message has not come within 100 ms. -/
def execMctpMessageTimeout (tag : Nat) (s : State) : Host.Outcome State Fault Refusal :=
  .next (
    if s.boot.asm.any (fun m => decide (m.1 = tag)) then
      (s.setBoot { s.boot with asm := s.boot.asm.filter (fun m => decide (m.1 ≠ tag)) }).mgmtDiscard
    else s)

/-! ### Ibnov packets (R51, R127, R128) -/

/-- Packets of the management port in flight. -/
def State.mgmtInFlight (s : State) : Nat :=
  (s.tp.accepted.filter (fun a => match a.p.src with
    | .mgmt _ => true
    | .sq _ _ _ => false)).length

/-- A reply that uses no credit (R128). -/
def State.mgmtBusy (s : State) (opcode : Nat) (p : Packet) : State :=
  let r : Reply :=
    { inst := 0, src := p.src, opcode := opcode, status := .busy, seq := p.seq, newgen := s.newGenFor p.target, result := [],
      notify := false, stalled := false }
  (s.setTp { s.tp with replies := s.tp.replies ++ [r] }).count 0 0 (4 + Status.busy.index)

/-- MCTP_IBNOV_MESSAGE: `bytes` is the packet with its trailer; it is checked as from a P2 ring of instance 0. -/
def execMctpIbnovMessage (tag : Nat) (integrity : Bool) (bytes : List Byte) (s : State) : Host.Outcome State Fault Refusal :=
  let h := parseHeader bytes
  let p := toPacket 0 (.mgmt tag) h bytes
  .next (
    if integrity then (s.mgmtServed tag).mgmtDiscard
    else if !s.accepting then s
    else
      let s := s.mgmtServed tag
      if 4 ≤ s.mgmtInFlight ∨ (s.inst 0).credits ≤ s.creditsHeld 0 then s.mgmtBusy h.opcode p
      else if decide (bytes.length < 16) || !h.frameOk || decide (bytes.length ≠ 20 + h.length) then s.answerBroken h.opcode p .badParam
      else if !trailerOk h bytes then s.answerBroken h.opcode p .badCrc
      else (s.count 0 0 2).takePacket p h.opcode (s.acceptCheck 0 2 false h))

/-! ### The basic status registers (R642) -/

/-- `BOOT_STATUS`. RESETS_60S looks back 60 s on the RTC. -/
def State.bootStatus (s : State) : Nat :=
  let b := s.boot
  let r := (s.err.recent.filter (fun t => decide (s.power.rtcNs ≤ t + 60000000000))).length
  pack [(b.stage, 4), (b.fail, 4), (b2n b.cupperB, 1), (b2n b.baristaB, 1), (b2n s.sec.available, 1), (b2n b.restored, 1),
    (b.lastCause, 4), (min r 15, 4)]

/-- `STRAP_STATUS`. -/
def State.strapStatus (s : State) : Nat :=
  let b := s.board
  pack [(b.refsel, 2), (b.mgrport, 2), (b.mgrPortInForce, 2), (b.smbaddr, 2), (b2n b.flash1s, 1)]

/-- `ERR_SUMMARY`. -/
def State.errSummary (s : State) : Nat :=
  let fatal := (s.err.queue.filter (fun r => decide (r.severity = 4))).getLast?
  pack [(s.err.queue.length, 8), (0, 8), ((fatal.map (·.code)).getD 0, 16)]

/-- `RECOVERY_CTRL`. -/
def State.recoveryCtrl (s : State) : Nat := pack [(s.boot.recUnit, 3), (0, 5), (0, 3), (s.boot.recResult, 3)]

/-- The 64 readable bytes; `hi` is what 0x2C reads as. -/
def State.basicBytes (s : State) (hi : Nat) : List Byte :=
  [s.bootStatus, s.strapStatus, pack [(s.clocks.selected, 4), (s.refHealth, 4)], s.power.wake.word, s.sec.causes,
    ofSigned 16 s.tj, s.errSummary, Config.memberCode s.board.member % 65536, Config.deviceId, Config.deviceId / 2 ^ 32,
    s.devTime, hi, s.recoveryCtrl, s.boot.recOffset, 0, 0].flatMap (fun v => leBytes 4 v)

/-- COUNT bytes at OFFSET are readable. -/
def basicReadOk (reg len : Nat) : Bool :=
  decide (4 ≤ len) && decide (len ≤ 64) && decide (len % 4 = 0) && decide (reg + len ≤ 0x40)

/-- BASIC_REGISTER_READ: a read of 0x28 latches the upper half of DEV_TIME for the next read of 0x2C (R45). -/
def execBasicRegisterRead (reg len : Nat) (s : State) : Host.Outcome State Fault Refusal :=
  .next (
    if !s.mgmtOn then s
    else if !basicReadOk reg len then s.mgmtSend (mgmtBody 2 [1])
    else
      let live := s.devTime / 2 ^ 32 % 2 ^ 32
      let low := decide (reg ≤ 0x28) && decide (0x28 < reg + len)
      let high := decide (reg ≤ 0x2C) && decide (0x2C < reg + len)
      let hi := if low then live else s.boot.timeHi.getD live
      let out := mgmtBody 2 (0 :: ((s.basicBytes hi).drop reg).take len)
      (s.setBoot { s.boot with timeHi := if high then none else if low then some live else s.boot.timeHi }).mgmtSend out)

/-- One word written to the recovery registers. -/
def State.recWrite (s : State) (reg v : Nat) : State :=
  if !s.recovering then s
  else if reg = 0x30 then
    let s := s.setBoot { s.boot with recUnit := v % 8 }
    let s := if bitOf v 8 then s.recStart (v % 8) else s
    if bitOf v 9 then s.recCommit else s
  else if reg = 0x34 then s.setBoot { s.boot with recOffset := v % 2 ^ 24 }
  else s

/-- BASIC_REGISTER_WRITE: STATUS 1 beyond the writable registers, 2 outside recovery. -/
def execBasicRegisterWrite (reg : Nat) (data : List Byte) (s : State) : Host.Outcome State Fault Refusal :=
  let n := data.length
  .next (
    if !s.mgmtOn then s
    else if decide (n < 4) || decide (256 < n) || decide (reg < 0x30) || decide (0x140 < reg + n) then s.mgmtSend (mgmtBody 3 [1])
    else if s.boot.stage ≠ 14 then s.mgmtSend (mgmtBody 3 [2])
    else
      let word (i : Nat) : Nat := leNat ((data.drop (4 * i)).take 4)
      let s := if reg = 0x40 ∧ n = 256 then s.recPage data
        else (List.range (n / 4)).foldl (fun s i => s.recWrite (reg + 4 * i) (word i)) s
      s.mgmtSend (mgmtBody 3 [0]))

/-! ### MCTP control commands (R640) -/

/-- The response to a control command: type 0, command code, completion code, data. The byte with the requester's instance
ID is not part of the operand (log 87). -/
def ctrlBody (command completion : Nat) (data : List Byte) : List Byte :=
  [0x00, BitVec.ofNat 8 command, BitVec.ofNat 8 completion] ++ data

/-- A control command is answered where the port is served. -/
def State.ctrl (s : State) (command completion : Nat) (data : List Byte) : State :=
  if s.mgmtOn then s.mgmtSend (ctrlBody command completion data) else s

/-- SET_ENDPOINT_ID: set and force assign an EID; there is no static one to reset to. -/
def execSetEndpointId (op eid : Nat) (s : State) : Host.Outcome State Fault Refusal :=
  .next (
    if !s.mgmtOn then s
    else if (op = 0 ∨ op = 1) ∧ 8 ≤ eid ∧ eid < 255 then
      (s.setBoot { s.boot with eid := some eid }).ctrl 1 0 [0, BitVec.ofNat 8 eid, 0]
    else s.ctrl 1 2 [])

/-- GET_ENDPOINT_ID. -/
def execGetEndpointId (s : State) : Host.Outcome State Fault Refusal :=
  .next (s.ctrl 2 0 [BitVec.ofNat 8 (s.boot.eid.getD 0), 0, 0])

/-- GET_ENDPOINT_UUID. -/
def execGetEndpointUuid (s : State) : Host.Outcome State Fault Refusal := .next (s.ctrl 3 0 Config.uuid)

/-- GET_MCTP_VERSION_SUPPORT: version 1.3 of the base specification and of control messages. -/
def execGetMctpVersionSupport (msgType : Nat) (s : State) : Host.Outcome State Fault Refusal :=
  .next (
    if msgType = 0xFF ∨ msgType = 0 then s.ctrl 4 0 [1, 0xF1, 0xF3, 0xF0, 0x00] else s.ctrl 4 0x80 [])

/-- GET_MESSAGE_TYPE_SUPPORT: vendor-defined (PCI). -/
def execGetMessageTypeSupport (s : State) : Host.Outcome State Fault Refusal := .next (s.ctrl 5 0 [1, 0x7E])

/-- GET_VENDOR_DEFINED_MESSAGE_SUPPORT: one vendor ID set, in PCI format. -/
def execGetVendorDefinedMessageSupport (selector : Nat) (s : State) : Host.Outcome State Fault Refusal :=
  .next (
    if selector = 0 then
      s.ctrl 6 0 [0xFF, 0, BitVec.ofNat 8 (Config.vendorId / 256), BitVec.ofNat 8 Config.vendorId, 0, 0]
    else s.ctrl 6 2 [])

/-- ERROR_UNSUPPORTED_CMD: every other control command. -/
def execErrorUnsupportedCmd (command : Nat) (s : State) : Host.Outcome State Fault Refusal := .next (s.ctrl command 5 [])

end Sys2Proof.Machine
end

