-- ==== Sys2Proof/Machine/Dispatch.lean ====
section
/-!
DEFINITION. One arm per command: each calls the meaning of its row.
-/

namespace Sys2Proof.Machine

open Sys2Proof

/-- The effect of a command on everything but the queue. -/
def exec (i : Instr) (s : State) : Host.Outcome State Fault Refusal :=
  match i with
  | .nop p => Sys2Proof.Machine.execNop p s
  | .deviceCaps p => Sys2Proof.Machine.execDeviceCaps p s
  | .ledgerRead p => Sys2Proof.Machine.execLedgerRead p s
  | .eventFetch p => Sys2Proof.Machine.execEventFetch p s
  | .loopSetBounds p => Sys2Proof.Machine.execLoopSetBounds p s
  | .loopSetPinPresent p => Sys2Proof.Machine.execLoopSetPinPresent p s
  | .loopSetPinValue p => Sys2Proof.Machine.execLoopSetPinValue p s
  | .loopSetUnpin p => Sys2Proof.Machine.execLoopSetUnpin p s
  | .portConfig p => Sys2Proof.Machine.execPortConfig p s
  | .deviceReset p => Sys2Proof.Machine.execDeviceReset p s
  | .instCreate p => Sys2Proof.Machine.execInstCreate p s
  | .instBind p => Sys2Proof.Machine.execInstBind p s
  | .instQuotaSet p => Sys2Proof.Machine.execInstQuotaSet p s
  | .instQuiesce p => Sys2Proof.Machine.execInstQuiesce p s
  | .instReset p => Sys2Proof.Machine.execInstReset p s
  | .instFreeze p => Sys2Proof.Machine.execInstFreeze p s
  | .instSave p => Sys2Proof.Machine.execInstSave p s
  | .instRestore p => Sys2Proof.Machine.execInstRestore p s
  | .instThaw p => Sys2Proof.Machine.execInstThaw p s
  | .instDestroy p => Sys2Proof.Machine.execInstDestroy p s
  | .memMap p => Sys2Proof.Machine.execMemMap p s
  | .memUnmap p => Sys2Proof.Machine.execMemUnmap p s
  | .copy p => Sys2Proof.Machine.execCopy p s
  | .memConfigRegions p => Sys2Proof.Machine.execMemConfigRegions p s
  | .memConfigNeighbourRefresh p => Sys2Proof.Machine.execMemConfigNeighbourRefresh p s
  | .memConfigScheduler p => Sys2Proof.Machine.execMemConfigScheduler p s
  | .memConfigClassWays p => Sys2Proof.Machine.execMemConfigClassWays p s
  | .surfaceCreate p => Sys2Proof.Machine.execSurfaceCreate p s
  | .surfaceDestroy p => Sys2Proof.Machine.execSurfaceDestroy p s
  | .writeBegin p => Sys2Proof.Machine.execWriteBegin p s
  | .writeEnd p => Sys2Proof.Machine.execWriteEnd p s
  | .seal p => Sys2Proof.Machine.execSeal p s
  | .retireFence p => Sys2Proof.Machine.execRetireFence p s
  | .shaderLoad p => Sys2Proof.Machine.execShaderLoad p s
  | .pipelineCreate p => Sys2Proof.Machine.execPipelineCreate p s
  | .pipelineDestroy p => Sys2Proof.Machine.execPipelineDestroy p s
  | .queueConfigDepth p => Sys2Proof.Machine.execQueueConfigDepth p s
  | .queueConfigCache p => Sys2Proof.Machine.execQueueConfigCache p s
  | .queueConfigEvict p => Sys2Proof.Machine.execQueueConfigEvict p s
  | .queueConfigLimits p => Sys2Proof.Machine.execQueueConfigLimits p s
  | .submit p => Sys2Proof.Machine.execSubmit p s
  | .hopperGrant p => Sys2Proof.Machine.execHopperGrant p s
  | .layerSet p => Sys2Proof.Machine.execLayerSet p s
  | .layerRelease p => Sys2Proof.Machine.execLayerRelease p s
  | .commit p => Sys2Proof.Machine.execCommit p s
  | .motionHint p => Sys2Proof.Machine.execMotionHint p s
  | .coefLoad p => Sys2Proof.Machine.execCoefLoad p s
  | .zfloorSet p => Sys2Proof.Machine.execZfloorSet p s
  | .toneSet p => Sys2Proof.Machine.execToneSet p s
  | .panelLutSet p => Sys2Proof.Machine.execPanelLutSet p s
  | .pipeTiming p => Sys2Proof.Machine.execPipeTiming p s
  | .pipeTimingLeadOnly p => Sys2Proof.Machine.execPipeTimingLeadOnly p s
  | .pipeEnable p => Sys2Proof.Machine.execPipeEnable p s
  | .lineMatchSet p => Sys2Proof.Machine.execLineMatchSet p s
  | .regionMonSet p => Sys2Proof.Machine.execRegionMonSet p s
  | .linkConfig p => Sys2Proof.Machine.execLinkConfig p s
  | .routeSet p => Sys2Proof.Machine.execRouteSet p s
  | .dscAssign p => Sys2Proof.Machine.execDscAssign p s
  | .panelPowerOff p => Sys2Proof.Machine.execPanelPowerOff p s
  | .panelPowerOn p => Sys2Proof.Machine.execPanelPowerOn p s
  | .panelPowerConfigure p => Sys2Proof.Machine.execPanelPowerConfigure p s
  | .backlightSet p => Sys2Proof.Machine.execBacklightSet p s
  | .streamSet p => Sys2Proof.Machine.execStreamSet p s
  | .touchPanelConfig p => Sys2Proof.Machine.execTouchPanelConfig p s
  | .touchMode p => Sys2Proof.Machine.execTouchMode p s
  | .touchReportSetup p => Sys2Proof.Machine.execTouchReportSetup p s
  | .touchReportReturn p => Sys2Proof.Machine.execTouchReportReturn p s
  | .touchSelftest p => Sys2Proof.Machine.execTouchSelftest p s
  | .wakeZoneSet p => Sys2Proof.Machine.execWakeZoneSet p s
  | .effectLoad p => Sys2Proof.Machine.execEffectLoad p s
  | .effectPlay p => Sys2Proof.Machine.execEffectPlay p s
  | .effectStop p => Sys2Proof.Machine.execEffectStop p s
  | .clickRegionSet p => Sys2Proof.Machine.execClickRegionSet p s
  | .actuatorCheck p => Sys2Proof.Machine.execActuatorCheck p s
  | .actuatorCharacterise p => Sys2Proof.Machine.execActuatorCharacterise p s
  | .actuatorConfigure p => Sys2Proof.Machine.execActuatorConfigure p s
  | .streamOpen p => Sys2Proof.Machine.execStreamOpen p s
  | .streamBuffers p => Sys2Proof.Machine.execStreamBuffers p s
  | .streamClose p => Sys2Proof.Machine.execStreamClose p s
  | .gainSet p => Sys2Proof.Machine.execGainSet p s
  | .mixRouteInput p => Sys2Proof.Machine.execMixRouteInput p s
  | .mixRouteDest p => Sys2Proof.Machine.execMixRouteDest p s
  | .tdmConfigPort p => Sys2Proof.Machine.execTdmConfigPort p s
  | .tdmConfigMixer p => Sys2Proof.Machine.execTdmConfigMixer p s
  | .tdmConfigPdm p => Sys2Proof.Machine.execTdmConfigPdm p s
  | .lowlatSet p => Sys2Proof.Machine.execLowlatSet p s
  | .alarmSourceSet p => Sys2Proof.Machine.execAlarmSourceSet p s
  | .tonePlay p => Sys2Proof.Machine.execTonePlay p s
  | .toneStop p => Sys2Proof.Machine.execToneStop p s
  | .powerState p => Sys2Proof.Machine.execPowerState p s
  | .powerStatePipe p => Sys2Proof.Machine.execPowerStatePipe p s
  | .keepAwake p => Sys2Proof.Machine.execKeepAwake p s
  | .powerConfig p => Sys2Proof.Machine.execPowerConfig p s
  | .powerConfigRelease p => Sys2Proof.Machine.execPowerConfigRelease p s
  | .telemetryRead p => Sys2Proof.Machine.execTelemetryRead p s
  | .errorRead p => Sys2Proof.Machine.execErrorRead p s
  | .beanRead p => Sys2Proof.Machine.execBeanRead p s
  | .beanAudit p => Sys2Proof.Machine.execBeanAudit p s
  | .factSweep p => Sys2Proof.Machine.execFactSweep p s
  | .inject p => Sys2Proof.Machine.execInject p s
  | .status p => Sys2Proof.Machine.execStatus p s
  | .random p => Sys2Proof.Machine.execRandom p s
  | .attest p => Sys2Proof.Machine.execAttest p s
  | .fallbackSet p => Sys2Proof.Machine.execFallbackSet p s
  | .layerEscalate p => Sys2Proof.Machine.execLayerEscalate p s
  | .pipeEscalate p => Sys2Proof.Machine.execPipeEscalate p s
  | .tonePattern p => Sys2Proof.Machine.execTonePattern p s
  | .alarmTest p => Sys2Proof.Machine.execAlarmTest p s
  | .migrationKeyInstall p => Sys2Proof.Machine.execMigrationKeyInstall p s
  | .migrationKeyErase p => Sys2Proof.Machine.execMigrationKeyErase p s
  | .debugChallenge p => Sys2Proof.Machine.execDebugChallenge p s
  | .debugResponse p => Sys2Proof.Machine.execDebugResponse p s
  | .refillBegin p => Sys2Proof.Machine.execRefillBegin p s
  | .refillData p => Sys2Proof.Machine.execRefillData p s
  | .refillCommit p => Sys2Proof.Machine.execRefillCommit p s
  | .refillAbort p => Sys2Proof.Machine.execRefillAbort p s
  | .slotSelect p => Sys2Proof.Machine.execSlotSelect p s
  | .calRead p => Sys2Proof.Machine.execCalRead p s
  | .usercalStore p => Sys2Proof.Machine.execUsercalStore p s
  | .usercalErase p => Sys2Proof.Machine.execUsercalErase p s
  | .usercalWrite p => Sys2Proof.Machine.execUsercalWrite p s
  | .recalTouch p => Sys2Proof.Machine.execRecalTouch p s
  | .recalHaptic p => Sys2Proof.Machine.execRecalHaptic p s
  | .recalDram p => Sys2Proof.Machine.execRecalDram p s
  | .recalMic p => Sys2Proof.Machine.execRecalMic p s
  | .sqTailDoorbell port fn ring tail => Sys2Proof.Machine.execSqTailDoorbell port fn ring tail s
  | .sqResume port fn ring => Sys2Proof.Machine.execSqResume port fn ring s
  | .ringSizeWrite port fn ring value => Sys2Proof.Machine.execRingSizeWrite port fn ring value s
  | .ringHeadWrite port fn event value => Sys2Proof.Machine.execRingHeadWrite port fn event value s
  | .evtMaskWrite port fn k value => Sys2Proof.Machine.execEvtMaskWrite port fn k value s
  | .devTimeLowRead port fn => Sys2Proof.Machine.execDevTimeLowRead port fn s
  | .bar0BadAccess port fn write => Sys2Proof.Machine.execBar0BadAccess port fn write s
  | .registerWrite port fn offset value => Sys2Proof.Machine.execRegisterWrite port fn offset value s
  | .hostBar2Access port fn addr acc => Sys2Proof.Machine.execHostBar2Access port fn addr acc s
  | .hostBar4Access port fn addr acc => Sys2Proof.Machine.execHostBar4Access port fn addr acc s
  | .hostAtomicop port fn bar addr op wide operand => Sys2Proof.Machine.execHostAtomicop port fn bar addr op wide operand s
  | .eicSourceEdge source => Sys2Proof.Machine.execEicSourceEdge source s
  | .eicClaim target => Sys2Proof.Machine.execEicClaim target s
  | .eicComplete target id => Sys2Proof.Machine.execEicComplete target id s
  | .eicPendWithdraw target source => Sys2Proof.Machine.execEicPendWithdraw target source s
  | .mailboxFullSet toCupper slot data => Sys2Proof.Machine.execMailboxFullSet toCupper slot data s
  | .gatewayCall core slot entry inst data cause opcode => Sys2Proof.Machine.execGatewayCall core slot entry inst data cause opcode s
  | .gatewayReturn slot data => Sys2Proof.Machine.execGatewayReturn slot data s
  | .gatewayTimeout slot => Sys2Proof.Machine.execGatewayTimeout slot s
  | .packetAccept port fn ring bytes => Sys2Proof.Machine.execPacketAccept port fn ring bytes s
  | .replyWrite path => Sys2Proof.Machine.execReplyWrite path s
  | .eventWrite port fn => Sys2Proof.Machine.execEventWrite port fn s
  | .smbusTransaction bytes => Sys2Proof.Machine.execSmbusTransaction bytes s
  | .mctpIbnovMessage tag integrity bytes => Sys2Proof.Machine.execMctpIbnovMessage tag integrity bytes s
  | .basicRegisterRead reg len => Sys2Proof.Machine.execBasicRegisterRead reg len s
  | .basicRegisterWrite reg data => Sys2Proof.Machine.execBasicRegisterWrite reg data s
  | .recoveryStart unit => Sys2Proof.Machine.execRecoveryStart unit s
  | .recoveryData data => Sys2Proof.Machine.execRecoveryData data s
  | .recoveryCommit => Sys2Proof.Machine.execRecoveryCommit s
  | .setEndpointId op eid => Sys2Proof.Machine.execSetEndpointId op eid s
  | .getEndpointId => Sys2Proof.Machine.execGetEndpointId s
  | .getEndpointUuid => Sys2Proof.Machine.execGetEndpointUuid s
  | .getMctpVersionSupport msgType => Sys2Proof.Machine.execGetMctpVersionSupport msgType s
  | .getMessageTypeSupport => Sys2Proof.Machine.execGetMessageTypeSupport s
  | .getVendorDefinedMessageSupport selector => Sys2Proof.Machine.execGetVendorDefinedMessageSupport selector s
  | .errorUnsupportedCmd command => Sys2Proof.Machine.execErrorUnsupportedCmd command s
  | .mctpMessageTimeout tag => Sys2Proof.Machine.execMctpMessageTimeout tag s
  | .functionLevelReset port fn => Sys2Proof.Machine.execFunctionLevelReset port fn s
  | .busMasterEnableCleared port fn => Sys2Proof.Machine.execBusMasterEnableCleared port fn s
  | .vfEnableCleared port enable numVfs => Sys2Proof.Machine.execVfEnableCleared port enable numVfs s
  | .perstNAsserted port => Sys2Proof.Machine.execPerstNAsserted port s
  | .perstNDeasserted port => Sys2Proof.Machine.execPerstNDeasserted port s
  | .hostLinkUp port => Sys2Proof.Machine.execHostLinkUp port s
  | .hostLinkDown port => Sys2Proof.Machine.execHostLinkDown port s
  | .configRequest port fn field value => Sys2Proof.Machine.execConfigRequest port fn field value s
  | .quiesceDrained inst => Sys2Proof.Machine.execQuiesceDrained inst s
  | .freezeSaved inst => Sys2Proof.Machine.execFreezeSaved inst s
  | .resetScrubbed inst => Sys2Proof.Machine.execResetScrubbed inst s
  | .autoreset inst => Sys2Proof.Machine.execAutoreset inst s
  | .drainBoundExpiry inst undrained => Sys2Proof.Machine.execDrainBoundExpiry inst undrained s
  | .wedgedEngineFree unit => Sys2Proof.Machine.execWedgedEngineFree unit s
  | .ledgerFact unit fact => Sys2Proof.Machine.execLedgerFact unit fact s
  | .ledgerFactCleared unit => Sys2Proof.Machine.execLedgerFactCleared unit s
  | .settled unit => Sys2Proof.Machine.execSettled unit s
  | .ledgerResync facts => Sys2Proof.Machine.execLedgerResync facts s
  | .loopConstrained unit loop => Sys2Proof.Machine.execLoopConstrained unit loop s
  | .beanSweep mismatched => Sys2Proof.Machine.execBeanSweep mismatched s
  | .neighbourRefresh channel bank row => Sys2Proof.Machine.execNeighbourRefresh channel bank row s
  | .neighbourReseed => Sys2Proof.Machine.execNeighbourReseed s
  | .requestPromoted channel request => Sys2Proof.Machine.execRequestPromoted channel request s
  | .dramRetrain channel converged => Sys2Proof.Machine.execDramRetrain channel converged s
  | .dramEccError channel double region inst iaddr => Sys2Proof.Machine.execDramEccError channel double region inst iaddr s
  | .scrubPass => Sys2Proof.Machine.execScrubPass s
  | .spadEccUncorr block offset => Sys2Proof.Machine.execSpadEccUncorr block offset s
  | .copyPacketStart inst seq => Sys2Proof.Machine.execCopyPacketStart inst seq s
  | .copyDescriptorDone engine hostData => Sys2Proof.Machine.execCopyDescriptorDone engine hostData s
  | .hostCompletionError engine moved => Sys2Proof.Machine.execHostCompletionError engine moved s
  | .hostCompletionTimeout engine moved => Sys2Proof.Machine.execHostCompletionTimeout engine moved s
  | .busTimeout inst initiator unit write len => Sys2Proof.Machine.execBusTimeout inst initiator unit write len s
  | .gateRequest unit pending => Sys2Proof.Machine.execGateRequest unit pending s
  | .writeWindowClosed inst surface => Sys2Proof.Machine.execWriteWindowClosed inst surface s
  | .shaderCompileDone inst seq error stages components => Sys2Proof.Machine.execShaderCompileDone inst seq error stages components s
  | .compileAbandoned inst seq => Sys2Proof.Machine.execCompileAbandoned inst seq s
  | .submitStart inst queue work => Sys2Proof.Machine.execSubmitStart inst queue work s
  | .schedulingDecision => Sys2Proof.Machine.execSchedulingDecision s
  | .urgencyEvaluation => Sys2Proof.Machine.execUrgencyEvaluation s
  | .preemptRequest cluster => Sys2Proof.Machine.execPreemptRequest cluster s
  | .clusterFree cluster => Sys2Proof.Machine.execClusterFree cluster s
  | .hopperFault inst queue prims => Sys2Proof.Machine.execHopperFault inst queue prims s
  | .hopperGrantWaitExpiry inst queue => Sys2Proof.Machine.execHopperGrantWaitExpiry inst queue s
  | .hopperFlushed inst queue => Sys2Proof.Machine.execHopperFlushed inst queue s
  | .binTileDone inst queue tile touched data => Sys2Proof.Machine.execBinTileDone inst queue tile touched data s
  | .workgroupTimeLimit inst queue cluster => Sys2Proof.Machine.execWorkgroupTimeLimit inst queue cluster s
  | .submitComplete inst queue work => Sys2Proof.Machine.execSubmitComplete inst queue work s
  | .clusterOffline cluster token => Sys2Proof.Machine.execClusterOffline cluster token s
  | .frameStart pipe => Sys2Proof.Machine.execFrameStart pipe s
  | .latchLine pipe => Sys2Proof.Machine.execLatchLine pipe s
  | .bandWindowOpen pipe band => Sys2Proof.Machine.execBandWindowOpen pipe band s
  | .bandCompose faults => Sys2Proof.Machine.execBandCompose faults s
  | .bandScanoutEnd pipe => Sys2Proof.Machine.execBandScanoutEnd pipe s
  | .scanoutUnderrun pipe line column => Sys2Proof.Machine.execScanoutUnderrun pipe line column s
  | .scanoutRelease inst surface => Sys2Proof.Machine.execScanoutRelease inst surface s
  | .lineMatch pipe line => Sys2Proof.Machine.execLineMatch pipe line s
  | .frameDone pipe => Sys2Proof.Machine.execFrameDone pipe s
  | .vblankStart pipe period => Sys2Proof.Machine.execVblankStart pipe period s
  | .quietWindow pipe opens => Sys2Proof.Machine.execQuietWindow pipe opens s
  | .pixelPllLocked pipe => Sys2Proof.Machine.execPixelPllLocked pipe s
  | .pixHeld pipe => Sys2Proof.Machine.execPixHeld pipe s
  | .pixRelockAttempt pipe locked => Sys2Proof.Machine.execPixRelockAttempt pipe locked s
  | .pixOfflineRetry pipe locked => Sys2Proof.Machine.execPixOfflineRetry pipe locked s
  | .pixUnlockAtStop pipe => Sys2Proof.Machine.execPixUnlockAtStop pipe s
  | .regionMonFrame monitor => Sys2Proof.Machine.execRegionMonFrame monitor s
  | .regionMonMissing monitor => Sys2Proof.Machine.execRegionMonMissing monitor s
  | .hpdLow unit => Sys2Proof.Machine.execHpdLow unit s
  | .hpdIrq unit lockLost => Sys2Proof.Machine.execHpdIrq unit lockLost s
  | .hpdRise unit edid => Sys2Proof.Machine.execHpdRise unit edid s
  | .linkTrainingDone unit ok lanes mbps => Sys2Proof.Machine.execLinkTrainingDone unit ok lanes mbps s
  | .trainRetry unit => Sys2Proof.Machine.execTrainRetry unit s
  | .panelSequenceStep unit => Sys2Proof.Machine.execPanelSequenceStep unit s
  | .d2dFrame main valid => Sys2Proof.Machine.execD2dFrame main valid s
  | .d2dLinkLost main => Sys2Proof.Machine.execD2dLinkLost main s
  | .d2dLinkRetry => Sys2Proof.Machine.execD2dLinkRetry s
  | .d2dLinkUp => Sys2Proof.Machine.execD2dLinkUp s
  | .touchPanelStart panel temp raw self codes => Sys2Proof.Machine.execTouchPanelStart panel temp raw self codes s
  | .touchBurst panel edge => Sys2Proof.Machine.execTouchBurst panel edge s
  | .touchFrame panel raw self => Sys2Proof.Machine.execTouchFrame panel raw self s
  | .touchLong panel id => Sys2Proof.Machine.execTouchLong panel id s
  | .touchAbsorbed panel => Sys2Proof.Machine.execTouchAbsorbed panel s
  | .gloveModeExit panel => Sys2Proof.Machine.execGloveModeExit panel s
  | .wetExit panel => Sys2Proof.Machine.execWetExit panel s
  | .steepWakeScan panel deltas => Sys2Proof.Machine.execSteepWakeScan panel deltas s
  | .effectStart channel r64 limit capPf motion => Sys2Proof.Machine.execEffectStart channel r64 limit capPf motion s
  | .effectDone channel => Sys2Proof.Machine.execEffectDone channel s
  | .boostReady => Sys2Proof.Machine.execBoostReady s
  | .boostOff => Sys2Proof.Machine.execBoostOff s
  | .hvFault cause vhv current => Sys2Proof.Machine.execHvFault cause vhv current s
  | .hvRetry ok vhv current => Sys2Proof.Machine.execHvRetry ok vhv current s
  | .forceSample channel counts => Sys2Proof.Machine.execForceSample channel counts s
  | .bufferDone k => Sys2Proof.Machine.execBufferDone k s
  | .streamXrun k frames => Sys2Proof.Machine.execStreamXrun k frames s
  | .streamStart k => Sys2Proof.Machine.execStreamStart k s
  | .audxLost rateMhz => Sys2Proof.Machine.execAudxLost rateMhz s
  | .audxRestored rateMhz => Sys2Proof.Machine.execAudxRestored rateMhz s
  | .zcTimeout kind a b => Sys2Proof.Machine.execZcTimeout kind a b s
  | .toneEnd voice => Sys2Proof.Machine.execToneEnd voice s
  | .audioClip output samples => Sys2Proof.Machine.execAudioClip output samples s
  | .limiterStep output peak us => Sys2Proof.Machine.execLimiterStep output peak us s
  | .alarmFloorStep => Sys2Proof.Machine.execAlarmFloorStep s
  | .sunLoopStep stage reading => Sys2Proof.Machine.execSunLoopStep stage reading s
  | .colourGuardStep stage => Sys2Proof.Machine.execColourGuardStep stage s
  | .refreshDerating channel required => Sys2Proof.Machine.execRefreshDerating channel required s
  | .thermalSample temps => Sys2Proof.Machine.execThermalSample temps s
  | .adaptiveVoltageStep passMv level => Sys2Proof.Machine.execAdaptiveVoltageStep passMv level s
  | .secureWdogKick => Sys2Proof.Machine.execSecureWdogKick s
  | .secureWdog => Sys2Proof.Machine.execSecureWdog s
  | .cupperSramUncorr => Sys2Proof.Machine.execCupperSramUncorr s
  | .cupperRestart => Sys2Proof.Machine.execCupperRestart s
  | .secViolation initiator inst write len => Sys2Proof.Machine.execSecViolation initiator inst write len s
  | .alarmTestEnd => Sys2Proof.Machine.execAlarmTestEnd s
  | .pllHoldover port => Sys2Proof.Machine.execPllHoldover port s
  | .refclkFail failed warmrc => Sys2Proof.Machine.execRefclkFail failed warmrc s
  | .refclkHealthy port khz => Sys2Proof.Machine.execRefclkHealthy port khz s
  | .refSwitchBack port => Sys2Proof.Machine.execRefSwitchBack port s
  | .warmrcCheck counts => Sys2Proof.Machine.execWarmrcCheck counts s
  | .xtalLost => Sys2Proof.Machine.execXtalLost s
  | .pllUnlock domain => Sys2Proof.Machine.execPllUnlock domain s
  | .pllRelockAttempt domain locked => Sys2Proof.Machine.execPllRelockAttempt domain locked s
  | .steepAutoCheck => Sys2Proof.Machine.execSteepAutoCheck s
  | .wakeSource source arg wakeUs => Sys2Proof.Machine.execWakeSource source arg wakeUs s
  | .hostWake port => Sys2Proof.Machine.execHostWake port s
  | .shelfExit source arg powerGood => Sys2Proof.Machine.execShelfExit source arg powerGood s
  | .pgoodTimeout => Sys2Proof.Machine.execPgoodTimeout s
  | .supplySag cause vsense late fatal => Sys2Proof.Machine.execSupplySag cause vsense late fatal s
  | .supplyRestored => Sys2Proof.Machine.execSupplyRestored s
  | .railFall rail vsense => Sys2Proof.Machine.execRailFall rail vsense s
  | .errorRecord record => Sys2Proof.Machine.execErrorRecord record s
  | .resetNLow => Sys2Proof.Machine.execResetNLow s
  | .resetNRise => Sys2Proof.Machine.execResetNRise s
  | .fullReset => Sys2Proof.Machine.execFullReset s
  | .boot healthy mismatch pause => Sys2Proof.Machine.execBoot healthy mismatch pause s
  | .bootNoReference mismatch => Sys2Proof.Machine.execBootNoReference mismatch s
  | .flashSfdpTimeout healthy => Sys2Proof.Machine.execFlashSfdpTimeout healthy s
  | .supplySagAtBoot => Sys2Proof.Machine.execSupplySagAtBoot s
  | .scrubDone => Sys2Proof.Machine.execScrubDone s
  | .refillTimeout => Sys2Proof.Machine.execRefillTimeout s
  | .refillDeferredTaken unit part => Sys2Proof.Machine.execRefillDeferredTaken unit part s
  | .zeroCrossing kind a b => Sys2Proof.Machine.execZeroCrossing kind a b s
  | .memLost => Sys2Proof.Machine.execMemLost s
  | .thermalTripRelease temp => Sys2Proof.Machine.execThermalTripRelease temp s
  | .jtagAccess op => Sys2Proof.Machine.execJtagAccess op s
  | .eicEnableWrite target source enable => Sys2Proof.Machine.execEicEnableWrite target source enable s
  | .eicRouteWrite source target => Sys2Proof.Machine.execEicRouteWrite source target s

end Sys2Proof.Machine
end

