-- ==== Sys2Proof/Machine/Idle.lean ====
section
/-!
DEFINITION. A moment of the device's own time, which passes while no command waits (log 1): an entry into a power state goes
on, DEV_TIME and the RTC advance by one step of their clock (01 R42, R43; 20 R563), and WAKEn_N pins are released.
-/

namespace Sys2Proof.Machine

open Sys2Proof

/-- WARM32 has an edge: in Steep and Warm both clocks advance by 30,517 or 30,518 ns, in Shelf the RTC alone (R43). -/
def State.warmTick (s : State) : State :=
  let w := s.power
  let n := if s.clocks.xtalLost then w.rtcNs + 30518 else warmNext w.rtcNs
  let s := if w.state = .shelf then s else s.setDevTime (s.devTime + (n - w.rtcNs))
  s.setPower { s.power with rtcNs := n }

/-- The clocks advance: 10 ns of REF in Brew. -/
def State.clockTick (s : State) : State :=
  if s.power.state = .brew then
    (s.setDevTime (s.devTime + 10)).setPower { s.power with rtcNs := s.power.rtcNs + 10 }
  else s.warmTick

/-- The device lets go of the WAKEn_N pins after 1 ms (R554). -/
def State.wakePins (s : State) : State :=
  if s.power.wakeLow ≠ 0 ∧ s.power.wakeLowSince + 1000000 ≤ s.devTime then s.setPower { s.power with wakeLow := 0 } else s

/-- The idle step. -/
def State.idle (s : State) : State := (State.advanceEntry s).clockTick.wakePins

end Sys2Proof.Machine
end

