-- ==== Sys2Proof/Safety.lean ====
section
/-!
DEFINITION. The terms in which claims are made: when a packet is taken, what a safe step is, and the invariant that every
state of the block meets.
-/

namespace Sys2Proof.Machine

open Sys2Proof

/-- The packet is taken now and passes the checks of R107: the firmware runs, nothing holds the packet back (R105, R112,
R559), and steps 4 to 9 find nothing. `own` is the row's own condition on who may name that target (step 8). -/
def State.takes (s : State) (op : Op) (own : Bool) (p : Packet) : Bool := !s.blocked p && (s.verdict op own p).isNone

/-- The rectangle of a RECAL_TOUCH is the sender's own: the whole panel where W is 0. -/
def State.mayRecal (s : State) (p : Packet) : Bool :=
  let i := p.target % 256
  let c := (s.tp_ i).cfg
  if p.u16 24 = 0 then s.ownsTouchRect p.inst i 0 0 c.width c.height
  else s.ownsTouchRect p.inst i (p.u16 20) (p.u16 22) (p.u16 24) (p.u16 26)

/-- Which rows are Ibnov packets (05 R155), each with its opcode, its own condition on who may name that target (02 R53), and
its packet. -/
def packetRow (s : State) : Instr → Option (Op × Bool × Packet)
  | .nop p => some (opNop, true, p)
  | .deviceCaps p => some (opDeviceCaps, true, p)
  | .ledgerRead p => some (opLedgerRead, true, p)
  | .eventFetch p => some (opEventFetch, true, p)
  | .loopSetBounds p => some (opLoopSet, s.mayLoop p, p)
  | .loopSetPinPresent p => some (opLoopSet, s.mayLoop p, p)
  | .loopSetPinValue p => some (opLoopSet, s.mayLoop p, p)
  | .loopSetUnpin p => some (opLoopSet, s.mayLoop p, p)
  | .portConfig p => some (opPortConfig, true, p)
  | .deviceReset p => some (opDeviceReset, true, p)
  | .instCreate p => some (opInstCreate, true, p)
  | .instBind p => some (opInstBind, true, p)
  | .instQuotaSet p => some (opInstQuotaSet, true, p)
  | .instQuiesce p => some (opInstQuiesce, true, p)
  | .instReset p => some (opInstReset, true, p)
  | .instFreeze p => some (opInstFreeze, true, p)
  | .instSave p => some (opInstSave, true, p)
  | .instRestore p => some (opInstRestore, true, p)
  | .instThaw p => some (opInstThaw, true, p)
  | .instDestroy p => some (opInstDestroy, true, p)
  | .memMap p => some (opMemMap, ownHandle p, p)
  | .memUnmap p => some (opMemUnmap, ownHandle p, p)
  | .copy p => some (opCopy, ownHandle p || (decide (p.inst = 0) && (copyDescs p).any (fun d => decide (d.kind = 5))), p)
  | .memConfigRegions p => some (opMemConfig, true, p)
  | .memConfigNeighbourRefresh p => some (opMemConfig, true, p)
  | .memConfigScheduler p => some (opMemConfig, true, p)
  | .memConfigClassWays p => some (opMemConfig, true, p)
  | .surfaceCreate p => some (opSurfaceCreate, ownHandle p, p)
  | .surfaceDestroy p => some (opSurfaceDestroy, ownHandle p, p)
  | .writeBegin p => some (opWriteBegin, ownHandle p, p)
  | .writeEnd p => some (opWriteEnd, ownHandle p, p)
  | .seal p => some (opSeal, ownHandle p, p)
  | .retireFence p => some (opRetireFence, ownHandle p, p)
  | .shaderLoad p => some (opShaderLoad, ownHandle p, p)
  | .pipelineCreate p => some (opPipelineCreate, ownHandle p, p)
  | .pipelineDestroy p => some (opPipelineDestroy, ownHandle p, p)
  | .queueConfigDepth p => some (opQueueConfig, ownHandle p, p)
  | .queueConfigCache p => some (opQueueConfig, ownHandle p, p)
  | .queueConfigEvict p => some (opQueueConfig, ownHandle p, p)
  | .queueConfigLimits p => some (opQueueConfig, ownHandle p, p)
  | .submit p => some (opSubmit, ownHandle p, p)
  | .hopperGrant p => some (opHopperGrant, ownHandle p, p)
  | .layerSet p => some (opLayerSet, s.holdsSlot p, p)
  | .layerRelease p => some (opLayerRelease, s.holdsSlot p, p)
  | .commit p => some (opCommit, ownHandle p, p)
  | .motionHint p => some (opMotionHint, s.holdsSlot p, p)
  | .coefLoad p => some (opCoefLoad, s.holdsSlot p, p)
  | .zfloorSet p => some (opZfloorSet, true, p)
  | .toneSet p => some (opToneSet, true, p)
  | .panelLutSet p => some (opPanelLutSet, true, p)
  | .pipeTiming p => some (opPipeTiming, true, p)
  | .pipeTimingLeadOnly p => some (opPipeTiming, true, p)
  | .pipeEnable p => some (opPipeEnable, true, p)
  | .lineMatchSet p => some (opLineMatchSet, decide (p.inst = 0) || s.hasRegion p.inst (p.target % 256), p)
  | .regionMonSet p => some (opRegionMonSet, true, p)
  | .linkConfig p => some (opLinkConfig, true, p)
  | .routeSet p => some (opRouteSet, true, p)
  | .dscAssign p => some (opDscAssign, true, p)
  | .panelPowerOff p => some (opPanelPower, true, p)
  | .panelPowerOn p => some (opPanelPower, true, p)
  | .panelPowerConfigure p => some (opPanelPower, true, p)
  | .backlightSet p => some (opBacklightSet, true, p)
  | .streamSet p => some (opStreamSet, s.maySetStream p, p)
  | .touchPanelConfig p => some (opTouchPanelConfig, true, p)
  | .touchMode p => some (opTouchMode, true, p)
  | .touchReportSetup p => some (opTouchReportReturn, ownHandle p, p)
  | .touchReportReturn p => some (opTouchReportReturn, ownHandle p, p)
  | .touchSelftest p => some (opTouchSelftest, true, p)
  | .wakeZoneSet p => some (opWakeZoneSet, true, p)
  | .effectLoad p => some (opEffectLoad, true, p)
  | .effectPlay p => some (opEffectPlay, s.ownsChan p, p)
  | .effectStop p => some (opEffectStop, s.ownsChan p || decide (p.inst = 0), p)
  | .clickRegionSet p => some (opClickRegionSet, s.ownsChan p, p)
  | .actuatorCheck p => some (opActuatorCheck, true, p)
  | .actuatorCharacterise p => some (opActuatorCheck, true, p)
  | .actuatorConfigure p => some (opActuatorCheck, true, p)
  | .streamOpen p => some (opStreamOpen, true, p)
  | .streamBuffers p => some (opStreamBuffers, true, p)
  | .streamClose p => some (opStreamClose, true, p)
  | .gainSet p => some (opGainSet, true, p)
  | .mixRouteInput p => some (opMixRoute, true, p)
  | .mixRouteDest p => some (opMixRoute, true, p)
  | .tdmConfigPort p => some (opTdmConfig, true, p)
  | .tdmConfigMixer p => some (opTdmConfig, true, p)
  | .tdmConfigPdm p => some (opTdmConfig, true, p)
  | .lowlatSet p => some (opLowlatSet, true, p)
  | .alarmSourceSet p => some (opAlarmSourceSet, true, p)
  | .tonePlay p => some (opTonePlay, true, p)
  | .toneStop p => some (opTonePlay, true, p)
  | .powerState p => some (opPowerState, decide (p.inst = 0), p)
  | .powerStatePipe p => some (opPowerState, decide (p.inst = 0) || s.ownsDisplay p.inst (p.target % 256), p)
  | .keepAwake p => some (opKeepAwake, ownHandle p, p)
  | .powerConfig p => some (opPowerConfig, true, p)
  | .powerConfigRelease p => some (opPowerConfig, true, p)
  | .telemetryRead p => some (opTelemetryRead, true, p)
  | .errorRead p => some (opErrorRead, true, p)
  | .beanRead p => some (opBeanRead, true, p)
  | .beanAudit p => some (opDiagRun, true, p)
  | .factSweep p => some (opDiagRun, true, p)
  | .inject p => some (opDiagRun, true, p)
  | .status p => some (opSecService, true, p)
  | .random p => some (opSecService, true, p)
  | .attest p => some (opSecService, true, p)
  | .fallbackSet p => some (opSecService, s.isSafety p.inst && decide ((s.slot (p.fld 20 0 6)).holder = some p.inst), p)
  | .layerEscalate p => some (opSecService, decide (p.inst = 0) || (s.isSafety p.inst && decide ((s.slot (p.fld 20 0 6)).holder = some p.inst)), p)
  | .pipeEscalate p => some (opSecService, decide (p.inst = 0) || (s.isSafety p.inst && s.hasRegion p.inst (p.fld 20 0 3)), p)
  | .tonePattern p => some (opSecService, decide (p.inst = 0) || s.isSafety p.inst, p)
  | .alarmTest p => some (opSecService, decide (p.inst = 0), p)
  | .migrationKeyInstall p => some (opMigrationKey, true, p)
  | .migrationKeyErase p => some (opMigrationKey, true, p)
  | .debugChallenge p => some (opDebugChallenge, true, p)
  | .debugResponse p => some (opDebugResponse, true, p)
  | .refillBegin p => some (opRefillBegin, true, p)
  | .refillData p => some (opRefillData, true, p)
  | .refillCommit p => some (opRefillCommit, true, p)
  | .refillAbort p => some (opRefillAbort, true, p)
  | .slotSelect p => some (opSlotSelect, true, p)
  | .calRead p => some (opCalRead, true, p)
  | .usercalStore p => some (opUsercalWrite, true, p)
  | .usercalErase p => some (opUsercalWrite, true, p)
  | .usercalWrite p => some (opUsercalWrite, true, p)
  | .recalTouch p => some (opRecalTouch, decide (p.inst = 0) || (!p.flag 16 0 && s.mayRecal p), p)
  | .recalHaptic p => some (opRecalHaptic, true, p)
  | .recalDram p => some (opRecalDram, true, p)
  | .recalMic p => some (opRecalMic, true, p)
  | _ => none

/-- The block goes on: no row is refused, and the one way to stop is a command that names a unit the member does not have
(00 R2). -/
def State.goesOn (s : State) (o : Host.Outcome State Fault Refusal) : Prop :=
  (∃ t, o = .next t) ∨ ∃ h, s.present h = false ∧ o = .fault (.absentUnit h)

/-- The memories stand in their canonical form: addresses rising, and no byte listed that reads as an unlisted one does. -/
def State.memWf (s : State) : Bool := s.dram.wf && s.spad.wf && s.hostMem.wf

/-- No ledger entry has generation 0 (01 R20). -/
def State.gensWf (s : State) : Prop := ∀ h, s.genOf h ≠ 0

/-- The error queue holds 64 records at most (21 R589). -/
def State.queueWf (s : State) : Prop := s.err.queue.length ≤ 64

/-- The invariant: the memories and the ledger stand in their canonical form, no generation is 0, and the error queue is within
its 64 records. -/
def State.Inv (s : State) : Prop := s.memWf = true ∧ s.ledger.wf = true ∧ s.gensWf ∧ s.queueWf

end Sys2Proof.Machine
end

