-- ==== Sys2Proof/Certificates/Slice0/Obligations.lean ====
section
/-!
DEFINITION. The statements about the model, for the provers: the rules of the spec on generations, facts, replies, errors
and checks; what every step keeps; and, family by family, where each command completes, with the whole next state.
-/

open Sys2Proof Sys2Proof.Machine

/-- What a step is (the block's queue): with a command at the front, a step is that command's execution on the state with
the rest of the queue. -/
def Obligations.StepRunsFrontCommand : Prop :=
  ∀ (c : Instr) (cs : List Instr) (s : State), s.pending = c :: cs → step s = exec c (s.setPending cs)

/-- 00 R2, over every row: no step is refused, and a step stops only for a command that names a unit the member does not
have. -/
def Obligations.EveryStepGoesOn : Prop := ∀ s : State, s.goesOn (step s)

/-- 03 R105, R125: the bytes of a packet read back as its header and payload, pass steps 1 and 2 of R107, and make the packet
that was sent. -/
def Obligations.PacketBytesReadBack : Prop :=
  ∀ (h : Header) (payload : List W32) (n : Nat) (src : Source), h.opcode < 2 ^ 16 → h.flags < 2 ^ 8 → h.hdrver = 1 →
    h.prio < 2 ^ 4 → h.seq < 2 ^ 32 → h.length = 4 * payload.length → h.length ≤ 4076 → h.target < 2 ^ 16 →
    h.basegen < 2 ^ 32 →
    parseHeader (packetBytes h payload) = h ∧ h.frameOk = true ∧ (packetBytes h payload).length = 20 + h.length ∧
    trailerOk h (packetBytes h payload) = true ∧
    toPacket n src (parseHeader (packetBytes h payload)) (packetBytes h payload) =
      { inst := n, src := src, seq := w32 h.seq, barrier := bitOf h.flags 0, barrierAll := bitOf h.flags 1,
        interim := bitOf h.flags 2, notify := bitOf h.flags 3, target := h.target, basegen := w32 h.basegen,
        words := payload }

/-- Reset values that the spec gives: R20, R37, R48, R51, R56, R100, R229, R318, R321, R377, R566, R567, R590, R642. -/
def Obligations.ResetLeavesSpecValues : Prop :=
  let s := State.reset
  s.pending = [] ∧ (∀ h, s.genOf h = 1) ∧ (s.inst 0).credits = 64 ∧ (∀ n, n ≠ 0 → (s.inst n).state = .absent) ∧
  (∀ k r, ((s.fn k).sq.get r).base = 0 ∧ ((s.fn k).sq.get r).size = 0 ∧ ((s.fn k).sq.get r).halted = false ∧
    ((s.fn k).sq.get r).head = 0 ∧ ((s.fn k).sq.get r).tail = 0 ∧ (s.fn k).rqSize = 0 ∧ (s.fn k).eqSize = 0 ∧ (s.fn k).evtMask = 0) ∧
  (∀ p, (s.ports.get p).bar2Pf = 32 ∧ (s.ports.get p).bar4Pf = 20 ∧ (s.ports.get p).vfEnable = false) ∧
  (∀ i, (s.slot i).holder = none ∧ (s.slot i).current.enable = false ∧ (s.slot i).escalate = 3) ∧
  (∀ q, (s.pipe q).state = .off ∧ (s.pipe q).zfloor = 128 ∧ (s.pipe q).escalate = 3) ∧
  (∀ m, (s.mon m).cfg.enable = false) ∧ s.err.queue = [] ∧ s.err.nextSeqno = 1 ∧ s.power.state = .brew ∧
  s.power.wake = Wake.reset ∧ s.power.cfg.vsenseThr = 30 ∧ s.power.cfg.tTarget = 105 ∧ s.boot.stage = 0

/-- The invariant holds at reset: memories and ledger in canonical form (the model's own form, log 18), generations that are not 0
(R20), and an error queue within its 64 records (R588, R589). -/
def Obligations.ResetMeetsInvariants : Prop :=
  State.reset.Inv

/-- 01 R20, R21, R22, R28: the generation of an entry: 1 after a full reset, never 0, one more at each advance and from all ones to 1;
a new intention advances it and a contradicted entry stays so; reaching the intention does not advance it. -/
def Obligations.GenerationsAdvanceAndSkipZero : Prop :=
  (∀ g : W32, nextGen g ≠ 0 ∧ (g ≠ 0xFFFFFFFF → nextGen g = g + 1)) ∧ nextGen 0xFFFFFFFF = 1 ∧
  (∀ (s : State) (cause h : Nat), (s.fullReset cause).genOf h = 1) ∧
  (∀ (s : State) (h n : Nat) (b : Bool), s.ledger.wf = true →
    (s.intend h b n).genOf h = nextGen (s.genOf h) ∧ ((s.intend h b n).entry h).fact = (s.entry h).fact ∧
    ((s.intend h b n).entry h).agree =
      (if (s.entry h).agree = .contradicted then .contradicted else if b then .settling else .agreed) ∧
    ∀ j, j ≠ h → (s.intend h b n).entry j = s.entry j) ∧
  (∀ (s : State) (h : Nat), s.ledger.wf = true → (s.settle h).genOf h = s.genOf h ∧
    ((s.entry h).agree = .settling → ((s.settle h).entry h).agree = .agreed))

/-- 01 R21, R26, R27: a fact wins over the intention, may be replaced by another, and clears. -/
def Obligations.FactsContradictAndClear : Prop :=
  (∀ (s : State) (h f : Nat), s.present h = true → f ≠ 0 → s.ledger.wf = true →
    ∃ t, exec (.ledgerFact h f) s = .next t ∧ (t.entry h).agree = .contradicted ∧ (t.entry h).fact = f ∧
      ((s.entry h).agree ≠ .contradicted ∨ (s.entry h).fact ≠ f → t.genOf h = nextGen (s.genOf h)) ∧
      ((s.entry h).agree = .contradicted → (s.entry h).fact = f → t = s) ∧ ∀ j, j ≠ h → t.entry j = s.entry j) ∧
  (∀ (s : State) (h : Nat), s.present h = true → s.ledger.wf = true → (s.entry h).agree = .contradicted →
    ∃ t, exec (.ledgerFactCleared h) s = .next t ∧ t.entry h = { gen := nextGen (s.genOf h), agree := .settling, fact := 0 } ∧
      ∀ j, j ≠ h → t.entry j = s.entry j) ∧
  (∀ (s : State) (h : Nat), s.present h = true → s.ledger.wf = true → (s.entry h).agree = .settling →
    exec (.settled h) s = .next (s.setLedger (s.ledger.set h { s.entry h with agree := .agreed }))) ∧
  (∀ (s : State), exec (.ledgerResync []) s = .next s) ∧
  (∀ (s : State) (h f : Nat) (fs : List (Nat × Nat)), s.present h = true →
    ∃ t, exec (.ledgerResync fs) (s.resyncOne h f) = .next t ∧ exec (.ledgerResync ((h, f) :: fs)) s = .next t ∧
      (s.factDiffers h f = true → f ≠ 0 → s.resyncOne h f = (s.setFact h f).raiseErr 0x0005 0 h 0xFF 0 0) ∧
      (s.factDiffers h f = true → f = 0 → s.resyncOne h f = (s.clearFact h).raiseErr 0x0005 0 h 0xFF 0 0) ∧
      (s.factDiffers h f = false → s.resyncOne h f = s)) ∧
  (∀ (s : State) (pools : List Nat), pools = (List.range 10).filter (fun i => !s.poolBalanced i) →
    exec (.beanSweep []) s = .next (pools.foldl (fun s i => s.beanMismatch i)
      (s.setErr { s.err with audits := (s.err.audits + 1) % 2 ^ 32 })))

/-- 03 R110, R112, 01 R24 and 05 R153: the final reply of a packet: it joins the waiting replies with the packet's echoes, its
status, its RESULT and NEWGEN, and nothing but the replies and the status counter changes. NEWGEN is the target's generation
immediately after the command: the one it noted as it was applied and left its reply owed, else the present one. -/
def Obligations.FinalReplyEchoesPacket : Prop :=
  ∀ (s : State) (code : Nat) (p : Packet) (st : Status) (res : List W32), s.tp.voided.any (samePacket p) = false →
    (s.answer code p st res).tp.replies = s.tp.replies ++
      [{ inst := p.inst, src := p.src, opcode := code, status := st, seq := p.seq,
         newgen := s.replyGen code p st, result := res, notify := p.notify, stalled := false }] ∧
    (∀ a g, st ≠ .noUnit → s.tp.accepted.find? (fun a => samePacket a.p p) = some a → a.newgen = some g →
      s.replyGen code p st = g) ∧
    ((∀ a, a ∈ s.tp.accepted → samePacket a.p p = true → a.newgen = none) → st ≠ .noUnit →
      s.replyGen code p st = if s.present p.target then s.genOf p.target else 0) ∧
    (s.answer code p st res).tp = { s.tp with replies := (s.answer code p st res).tp.replies } ∧
    ((s.answer code p st res).setTp s.tp).setTele s.tele = s

/-- 21 R582, R584, R589: a NOTE or CORR record merges with a like newest record within 1 ms; a record joins the queue while
there is room, else it replaces the 64th, unless that is FATAL and it is not; a higher severity on the unit in handling
pre-empts it. -/
def Obligations.ErrorQueueMergesAndKeepsFirst : Prop :=
  ∀ (s : State) (code sev unit inst seq det : Nat),
    (∀ (q : List ErrRec) (r : ErrRec), s.err.queue = q ++ [r] → sev ≤ 1 → r.code = code → r.unit = unit → r.inst = inst →
      r.prior = false → s.devTime ≤ r.time + 1000000 →
      (s.raiseErr code sev unit inst seq det).err = { s.err with queue := q ++ [{ r with count := satInc 16 r.count }] }) ∧
    ((∀ r, s.err.queue.getLast? = some r → 2 ≤ sev ∨ r.code ≠ code ∨ r.unit ≠ unit ∨ r.inst ≠ inst ∨ r.prior = true ∨
        r.time + 1000000 < s.devTime) →
      let r := s.errRecord code sev unit inst seq det false
      let e := (s.raiseErr code sev unit inst seq det).err
      (r.code = code ∧ r.severity = sev ∧ r.unit = unit ∧ r.inst = inst ∧ r.seq = seq ∧ r.detail = det ∧ r.count = 1 ∧
        r.time = s.devTime ∧ r.seqno = s.err.nextSeqno ∧ r.prior = false ∧ r.handled = false) ∧
      (s.err.queue.length < 64 → e.queue = s.err.queue ++ [r] ∧ e.lost = s.err.lost) ∧
      (∀ (q : List ErrRec) (l : ErrRec), s.err.queue = q ++ [l] → q.length = 63 →
        e.lost = s.err.lost + 1 ∧ e.queue = (if l.severity = 4 ∧ sev ≠ 4 then q ++ [l] else q ++ [r])) ∧
      (∀ h, s.err.handling = some h → h.unit = unit → h.severity < sev → r.escalated = true ∧ r.related = h.seqno ∧
        e.handling = some r ∧ e.preempted = h :: s.err.preempted) ∧
      ((∀ h, s.err.handling = some h → h.unit ≠ unit ∨ sev ≤ h.severity) →
        e.handling = s.err.handling ∧ e.toHandle = s.err.toHandle ++ [r]))

/-- 03 R105, R107, R112 and 05 R153, on every Ibnov packet row: a packet that must wait changes nothing, and one that steps 4
to 9 refuse changes nothing but its mark, the count of denials and its reply. -/
def Obligations.PacketsWaitOrAreRefusedUnchanged : Prop :=
  ∀ (c : Instr) (op : Op) (own : Bool) (p : Packet) (s : State), packetRow s c = some (op, own, p) →
    (s.blocked p = true → exec c s = .next s) ∧
    (∀ st, s.blocked p = false → s.verdict op own p = some st → exec c s = .next
      ((if st = .denied ∧ p.inst ≠ 0 then (s.markApplied p).count 0 p.inst 28 else s.markApplied p).answer op.code p st []))

/-- 03 R107, steps 4 to 9: the first check that fails gives the status. -/
def Obligations.ChecksAnswerInOrder : Prop :=
  ∀ (s : State) (op : Op) (own : Bool) (p : Packet), s.boot.stage = 6 →
    (p.inst ≠ 0 → s.isSafety p.inst = false → p.src.ring = 0 → s.verdict op own p = some .denied) ∧
    (p.src.ring ≠ 0 → op.mark = .m → p.inst ≠ 0 → s.verdict op own p = some .denied) ∧
    (p.inst = 0 → op.code / 4096 ≠ 6 → op.code / 4096 ≠ 7 →
      (s.board.member.classDefined p.target = false → s.verdict op own p = some .badParam) ∧
      (s.board.member.classDefined p.target = true → s.present p.target = false → s.verdict op own p = some .noUnit) ∧
      (s.present p.target = true → own = false → s.verdict op own p = some .denied) ∧
      (s.present p.target = true → own = true → p.basegen ≠ 0 → p.basegen ≠ s.genOf p.target →
        s.verdict op own p = some .staleState) ∧
      (s.present p.target = true → own = true → (p.basegen = 0 ∨ p.basegen = s.genOf p.target) →
        s.verdict op own p = none))

/-- 05 R156 to R161: the reading packets of group 0x0 answer ST_OK with their RESULT; EVENT_FETCH takes what it returns from
the holding queue of the manager's function, and no other changes anything. -/
def Obligations.DeviceReadsComplete : Prop :=
  ∀ (p : Packet) (s u : State), u = s.markApplied p →
    (s.takes opNop true p = true → p.target = hDevice → p.length ≤ 4076 →
      exec (.nop p) s = .next (u.answer 0x0001 p .ok p.words)) ∧
    (s.takes opNop true p = true → p.target ≠ hDevice → exec (.nop p) s = .next (u.answer 0x0001 p .badParam [])) ∧
    (s.takes opDeviceCaps true p = true → p.target = hDevice → p.length = 0 →
      exec (.deviceCaps p) s = .next (u.answer 0x0002 p .ok (u.capsReport p.inst)) ∧ (u.capsReport p.inst).length = 33) ∧
    (s.takes opLedgerRead true p = true → p.length = 4 → p.fld 16 8 24 = 0 →
      exec (.ledgerRead p) s = .next ((u.setFreeCtr (u.freeCtr + 1)).answer 0x0003 p .ok
        (s.ledgerResult p.target (p.u8 16))) ∧ (s.ledgerResult p.target (p.u8 16)).head? = some (s.genOf p.target)) ∧
    (s.takes opEventFetch true p = true → p.target = hDevice → p.length = 4 → p.fld 16 8 24 = 0 → 1 ≤ p.fld 16 0 8 →
      p.fld 16 0 8 ≤ 64 → ∀ (v : State) (k : Nat) (held got : List EvRec), v = u.settleManager → k = v.managerFn →
      held = (v.fn k).holding → (v.fn k).lost = 0 → got = held.take (p.fld 16 0 8) →
      exec (.eventFetch p) s = .next ((v.updFn k (fun f => { f with holding := f.holding.drop (p.fld 16 0 8) })).answer
        0x0004 p .ok (w32 (pack [(got.length, 8), (held.length - got.length, 8)]) :: got.flatMap (fun r => bytesWords r.bytes))))

/-- 05 R163, R164: PORT_CONFIG stores the sizes that are not 0, as one step; DEVICE_RESET answers, and the full reset is
wanted with cause 4, unless one is wanted already. -/
def Obligations.PortConfigAndDeviceResetComplete : Prop :=
  ∀ (p : Packet) (s u : State), u = s.markApplied p →
    (∀ k, s.takes opPortConfig true p = true → p.target = 0x0100 + k → k < 256 → p.length = 4 →
      sizeByteOk 26 32 (p.u8 16) = true → sizeByteOk 26 32 (p.u8 17) = true → sizeByteOk 12 20 (p.u8 18) = true →
      sizeByteOk 12 20 (p.u8 19) = true → ((s.ports.get k).vfEnable = true → p.u8 17 = 0 ∧ p.u8 19 = 0) →
      ((s.fn (32 * k)).memorySpace = true → p.u8 16 = 0 ∧ p.u8 18 = 0) →
      ∃ q : Port, exec (.portConfig p) s = .next (((u.setPorts (u.ports.set k q)).intend p.target false p.inst).answer
          0x0010 p .ok []) ∧
        q = { s.ports.get k with
          bar2Pf := if p.u8 16 = 0 then (s.ports.get k).bar2Pf else p.u8 16
          bar2Vf := if p.u8 17 = 0 then (s.ports.get k).bar2Vf else p.u8 17
          bar4Pf := if p.u8 18 = 0 then (s.ports.get k).bar4Pf else p.u8 18
          bar4Vf := if p.u8 19 = 0 then (s.ports.get k).bar4Vf else p.u8 19 }) ∧
    (s.takes opDeviceReset true p = true → p.target = hDevice → p.length = 8 → p.u32 16 = 0x52535430 →
      p.fld 20 1 31 = 0 →
      (s.err.resetWanted = false → exec (.deviceReset p) s = .next ((u.setErr { s.err with
        resetWanted := true, resetCause := 4, causeSeqno := 0, retainDisplay := p.flag 20 0 }).answer 0x0011 p .ok [])) ∧
      (s.err.resetWanted = true → exec (.deviceReset p) s = .next (u.answer 0x0011 p .ok [])))

/-- 01 R31 to R35 and 05 R162: the four forms of LOOP_SET set bounds, pin or unpin the loop they name, and count as a new
intention of its unit; a loop held at a bound beyond its target becomes CONSTRAINED, and is told. A pinned output is clamped
into the bounds, and the colour guard never falls below 8,192 (R372). -/
def Obligations.LoopCommandsComplete : Prop :=
  ∀ (p : Packet) (s u : State) (i : Nat) (l : Loop), u = s.markApplied p → i = p.u8 16 →
    (s.takes opLoopSet (s.mayLoop p) p = true → s.loop p.target i = some l → p.length = 16 → p.u16 18 = 0 →
      (p.u8 17 = 0 → p.u32 20 ≤ p.u32 24 → p.u32 24 ≤ loopMax p.target i → loopMin p.target i ≤ p.u32 20 →
        isLimiter p = false → exec (.loopSetBounds p) s = .next (((u.putLoop p.target i { l with
          low := p.u32 20, high := p.u32 24, setter := p.inst,
          out := (l.pin.map (fun v => max (loopFloor p.target i) (clampN (p.u32 20) (p.u32 24) v))).getD l.out }).intend p.target false p.inst).answer 0x0005 p .ok [])) ∧
      (p.u8 17 = 1 → exec (.loopSetPinPresent p) s = .next (((u.putLoop p.target i { l with
          pin := some l.out, setter := p.inst,
          state := if l.state = .overridden then .overridden else .pinned }).intend p.target false p.inst).answer
          0x0005 p .ok [])) ∧
      (p.u8 17 = 2 → p.u32 28 ≤ loopMax p.target i → exec (.loopSetPinValue p) s = .next (((u.putLoop p.target i { l with
          pin := some (p.u32 28), setter := p.inst,
          out := if l.state = .overridden then l.out else max (loopFloor p.target i) (clampN l.low l.high (p.u32 28)),
          state := if l.state = .overridden then .overridden else .pinned }).intend p.target false p.inst).answer
          0x0005 p .ok [])) ∧
      (p.u8 17 = 3 → exec (.loopSetUnpin p) s = .next (((u.putLoop p.target i { l with
          pin := none, setter := p.inst,
          state := if l.state = .pinned then .free else l.state }).intend p.target false p.inst).answer 0x0005 p .ok []))) ∧
    (∀ h, s.present h = true → s.loop h i = some l → l.state = .free → (l.target < l.low ∨ l.high < l.target) →
      exec (.loopConstrained h i) s = .next ((s.putLoop h i { l with state := .constrained }).loopEvent 2 h i true l.setter)) ∧
    (∀ h, s.present h = true → s.loop h i = some l → l.state = .constrained → l.low ≤ l.target → l.target ≤ l.high →
      exec (.loopConstrained h i) s = .next ((s.putLoop h i { l with state := .free }).loopEvent 2 h i false l.setter))

/-- 21 R588, R605 to R610: reading telemetry and the bean counters changes nothing; ERROR_READ removes the acknowledged
records, up to the first that is not handled, before it returns what is left; a sweep counts; INJECT raises a record that is
marked so. -/
def Obligations.DiagnosticsComplete : Prop :=
  ∀ (p : Packet) (s u : State), u = s.markApplied p → p.target = hDevice →
    (s.takes opTelemetryRead true p = true → p.length = 4 → (teleSize (p.u8 16)).isSome = true →
      s.mayReadTele p.inst (p.u8 16) (p.u8 17) = true → s.scopePresent (p.u8 16) (p.u8 17) = true →
      ∀ size count, teleSize (p.u8 16) = some size → count = min 500 (size - p.u16 18) →
      exec (.telemetryRead p) s = .next (u.answer 0xA001 p .ok (w64 s.devTime ++ [w32 (pack [(count, 16), (size, 16)]), 0] ++
        (List.range count).flatMap (fun i => w64 (s.counter (p.u8 16) (p.u8 17) (p.u16 18 + i)))))) ∧
    (s.takes opErrorRead true p = true → p.length = 4 → p.u16 18 = 0 → p.u8 16 ≤ 63 → p.u8 17 ≤ 64 →
      ∀ q got, q = ackErrors (p.u8 17) s.err.queue → got = q.take (p.u8 16) →
      exec (.errorRead p) s = .next ((u.setErr { s.err with queue := q, lost := 0 }).answer 0xA002 p .ok
        ([w32 (pack [(got.length, 16), (q.length, 16)]), w32 s.err.lost, w32 s.err.lostTotal,
          w32 ((s.err.handling.map (·.seqno)).getD 0)] ++ got.flatMap (fun r => bytesWords r.bytes)))) ∧
    (s.takes opBeanRead true p = true → p.length = 4 → p.fld 16 4 28 = 0 → ∀ pool, pool = p.fld 16 0 4 →
      (pool ≤ 9 → exec (.beanRead p) s = .next ((u.setFreeCtr (u.freeCtr + 1)).answer 0xA003 p .ok
        (w64 s.devTime ++ [w32 s.err.audits, w32 (Config.transfers s.freeCtr)] ++ u.beanBlock pool))) ∧
      (pool = 15 → exec (.beanRead p) s = .next ((u.setFreeCtr (u.freeCtr + 1)).answer 0xA003 p .ok
        (w64 s.devTime ++ [w32 s.err.audits, w32 (Config.transfers s.freeCtr)] ++ (List.range 10).flatMap u.beanBlock)))) ∧
    (s.takes opDiagRun true p = true → p.length = 4 → p.word 16 = 1 → (∀ i, i < 10 → u.poolBalanced i = true) →
      exec (.beanAudit p) s = .next ((u.setErr { s.err with audits := (s.err.audits + 1) % 2 ^ 32 }).answer 0xA004 p .ok
        (diagResult 1 0 0))) ∧
    (s.takes opDiagRun true p = true → p.length = 4 → p.word 16 = 2 → ∀ facts, facts = Config.sweepFacts s.freeCtr →
      ∃ n : Nat, exec (.factSweep p) s = .next (((u.setFreeCtr (u.freeCtr + 1)).resync facts).answer 0xA004 p .ok
        (diagResult 2 (if n = 0 then 0 else 1) n))) ∧
    (s.takes opDiagRun true p = true → p.length = 12 → p.word 16 = 3 → p.u8 23 = 0 → p.fld 26 3 13 = 0 →
      (p.u8 22 ≤ 16 ∨ p.u8 22 = 0xFF) → p.fld 26 0 3 ∈ errSeverities (p.u16 20) → p.fld 26 0 3 ≠ 4 →
      ∃ n : Nat, exec (.inject p) s = .next ((u.raiseErr (p.u16 20) (p.fld 26 0 3) (p.u16 24) (p.u8 22) 0 0 true).answer
        0xA004 p .ok (diagResult 3 0 n)) ∧
        (s.errMerges (p.u16 20) (p.fld 26 0 3) (p.u16 24) (p.u8 22) = false → n = s.err.nextSeqno))

/-- 21 R580 to R588, R597 to R600, R611 and 23 R644: a record that R581 lists is raised; without one, the oldest waiting record
is taken in hand, and a record in hand ends as HANDLED. RESET_N low and an ordered full reset begin the full reset. -/
def Obligations.ErrorHandlingAndResetsComplete : Prop :=
  ∀ (s : State),
    (∀ (a : ErrArg), a.severity ∈ errSeverities a.code → s.present a.unit = true →
      exec (.errorRecord (some a)) s = .next (s.raiseErr a.code a.severity a.unit a.inst a.seq a.detail)) ∧
    (∀ (r : ErrRec) (rs : List ErrRec), s.err.resetWanted = false → s.err.handling = none → s.err.toHandle = r :: rs →
      exec (.errorRecord none) s = .next (s.setErr { s.err with handling := some r, toHandle := rs })) ∧
    (∀ (r : ErrRec), s.err.resetWanted = false → s.err.handling = some r → s.superseded r = false →
      ∃ t : State, exec (.errorRecord none) s = .next t ∧
        t.err = { s.err with
          queue := markHandled r false s.err.queue
          handling := s.err.preempted.head?
          preempted := s.err.preempted.tail } ∧
        (r.severity ≠ 2 → r.severity ≠ 3 → t = s.setErr t.err) ∧
        (r.severity = 2 ∨ r.severity = 3 → t = (s.setErr t.err).errorLogged r)) ∧
    (s.power.poured = false → s.power.state ≠ .shelf → s.boot.stage = 6 →
      exec .resetNLow s = .next ((s.setPower { s.power with resetPin := true }).shedLoad.fullReset 3)) ∧
    exec .resetNRise s = .next (s.setPower { s.power with resetPin := false }) ∧
    (s.err.resetWanted = true → s.boot.stage = 6 → s.power.poured = false →
      exec .fullReset s = .next (s.shedLoad.fullReset s.err.resetCause))

/-- 03 R97, R101 to R103, R109, 02 R59, 04 R145 and 01 R45: the registers of BAR0 that have a row of their own: a good doorbell
moves the tail and raises its source, and the first one makes a BOUND instance ACTIVE; a halted ring resumes; a size latches its base and clears
head and tail; a head moves; a mask is stored; the upper half of DEV_TIME goes to the shadow. -/
def Obligations.RingRegistersComplete : Prop :=
  ∀ (s : State) (port fn ring : Nat) (k : Nat) (q : Sq), s.present (hPort port) = true →
    s.barServed port fn = true → k = fnKey port fn →
    q = (s.fn k).sq.get ring →
    (∀ (n tail : Nat), ring < 4 → s.boundTo k = some n → (s.inst n).state = .active → (s.inst n).drain ≠ .fence →
      tail % 16 = 0 → (w32 tail - q.head).toNat ≤ q.size → (w32 tail - q.tail).toNat ≤ q.size →
      exec (.sqTailDoorbell port fn ring tail) s =
        .next ((s.updFn k (fun f => { f with sq := f.sq.upd ring (fun q => { q with tail := w32 tail }) })).edge
          (64 + 17 * port + fn))) ∧
    (∀ (n tail : Nat), ring < 4 → s.boundTo k = some n → (s.inst n).state = .bound → (s.inst n).drain ≠ .fence →
      tail % 16 = 0 → (w32 tail - q.head).toNat ≤ q.size → (w32 tail - q.tail).toNat ≤ q.size → q.size ≠ 0 →
      (s.fn k).busMaster = true → (s.fn k).rqSize ≠ 0 → (s.fn k).eqSize ≠ 0 →
      exec (.sqTailDoorbell port fn ring tail) s =
        .next (((s.updInst n (fun i => { i with state := .active })).updFn k (fun f => { f with
          sq := f.sq.upd ring (fun q => { q with tail := w32 tail }) })).edge (64 + 17 * port + fn))) ∧
    (∀ (n tail : Nat), ring < 4 → s.boundTo k = some n → (s.inst n).state = .bound → (s.inst n).drain ≠ .fence →
      ((s.fn k).busMaster = false ∨ (s.fn k).rqSize = 0 ∨ (s.fn k).eqSize = 0 ∨ q.size = 0) →
      exec (.sqTailDoorbell port fn ring tail) s = .next ((s.updFn k (fun f => { f with
        sq := f.sq.upd ring (fun q => { q with badDoor := satInc 16 q.badDoor }) })).fnCount k 25)) ∧
    (ring < 4 → q.halted = true → (q.tail - q.head).toNat ≤ q.size → exec (.sqResume port fn ring) s =
      .next (s.updFn k (fun f => { f with sq := f.sq.upd ring (fun q => { q with halted := false, cause := 0 }) }))) ∧
    (ring < 4 → q.halted = true → q.size < (q.tail - q.head).toNat →
      exec (.sqResume port fn ring) s = .next (s.fnCount k 27)) ∧
    (∀ v, v < 2 ^ 21 → sizeOk v = true →
      (ring < 4 → s.ringRegsOpen k q.halted (decide (q.size = 0)) (decide (v = 0)) = true →
        exec (.ringSizeWrite port fn ring v) s = .next (s.updFn k (fun f => { f with
          sq := f.sq.upd ring (fun q => { q with size := v, latched := q.base, head := 0, tail := 0 }) }))) ∧
      (s.ringRegsOpen k false (decide ((s.fn k).rqSize = 0)) (decide (v = 0)) = true →
        exec (.ringSizeWrite port fn 4 v) s = .next (s.updFn k (fun f => { f with
          rqSize := v, rqLatched := f.rqBase, rqHead := 0, rqTail := 0 }))) ∧
      (s.ringRegsOpen k false (decide ((s.fn k).eqSize = 0)) (decide (v = 0)) = true →
        exec (.ringSizeWrite port fn 5 v) s = .next (State.drainHolding 65 (s.updFn k (fun f => { f with
          eqSize := v, eqLatched := f.eqBase, eqHead := 0, eqTail := 0 })) k))) ∧
    (∀ v, v % 16 = 0 → ((s.fn k).rqTail - w32 v).toNat ≤ ((s.fn k).rqTail - (s.fn k).rqHead).toNat →
      exec (.ringHeadWrite port fn false v) s = .next (s.updFn k (fun f => { f with rqHead := w32 v }))) ∧
    (∀ v, v % 32 = 0 → ((s.fn k).eqTail - w32 v).toNat ≤ ((s.fn k).eqTail - (s.fn k).eqHead).toNat →
      exec (.ringHeadWrite port fn true v) s =
        .next (State.drainHolding 65 (s.updFn k (fun f => { f with eqHead := w32 v })) k)) ∧
    (exec (.devTimeLowRead port fn) s = .next ((s.updFn k (fun f => { f with
      shadowHi := some (s.devTime / 2 ^ 32 % 2 ^ 32) })).setBus (leBytes 4 s.devTime))) ∧
    (exec (.bar0BadAccess port fn true) s = .next (s.fnCount k 26)) ∧
    (exec (.bar0BadAccess port fn false) s = .next ((s.fnCount k 26).setBus (List.replicate 8 0xFF)))

/-- 03 R100, R102 and 04 R145: a write of a register of BAR0 without a row of its own stores the register's own bits, and a
write of EVT_MASK stores 64 mask bits, bit 15 of the first word reading 0; a mask bit that clears writes what was latched. -/
def Obligations.RegisterAndMaskWritesComplete : Prop :=
  ∀ (s : State) (port fn ring v : Nat) (k : Nat), s.present (hPort port) = true →
    s.barServed port fn = true → k = fnKey port fn →
    (ring < 4 → s.ringRegsOpen k ((s.fn k).sq.get ring).halted (decide (((s.fn k).sq.get ring).size = 0)) false = true →
      exec (.registerWrite port fn (0x100 + 0x20 * ring) v) s = .next (s.updFn k (fun f => { f with
        sq := f.sq.upd ring (fun q => { q with base := bitsOf v 12 52 * 4096 }) }))) ∧
    (ring < 4 → ((s.fn k).sq.get ring).halted = true → v % 16 = 0 →
      exec (.registerWrite port fn (0x110 + 0x20 * ring) v) s = .next (s.updFn k (fun f => { f with
        sq := f.sq.upd ring (fun q => { q with head := w32 v }) }))) ∧
    (s.ringRegsOpen k false (decide ((s.fn k).rqSize = 0)) false = true →
      exec (.registerWrite port fn 0x180 v) s = .next (s.updFn k (fun f => { f with rqBase := bitsOf v 12 52 * 4096 })) ∧
      exec (.registerWrite port fn 0x198 v) s = .next (s.updFn k (fun f => { f with rqShadow := bitsOf v 3 61 * 8 }))) ∧
    exec (.registerWrite port fn 0x18C v) s =
      .next (s.updFn k (fun f => { f with rqVector := bitsOf v 0 5, rqNotify := bitOf v 8 })) ∧
    (s.ringRegsOpen k false (decide ((s.fn k).eqSize = 0)) false = true →
      exec (.registerWrite port fn 0x1A0 v) s = .next (s.updFn k (fun f => { f with eqBase := bitsOf v 12 52 * 4096 })) ∧
      exec (.registerWrite port fn 0x1B8 v) s = .next (s.updFn k (fun f => { f with eqShadow := bitsOf v 3 61 * 8 }))) ∧
    (∀ c, c < 256 → exec (.registerWrite port fn (0x500 + 8 * c) v) s =
      .next (s.updFn k (fun f => { f with evtVec := f.evtVec.set c (bitsOf v 0 5) }))) ∧
    (∀ e part, e < 32 → part < 4 → exec (.registerWrite port fn (0x1000 + 16 * e + 4 * part) v) s =
      .next ((s.updFn k (fun f => { f with msix := (s.fn k).msix.upd e (fun m => m.write part v) })).flushPba k)) ∧
    (∀ idx old new, idx < 4 → v < 2 ^ 64 → (idx = 0 → bitOf v 15 = false) → old = (s.fn k).evtMask →
      new = old - bitsOf old (64 * idx) 64 * 2 ^ (64 * idx) + v * 2 ^ (64 * idx) →
      exec (.evtMaskWrite port fn idx v) s = .next (((List.range 64).map (· + 64 * idx)).foldl (fun t c =>
        if bitOf old c && !bitOf new c then t.unlatch k c else t) (s.updFn k (fun f => { f with evtMask := new }))))

/-- 04 R130 to R137: the internal event controller. An edge sets the pending bit of a present source; a claim returns the
lowest eligible source, clears its pending bit and puts it in service; a completion ends the service; a withdrawal clears a
pending bit; enables and routes of sources 4 to 511 are written, but for those fixed to Cupper. -/
def Obligations.EventControllerCompletes : Prop :=
  ∀ (s : State),
    (∀ n, s.sourcePresent n = true → 4 ≤ n →
      exec (.eicSourceEdge n) s = .next (s.setEicNotice { s.eic with pend := s.eic.pend.set (7 * 1024 + n) true })) ∧
    (∀ n, 1 ≤ n → n ≤ 3 → exec (.eicSourceEdge n) s = .next (s.setEicNotice { s.eic with
      pend := s.eic.pend.setAll [n, 1024 + n, 2 * 1024 + n, 3 * 1024 + n, 4 * 1024 + n] true })) ∧
    (∀ t n, t ≤ 4 → s.eic.service.get t = 0 → s.eic.lowest t = some n → n < 47 ∨ 63 < n →
      exec (.eicClaim t) s = .next ((s.setEic { s.eic with
        pend := s.eic.pend.set (pendKey t n) false, service := s.eic.service.set t n,
        notice := s.eic.notice.set t false }).setBus (leBytes 4 n))) ∧
    (∀ t, t ≤ 4 → s.eic.service.get t = 0 → s.eic.lowest t = none → s.eic.notice.get t = false →
      exec (.eicClaim t) s = .next (s.setBus (leBytes 4 0))) ∧
    (∀ t, t ≤ 4 → s.eic.service.get t ≠ 0 →
      exec (.eicClaim t) s = .next ((s.setEic { s.eic with counted := s.eic.counted + 1 }).setBus (leBytes 4 0))) ∧
    (∀ t id, t ≤ 4 → id ≠ 0 → s.eic.service.get t = id →
      exec (.eicComplete t id) s = .next (s.setEicNotice { s.eic with service := s.eic.service.set t 0 })) ∧
    (∀ t id, t ≤ 4 → s.eic.service.get t ≠ id →
      exec (.eicComplete t id) s = .next (s.setEic { s.eic with counted := s.eic.counted + 1 })) ∧
    (∀ t n, exec (.eicPendWithdraw t n) s =
      .next (s.setEicNotice { s.eic with pend := s.eic.pend.set (pendKey t n) false })) ∧
    (∀ t n b, t ≤ 4 → 4 ≤ n → n ≤ 511 → exec (.eicEnableWrite t n b) s =
      .next (s.setEicNotice { s.eic with en := s.eic.en.set (t * 1024 + n) b })) ∧
    (∀ t n b, n ≤ 3 → exec (.eicEnableWrite t n b) s = .next s) ∧
    (∀ t n, t ≤ 4 → 4 ≤ n → n ≤ 511 → fixedCupper n = false → exec (.eicRouteWrite n t) s =
      .next (s.setEicNotice { s.eic with route := s.eic.route.set n t })) ∧
    (∀ t n, fixedCupper n = true → exec (.eicRouteWrite n t) s =
      .next (s.setEic { s.eic with counted := s.eic.counted + 1 }))

/-- 03 R96, R107, R117: a packet that passes steps 1 and 2 is taken from its ring: the head moves past it, rounded up to 16
bytes, its SEQ is noted, it is counted, and it takes a credit; steps 3 to 5 may answer it at once. One that fails step 1 or 2
halts the ring and is answered with NEWGEN 0. -/
def Obligations.PacketAcceptCompletes : Prop :=
  ∀ (s : State) (port fn ring n : Nat) (bytes : List Byte) (k : Nat) (q : Sq) (h : Header) (p : Packet), k = fnKey port fn →
    q = (s.fn k).sq.get ring → h = parseHeader bytes → p = toPacket n (.sq port fn ring) h bytes →
    s.present (hPort port) = true → s.fnExists port fn = true → ring < 4 → s.instOf k = some n →
    (s.inst n).state = .active → q.halted = false → q.size ≠ 0 → (s.fn k).busMaster = true → s.accepting = true →
    s.creditsHeld n < (s.inst n).credits → 16 ≤ (q.tail - q.head).toNat → 16 ≤ bytes.length →
    (h.frameOk = false → exec (.packetAccept port fn ring bytes) s = .next ((s.answerBroken h.opcode p .badParam).updFn k
      (fun f => { f with sq := f.sq.upd ring (fun q => { q with halted := true, cause := 2 }) }))) ∧
    (h.frameOk = true → (20 + h.length + 15) / 16 * 16 ≤ (q.tail - q.head).toNat → 20 + h.length ≤ bytes.length →
      (trailerOk h bytes = false → exec (.packetAccept port fn ring bytes) s =
        .next ((s.answerBroken h.opcode p .badCrc).updFn k
          (fun f => { f with sq := f.sq.upd ring (fun q => { q with halted := true, cause := 1 }) }))) ∧
      (trailerOk h bytes = true → ∀ t : State,
        t = (s.updFn k (fun f => { f with sq := f.sq.upd ring (fun q => { q with
          head := q.head + w32 ((20 + h.length + 15) / 16 * 16), lastSeq := w32 h.seq }) })).count 0 n ring →
        (s.acceptCheck n ring true h = none → exec (.packetAccept port fn ring bytes) s = .next (t.setTp { t.tp with
          accepted := t.tp.accepted ++ [{ p := p, opcode := h.opcode, applied := false, newgen := none }] })) ∧
        (∀ st, s.acceptCheck n ring true h = some st → exec (.packetAccept port fn ring bytes) s = .next ((t.setTp { t.tp with
          accepted := t.tp.accepted ++ [{ p := p, opcode := h.opcode, applied := true, newgen := none }] }).answer h.opcode p st []))))

/-- 03 R98, R99, R128 and 04 R142, R145: the first reply that may go out is stored in the ring in 16-byte units, leaves the queue
and moves the tail, and returns its credit; without room it waits, and each waiting one is counted once. A raised record is latched where
its code is masked, stored where there is room, and held back otherwise. -/
def Obligations.ReplyAndEventWritesComplete : Prop :=
  ∀ (s : State) (port fn k n : Nat) (f : Fn), k = fnKey port fn → f = s.fn k → s.present (hPort port) = true →
    s.instOf k = some n →
    (∀ (r : Reply) (bs : List Byte), (s.inst n).state ≠ .frozen → f.busMaster = true →
      s.tp.replies.find? (fun r => !r.isMgmt && decide (r.inst = n) && s.replyReady r) = some r → bs = pad16 r.bytes →
      (f.rqSize ≠ 0 → (f.rqTail - f.rqHead).toNat + bs.length ≤ f.rqSize → f.rqShadow = 0 → f.rqNotify = false →
        r.notify = false → exec (.replyWrite (.fn port fn)) s = .next
          (((s.writeRing port f.rqLatched f.rqSize f.rqTail.toNat bs).dropReply r).updFn k
            (fun f => { f with rqTail := (s.fn k).rqTail + w32 bs.length }))) ∧
      (∀ w, f.rqSize < (f.rqTail - f.rqHead).toNat + bs.length →
        s.tp.replies.find? (fun r => !r.isMgmt && decide (r.inst = n) && s.replyQueued r && !r.stalled) = some w →
        exec (.replyWrite (.fn port fn)) s = .next ((s.setTp { s.tp with
          replies := s.tp.replies.map (fun x => if x = w then { w with stalled := true } else x) }).updFn k
            (fun f => { f with rqStalls := satInc 32 f.rqStalls })))) ∧
    (∀ (r : Reply), s.tp.replies.find? (fun r => r.isMgmt && s.replyReady r) = some r →
      exec (.replyWrite .mgmt) s = .next ((s.dropReply r).setTp { (s.dropReply r).tp with
        mgmtOut := s.tp.mgmtOut ++ [mgmtBody 1 r.bytes] })) ∧
    (∀ (r : EvRec) (t : State), f.holding = [] → f.lost = 0 → s.tp.raised.find? (fun r => decide (r.inst = n)) = some r →
      t = s.setTp { s.tp with raised := s.tp.raised.erase r } →
      (bitOf f.evtMask r.code = true → r.code ≠ 0x0F → exec (.eventWrite port fn) s = .next (t.updFn k (fun f => { f with
        latches := f.latches.upd r.code (fun l => some { record := r, merged := (l.map (·.merged)).getD 0 + 1 }) }))) ∧
      (bitOf f.evtMask r.code = false → f.eqSize ≠ 0 → (f.eqTail - f.eqHead).toNat + 32 ≤ f.eqSize → f.busMaster = true →
        exec (.eventWrite port fn) s = .next (t.putEvent k r)) ∧
      (bitOf f.evtMask r.code = false → f.eqSize < (f.eqTail - f.eqHead).toNat + 32 →
        exec (.eventWrite port fn) s = .next (t.updFn k (fun f => { f with holding := f.holding ++ [r] }))))

/-- 02 R54, R58, R70 to R73, R318 and 05 R165 to R167: INST_CREATE makes an absent instance QUIESCED and unbound, with what its
quota list grants; INST_QUOTA_SET applies a list that passes the checks, and answers the first entry that fails one, which
changes nothing. The kinds that are a number of their own store it. -/
def Obligations.QuotaPacketsComplete : Prop :=
  ∀ (p : Packet) (s u : State) (n : Nat), u = s.markApplied p → p.target = hInst n → n < 256 →
    (∀ (es : List QEntry) (i : Inst), s.takes opInstCreate true p = true → 8 ≤ p.length → p.u8 16 ≤ 1 → p.u8 17 ≤ 200 →
      p.u16 18 ≤ 1 → p.u16 22 = 0 → parseQuota (p.u16 20) (p.wordsFrom 24) = (es, []) → n ≠ 0 → s.exists_ n = false →
      i = { Inst.none with
        state := .quiesced, safety := decide (p.u8 16 = 1), drainMs := if p.u8 17 = 0 then 20 else p.u8 17,
        autoreset := !p.flag 18 0 } →
      u.quotaForms n i (decide (p.u8 17 ≠ 0)) es = none → u.quotaPools n i true es = none →
      (p.u8 16 = 1 → s.sec.available = true) → ∀ t : State, t = ((u.updInst n (fun _ => i)).applyQuotas n es).intend (hInst n) false 0 →
      ((t.inst n).blocks.all (fun b => !t.memc.zeroing.contains b) = true →
        exec (.instCreate p) s = .next (t.answer 0x0020 p .ok [])) ∧
      ((t.inst n).blocks.any (fun b => t.memc.zeroing.contains b) = true →
        exec (.instCreate p) s = .next ((t.setMemc { t.memc with
          waitingCreates := t.memc.waitingCreates ++ [{ opcode := 0x0020, p := p }] }).interim 0x0020 p))) ∧
    (∀ (es : List QEntry), s.takes opInstQuotaSet true p = true → 4 ≤ p.length → p.u16 18 = 0 →
      parseQuota (p.u16 16) (p.wordsFrom 20) = (es, []) → (s.inst n).state ≠ .absent →
      (u.quotaForms n (s.inst n) false es = none → (s.inst n).state ≠ .wedged → (s.inst n).state ≠ .quiescing →
        (s.inst n).state ≠ .resetting → u.quotaPools n (s.inst n) false es = none →
        exec (.instQuotaSet p) s = .next (((u.applyQuotas n es).intend (hInst n) false 0).answer 0x0022 p .ok [])) ∧
      (∀ st res, u.quotaForms n (s.inst n) false es = some (st, res) →
        exec (.instQuotaSet p) s = .next (u.answer 0x0022 p st res)) ∧
      (∀ st res, u.quotaForms n (s.inst n) false es = none → (s.inst n).state ≠ .wedged →
        u.quotaPools n (s.inst n) false es = some (st, res) →
        exec (.instQuotaSet p) s = .next (u.answer 0x0022 p st res))) ∧
    (∀ (v : Nat) (w : List Nat) (b : Bool),
      u.applyQuotas n [] = u ∧
      u.applyQuotas n [{ kind := 0x07, words := v :: w, whole := b }] = u.updInst n (fun i => { i with weight := v }) ∧
      u.applyQuotas n [{ kind := 0x0A, words := v :: w, whole := b }] = u.updInst n (fun i => { i with credits := v }) ∧
      u.applyQuotas n [{ kind := 0x10, words := v :: w, whole := b }] = u.updInst n (fun i => { i with hvTokens := v }) ∧
      u.applyQuotas n [{ kind := 0x12, words := v :: w, whole := b }] = u.updInst n (fun i => { i with drainMs := v }))

/-- 02 R58 to R65: the life-cycle packets in the states that R58 allows. INST_BIND gives a QUIESCED or FROZEN instance a
function; INST_QUIESCE stops intake and owes its reply, and answers at once where the instance is QUIESCED; INST_RESET and
INST_DESTROY begin the reset and owe theirs; INST_FREEZE stops intake and owes its own. -/
def Obligations.LifecyclePacketsComplete : Prop :=
  ∀ (p : Packet) (s u : State) (n : Nat), u = s.markApplied p → p.target = hInst n → n < 256 → n ≠ 0 →
    (∀ k, s.takes opInstBind true p = true → p.length = 4 → p.fld 16 4 4 = 0 → p.u16 18 = 0 →
      p.fld 16 0 4 < s.board.member.ports → s.fnExists (p.fld 16 0 4) (p.u8 17) = true → k = fnKey (p.fld 16 0 4) (p.u8 17) →
      k ≠ s.managerFn → s.boundTo k = none → ((s.inst n).state = .quiesced ∨ (s.inst n).state = .frozen) →
      exec (.instBind p) s = .next (((u.updInst n (fun i => { i with
        fn := some k, frozen := i.frozen.map (fun f => { f with fn := none }) })).intend (hInst n) false 0).answer
          0x0021 p .ok [])) ∧
    (s.takes opInstQuiesce true p = true → p.length = 0 →
      ((s.inst n).state = .bound ∨ (s.inst n).state = .active →
        exec (.instQuiesce p) s = .next ((((u.stopIntake n .quiesce).updInst n (fun i => { i with
          waiting := some { opcode := 0x0023, p := p } })).intend (hInst n) true 0).interim 0x0023 p)) ∧
      ((s.inst n).state = .quiesced → exec (.instQuiesce p) s = .next (u.answer 0x0023 p .ok []))) ∧
    (s.takes opInstReset true p = true → p.length = 0 → (s.inst n).state = .quiesced → (s.inst n).fn.isSome = true →
      exec (.instReset p) s = .next ((((u.beginReset n).updInst n (fun i => { i with
        waiting := some { opcode := 0x0024, p := p } })).intend (hInst n) true 0).interim 0x0024 p)) ∧
    (s.takes opInstDestroy true p = true → p.length = 0 → (s.inst n).state = .quiesced →
      exec (.instDestroy p) s = .next ((((u.beginReset n).updInst n (fun i => { i with
        waiting := some { opcode := 0x0029, p := p } })).intend (hInst n) true 0).interim 0x0029 p)) ∧
    (s.takes opInstFreeze true p = true → p.length = 0 → (s.inst n).state = .active →
      exec (.instFreeze p) s = .next ((((((u.updInst n (fun i => { i with
        state := .quiescing, drain := .freeze, stopped := s.devTime,
        freezeWaiting := some { opcode := 0x0025, p := p } })).requestClusters n).freezeHaptics n).pauseAudio n true).intend
          (hInst n) true 0).interim 0x0025 p)) ∧
    (s.takes opInstQuiesce true p = true → p.length = 0 →
      ((s.inst n).state = .wedged → exec (.instQuiesce p) s = .next (u.answer 0x0023 p .wedged [])) ∧
      ((s.inst n).state = .resetting → exec (.instQuiesce p) s = .next (u.answer 0x0023 p .busy []))) ∧
    (s.takes opInstReset true p = true → p.length = 0 → (s.inst n).state = .active →
      exec (.instReset p) s = .next (u.answer 0x0024 p .quiesceRequired []))

/-- 02 R66 to R69, R86 to R93: INST_THAW gives a bound FROZEN instance back its rings and makes it ACTIVE, with INST_THAWED;
INST_SAVE writes the image of a FROZEN instance to the host, or answers its length where it does not fit; INST_RESTORE places
an image that its checks accept. -/
def Obligations.ImagePacketsComplete : Prop :=
  ∀ (p : Packet) (s u : State) (n : Nat), u = s.markApplied p → p.target = hInst n → n < 256 → n ≠ 0 →
    (∀ (k : Nat) (z : Frozen), s.takes opInstThaw true p = true → p.length = 0 → (s.inst n).state = .frozen →
      (s.inst n).fn = some k → (s.inst n).frozen = some z → (∀ q, q < 4 → s.area n q = none) →
      exec (.instThaw p) s = .next ((((((u.thawRings k z (decide (z.fn = some k) && !z.restored)).updInst n (fun i => { i with
        state := .active, frozen := none })).pauseAudio n false).raise n 0x05 (hInst n)
          (detail [(if z.restored then 3 else if z.fn = some k then 1 else 2, 8), (0, 24), (z.time, 64), (z.discarded, 32)])).intend
          (hInst n) false 0).flushFences.answer 0x0028 p .ok [])) ∧
    (∀ img, s.takes opInstSave true p = true → p.length = 16 → p.u64 16 % 64 = 0 → p.fld 28 2 30 = 0 → s.busMaster 0 = true →
      (s.inst n).state = .frozen → (p.flag 28 0 = true → s.sec.available = true ∧ s.sec.key.isSome = true) →
      img = s.imageBytes n (p.flag 28 0) (p.flag 28 1) →
      (img.length ≤ p.u32 24 → exec (.instSave p) s = .next (((u.writeHost s.board.mgrPortInForce (p.u64 16) img).setFreeCtr
        (u.freeCtr + 1)).answer 0x0026 p .ok (w64 img.length))) ∧
      (p.u32 24 < img.length → exec (.instSave p) s = .next (u.answer 0x0026 p .badParam (w64 img.length)))) ∧
    (∀ (img : List Byte) (c : ImageContent), s.takes opInstRestore true p = true → p.length = 12 → p.u64 16 % 64 = 0 →
      s.busMaster 0 = true → s.exists_ n = false →
      img = s.hostBytes s.board.mgrPortInForce (p.u64 16) (p.u32 24) → imageCrcOk img = true →
      bitOf (leNat ((img.drop 6).take 2)) 0 = false → imageFormOk img = true → restoredContent img = some c →
      s.imageUnits c = true → u.imagePools n c = true → s.imageFree n c = true →
      (c.inst.safety = true → s.sec.available = true) →
      exec (.instRestore p) s = .next ((((u.placeImage n (leNat ((img.drop 24).take 8)) c).intend (hInst n) false 0).tickFree).answer
        0x0027 p .ok []))

/-- 02 R61 to R66, R81, R82 and 21 R594, R595: the ends of a quiesce, a freeze and a reset; the automatic reset; a drain bound
that expires with an engine undrained wedges the instance; a wedged copy engine becomes free. -/
def Obligations.LifecycleEventsComplete : Prop :=
  ∀ (s : State) (n : Nat) (i : Inst), i = s.inst n → s.present (hInst n) = true → n ≠ 0 →
    (i.state = .quiescing → i.drain ≠ .freeze → s.clustersIdle n = true →
      (s.drainWork n).tp.replies.any (fun r => decide (r.inst = n)) = false →
      exec (.quiesceDrained n) s = .next (((s.drainWork n).dropPackets n).enterQuiesced n)) ∧
    (∀ k z, i.state = .quiescing → i.drain = .freeze → s.clustersIdle n = true →
      s.copy.any (fun j => decide (j.inst = n) && !j.internal) = false → i.fn = some k →
      ∀ t : State, t = State.writeReplies s.tp.replies.length s k →
      z = (Frozen.mk t.devTime 0 (some k) ((List.range 4).map (fun r => ((t.fn k).sq.get r).head.toNat))
        ((List.range 4).map (fun r => ((t.fn k).sq.get r).lastSeq)) false) →
      exec (.freezeSaved n) s = .next (((t.updInst n (fun i => { i with
        state := .frozen, drain := .none, freezeWaiting := none, frozen := some z })).settle (hInst n)).finishOpt
          i.freezeWaiting .ok [])) ∧
    (∀ k, i.state = .resetting → i.waiting.map (·.opcode) ≠ some 0x0029 → i.fn = some k →
      exec (.resetScrubbed n) s = .next (((((s.scrubGrants n).resetFnRegs k).updInst n (fun i => { i with
        state := .bound, waiting := none })).settle (hInst n)).finishOpt i.waiting .ok [])) ∧
    (i.state = .resetting → i.waiting.map (·.opcode) = some 0x0029 → s.surfacesOf n = [] →
      exec (.resetScrubbed n) s = .next (((((s.scrubGrants n).returnGrants n).updInst n (fun _ => Inst.none)).settle
        (hInst n)).finishOpt i.waiting .ok [])) ∧
    (∀ k, i.state = .quiesced → i.deferred = true → i.fn = some k → s.fnLive k = true →
      exec (.autoreset n) s = .next (s.beginReset n)) ∧
    (i.state = .quiescing → i.drain ≠ .freeze → s.clustersIdle n = true →
      exec (.drainBoundExpiry n []) s = .next (((s.drainWork n).discardReplies n).enterQuiesced n)) ∧
    (∀ h, i.state = .quiescing → s.undrained n h = true → exec (.drainBoundExpiry n [h]) s = .next (s.wedge n [h])) ∧
    (∀ e, s.present (hCopy e) = true → e < 8 → exec (.wedgedEngineFree (hCopy e)) s = .next (s.setCopy (s.copy.map (fun j =>
      if decide (j.engine = some e) && decide ((s.inst j.inst).state = .wedged) then { j with engine := some 255 } else j)))) ∧
    (∀ c, s.present (hCluster c) = true → c < 16 → exec (.wedgedEngineFree (hCluster c)) s = .next s)

/-- 06 R190 to R192: MEM_MAP maps free frames of the grant at the page numbers named, partly used blocks first; MEM_UNMAP takes
the pages out of the map and owes its reply until nothing uses them. -/
def Obligations.MapPacketsComplete : Prop :=
  ∀ (p : Packet) (s u : State) (n va : Nat), u = s.markApplied p → n = p.inst → p.target = hInst n → rangeOk p = true →
    va = p.u64 16 / 65536 →
    (s.takes opMemMap (ownHandle p) p = true → p.flag 28 0 = false → p.u32 24 ≤ s.freeFrames n →
      p.u32 24 ≤ (s.inst n).freeSmall.length → (s.inst n).pages.any (fun q => overlaps q va (p.u32 24)) = false →
      exec (.memMap p) s = .next ((u.updInst n (fun i => { i with pages := i.pages ++
        (((s.inst n).freeSmall.take (p.u32 24)).zip (List.range (p.u32 24))).map (fun fc =>
          { va := va + fc.2, big := false, hostRo := p.flag 28 1, phys := fc.1 }) })).answer 0x1001 p .ok [])) ∧
    (s.takes opMemMap (ownHandle p) p = true → p.flag 28 0 = true → p.u32 24 ≤ s.bigRoom n →
      (s.inst n).pages.any (fun q => overlaps q va (p.u32 24 * 32)) = false →
      exec (.memMap p) s = .next ((u.updInst n (fun i => { i with pages := i.pages ++
        (((s.inst n).freeBig.take (p.u32 24)).zip (List.range (p.u32 24))).map (fun fc =>
          { va := va + fc.2 * 32, big := true, hostRo := p.flag 28 1, phys := fc.1 }) })).answer 0x1001 p .ok [])) ∧
    (∀ (gone : List Page) (count : Nat), s.takes opMemUnmap (ownHandle p) p = true → p.flag 28 0 = false →
      p.flag 28 1 = false → count = p.u32 24 →
      gone = (s.inst n).pages.filter (fun q => overlaps q va count) →
      (∀ j, j < count → ∃ q, q ∈ gone ∧ q.va = va + j ∧ q.big = false) →
      (∀ f, f ∈ s.surfacesOf n → f.2.dead = true ∨ p.u64 16 + count * 65536 ≤ f.2.iaddr ∨ f.2.iaddr + f.2.size ≤ p.u64 16) →
      exec (.memUnmap p) s = .next (((u.updInst n (fun i => { i with
        pages := i.pages.filter (fun q => !overlaps q va count)
        dead := i.dead ++ [DeadPages.mk (p.u64 16) count false gone (some ⟨0x1002, p⟩) (u.workOf n) false] })).settleAllDead n).interim
            0x1002 p))

/-- 06 R193 to R199: an accepted COPY joins the engines' queue and owes its reply; a packet whose tokens are free starts on the
engine with the fewest queued descriptors; a descriptor that ends has had its effect, raises its engine's source and leaves
the packet, whose last one answers; a host completion that fails ends the packet with what it had done. -/
def Obligations.CopyCommandsComplete : Prop :=
  (∀ (p : Packet) (s u : State) (ds : List CopyDesc) (n : Nat), u = s.markApplied p → n = p.inst → p.target = hInst n →
    s.takes opCopy true p = true → ds = copyDescs p → 1 ≤ copyCount p → copyCount p ≤ 127 → p.u16 18 = 0 →
    p.length = 4 + 32 * copyCount p → copyReserved p = true → (∀ d, d ∈ ds → d.kind ≤ 3) →
    (∀ d, d ∈ ds → s.descOk n d = true) → copyCount p ≤ (s.inst n).descs →
    exec (.copy p) s = .next ((u.setCopy (u.copy ++ [CopyJob.mk ⟨0x1010, p⟩ n ds (copyCount p) false false 0 none])).interim
      0x1010 p)) ∧
  (∀ (s : State) (n seq e : Nat) (j : CopyJob),
    s.copy.find? (fun j => decide (j.inst = n) && decide (j.owed.p.seq = w32 seq) && j.engine.isNone) = some j →
    s.chooseEngine = some e → s.descsHeld n + j.descs.length ≤ (s.inst n).descs → (s.inst n).state ≠ .frozen →
    exec (.copyPacketStart n seq) s = .next (s.setCopy (updFirst
      (fun j => decide (j.inst = n) && decide (j.owed.p.seq = w32 seq) && j.engine.isNone)
      (fun j => { j with engine := some e }) s.copy))) ∧
  (∀ (s : State) (e : Nat) (j : CopyJob) (d : CopyDesc) (ds : List CopyDesc) (host : List Byte), s.present (hCopy e) = true →
    s.engineJob e = some j → j.descs = d :: ds → (d.usesHost = true → s.busMaster j.inst = true) → j.isSeal = false →
    d.kind ≤ 3 → ∀ t : State, t = (s.asJob j.inst j.owed.p (fun s => s.runDesc j.inst e j.owed.p.seq.toNat d host)).edge
      (424 + 4 * e) →
    (ds ≠ [] → exec (.copyDescriptorDone e host) s =
      .next (t.setCopy (updFirst (fun k => decide (k = j)) (fun _ => { j with descs := ds }) t.copy))) ∧
    (ds = [] → exec (.copyDescriptorDone e host) s =
      .next ((t.setCopy (updFirst (fun k => decide (k = j)) (fun _ => { j with descs := [] }) t.copy)).endJob
        { j with descs := [] } .ok 0xFFFF 0))) ∧
  (∀ (s : State) (e moved : Nat) (j : CopyJob) (d : CopyDesc) (ds : List CopyDesc), s.present (hCopy e) = true →
    s.engineJob e = some j → j.descs = d :: ds → d.usesHost = true →
    exec (.hostCompletionError e moved) s =
      .next ((s.edge (424 + 4 * e + 1)).endJob j .denied (j.total - j.descs.length) moved) ∧
    exec (.hostCompletionTimeout e moved) s =
      .next ((s.edge (424 + 4 * e + 1)).endJob j .timeout (j.total - j.descs.length) moved))

/-- 06 R193, R198, R200 and 02 R77, R79: what a fill and a copy within an instance store: the bytes at the addresses that its
pages or its scratchpad blocks give, and no other byte of any memory. -/
def Obligations.CopyDescriptorsStoreOnlyTheirBytes : Prop :=
  ∀ (s : State) (n e seq : Nat) (d : CopyDesc) (host : List Byte), (d.kind = 2 ∨ d.kind = 3) →
    (s.runDesc n e seq d host).hostMem = s.hostMem ∧
    (d.dstSpad = false → (s.runDesc n e seq d host).spad = s.spad ∧
      ∀ q, (∀ i, i < d.length → physAt (s.inst n).pages (d.dst + i) ≠ some q) →
        (s.runDesc n e seq d host).dram.get q = s.dram.get q) ∧
    (d.dstSpad = true → (s.runDesc n e seq d host).dram = s.dram ∧
      ∀ q, (∀ i, i < d.length → spadAt (s.inst n).spadBlocks (d.dst + i) ≠ some q) →
        (s.runDesc n e seq d host).spad.get q = s.spad.get q) ∧
    (∀ p : Packet, d.dstSpad = false → ∀ q, (∀ i, i < d.length → physAt ((s.setPages n (s.jobPages n p)).inst n).pages (d.dst + i) ≠
      some q) →
      (s.asJob n p (fun t => t.runDesc n e seq d host)).dram.get q = s.dram.get q) ∧
    (s.dram.wf = true → (s.runDesc n e seq d host).dram.wf = true) ∧
    (s.spad.wf = true → (s.runDesc n e seq d host).spad.wf = true) ∧
    (d.kind = 3 → d.dstSpad = true → s.spad.wf = true → (s.inst n).spadBlocks.Nodup → ∀ i q, i < d.length →
      spadAt (s.inst n).spadBlocks (d.dst + i) = some q →
      (s.runDesc n e seq d host).spad.get q = BitVec.ofNat 8 (d.src % 2 ^ 32 / 256 ^ (i % 4)))

/-- 06 R171 to R189, R205: the four forms of MEM_CONFIG replace the settings they name. -/
def Obligations.MemConfigCompletes : Prop :=
  ∀ (p : Packet) (s u : State), u = s.markApplied p → s.takes opMemConfig true p = true → p.fld 16 8 24 = 0 →
    (∀ rs, p.u8 16 = 0 → p.target = hDevice → p.length = 28 → rs = [regionField p 1, regionField p 2, regionField p 3] →
      (∀ r, r ∈ rs → r.legal = true) → (∀ r, r ∈ rs → r.sizeMiB = 0 ∨ r.chmask < 2 ^ s.board.member.channels) →
      p.fld 20 14 18 = 0 → p.fld 28 14 18 = 0 → p.fld 36 14 18 = 0 → s.sharesFit rs = true → s.guests = [] →
      exec (.memConfigRegions p) s = .next (((u.setMemc { u.memc with regions := rs, zeroing := [] }).intend hDevice false
        p.inst).answer 0x1020 p .ok [])) ∧
    (p.u8 16 = 1 → p.target = hDevice → p.length = 8 → 8 ≤ p.fld 20 0 5 → p.fld 20 0 5 ≤ 16 → p.fld 20 5 3 = 0 →
      p.fld 20 9 23 = 0 → exec (.memConfigNeighbourRefresh p) s = .next (((u.setMemc { u.memc with
        plog2 := p.fld 20 0 5, radius2 := p.fld 20 8 1 == 1 }).intend hDevice false p.inst).answer 0x1020 p .ok [])) ∧
    (p.u8 16 = 2 → p.target = hDevice → p.length = 8 → 1 ≤ p.u8 20 → p.u8 20 ≤ 64 → 4 ≤ p.u8 21 → p.u8 21 ≤ 64 →
      16 ≤ p.u8 22 → p.u8 22 ≤ 72 → p.u8 23 = 0 → exec (.memConfigScheduler p) s = .next (((u.setMemc { u.memc with
        ageUs := p.u8 20, rowHitCap := p.u8 21, s3Max := p.u8 22 }).intend hDevice false p.inst).answer 0x1020 p .ok [])) ∧
    (∀ a b c d, p.u8 16 = 3 → p.target = hSlc → p.length = 16 → a = p.u16 20 → b = p.u16 22 → c = p.u16 24 → d = p.u16 26 →
      a % 4 = 0 → b % 4 = 0 → c % 4 = 0 → d % 4 = 0 → p.u8 28 ≤ 2 → p.u8 29 ≤ 2 → p.u8 30 ≤ 2 → p.u8 31 ≤ 2 →
      popcount 16 a + popcount 16 b + popcount 16 c + popcount 16 d = popcount 16 (a ||| b ||| c ||| d) →
      (a ||| b ||| c ||| d) < 2 ^ s.board.member.slcWays →
      (∀ n, n ∈ s.guests → (s.inst n).ways &&& (a ||| b ||| c ||| d) = 0) →
      exec (.memConfigClassWays p) s = .next (((u.setMemc { u.memc with
        classWays := [a, b, c, d], alloc := [p.u8 28, p.u8 29, p.u8 30, p.u8 31] }).intend hSlc false p.inst).answer
          0x1020 p .ok []))

/-- 02 R79, R80 and 06 R202 to R204: a host read of mapped memory or of the grant returns its bytes; a write stores them, unless
its pages are HOST_RO; an access that hits nothing, or lies beyond the grant, reads all ones or is discarded, and is reported; FetchAdd and Swap return
the value before. -/
def Obligations.HostAccessesComplete : Prop :=
  ∀ (s : State) (port fn addr n : Nat) (k : Nat), k = fnKey port fn → s.present (hPort port) = true →
    s.fnExists port fn = true → s.boundTo k = some n →
    (addr < 2 ^ 26 - 4096 → 26 ≤ (s.ports.get port).bar2Pf → 26 ≤ (s.ports.get port).bar2Vf →
      (∀ len, len ≤ 4096 → mappedRange (s.inst n).pages addr len = true →
        exec (.hostBar2Access port fn addr (.read len)) s = .next (s.setBus (s.readInst n addr len))) ∧
      (∀ d, d.length ≤ 4096 → mappedRange (s.inst n).pages addr d.length = true →
        ((∀ i, i < d.length → hostRoAt (s.inst n).pages (addr + i) = false) →
          exec (.hostBar2Access port fn addr (.write d)) s = .next (s.writeInst n addr d)) ∧
        (0 < d.length → (∀ i, i < d.length → hostRoAt (s.inst n).pages (addr + i) = true) →
          exec (.hostBar2Access port fn addr (.write d)) s = .next (s.count 0 n 37))) ∧
      (∀ len, len ≤ 4096 → mappedRange (s.inst n).pages addr len = false →
        exec (.hostBar2Access port fn addr (.read len)) s =
          .next ((s.addrFault n (hInst n) addr 2 false false len 0).setBus (List.replicate len 0xFF)))) ∧
    (∀ len, addr + len ≤ 2 ^ (s.ports.get port).bar4Pf → addr + len ≤ 2 ^ (s.ports.get port).bar4Vf →
      (addr + len ≤ 4096 * (s.inst n).spadBlocks.length →
        exec (.hostBar4Access port fn addr (.read len)) s = .next (s.setBus (readSpad s.spad (s.inst n).spadBlocks addr len))) ∧
      (4096 * (s.inst n).spadBlocks.length < addr + len →
        exec (.hostBar4Access port fn addr (.read len)) s =
          .next ((s.addrFault n (hInst n) addr 4 false false len 0).setBus (List.replicate len 0xFF)))) ∧
    (∀ d, addr + d.length ≤ 2 ^ (s.ports.get port).bar4Pf → addr + d.length ≤ 2 ^ (s.ports.get port).bar4Vf →
      (addr + d.length ≤ 4096 * (s.inst n).spadBlocks.length →
        exec (.hostBar4Access port fn addr (.write d)) s = .next (s.writeSpad n addr d)) ∧
      (4096 * (s.inst n).spadBlocks.length < addr + d.length →
        exec (.hostBar4Access port fn addr (.write d)) s = .next (s.addrFault n (hInst n) addr 4 true false d.length 0))) ∧
    (∀ wide w v, w = (if wide = true then 8 else 4) → addr % w = 0 → 4096 * (s.inst n).spadBlocks.length < addr + w →
      exec (.hostAtomicop port fn 4 addr .fetchAdd wide v) s =
        .next ((s.addrFault n (hInst n) addr 4 false true w 0).setBus (List.replicate w 0xFF)) ∧
      exec (.hostAtomicop port fn 4 addr .swap wide v) s =
        .next ((s.addrFault n (hInst n) addr 4 false true w 0).setBus (List.replicate w 0xFF))) ∧
    (∀ wide w v old, w = (if wide = true then 8 else 4) → addr % w = 0 → addr + w ≤ 4096 * (s.inst n).spadBlocks.length →
      old = readSpad s.spad (s.inst n).spadBlocks addr w →
      exec (.hostAtomicop port fn 4 addr .fetchAdd wide v) s =
        .next ((s.writeSpad n addr (leBytes w (leNat old + v))).setBus old) ∧
      exec (.hostAtomicop port fn 4 addr .swap wide v) s = .next ((s.writeSpad n addr (leBytes w v)).setBus old) ∧
      exec (.hostAtomicop port fn 4 addr .cas wide v) s = .next s)

/-- 06 R174 to R184, R186, R201 and 02 R581: what the memory controller does on its own. -/
def Obligations.MemoryEventsComplete : Prop :=
  ∀ (s : State) (c : Nat),
    (∀ bank row, s.present (hChannel c) = true → exec (.neighbourRefresh c bank row) s = .next (s.countBy 9 c 3
      (if s.memc.radius2 = true then min row 2 + 2 else min row 1 + 1))) ∧
    exec .neighbourReseed s = .next ((s.setMemc { s.memc with seeds := Config.seed s.freeCtr }).setFreeCtr (s.freeCtr + 1)) ∧
    (∀ r, s.present (hChannel c) = true → exec (.requestPromoted c r) s =
      .next ((s.setMemc { s.memc with promoted := s.memc.promoted ++ [(c, r)] }).count 9 c 7)) ∧
    (s.present (hChannel c) = true → exec (.dramRetrain c true) s = .next ((s.setMemc { s.memc with
      channels := s.memc.channels.set c ⟨0, (s.memc.channels.get c).retrains + 1⟩ }).count 9 c 4)) ∧
    (s.present (hChannel c) = true → (s.memc.channels.get c).fails = 0 → exec (.dramRetrain c false) s =
      .next ((((s.setMemc { s.memc with
        channels := s.memc.channels.set c ⟨1, (s.memc.channels.get c).retrains + 1⟩ }).count 9 c 4).count 9 c 5).raiseErr 0x1005 1 (hChannel c)
          0xFF 0 0)) ∧
    (s.present (hChannel c) = true → (s.memc.channels.get c).fails = 2 → exec (.dramRetrain c false) s =
      .next (((((s.setMemc { s.memc with
        channels := s.memc.channels.set c ⟨3, (s.memc.channels.get c).retrains + 1⟩ }).count 9 c 4).count 9 c 5).raiseErr 0x1005 1 (hChannel c)
          0xFF 0 0).raiseErr 0x1006 4 (hChannel c) 0xFF 0 0)) ∧
    (∀ r n a, s.present (hChannel c) = true → 1 ≤ r → r ≤ 3 → (s.memc.regions.getD (r - 1) .empty).ecc = true →
      exec (.dramEccError c false r n a) s = .next ((s.count 9 c 0).raiseErr 0x1002 1 (hChannel c) 0xFF 0 0) ∧
      exec (.dramEccError c true r n a) s = .next ((((s.count 9 c 1).writeInst n (a / 64 * 64) (List.replicate 64 0)).raise n
        0x12 (hChannel c) (detail [(a / 64 * 64, 64)])).raiseErr 0x1004 2 (hChannel c) n 0 0)) ∧
    exec .scrubPass s = .next (s.setMemc { s.memc with scrubPasses := s.memc.scrubPasses + 1 }) ∧
    (∀ b o, 1536 ≤ b → exec (.spadEccUncorr b o) s = .next (s.raiseErr 0x1007 4 hSpad 0xFF 0 0)) ∧
    (∀ b o n, b < 1536 → s.guests.find? (fun n => (s.inst n).spadBlocks.contains b) = some n →
      exec (.spadEccUncorr b o) s = .next (s.raiseErr 0x1007 2 hSpad n 0 0)) ∧
    exec .scrubDone s = .next (s.memc.waitingCreates.foldl (fun s o => s.finish o .ok [])
      ((s.setDram (zeroBlocks s.dram s.memc.zeroing)).setMemc { s.memc with zeroing := [], waitingCreates := [] }))

/-- 07 R210, R211, R213 to R215, R220, R224, R229, R232: SURFACE_CREATE names a surface over mapped storage that meets no other;
WRITE_BEGIN opens its window with the next generation, and at the wrap empties the side-table; WRITE_END and SEAL wait;
SURFACE_DESTROY removes a closed surface, or marks one still in scan-out and answers PINNED. -/
def Obligations.SurfacePacketsComplete : Prop :=
  ∀ (p : Packet) (s u : State) (n : Nat), u = s.markApplied p → n = p.inst →
    (∀ f : Surface, s.takes opSurfaceCreate (ownHandle p) p = true →
      f = { iaddr := p.u64 16, width := p.u16 24, height := p.u16 26, format := p.u8 28, isSealed := !p.flag 29 0,
            gen := 1, isOpen := false, keep := false, writers := 0, closing := none, dead := false, silent := false,
            table := Tab.empty } →
      p.length = 16 → p.fld 29 1 7 = 0 → p.u16 30 = 0 → f.iaddr % 4096 = 0 → 1 ≤ f.width → f.width ≤ 16384 →
      1 ≤ f.height → f.height ≤ 16384 → f.format ≤ 6 → (isYuv f.format = true → f.width % 2 = 0 ∧ f.height % 2 = 0) →
      f.iaddr + f.size ≤ 2 ^ 40 → mappedRange (s.inst n).pages f.iaddr f.size = true → (s.surfacesOf n).length < 4096 →
      s.structFits n f.tableBytes = true →
      (∀ g ∈ s.surfacesOf n, f.iaddr + f.size ≤ g.2.iaddr ∨ g.2.iaddr + g.2.size ≤ f.iaddr) →
      exec (.surfaceCreate p) s = .next (((u.setSurf { s.surf with nextId := s.surf.nextId.set n (s.surf.nextId.get n + 1) }
        ).setSurface n (s.surf.nextId.get n) (some f)).answer 0x2001 p .ok
        ([w32 (s.surf.nextId.get n), w32 (tileBytes f.format), w32 f.rowBytes, w32 f.tableBytes] ++ w64 f.size ++ [0, 0]))) ∧
    (∀ f : Surface, s.surface n (p.u32 16) = some f →
      (s.takes opSurfaceDestroy (ownHandle p) p = true → p.length = 4 → f.isOpen = false →
        (s.inScanout n (p.u32 16) = true → exec (.surfaceDestroy p) s = .next
          ((u.updSurface n (p.u32 16) (fun f => { f with dead := true })).answer 0x2002 p .pinned [])) ∧
        (s.inScanout n (p.u32 16) = false → (∀ i ∈ s.slotsOf n, (s.slot i).pending = false) →
          exec (.surfaceDestroy p) s = .next ((u.removeSurface n (p.u32 16)).answer 0x2002 p .ok []))) ∧
      (s.takes opWriteBegin (ownHandle p) p = true → p.length = 8 → p.fld 20 1 31 = 0 → f.isOpen = false →
        exec (.writeBegin p) s = .next (((u.setSurface n (p.u32 16) (some { f with
          gen := nextGen f.gen, isOpen := true, keep := p.flag 20 0 && decide (nextGen f.gen ≠ 1),
          table := if nextGen f.gen = 1 then Tab.empty else f.table })).flushFences).answer 0x2003 p .ok
          [nextGen f.gen, w32 (if s.inScanout n (p.u32 16) then 1 else 0)])) ∧
      (s.takes opWriteEnd (ownHandle p) p = true → p.length = 4 → f.isOpen = true → f.closing = none →
        exec (.writeEnd p) s = .next ((u.updSurface n (p.u32 16) (fun f => { f with
          closing := some { opcode := 0x2004, p := p } })).interim 0x2004 p)) ∧
      (s.takes opSeal (ownHandle p) p = true → p.length = 12 → p.fld 24 2 30 = 0 → (p.fld 24 0 2 = 2 ∨ p.fld 24 0 2 = 3) →
        ∀ rows, rows = (if p.u16 22 = 0 then f.th - p.u16 20 else p.u16 22) → p.u16 20 < f.th → p.u16 20 + rows ≤ f.th →
        (f.isSealed = false → p.u16 20 = 0 ∧ rows = f.th ∧ s.structFits n (8 * f.tw * f.th) = true) →
        1 ≤ (s.inst n).descs → f.isOpen = true → f.closing = none →
        exec (.seal p) s = .next (((u.setCopy (s.copy ++ [CopyJob.mk { opcode := 0x2005, p := p } n
          [CopyDesc.mk 6 (p.fld 24 0 2) false false false 0 0 0 0 (p.u32 16) (p.u16 20) rows]
          1 true (!f.isSealed) (p.u32 16) none])).bindWriter n (p.u32 16)).interim 0x2005 p)))

/-- 07 R215, R221, R230 to R234: a write window closes when its last writer has finished; a surface that has left scan-out is
freed, with SURFACE_RELEASED; RETIRE_FENCE adds a fence with the next number, and every fence whose condition holds signals. -/
def Obligations.WindowsAndFencesComplete : Prop :=
  ∀ (s : State) (n id : Nat) (f : Surface),
    (s.surface n id = some f → f.isOpen = true → f.writers = 0 → ∀ o, f.closing = some o →
      ∃ t : State, exec (.writeWindowClosed n id) s = .next (t.finish o .ok []) ∧
        t = s.setSurface n id (some { (carryForward f) with isOpen := false, keep := false, closing := none }) ∧
        (f.keep = false → carryForward f = f)) ∧
    (s.surfAny n id = some f → s.inScanout n id = false →
      (f.dead = true → f.silent = false → exec (.scanoutRelease n id) s = .next
        (((s.removeSurface n id).raise n 0x21 (hInst n) (detail [(id, 32), (f.gen.toNat, 32)])).settleAllDead n)) ∧
      (f.dead = true → f.silent = true → exec (.scanoutRelease n id) s = .next ((s.removeSurface n id).settleAllDead n)) ∧
      (f.dead = false → exec (.scanoutRelease n id) s = .next (s.flushFences.settleAllDead n))) ∧
    (∀ (p : Packet) (u : State) (g : W32), u = s.markApplied p → n = p.inst → id = p.u32 16 →
      s.takes opRetireFence (ownHandle p) p = true → s.surface n id = some f → p.length = 24 → p.fld 24 1 31 = 0 →
      g = (if p.u32 20 = 0 then f.gen else w32 (p.u32 20)) → genLater g f.gen = false →
      (p.flag 24 0 = true → p.u32 28 % 8 = 0 ∧ p.u32 28 + 8 ≤ 4096 * (s.inst n).spadBlocks.length) →
      (s.surf.fences.filter (fun x => decide (x.inst = n))).length < 64 →
      exec (.retireFence p) s = .next (((u.setSurf { s.surf with
        fences := s.surf.fences ++ [Fence.mk n (s.surf.nextFence.get n) id g (p.flag 24 0) (p.u32 28) (p.u64 32)]
        nextFence := s.surf.nextFence.set n (s.surf.nextFence.get n + 1) }).flushFences).answer 0x2006 p .ok
        [w32 (s.surf.nextFence.get n), 0])) ∧
    (∀ (e : Fence), s.fenceWaits e = true → s.surf.fences = [e] → s.flushFences = s) ∧
    (∀ (e : Fence), s.fenceWaits e = false → (s.inst e.inst).state ≠ .frozen → s.surf.fences = [e] →
      s.flushFences = (s.setSurf { s.surf with fences := [] }).signalFence e)

/-- 08 R242 to R251: SHADER_LOAD numbers a module of the device's own bytes; PIPELINE_CREATE answers from the cache when every
stage is there, else waits for the compiler, whose result (or error, or 2 s) ends it; PIPELINE_DESTROY removes what it names.
Whether the bytes are a legal module, and the code that comes of them, are values that the spec leaves to SPIR-V (log 58). -/
def Obligations.ShaderCommandsComplete : Prop :=
  ∀ (s : State) (n : Nat), (∀ (p : Packet) (u : State), u = s.markApplied p → n = p.inst →
    (∀ bs, s.takes opShaderLoad (ownHandle p) p = true → p.length = 16 → p.u32 28 = 0 → p.u64 16 % 4 = 0 → 20 ≤ p.u32 24 →
      p.u32 24 ≤ 4194304 → p.u32 24 % 4 = 0 → bs = s.readInst n (p.u64 16) (p.u32 24) →
      (((instCells s.gpu.modules n).filter (fun m => !m.2.removed)).length < 1024 → Config.spirvError bs = 0 →
        ∃ m : Machine.Module, m.bytes = p.u32 24 ∧ m.removed = false ∧ exec (.shaderLoad p) s = .next ((u.setGpu { s.gpu with
          modules := s.gpu.modules.set (idKey n (s.gpu.nextModule.get n)) (some m)
          nextModule := s.gpu.nextModule.set n (s.gpu.nextModule.get n + 1) }).answer 0x3001 p .ok
          ([w32 (s.gpu.nextModule.get n), w32 m.entries] ++ bytesWords (takePad 32 (Config.sha256 bs))))) ∧
      (1024 ≤ ((instCells s.gpu.modules n).filter (fun m => !m.2.removed)).length →
        exec (.shaderLoad p) s = .next (u.answer 0x3001 p .compileError (compileError 6 (Config.spirvWord bs)
          (Config.spirvItem bs) (Config.spirvText bs))))) ∧
    (s.takes opPipelineCreate (ownHandle p) p = true → p.flag 16 0 = true → p.fld 16 1 7 = 0 → p.u8 17 ≤ 64 → p.u16 18 = 0 →
      p.length = 32 + 8 * p.u8 17 → p.u16 30 = 0 → p.u32 44 = 0 → p.u64 32 = 0 → p.u32 24 = 0 →
      (((instCells s.gpu.pipelines n).filter (fun m => !m.2.removed)).length < 4096) →
      ∀ (m : Machine.Module) (q : Pipeline), s.module_ n (p.u32 20) = some m →
        (∃ z, q = wantedPipeline p m.sha z s.gpu.backEnd []) →
      ((s.gpu.cache.get n).find? (fun e => decide (e.key ∈ q.keys)) = none →
        exec (.pipelineCreate p) s = .next ((u.setGpu { s.gpu with
          compiles := s.gpu.compiles ++ [{ owed := { opcode := 0x3002, p := p }, inst := n, pipeline := q }] }).interim
          0x3002 p)) ∧
      (∀ e, s.gpu.cache.get n = [e] → q.keys = [e.key] → exec (.pipelineCreate p) s = .next (((u.setGpu { s.gpu with
          cache := s.gpu.cache.set n [{ e with used := s.devTime }] }).addPipeline n (q.withCode [e])).answer 0x3002 p .ok
          (pipelineResult (s.gpu.nextPipeline.get n) true (q.withCode [e]))))) ∧
    (s.takes opPipelineDestroy (ownHandle p) p = true → p.length = 8 → p.fld 20 1 31 = 0 →
      (p.flag 20 0 = true → (s.module_ n (p.u32 16)).isSome = true → exec (.pipelineDestroy p) s = .next (((u.setGpu
        { s.gpu with
          modules := s.gpu.modules.upd (idKey n (p.u32 16)) (fun m => m.map (fun m => { m with removed := true }))
        }).sweepPipelines n).answer 0x3003 p .ok [])) ∧
      (p.flag 20 0 = false → (s.pipeline n (p.u32 16)).isSome = true → exec (.pipelineDestroy p) s = .next (((u.setGpu
        { s.gpu with
          pipelines := s.gpu.pipelines.upd (idKey n (p.u32 16)) (fun m => m.map (fun m => { m with removed := true }))
        }).sweepPipelines n).answer 0x3003 p .ok [])))) ∧
    (∀ (seq : Nat) (c : Compile), s.compiling n seq = some c →
      (∀ (stages : List (Nat × Nat)) (k : Nat) (es : List CacheEntry), k ≤ 64 →
        es = (c.pipeline.keys.zip stages).map (fun x => CacheEntry.mk x.1 x.2.1 k x.2.2 s.devTime) →
        exec (.shaderCompileDone n seq 0 stages k) s = .next ((es.foldl (fun t e => t.cacheCode n e) ((s.setGpu { s.gpu with
          compiles := s.gpu.compiles.erase c }).addPipeline n (c.pipeline.withCode es))).finish c.owed .ok
          (pipelineResult (s.gpu.nextPipeline.get n) false (c.pipeline.withCode es)))) ∧
      (∀ error stages k, error ≠ 0 → exec (.shaderCompileDone n seq error stages k) s = .next (s.failCompile c error)) ∧
      exec (.compileAbandoned n seq) s = .next (s.failCompile c 11) ∧
      (∀ error, ∃ t res, s.failCompile c error = State.finish t c.owed .compileError res ∧
        t.gpu = { s.gpu with compiles := s.gpu.compiles.erase c } ∧ res.head? = some (w32 (error % 65536))))

/-- 08 R256 and 10 R306: the four forms of QUEUE_CONFIG set a queue's depth and cluster limit, the cache limit (evicting down
to it), drop what no live pipeline uses, or set a queue's time limits, where 0 takes the default; each is a new intention. -/
def Obligations.QueueConfigCompletes : Prop :=
  ∀ (p : Packet) (s u : State) (n q : Nat), u = s.markApplied p → n = p.inst → q = p.fld 20 0 2 →
    s.takes opQueueConfig (ownHandle p) p = true →
    (p.length = 8 → p.u32 16 = 0 → p.fld 20 2 6 = 0 → 1 ≤ p.u8 21 → p.u8 21 ≤ 64 → p.fld 22 0 5 ≤ 16 → p.fld 22 5 11 = 0 →
      (q = 0 → s.general p = false) → exec (.queueConfigDepth p) s = .next (((u.updQueue n q (fun x => { x with
        depth := p.u8 21, clusterMax := p.fld 22 0 5 })).intend (hInst n) false n).answer 0x3004 p .ok [])) ∧
    (p.length = 8 → p.u32 16 = 1 → p.u16 20 ≤ 1024 → p.u16 22 = 0 →
      exec (.queueConfigCache p) s = .next ((((u.setGpu { s.gpu with cacheMiB := s.gpu.cacheMiB.set n (p.u16 20) }).evict n
        0).intend (hInst n) false n).answer 0x3004 p .ok [])) ∧
    (p.length = 4 → p.u32 16 = 2 → exec (.queueConfigEvict p) s = .next (((u.setGpu { s.gpu with
        cache := s.gpu.cache.upd n (fun es => es.filter (fun e => s.keyLive n e.key)) }).intend (hInst n) false n).answer
        0x3004 p .ok [])) ∧
    (p.length = 16 → p.u32 16 = 3 → p.fld 20 2 30 = 0 → (p.u32 24 = 0 ∨ (100 ≤ p.u32 24 ∧ p.u32 24 ≤ 100000)) →
      (p.u16 28 = 0 ∨ (50 ≤ p.u16 28 ∧ p.u16 28 ≤ 5000)) → p.u16 30 = 0 → (q = 0 → s.general p = false) →
      exec (.queueConfigLimits p) s = .next (((u.updQueue n q (fun x => { x with
        wgLimit := if p.u32 24 = 0 then 2000 else p.u32 24
        urgentUs := if p.u16 28 = 0 then 500 else p.u16 28 })).intend (hInst n) false n).answer 0x3004 p .ok []))

/-- 09 R266 to R268, R288 to R293 and 08 R256: SUBMIT joins its queue when its buffer parses and its attachments are open, waits
at DEPTH, and is refused with the offset of the first token that breaks a rule; HOPPER_GRANT adds pages to the pass it names. -/
def Obligations.SubmitPacketsComplete : Prop :=
  ∀ (p : Packet) (s u : State) (n : Nat), u = s.markApplied p → n = p.inst →
    (∀ (q : Nat) (k : Walk), s.takes opSubmit (ownHandle p) p = true → q = p.src.ring → p.length = 32 → p.fld 28 4 12 = 0 →
      p.fld 32 1 31 = 0 → p.u64 16 % 4 = 0 → 4 ≤ p.u32 24 → p.u32 24 ≤ 4194304 → p.u32 24 % 4 = 0 → p.u16 30 ≤ 5000 →
      (p.flag 28 3 = true → s.present (hPipe (p.fld 28 0 3)) = true) →
      (p.flag 32 0 = true → p.u32 36 % 8 = 0 ∧ p.u32 36 + 8 ≤ 4096 * (s.inst n).spadBlocks.length) →
      k = u.walkBuffer n false (p.u64 16) (p.u32 24) →
      ((s.queue n q).depth ≤ (s.queue n q).submits.length ∨ (s.queue n q).waiting ≠ [] →
        exec (.submit p) s = .next ((u.updQueue n q (fun y => { y with
          waiting := y.waiting ++ [{ opcode := 0x3010, p := p }] })).interim 0x3010 p)) ∧
      ((s.queue n q).submits.length < (s.queue n q).depth → (s.queue n q).waiting = [] →
        (∀ off, k.failing = some off →
          exec (.submit p) s = .next (u.answer 0x3010 p .badParam (parseFailed p off s.devTime))) ∧
        (k.failing = none → ((s.queue n q).saveArea = true ∨ s.structFits n 262144 = true) →
          (∀ id ∈ bufferSurfaces k.tokens, ∃ f, s.surface n id = some f ∧ f.isOpen = true ∧ f.closing = none) →
          p.flag 28 3 = false →
          exec (.submit p) s = .next (((bufferSurfaces k.tokens).foldl (fun t id => t.bindWriter n id)
            ((u.becomeReady n q).updQueue n q (fun y => { y with
              submits := y.submits ++ [newSubmit p q k.tokens (bufferSurfaces k.tokens) k.ps.passes none]
              saveArea := true }))).interim 0x3010 p)))) ∧
    (∀ (q pages : Nat) (x : Submit), s.takes opHopperGrant (ownHandle p) p = true → q = p.fld 20 0 2 → pages = p.u16 24 →
      p.length = 12 → p.fld 20 2 14 = 0 → p.u16 26 = 0 → 1 ≤ pages → pages ≤ 4096 → s.head n q = some x →
      x.owed.p.seq.toNat = p.u32 16 → x.pass = p.u16 22 → x.pass < x.passes →
      (x.phase = .binning ∨ x.phase = .waiting ∨ x.phase = .flushing) → pages ≤ s.hopperFree n →
      exec (.hopperGrant p) s = .next ((u.updHead n q (fun x => { x with
        held := x.held + pages
        budget := x.budget + pages
        peak := max x.peak (x.held + pages)
        granted := if x.phase = .flushing then x.granted + pages else x.granted
        phase := if x.phase = .waiting then .binning else x.phase })).answer 0x3011 p .ok []))

/-- 08 R257 to R261 and 10 R298 to R316: urgency is weighed and free clusters go to work in rising order, and clusters wanted by
other work are asked for; a request is noted once with its time, and the cluster is free when its unit ends. -/
def Obligations.SchedulingCompletes : Prop :=
  ∀ (s : State) (c : Nat),
    exec .urgencyEvaluation s = .next s.charge.evalUrgency ∧
    exec .schedulingDecision s = .next ((List.range s.board.member.clusters).foldl
      (fun t d => if t.wanted d then t.request d else t)
      ((List.range s.board.member.clusters).foldl State.assign s.charge.evalUrgency)) ∧
    (∀ x n q, x = s.cluster c → (x.offline = true ∨ x.work = some (n, q)) → s.assign c = s) ∧
    (∀ x n q, x = s.cluster c → x.offline = false → x.work = none → x.reserved = some n → s.pickReserved n = some (n, q) →
      s.assign c = (s.updCluster c (fun x => { x with
        work := some (n, q)
        since := s.devTime
        request := none })).updHead n q (fun y => { y with preempted := false })) ∧
    (∀ t n q, s.present (hCluster c) = true → t = s.charge → (t.cluster c).work = some (n, q) →
      (t.cluster c).request = none → exec (.preemptRequest c) s = .next
        ((t.updCluster c (fun x => { x with request := some t.devTime })).count 1 n (160 + 5 * q))) ∧
    (∀ n q at_ t us ph, s.present (hCluster c) = true → (s.cluster c).work = some (n, q) → (s.cluster c).request = some at_ →
      t = s.charge → us = (t.devTime - at_) / 1000 → ph = ((t.head n q).map (·.phase)).getD .none →
      us ≤ (preemptBound ph).1 → ∀ v, v = (t.countMax 1 n (160 + 5 * q + 2) us).updCluster c (fun x => { x with
        work := none
        request := none }) →
      exec (.clusterFree c) s = .next (if (v.clustersOf n q).isEmpty then
        v.updHead n q (fun y => { y with preempted := true }) else v))

/-- 09 R270 to R272, R289 to R295 and 10 R305: a SUBMIT at the head of a queue with a cluster starts, runs its items and ends with
its reply, its clusters freed; a pass that needs a page it may not have waits or flushes; a flush returns its pages; a workgroup
over its limit, or a lost cluster, ends the work it ran, and the cluster's loss is told. -/
def Obligations.SubmitEventsComplete : Prop :=
  ∀ (s : State) (n q : Nat) (x : Submit), s.head n q = some x →
    (∀ work k, s.canRun n q = true → x.abort = 0 → x.started = false →
      k = (s.charge.setPages n (s.charge.jobPages n x.owed.p)).walkBuffer n true (x.owed.p.u64 16) (x.owed.p.u32 24) → k.bad = [] →
      exec (.submitStart n q work) s = .next ((s.charge.updHead n q (fun y => { y with
        started := true
        tokens := k.tokens })).asJob n x.owed.p (fun s => (State.toItem (k.tokens.length + 1) s n q).startItem n q))) ∧
    (∀ work, s.canRun n q = true → x.abort = 0 → x.started = true → (x.phase = .immediate ∨ x.phase = .dispatch) →
      exec (.submitStart n q work) s =
        .next (s.charge.asJob n x.owed.p (fun s =>
          (State.toItem (x.tokens.length + 1) (s.endItem n q work) n q).startItem n q))) ∧
    (∀ prims t held, s.binnedPass n q = some (x, t) → x.phase = .binning → s.canRun n q = true → x.noFault = false →
      held = x.held + min (x.budget - x.held) (s.hopperFree n) →
      ∀ cause free, cause = (if x.budget ≤ held then 1 else 2) → free = s.hopperFree n - min (x.budget - x.held)
        (s.hopperFree n) → exec (.hopperFault n q prims) s = .next (((s.updHead n q (fun y => { y with
          held := held
          prims := prims
          peak := max y.peak held
          phase := if y.noFault then .flushing else .waiting })).raise n 0x34 (hInst n) (detail [(x.owed.p.seq.toNat, 32), (q, 8), (cause, 8), (x.pass, 16),
            (held, 32), (free, 32)])).freeClusters n q)) ∧
    (x.phase = .waiting → exec (.hopperGrantWaitExpiry n q) s = .next (s.updHead n q (fun y => { y with phase := .flushing }))) ∧
    (∀ t, s.binnedPass n q = some (x, t) → x.phase = .flushing → x.passFlushes ≠ 0 → x.tilesWritten = [] →
      exec (.hopperFlushed n q) s = .next ((s.raise n 0x35 (hInst n) (detail [(x.owed.p.seq.toNat, 32), (q, 8),
        (x.passFlushes + 1, 8), (x.pass, 16), (x.prims, 32), (x.tilesDone.length, 32)])).updHead n q (fun y => { y with
          phase := .binning
          flushes := y.flushes + 1
          passFlushes := y.passFlushes + 1
          held := y.minPages + y.granted
          granted := 0
          tilesDone := []
          tilesWritten := [] }))) ∧
    (∀ t tile touched data, s.binnedPass n q = some (x, t) → x.phase = .rendering → x.tilesDone.contains tile = false →
      tile < t.binTiles → x.tilesDone.length + 1 ≠ t.binTiles → s.canRun n q = true →
      exec (.binTileDone n q tile touched data) s = .next ((s.charge.updHead n q (fun y => { y with
        phase := .rendering })).asJob n x.owed.p (fun s => s.processBin n q x t tile touched data))) ∧
    (∀ c off, s.present (hCluster c) = true → x.phase = .dispatch → (s.cluster c).work = some (n, q) →
      off = ((x.tokens[x.pos]?).map (·.offset)).getD 0xFFFFFFFF →
      exec (.workgroupTimeLimit n q c) s = .next ((((s.gpuFault n q 2 c 0).raiseErr 0x3001 2 (hCluster c) n
        x.owed.p.seq.toNat 0).count 1 n (160 + 5 * q + 3)).abortHead n q 2 off)) ∧
    (∀ work t u, x.started = true → x.phase = .none → x.abort ≠ 0 → t = s.charge → t.head n q = some x → x.spad = false →
      x.tagged = false → u = (t.dropHead n q).finish x.owed .timeout (x.result (t.dropHead n q).devTime) →
      exec (.submitComplete n q work) s = .next (State.admitWaiting ((u.queue n q).waiting.length + 1) u n q)) ∧
    (∀ work t u v y z, x.started = true → (x.phase = .immediate ∨ x.phase = .dispatch) → x.abort = 0 → s.canRun n q = true →
      t = s.charge.asJob n x.owed.p (fun s => s.endItem n q work) → t.head n q = some y → y.atEnd = true → y.abort = 0 →
      v = t.asJob n y.owed.p (fun s => State.toItem (y.tokens.length + 1) s n q) → v.head n q = some z → z.spad = false →
      z.tagged = false → z.abort = 0 → u = (v.dropHead n q).finish z.owed .ok (z.result (v.dropHead n q).devTime) →
      exec (.submitComplete n q work) s = .next (State.admitWaiting ((u.queue n q).waiting.length + 1) u n q)) ∧
    (∀ c token t, s.present (hCluster c) = true → (s.cluster c).offline = false → t = s.charge → (t.cluster c).work = none →
      exec (.clusterOffline c token) s = .next ((((t.updCluster c (fun x => { x with
        offline := true
        work := none
        request := none })).setFact (hCluster c) (Config.factCode 0x09)).raiseErr 0x3002 3 (hCluster c) 0xFF 0
        0).moveReservation c))

/-- 11 R320 to R330, R344, R361, R362: LAYER_SET and LAYER_RELEASE change the staged state alone; COMMIT, when its checks pass, makes
the staged states intended, in parts that wait for their pipes' latch lines, and is refused whole with the first check that fails;
hints, coefficient banks and the z-floor wait for a latch line too. -/
def Obligations.LayerPacketsComplete : Prop :=
  ∀ (p : Packet) (s u : State) (i n : Nat), u = s.markApplied p → i = p.target % 256 → n = p.inst →
    (∀ l, s.takes opLayerSet (s.holdsSlot p) p = true → l = layerOf p → s.present (hPipe l.pipe) = true → s.layerOk p l = true →
      exec (.layerSet p) s = .next ((u.updSlot i (fun t => { t with staged := l })).answer 0x4001 p .ok [])) ∧
    (s.takes opLayerRelease (s.holdsSlot p) p = true → p.length = 4 → p.fld 16 1 31 = 0 →
      exec (.layerRelease p) s = .next ((u.updSlot i (fun t => { t with
        staged := if p.flag 16 0 then { t.intended with
          enable := false
          surface := 0 } else t.intended })).answer 0x4002 p .ok [])) ∧
    (s.takes opCommit (ownHandle p) p = true → ∀ is id at_ v w, is = commitSlots p → is ≠ [] → id = s.blend.nextCommit →
      u.commitFails p = none → v = is.foldl (fun t i => t.replaceWaiting i) u →
      w = is.foldl (fun (t : State) i => (t.updSlot i (fun x => { x with
        intended := x.staged
        pending := true
        waiting := false
        commit := id })).intend (hSlot i) true n) v → at_ = (fun j => (w.slot j).partPipe) →
      exec (.commit p) s = .next ((w.setBlend { w.blend with
        parts := w.blend.parts ++ ((is.map at_).dedup).map (fun q => Machine.Part.mk id n q (p.flag 16 6) (p.flag 16 5)
          (is.filter (fun j => decide (at_ j = q))) false 0)
        nextCommit := if id + 1 < 2 ^ 32 then id + 1 else 1 }).answer 0x4003 p .ok (u.commitResult p id 0xFF))) ∧
    (s.takes opCommit (ownHandle p) p = true → ∀ st k, u.commitFails p = some (st, k) →
      exec (.commit p) s = .next (u.answer 0x4003 p st (u.commitResult p 0 k))) ∧
    (∀ h t, s.takes opMotionHint (s.holdsSlot p) p = true → p.length = 12 → p.fld 24 4 28 = 0 →
      h = Hint.mk (p.i16 16) (p.i16 18) (p.i16 20) (p.i16 22) (if p.fld 24 0 4 = 0 then 4 else p.fld 24 0 4) →
      (s.isVideo i = true ∨ (h.scale = 0 ∧ h.angle = 0)) → t = u.updSlot i (fun t => { t with hintNext := some h }) →
      t.budgetOk = true → exec (.motionHint p) s = .next (t.answer 0x4004 p .ok [])) ∧
    (∀ bank cs, s.takes opCoefLoad (s.holdsSlot p) p = true → p.length = 1796 → s.isVideo i = true → p.fld 16 2 30 = 0 →
      bank = p.fld 16 0 2 → bank ≠ 0 → cs = (coefWords p).map (signed 16) → (coefWords p).all coefOk = true →
      phasesOk 8 64 (cs.take 512) = true → phasesOk 6 64 (cs.drop 512) = true →
      exec (.coefLoad p) s = .next (((u.updSlot i (fun t =>
        if t.current.enable then { t with banksNext := t.banksNext.set bank cs }
        else { t with
          banks := t.banks.set bank cs
          banksNext := t.banksNext.set bank [] })).intend (hSlot i) (s.slot i).pending n).answer 0x4005 p .ok [])) ∧
    (s.takes opZfloorSet true p = true → p.target / 256 = 0x0F → p.length = 4 → p.fld 16 8 24 = 0 → 1 ≤ p.u8 16 →
      (∀ j < s.board.member.slots, (s.slot j).holder = none) →
      exec (.zfloorSet p) s = .next (((u.updPipe i (fun x => { x with zfloorNext := some (p.u8 16) })).intend (hPipe i) true
        n).answer 0x4010 p .ok []))

/-- 12 R363, R367, R369 to R372: tone settings and the panel LUT wait for the pipe's latch line; the sun loop moves by at most RATE
toward what the median reading asks for, and holds after three failed reads; the colour guard heads for 8,192. -/
def Obligations.ColourCommandsComplete : Prop :=
  ∀ (s : State) (k : Nat),
    (∀ (p : Packet) (u : State) (t : Tone), u = s.markApplied p → k = p.target % 256 → p.target / 256 = 0x0E → t = toneOf p →
      s.takes opToneSet true p = true → p.length = (if p.flag 16 6 then 2068 else 20) → p.fld 16 7 25 = 0 → p.fld 28 3 1 = 0 →
      p.fld 28 11 5 = 0 → p.fld 28 24 8 = 0 → p.u16 34 = 0 → t.outEotf ≤ 3 → t.primaries ≤ 1 → 80 ≤ t.sdrWhite →
      t.sdrWhite ≤ 1000 → 80 ≤ t.blendPeak → t.blendPeak ≤ 10000 → 80 ≤ t.panelPeak → t.panelPeak ≤ 10000 → 1 ≤ t.luxScale →
      exec (.toneSet p) s = .next (((u.updStage k (fun c => { c with toneNext := some t })).intend p.target true p.inst).answer
        0x4011 p .ok [])) ∧
    (∀ (p : Packet) (u : State) (words : List Nat), u = s.markApplied p → k = p.target % 256 → p.target / 256 = 0x0E →
      s.takes opPanelLutSet true p = true → p.length = 12 → p.fld 24 1 31 = 0 →
      (p.flag 24 0 = true → words = []) → (p.flag 24 0 = false → p.u64 16 % 64 = 0 ∧ s.busMaster 0 = true ∧
        words = (bytesWords (s.hostBytes s.board.mgrPortInForce (p.u64 16) 19652)).map BitVec.toNat) →
      (∀ w ∈ words, w < 2 ^ 30) →
      exec (.panelLutSet p) s = .next ((((u.updStage k (fun c => { c with
        lutNext := some words
        lutWaiting := c.lutWaiting ++ [{ opcode := 0x4012, p := p }] })).intend p.target true p.inst).tickFree).interim
        0x4012 p)) ∧
    (∀ r l rs t out, s.present (hColour k) = true → (s.stage k).tone.alsEn = true →
      rs = ((s.stage k).readings ++ [r % 65536]).drop ((s.stage k).readings.length + 1 - 5) → rs ≠ [] →
      (s.entry (hColour k)).agree ≠ .contradicted → t = s.updStage k (fun c => { c with
        readings := rs
        failedReads := 0 }) → t.loop (hColour k) 0 = some l →
      out = l.wanted (moveBy l.out (sunTarget (s.stage k).tone.luxScale (median rs)) (s.stage k).tone.rate) →
      exec (.sunLoopStep k (some r)) s = .next (t.putLoop (hColour k) 0 { l with
        out := out
        target := sunTarget (s.stage k).tone.luxScale (median rs) })) ∧
    (∀ l t, s.present (hColour k) = true → (s.stage k).tone.alsEn = true → (s.stage k).failedReads = 2 →
      t = (s.updStage k (fun c => { c with
        readings := (s.stage k).readings
        failedReads := 3 })).setFact (hColour k) 1 → t.loop (hColour k) 0 = some l →
      exec (.sunLoopStep k none) s = .next (t.putLoop (hColour k) 0 { l with
        out := l.wanted (moveBy l.out l.out (s.stage k).tone.rate)
        target := l.out })) ∧
    (∀ l, s.present (hColour k) = true → s.loop (hColour k) 1 = some l → exec (.colourGuardStep k) s =
      .next (s.stepLoop (hColour k) 1 8192 (if l.wanted 8192 < 8192 then some 8192 else none)))

/-- 13 R374 to R380, R388, R392, R336, R342: an OFF pipe takes a timing at once and a running one waits with its reply; PIPE_ENABLE starts an
OFF pipe, and its reply waits until the pipe is there; subscriptions and region monitors are set as the payload gives them. -/
def Obligations.PipePacketsComplete : Prop :=
  ∀ (p : Packet) (s u : State) (k : Nat) (q : Pipe), u = s.markApplied p → k = p.target % 256 → q = s.pipe k →
    (∀ t v, s.takes opPipeTiming true p = true → leadFieldsOk p = true → t = timingOf p → t.ok = true →
      v = u.updPipe k (fun q => { q with
        timingNext := some t
        leadOnly := false }) → p.flag 36 7 = false →
      (q.enabled = true → v.bandPoolOk = true ∧ v.budgetOk = true) →
      (q.state = .off → exec (.pipeTiming p) s = .next (((u.timingForce k t).intend p.target false p.inst).answer 0x5001 p .ok [])) ∧
      ((q.state = .run ∨ q.state = .blank) → exec (.pipeTiming p) s = .next (((v.updPipe k (fun q => { q with
        timingWaiting := q.timingWaiting ++ [{ opcode := 0x5001, p := p }] })).intend p.target true p.inst).interim 0x5001 p))) ∧
    (∀ t, s.takes opPipeTiming true p = true → leadFieldsOk p = true → p.flag 36 7 = true → q.timed = true →
      t = { q.want with
        lead := (timingOf p).lead
        qwMode := (timingOf p).qwMode
        qwGuard := (timingOf p).qwGuard } → t.latchOk = true →
      (q.state = .off → exec (.pipeTimingLeadOnly p) s = .next (((u.timingForce k t).intend p.target false p.inst).answer 0x5001
        p .ok [])) ∧
      ((q.state = .run ∨ q.state = .blank) → exec (.pipeTimingLeadOnly p) s = .next (((u.updPipe k (fun q => { q with
        timingNext := some t
        leadOnly := q.leadOnly || q.timingNext.isNone
        timingWaiting := q.timingWaiting ++ [{ opcode := 0x5001, p := p }] })).intend p.target true p.inst).interim 0x5001 p))) ∧
    (∀ st v, s.takes opPipeEnable true p = true → isPipe p = true → p.length = 4 → p.fld 16 2 30 = 0 → st = p.fld 16 0 2 →
      v = u.updPipe k (fun q => { q with intent := st }) →
      (st = q.intent → st ≠ 3 → (st = 0 ∨ q.timed = true) → exec (.pipeEnable p) s = .next (u.answer 0x5002 p .ok [])) ∧
      (st ≠ q.intent → (st = 1 ∨ st = 2) → q.timed = true → q.state = .off → q.enableWaiting = none → v.bandPoolOk = true →
        v.budgetOk = true → (st = 1 → u.pipeMonitored k = false) →
        exec (.pipeEnable p) s = .next (((((v.updPipe k (fun q => { q with enableWaiting := none })).updPipe k (fun q => { q with
          state := .starting
          leadIn := false
          bandSlots := true
          restartZero := true
          attempts := 0 })).updPipe k (fun q => { q with enableWaiting := some { opcode := 0x5002, p := p } })).intend p.target
            true p.inst).interim 0x5002 p)) ∧
      (st ≠ q.intent → st = 0 → q.state = .run → q.enableWaiting = none → u.pipeMonitored k = false →
        exec (.pipeEnable p) s = .next ((((v.updPipe k (fun q => { q with enableWaiting := none })).updPipe k (fun q => { q with
          enableWaiting := some { opcode := 0x5002, p := p } })).intend p.target true p.inst).interim 0x5002 p))) ∧
    (s.takes opLineMatchSet (decide (p.inst = 0) || s.hasRegion p.inst k) p = true → isPipe p = true → p.length = 4 →
      p.fld 18 4 12 = 0 → (q.timed = true → p.u16 16 < q.want.vtotal) →
      exec (.lineMatchSet p) s = .next ((u.setPipes { s.pipes with
          subs := s.pipes.subs.set (p.inst * 8 + k)
            (some (Subscription.mk (p.u16 16) (p.flag 18 0) (p.flag 18 1) (p.flag 18 2) (p.flag 18 3))) }).answer 0x5003 p .ok [])) ∧
    (s.takes opRegionMonSet true p = true → p.target / 256 = 0x13 → p.length = 28 → p.fld 16 6 2 = 0 → p.u16 18 = 0 →
      ((monOf p).enable = true → (monOf p).fits (s.pipe (k / 16)).want = true) →
      ((s.mon k).want.enable = true → (s.mon k).owner = p.inst) →
      exec (.regionMonSet p) s = .next (((u.updMon k (fun m => { m with
        next := some (monOf p)
        owner := p.inst })).intend p.target true p.inst).answer 0x5004 p .ok []))

/-- 13 R377 to R386, R389 to R391, 11 R327, R382: the pixel PLL's lock begins a lead-in frame; the latch line takes all that waits for
it, together; a frame start scans the new frame, or stops a pipe that is to be OFF; events go to their subscribers. -/
def Obligations.PipeFrameEventsComplete : Prop :=
  ∀ (s : State) (k : Nat) (q : Pipe), s.present (hPipe k) = true → q = s.pipe k →
    (q.state = .starting → q.leadIn = false → q.timing.pclk ≠ 0 → exec (.pixelPllLocked k) s =
      .next (((s.updPipe k (fun q => { q.freshFrame with
        leadIn := true
        latched := false
        composeNext := false
        lastFrameStart := s.devTime
        lastPixel := 0
        bands := []
        nextBand := 0
        openNext := false })).count 2 k 1).retimeDeadlines k)) ∧
    (q.generating = true → q.latched = false → ∀ a b c d e : State,
      a = (if q.leadIn then s else s.edge (200 + 8 * k + 4)).updPipe k (fun q => { q with
        zfloor := q.floor
        zfloorNext := none }) →
      b = a.latchLayers k → c = (if (b.pipe k).commitsTaken = 0 then b else b.edge (200 + 8 * k + 5)) →
      d = (((c.slotList.foldl (fun t i => if (t.slot i).current.pipe = k then t.latchFallback i else t) c).latchColour
        k).linksLatch k) →
      e = d.updPipe k (fun q => { q with
        latched := true
        nextSet := FrameSet.mk (d.frameLayers k) (some (d.stage k).tone) (d.stage k).lut (d.stage k).sInForce (d.stage k).gInForce
        composeNext := decide ((d.pipe k).effective = 2) && ((d.pipe k).timingNext.isNone || (d.pipe k).leadOnly) }) →
      exec (.latchLine k) s = .next (((((if q.zfloorNext.isSome ∧ q.timingNext.isNone = true ∧ q.enableWaiting.isNone = true then
        e.settle (hPipe k) else e).missDeadlines k).armEdge)).flushFences)) ∧
    (q.generating = true → q.latched = true → q.intent = 0 →
      exec (.frameStart k) s = .next (((s.linksFrameDone k).steepReply k q.state).stopPipe k)) ∧
    (q.generating = true → q.latched = true → q.intent = 2 → q.steeped = false → q.timingNext = none → q.state = .run →
      exec (.frameStart k) s = .next ((((s.linksFrameDone k).steepReply k .run).beginFrame k .run).flushFences)) ∧
    (q.generating = true → q.latched = true → q.intent ≠ 0 → ∀ t, q.timingNext = some t → q.leadOnly = false →
      exec (.frameStart k) s = .next ((((((s.linksFrameDone k).steepReply k q.state).updPipe k (fun q => { q.freshFrame with
        state := .starting
        leadIn := false
        latched := false
        composeNext := false
        bands := []
        nextBand := 0
        openNext := false })).timingForce k t)).flushFences)) ∧
    (∀ line tos, (q.state = .run ∨ q.state = .blank) → line < q.timing.vtotal →
      tos = s.subscribers k (fun x => x.lineEn && decide (x.line = line)) → tos ≠ [] →
      exec (.lineMatch k line) s = .next ((s.edge (200 + 8 * k + 1)).raiseAll tos 0x51 (hPipe k)
        (detail [(q.frame, 32), (k, 16), (line, 16)]))) ∧
    (∀ period, (q.state = .run ∨ q.state = .blank) → exec (.vblankStart k period) s =
      .next ((s.edge (200 + 8 * k)).raiseAll (s.subscribers k (·.vblankEn)) 0x50 (hPipe k)
        (detail [(q.frame, 32), (k, 16), (q.timing.vact, 16), (period, 32)]))) ∧
    (q.state = .run → q.frameDone = false → q.ulines = 0 → exec (.frameDone k) s =
      .next ((((s.edge (200 + 8 * k + 2)).raiseAll (s.subscribers k (·.doneEn)) 0x52 (hPipe k) (detail [(q.frame, 32), (k, 8),
        (q.commitsTaken, 8), (0, 16), (q.bandLate, 16)])).safetyFrameDone k).updPipe k (fun q => { q with frameDone := true }))) ∧
    (exec (.quietWindow k false) s = .next (s.setTouch { s.touch with window := s.touch.window.set k false })) ∧
    ((q.state = .run ∨ q.state = .blank) → (q.timing.qwMode = 1 ∨ q.timing.qwMode = 2) →
      2 * q.timing.qwGuard < (q.timing.vtotal - q.timing.vact) * q.timing.htotal → s.touch.d2dUp = true →
      s.board.member.sense = true →
      exec (.quietWindow k true) s = .next (s.setTouch { s.touch with window := s.touch.window.set k true }))

/-- 13 R397, R398, R665 and R392 to R395: a pixel clock lost in RUN or BLANK holds the pipe, with its fact and PIPE_CLOCK; after
three failed attempts the pipe is OFFLINE; a lock restarts it; lost while it stops, it is OFF. A monitor's completed rectangle is
compared, learnt or counted. -/
def Obligations.ClockLossAndMonitorsComplete : Prop :=
  ∀ (s : State) (k : Nat) (q : Pipe), s.present (hPipe k) = true → q = s.pipe k →
    ((q.state = .run ∨ q.state = .blank) → q.intent ≠ 0 → ∀ a b : State, a = s.updPipe k (fun q => { q with
        state := .held
        attempts := 0
        heldSince := s.devTime
        leadIn := false
        latched := false
        composeNext := false
        bands := []
        nextBand := 0
        openNext := false }) → b = a.setTouch { a.touch with window := a.touch.window.set k false } →
      exec (.pixHeld k) s = .next ((((((((b.domLost (b.pixDom k)).edge (200 + 8 * k + 6)).setFact (hPipe k) 1).count 2 k
        5).pipeClock k 1).retimeDeadlines k)).flushFences)) ∧
    (q.state = .held → ∀ t, t = (s.updPipe k (fun q => { q with attempts := satInc 8 q.attempts })).domAttempt (s.pixDom k) →
      exec (.pixRelockAttempt k true) s = .next (t.pixRestart k 2 false) ∧
      (q.attempts < 2 → exec (.pixRelockAttempt k false) s = .next t) ∧
      (2 ≤ q.attempts → ∀ x, x = (t.countHeld k).updPipe k (fun q => { q with
        state := .offline
        heldSince := t.devTime }) → exec (.pixRelockAttempt k false) s = .next ((((((x.domOffline (x.pixDom k)).setFact (hPipe k)
          2).edge (200 + 8 * k + 7))).pipeClock k 3).retimeDeadlines k))) ∧
    (q.state = .offline → ∀ t, t = (s.updPipe k (fun q => { q with attempts := satInc 8 q.attempts })).domAttempt (s.pixDom k) →
      exec (.pixOfflineRetry k true) s = .next (t.pixRestart k 4 true) ∧ exec (.pixOfflineRetry k false) s = .next t) ∧
    ((q.state = .run ∨ q.state = .blank) → q.intent = 0 →
      exec (.pixUnlockAtStop k) s = .next (((s.edge (200 + 8 * k + 6)).count 2 k 5).stopPipe k)) ∧
    (∀ i m crc t, s.present (hMon i) = true → m = s.mon i → m.cfg.enable = true → m.cfg.w * m.cfg.h ≤ m.fed →
      crc = (m.crc ^^^ 0xFFFFFFFF#32).toNat → t = (s.edge (264 + i)).updMon i (fun m => { m with
        crc := 0xFFFFFFFF
        fed := 0 }) →
      (t.monitoring = false → exec (.regionMonFrame i) s = .next (t.count 3 i 2)) ∧
      (t.monitoring = true → m.cfg.learn = true → exec (.regionMonFrame i) s = .next (((t.monFirst i).updMon i (fun y => { y with
        cfg := { y.cfg with
          learn := false
          nexp := 0
          exp := y.cfg.exp.set 0 crc } })).monEvent i 3 0 crc)) ∧
      (t.monitoring = true → m.cfg.learn = false → (m.cfg.exp.take (m.cfg.nexp + 1)).contains crc = true →
        exec (.regionMonFrame i) s = .next ((t.monFirst i).monMatch i crc)) ∧
      (t.monitoring = true → m.cfg.learn = false → (m.cfg.exp.take (m.cfg.nexp + 1)).contains crc = false →
        exec (.regionMonFrame i) s = .next ((t.monFirst i).monMismatch i crc))) ∧
    (∀ i, s.present (hMon i) = true → (s.mon i).cfg.enable = true → (s.pipe (i / 16)).intent = 2 → s.monitoring = true →
      exec (.regionMonMissing i) s = .next ((s.monMismatch i (Config.missing s.freeCtr i)).tickFree))

/-- 11 R337, R338 and 13 R384, R385: a band window opens in order, at most two at a time, while the pipe runs; the engine composes
one strip of the open band whose window closes first; an underrun is noted once a line; a band's end sends its lines. -/
def Obligations.BandCommandsComplete : Prop :=
  ∀ (s : State) (k : Nat) (q : Pipe), s.present (hPipe k) = true → q = s.pipe k →
    (∀ band, q.state = .run → q.openNext = false → q.latched = false → band = q.nextBand → band < q.bandCount → q.bands.length < 2 →
      exec (.bandWindowOpen k band) s = .next (s.updPipe k (fun q => { q with
        bands := q.bands ++ [Band.mk band false 0 Tab.empty Tab.empty [] Tab.empty]
        nextBand := band + 1
        openNext := false }))) ∧
    (∀ faults pipe j b t c, s.nextStrip = some (pipe, j) → (s.pipe pipe).bands[j]? = some b →
      (t, c) = s.composeStrip pipe b faults → c.strips ≠ (t.pipe pipe).stripCount →
      exec (.bandCompose faults) s = .next (t.updPipe pipe (fun q => { q with bands := q.bands.set j c }))) ∧
    (∀ line column hit, q.state = .run → line < q.timing.vact → column < q.timing.hact → hit = (fun b : Band => !b.next &&
        decide (b.k = line / 64) && decide (b.strips ≤ column / 64) && decide (b.underruns.get line = none)) →
      q.bands.any hit = true →
      exec (.scanoutUnderrun k line column) s = .next ((s.edge (200 + 8 * k + 3)).updPipe k (fun q => { q with
        bands := q.bands.map (fun b => if hit b then { b with underruns := b.underruns.set line (some column) } else b) }))) ∧
    (∀ b t, q.bands.find? (fun b => !b.next) = some b → q.state = .run → b.strips = q.stripCount →
      t = (((List.range 64).map (· + 64 * b.k)).filter (· < q.timing.vact)).foldl (fun t y => t.sendLine k b y) s →
      exec (.bandScanoutEnd k) s = .next ((t.updPipe k (fun q => { q with
        bands := q.bands.erase b })).flushFences))

/-- 14 R404 to R410, R413 to R415: LINK_CONFIG stores the settings, and trains a transmitter whose HPD is high; ROUTE_SET and DSC_ASSIGN
wait for the pipe instants they need; stream attributes wait for a latch line; the panel packets start their sequence, store the
configuration or set the backlight's ramp. -/
def Obligations.LinkPacketsComplete : Prop :=
  ∀ (p : Packet) (s u : State) (h : Nat), u = s.markApplied p → h = p.target →
    (s.takes opLinkConfig true p = true → linkCfgOk p = true → isTx h = true →
      ∀ train v, train = ((linkCfg p []).enable && (s.link h).hpd) → v = (u.updLink h (fun l => { l with
        cfg := linkCfg p []
        training := train
        fails := 0
        up := l.up && (linkCfg p []).enable })).intend h train 0 →
      exec (.linkConfig p) s = .next ((if (s.link h).up && !(linkCfg p []).enable then v.linkState h 2 else v).answer 0x5010 p
        .ok [])) ∧
    (s.takes opLinkConfig true p = true → linkCfgOk p = true → isDsi h = true → isTx h = false → ∀ init : List Byte,
      p.u64 20 ≠ 0 → s.busMaster 0 = true → init = s.hostBytes s.board.mgrPortInForce (p.u64 20) (p.u16 28) →
      initListOk 257 init = true → (linkCfg p init).enable = true →
      exec (.linkConfig p) s = .next (((u.tickFree.updLink h (fun l => { l with
        cfg := linkCfg p init
        training := false
        fails := 0
        up := true })).intend h false 0).answer 0x5010 p .ok [])) ∧
    (s.takes opRouteSet true p = true → ∀ r0 r1 v, r0 = (if p.flag 16 4 then some (p.fld 16 0 4) else none) →
      r1 = (if p.flag 16 12 then some (p.fld 16 8 4) else none) → isLink h = true → p.length = 4 → p.fld 16 5 3 = 0 →
      p.fld 16 13 19 = 0 → (∀ q, r0 = some q ∨ r1 = some q → s.present (hPipe q) = true ∧ s.feeds h r0 r1 q ≤ 2) →
      (r1 ≠ none → isTx h = true ∧ (s.link h).cfg.mst = true) → (r0 = none ∨ r0 ≠ r1) →
      v = u.updLink h (fun l => (l.updStream 0 (fun t => { t with route := r0 })).updStream 1 (fun t => { t with route := r1 })) →
      v.linkFitsAll h = true → (s.link h).routeWaiting = none →
      exec (.routeSet p) s = .next ((((((v.updLink h (fun l => { l with
        routeWaiting := some { opcode := 0x5011, p := p } })).intend h true 0).setDropped h 0 false).setDropped h 1
          false).settleRoutes h).interim 0x5011 p)) ∧
    (s.takes opDscAssign true p = true → p.target / 256 = 0x12 → p.length = 4 → p.u8 17 = 0 → p.fld 16 0 4 = 15 →
      ∀ v, v = (u.setLinks { s.links with dsc := s.links.dsc.upd (h % 256) (fun d => { d with next := some none }) }).intend h true
        0 → exec (.dscAssign p) s = .next ((if (v.dscPipe (h % 256)).isSome then v else v.applyDsc (h % 256)).answer 0x5012 p
          .ok [])) ∧
    (s.takes opStreamSet (s.maySetStream p) p = true → ∀ i a t wait v, i = p.fld 16 0 1 → t = (s.link h).stream i →
      a = Attr.mk (bpcOf (match t.attrNext with
        | some a => a.bpc
        | none => t.attr.bpc) (p.fld 16 1 3)) (p.fld 16 4 2) (p.fld 16 6 2) (p.u16 20) (p.u16 22) →
      wait = (match t.active with
        | some q => s.pipeRuns q
        | none => false) →
      v = u.updLink h (fun l => l.updStream i (fun t => if wait then { t with attrNext := some a } else { t with
        attr := a
        attrNext := none })) → isLink h = true → p.length = 8 → p.fld 16 1 3 ≤ 3 → a.colorimetry ≤ 1 → a.tf ≤ 2 →
      p.fld 16 8 24 = 0 → isTx h = true → v.linkFitsAll h = true →
      exec (.streamSet p) s = .next ((v.intend h wait p.inst).answer 0x5015 p .ok [])) ∧
    (s.takes opPanelPower true p = true → isLink h = true → (s.link h).panel.seqOp = none → p.length = 4 → p.u32 16 = 0 →
      (s.linkPipes h).any s.pipeMonitored = false →
      exec (.panelPowerOff p) s = .next (((u.updPanel h (fun d => { d with
        on := false
        seqOp := some 0
        step := 1
        blen := false
        waiting := some { opcode := 0x5013, p := p }
        start := s.devTime })).intend h true 0).interim 0x5013 p)) ∧
    (s.takes opPanelPower true p = true → isLink h = true → (s.link h).panel.seqOp = none → p.length = 4 → p.u32 16 = 1 →
      ∀ v, v = (u.updPanel h (fun d => { d with
        on := true
        seqOp := some 1
        step := 0
        waiting := some { opcode := 0x5013, p := p }
        start := s.devTime })).intend h true 0 →
      exec (.panelPowerOn p) s = .next ((if u.panelRested h then v.updPanel h Panel.stepOn else v).interim 0x5013 p)) ∧
    (s.takes opPanelPower true p = true → isLink h = true → p.length = 16 → p.u8 16 = 2 → p.fld 17 5 2 = 0 → p.fld 18 5 2 = 0 →
      p.fld 19 5 1 = 0 → p.fld 20 3 5 = 0 → p.u8 21 = 0 → p.u16 22 ≤ 2000 → p.u16 24 ≤ 2000 → p.u16 26 ≤ 2000 →
      p.u16 28 ≤ 10000 → s.panelClash h (panelCfg p) = false →
      exec (.panelPowerConfigure p) s = .next (((u.updPanel h (fun d => { d with cfg := some (panelCfg p) })).intend h false
        0).answer 0x5013 p .ok [])) ∧
    (s.takes opBacklightSet true p = true → isLink h = true → p.length = 8 → p.u16 18 ≤ 5000 →
      (p.u32 20 = 0 ∨ (100 ≤ p.u32 20 ∧ p.u32 20 ≤ 50000)) →
      exec (.backlightSet p) s = .next (((u.updPanel h (fun d => { d with
        rampFrom := d.dutyAt s.devTime
        rampStart := s.devTime
        rampMs := p.u16 18
        duty := p.u16 16
        freq := if p.u32 20 = 0 then d.freq else p.u32 20 })).intend h false 0).answer 0x5014 p .ok []))

/-- 14 R411, R412, R414, R416: HPD low takes a transmitter's link down; its rise reads the EDID, tells another panel, and trains;
training ends up, or after the third failure in the fact TRAIN_FAIL; a panel's sequence goes on step by step. -/
def Obligations.LinkEventsComplete : Prop :=
  ∀ (s : State) (h : Nat) (l : LinkUnit), s.present h = true → l = s.link h →
    (isTx h = true →
      exec (.hpdLow h) s = .next ((s.updLink h (fun l => { l with hpd := false })).linkDown h) ∧
      (l.cfg.enable = true → exec (.hpdIrq h true) s = .next (s.updLink h (fun l => { l with training := true }))) ∧
      exec (.hpdIrq h false) s = .next s ∧
      (∀ edid crc v, crc = (crc32c edid).toNat → v = s.updLink h (fun x => { x with
        hpd := true
        edidCrc := some crc
        training := x.cfg.enable
        fails := 0 }) →
        (l.goodCrc = none ∨ l.goodCrc = some crc → exec (.hpdRise h edid) s = .next v) ∧
        (∀ g, l.goodCrc = some g → g ≠ crc → exec (.hpdRise h edid) s = .next (v.raise 0 0x5A h (detail [(g, 32), (crc, 32),
          (leNat ((edid.drop 8).take 2), 16), (leNat ((edid.drop 10).take 2), 16)])))) ∧
      (l.training = true →
        (∀ lanes mbps v w, v = s.updLink h (fun x => { x with
            up := true
            training := false
            fails := 0
            lanes := min lanes x.cfg.lanes
            mbps := min mbps (rateMbps x.cfg.rate)
            goodCrc := x.edidCrc }) →
          w = (if (v.entry h).fact = 1 ∨ (v.entry h).fact = 2 then v.clearFact h else v) →
          exec (.linkTrainingDone h true lanes mbps) s = .next (((if (w.link h).routeWaiting.isNone then w.settle h else
            w).linkState h (if l.up then 3 else 1)).recheckLink h)) ∧
        (∀ lanes mbps v, v = s.updLink h (fun x => { x with
            fails := x.fails + 1
            up := false
            training := decide (x.fails + 1 < 3) }) →
          (l.fails + 1 ≠ 3 → exec (.linkTrainingDone h false lanes mbps) s = .next v) ∧
          (l.fails + 1 = 3 → exec (.linkTrainingDone h false lanes mbps) s = .next ((v.setFact h 2).linkState h 4)))) ∧
      (l.hpd = true → l.cfg.enable = true → 3 ≤ l.fails → exec (.trainRetry h) s = .next (s.updLink h (fun l => { l with
        training := true
        fails := 3 })))) ∧
    (l.panel.seqOp = some 1 → (l.panel.step = 0 → exec (.panelSequenceStep h) s = .next (s.updPanel h Panel.stepOn)) ∧
      (l.panel.step = 1 → exec (.panelSequenceStep h) s = .next (s.updPanel h (fun d => { d with
        inReset := false
        step := 2 }))) ∧
      (l.panel.step = 2 → s.carries h 0 = true → exec (.panelSequenceStep h) s = .next (s.updPanel h (fun d => { d with
        video := true
        step := 3 }))) ∧
      (l.panel.step = 3 → exec (.panelSequenceStep h) s = .next ((s.updPanel h (fun d => { d with
        blen := true
        rampFrom := 0
        rampStart := s.devTime
        step := 4 })).panelDone h 1))) ∧
    (l.panel.seqOp = some 0 → l.panel.step = 1 → exec (.panelSequenceStep h) s = .next ((s.updPanel h (fun d => { d with
      video := false
      vdd := false
      inReset := false
      offTime := some s.devTime
      step := 2 })).panelDone h 0))

/-- 01 R12 to R15: a valid frame of the die-to-die link clears the count of failing ones and a failing one adds to it; the main
die's loss of the link raises its record and puts the offline facts; the link's return loads the sense die again. -/
def Obligations.DieLinkEventsComplete : Prop :=
  ∀ (s : State), s.present hD2d = true →
    exec (.d2dFrame true true) s = .next (s.setTouch { s.touch with
      d2dBad := 0
      d2dSeen := s.devTime }) ∧
    exec (.d2dFrame true false) s = .next (s.setTouch { s.touch with d2dBad := s.touch.d2dBad + 1 }) ∧
    exec (.d2dFrame false true) s = .next (s.setTouch { s.touch with senseBad := 0 }) ∧
    exec (.d2dFrame false false) s = .next (s.setTouch { s.touch with senseBad := s.touch.senseBad + 1 }) ∧
    (s.touch.d2dUp = true → exec (.d2dLinkLost true) s = .next s.mainLost) ∧
    (s.touch.senseUp = true → exec (.d2dLinkLost false) s = .next s.senseLost) ∧
    (s.touch.d2dUp = false → exec .d2dLinkRetry s = .next (s.setTouch { s.touch with
      d2dBad := 0
      senseBad := 0 })) ∧
    (∀ i, i = b2n (bitOf s.firmware.prefB 4) → s.touch.d2dUp = false → (s.firmware.slots.get (8 + i)).good = true →
      ∀ a b c : State, a = (s.setTouch { s.touch with
        d2dUp := true
        senseUp := true
        d2dBad := 0
        senseBad := 0
        d2dSeen := s.devTime }).setFirmware { s.firmware with
          running := s.firmware.running.set 4 (s.firmware.slots.get (8 + i)).version } →
      b = (List.range a.board.member.touchPanels).foldl (fun t i => if ((t.clearFactIf (hTouch i) 0x0001).tp_ i).cfg.enable then
        (t.clearFactIf (hTouch i) 0x0001).updTp i (fun t => { t with state := .starting }) else
          (t.clearFactIf (hTouch i) 0x0001).settle (hTouch i)) a →
      c = (List.range b.board.member.haptics).foldl (fun t i => (t.clearFactIf (hHaptic i) 0x0004).settle (hHaptic i)) b →
      exec .d2dLinkUp s = .next (((c.clearFactIf hBoost 0x0002).settle hBoost).boost))

/-- 15 R419 to R421, R433, R438, R442 to R444, R448: panel settings that fit start the panel afresh; modes wait for the next frame; a
report area is set up while no buffer is held, and returned buffers let a pending report be written; a self-test answers what it
finds; wake zones are stored. -/
def Obligations.TouchPacketsComplete : Prop :=
  ∀ (p : Packet) (s u : State) (i n : Nat), u = s.markApplied p → n = p.inst →
    (∀ c v : State, ∀ f : TouchCfg, i = p.target % 256 → s.takes opTouchPanelConfig true p = true → f = touchCfg p →
      touchCfgOk p f = true → (f.mapped = true → s.present (hPipe f.pipe) = true) → s.touchAreaOk f = true →
      (∀ ch ∈ f.channels, ch < s.board.member.touchChannels) →
      (∀ j < s.board.member.touchPanels, j ≠ i → ∀ ch ∈ f.channels, ch ∉ (s.tp_ j).cfg.channels) →
      c = (if (s.tp_ i).cfg.enable then u.cancelContacts i 2 else u) → v = c.updTp i (fun t => { t with
        cfg := f
        state := if !f.enable then .off else if c.touch.d2dUp then .starting else .offline }) →
      exec (.touchPanelConfig p) s = .next (((v.guests.foldl (fun t n => t.updInst n (fun x => { x with
        tregions := x.tregions.filterMap (fun r => if r.unit = i then clipTouchRegion f.width f.height r else some r) })) v).intend
        p.target f.enable 0).answer 0x6001 p .ok [])) ∧
    (∀ m, i = p.target % 256 → s.takes opTouchMode true p = true → m = touchMode p → p.target / 256 = 0x14 → p.length = 44 →
      p.fld 16 4 4 = 0 → m.glove ≤ 2 → m.maxContacts ≤ 10 → 50 ≤ m.thr → m.thr ≤ 20000 → 10 ≤ m.hoverThr →
      m.hoverThr ≤ 5000 → 10 ≤ m.longS → p.u32 24 = 0 →
      exec (.touchMode p) s = .next (((u.updTp i (fun t => { t with modeNext := some m })).intend p.target true 0).answer 0x6002 p
        .ok [])) ∧
    (s.takes opTouchReportReturn (ownHandle p) p = true → p.length = 16 → i = p.fld 16 0 2 → s.present (hTouch i) = true →
      (p.flag 16 2 = true → p.fld 16 3 29 = 0 → p.u32 20 % 256 = 0 → (∀ a, s.area n i = some a → a.held = 0) →
        p.u32 20 + 256 * (s.inst n).reportBufs i ≤ 4096 * (s.inst n).spadBlocks.length →
        exec (.touchReportSetup p) s = .next ((u.setArea n i (some { offset := p.u32 20, held := 0, pending := none })).answer
          0x6003 p .ok [])) ∧
      (∀ a b, p.fld 16 2 30 = 0 → s.area n i = some a → (maskBits 64 (p.u64 24)).all (bitOf a.held) = true →
        b = { a with held := a.held - p.u64 24 } →
        (a.pending = none → exec (.touchReportReturn p) s = .next ((u.setArea n i (some b)).answer 0x6003 p .ok [])) ∧
        (∀ r k, a.pending = some r → s.freeBuf n i b = some k → exec (.touchReportReturn p) s =
          .next ((u.writeReport n i k { b with pending := none } r).answer 0x6003 p .ok [])))) ∧
    (i = p.target % 256 → s.takes opTouchSelftest true p = true → p.target / 256 = 0x14 → p.length = 4 → p.u32 16 = 0 →
      s.touch.d2dUp = true → ∀ k found bad bytes, k = (s.tp_ i).cfg.ntx + (s.tp_ i).cfg.nrx →
      found = (List.range k).map (fun ch => (ch, Config.measure s.freeCtr p.target ch % 4,
        Config.measure s.freeCtr p.target ch / 4 % max 1 k)) → bad = found.filter (fun f => decide (f.2.1 ≠ 0)) →
      bytes = [BitVec.ofNat 8 i, BitVec.ofNat 8 bad.length, 0, 0] ++
        found.flatMap (fun f => [BitVec.ofNat 8 f.2.1, BitVec.ofNat 8 (if f.2.1 = 2 then f.2.2 else 0)]) →
      exec (.touchSelftest p) s = .next ((((u.cancelContacts i 3).tickFree.setFaulty i bad).contactsReset i).answer 0x6004 p .ok
        (bytesWords (bytes ++ List.replicate (260 - bytes.length) 0)))) ∧
    (i = p.target % 256 → s.takes opWakeZoneSet true p = true → p.target / 256 = 0x14 → p.length = 48 →
      (∀ k < 4, p.fld (16 + 12 * k) 2 6 = 0 ∧ p.fld (17 + 12 * k) 3 5 = 0 ∧ s.zoneOk (s.tp_ i).cfg (wakeZone p k) = true) →
      exec (.wakeZoneSet p) s = .next (((u.updTp i (fun t => { t with zones := (List.range 4).map (wakeZone p) })).intend p.target
        false 0).answer 0x6005 p .ok []))

/-- 15 R424 to R426, R430 to R437, R443 to R448: a panel that may scan starts, takes its bursts in its windows, and ends a frame with
its count, its contacts' records and its baselines; contacts that last, clusters that stay, and the ends of glove and water modes
have their rules. -/
def Obligations.TouchEventsComplete : Prop :=
  ∀ (s : State) (i : Nat) (t : TPanel), s.present (hTouch i) = true → s.touch.panel.wf = true → t = s.tp_ i →
    (∀ temp raw self codes, s.canScan i = true → t.state ≠ .scanning → ∃ v : State, exec (.touchPanelStart i temp raw self codes) s =
      .next ((v.contactsReset i).settle (hTouch i)) ∧ (v.tp_ i).state = .scanning ∧ (v.tp_ i).contacts = [] ∧
      (v.tp_ i).bursts = 0 ∧ (v.tp_ i).mode = t.modeNext.getD t.mode ∧ (v.tp_ i).modeNext = none ∧
      (v.tp_ i).stored = s.storedOk i temp ∧ (v.tp_ i).uncalibrated = !s.storedOk i temp ∧ (v.tp_ i).frame = t.frame) ∧
    (t.state = .scanning → s.canScan i = true → t.bursts < t.burstsNeeded →
      exec (.touchBurst i 1) s = .next (s.count 4 i 1) ∧ exec (.touchBurst i 2) s = .next (s.count 4 i 2) ∧
      (s.usesOwnWindows i = true ∨ s.touch.window.get t.cfg.pipe = true →
        exec (.touchBurst i 0) s = .next (s.updTp i (fun t => { t with
          bursts := t.bursts + 1
          ownWindows := if t.bursts = 0 then s.usesOwnWindows i else t.ownWindows
          frameStart := if t.bursts = 0 then s.devTime else t.frameStart })))) ∧
    (∀ raw self, t.state = .scanning → s.canScan i = true → t.burstsNeeded ≤ t.bursts → ∃ v : State, exec (.touchFrame i raw self) s = .next v ∧
      (v.tp_ i).frame = (t.frame + 1) % 2 ^ 32 ∧ (v.tp_ i).bursts = 0 ∧ (v.tp_ i).mode = t.modeNext.getD t.mode ∧
      (v.tp_ i).modeNext = none ∧ (v.tp_ i).state = .scanning ∧ (v.tp_ i).cfg = t.cfg) ∧
    (∀ id c, t.contacts.find? (fun c => decide (c.last.id = id) && !c.longSent) = some c → t.mode.longS ≠ 0xFFFF →
      exec (.touchLong i id) s = .next ((s.updTp i (fun t => { t with
        contacts := t.contacts.map (fun x => if x.last.id = id then { x with
          longSent := true
          last := { x.last with long := true } } else x) })).raiseAll
          (0 :: (if c.owner = 0 then [] else [c.owner])) 0x62 (hTouch i) (detail [(i, 8), (id, 8), (0, 16),
            (c.last.x / 8, 16), (c.last.y / 8, 16), (t.mode.longS, 32)]))) ∧
    (∀ k ks, t.absorb.filter (fun k => decide (t.raw.get k + t.mode.thr ≤ t.base.get k)) = k :: ks →
      ∃ x y, exec (.touchAbsorbed i) s = .next ((s.updTp i (fun t => { t with
        absorb := []
        base := (k :: ks).foldl (fun b k => b.set k (t.raw.get k)) t.base })).raise 0 0x64 (hTouch i)
          (detail [(i, 16), (ks.length + 1, 16), (x, 16), (y, 16)]))) ∧
    (t.glove = true → t.mode.glove = 2 → (∀ c ∈ t.contacts, c.last.typ ≠ 1) →
      exec (.gloveModeExit i) s = .next (s.updTp i (fun t => { t with
        glove := false
        gloveRun := 0 }))) ∧
    exec (.wetExit i) s = .next (s.updTp i (fun t => { t with wet := false }))

/-- 16 R454, R456, R458 to R460, R465: EFFECT_LOAD stores its records whole; EFFECT_PLAY takes its tokens and plans the start 150 us and
the delay from now; EFFECT_STOP marks the running effect; arming a click region reserves the larger effect's tokens; a check
answers what it measures, and a configuration is stored before it is checked. -/
def Obligations.HapticPacketsComplete : Prop :=
  ∀ (p : Packet) (s u : State) (i n : Nat), u = s.markApplied p → i = p.target % 256 → n = p.inst →
    (s.takes opEffectLoad true p = true → p.target = hBoost → ∀ m first, m = p.u8 17 → first = p.fld 16 0 7 →
      p.length = 4 + 16 * m → 1 ≤ m → m ≤ 128 → p.fld 16 7 1 = 0 → p.u16 18 = 0 → first + m ≤ 128 →
      (∀ k < m, effectOk p k = true) →
      exec (.effectLoad p) s = .next (((u.setHaptics { s.haptics with
        library := (List.range m).foldl (fun l k => l.set (first + k) (effectRec p k)) s.haptics.library }).intend hBoost false
        0).answer 0x7001 p .ok [])) ∧
    (s.takes opEffectPlay (s.ownsChan p) p = true → p.target / 256 = 0x15 → p.length = 8 → p.u8 17 = 0 → p.u16 22 = 0 →
      ∀ e scale need, e = s.haptics.library.get (p.fld 16 0 7) → scale = (if p.u16 18 = 0 then 256 else p.u16 18) →
      scale ≤ 256 → need = tokensFor (s.chan i) e scale → s.hvHeld n + need ≤ (s.inst n).hvTokens → s.bridgedAway i = false →
      (((s.entry p.target).fact = 0 ∨ (s.entry p.target).fact = 3) → (s.entry hBoost).fact = 0 →
        exec (.effectPlay p) s = .next (((u.updChan i (fun c => { c with
          queued := c.queued ++ [Play.mk n (p.fld 16 0 7) e scale (p.flag 16 7) need (s.devTime + 150000 + 1000 * p.u16 20) 0 false
            false false 1 e.overdrive none] })).boost).answer 0x7002 p .ok [])) ∧
      ((s.entry p.target).fact = 1 ∨ (s.entry p.target).fact = 2 ∨ (s.entry hBoost).fact ≠ 0 →
        exec (.effectPlay p) s = .next (u.answer 0x7002 p .offline []))) ∧
    (s.takes opEffectStop (s.ownsChan p || decide (p.inst = 0)) p = true → p.target / 256 = 0x15 → p.length = 4 →
      p.fld 16 1 31 = 0 → s.bridgedAway i = false →
      exec (.effectStop p) s = .next ((u.updChan i (fun c => { c with
        play := c.play.map (fun y => if y.running then { y with
          braking := true
          immediate := p.flag 16 0
          outcome := 3 } else y) })).answer 0x7003 p .ok [])) ∧
    (s.takes opClickRegionSet (s.ownsChan p) p = true → p.target / 256 = 0x15 → p.length = 16 → p.fld 16 4 4 = 0 →
      p.fld 17 7 1 = 0 → p.fld 18 7 9 = 0 → (s.chan i).zoned = true → s.bridgedAway i = false → ∀ k, k = p.fld 16 0 2 →
      (p.flag 16 2 = false → s.hvHeld n ≤ (s.inst n).hvTokens →
        exec (.clickRegionSet p) s = .next ((((u.updChan i (fun c => { c with clicks := c.clicks.set k none })).intend p.target
          false n).boost).answer 0x7004 p .ok [])) ∧
      (p.flag 16 2 = true → ∀ need, need = max (tokensFor (s.chan i) (s.haptics.library.get (p.fld 17 0 7)) 256)
          (tokensFor (s.chan i) (s.haptics.library.get (p.fld 18 0 7)) 256) → (s.chan i).clicks.get k = none →
        s.hvHeld n + need ≤ (s.inst n).hvTokens → 100 ≤ p.u16 20 → p.u16 20 ≤ 20000 → p.u16 22 < p.u16 20 →
        (s.chan i).zx ≤ p.u16 24 → (s.chan i).zy ≤ p.u16 26 → p.u16 24 + p.u16 28 ≤ (s.chan i).zx + (s.chan i).zw →
        p.u16 26 + p.u16 30 ≤ (s.chan i).zy + (s.chan i).zh →
        exec (.clickRegionSet p) s = .next ((((u.updChan i (fun c => { c with
          clicks := c.clicks.set k (some (Click.mk n (p.flag 16 3) (p.fld 17 0 7) (p.fld 18 0 7) (p.u16 20) (p.u16 22) (p.u16 24)
            (p.u16 26) (p.u16 28) (p.u16 30) need false none)) })).intend p.target false n).boost).answer 0x7004 p .ok []))) ∧
    (s.takes opActuatorCheck true p = true → p.target / 256 = 0x15 → s.bridgedAway i = false → (s.chan i).driving = false →
      s.touch.d2dUp = true → (s.entry hBoost).fact ≠ 1 →
      (p.length = 4 → p.u32 16 = 0 →
        exec (.actuatorCheck p) s = .next ((u.runCheck i false).answer 0x7005 p .ok (s.checkResult i false))) ∧
      (p.length = 4 → p.u32 16 = 1 →
        exec (.actuatorCharacterise p) s = .next ((u.runCheck i true).answer 0x7005 p .ok (s.checkResult i true))) ∧
      (p.length = 12 → p.fld 16 0 2 = 2 → p.fld 16 3 5 = 0 → p.fld 17 3 5 = 0 → 100 ≤ p.u16 18 → p.u16 18 ≤ 1200 →
        p.flag 16 2 = false → s.present (hTouch (p.fld 17 0 2)) = true →
        exec (.actuatorConfigure p) s = .next ((((u.updChan i (fun c => { c with
          bridge := false
          panel := p.fld 17 0 2
          zoned := p.flag 17 2
          vmax := p.u16 18
          zx := p.u16 20
          zy := p.u16 22
          zw := p.u16 24
          zh := p.u16 26 })).intend p.target false 0).runCheck i true).answer 0x7005 p .ok (s.checkResult i true))))

/-- 16 R452, R457 to R463, R468, R469: the boost is ready, goes off when nothing needs it, faults and retries; the next planned
effect starts, and a bad first cycle ends it; an effect that has ended gives its tokens back; an idle channel senses force. -/
def Obligations.HapticEventsComplete : Prop :=
  ∀ (s : State),
    (s.present hBoost = true →
      (s.haptics.boostOn = true → exec .boostReady s = .next (s.setHaptics { s.haptics with boostReady := true })) ∧
      (s.drives = [] → exec .boostOff s = .next (s.setHaptics { s.haptics with
        boostOn := false
        boostReady := false
        vset := 0 })) ∧
      (∀ cause vhv cur, exec (.hvFault cause vhv cur) s = .next ((((s.dropAllDrives 4).setFact hBoost 1).raise 0 0x73 hBoost
        (detail [(cause, 16), (vhv, 16), (cur, 32)])).raiseErr 0x7001 3 hBoost 0xFF 0 0)) ∧
      (∀ vhv cur, (s.entry hBoost).fact = 1 → exec (.hvRetry true vhv cur) s = .next ((((s.clearFact hBoost).settle hBoost).raise 0
        0x73 hBoost (detail [(3, 16), (vhv, 16), (cur, 32)])).boost) ∧ exec (.hvRetry false vhv cur) s = .next s)) ∧
    (∀ i c, s.present (hHaptic i) = true → c = s.chan i →
      (∀ y r limit cap motion t, firstDue c.queued = some y → s.haptics.boostReady = true → s.touch.d2dUp = true →
        y.planned ≤ s.devTime → c.driving = false → y.click = none →
        t = (s.updChan i (fun x => { x with
          queued := x.queued.erase y
          play := some { y with
            running := true
            started := s.devTime
            gain64 := y.rec_.overdrive } })).count 13 i 0 →
        (actuatorVerdict c limit cap motion = 0 → exec (.effectStart i r limit cap motion) s =
          .next (t.actuatorFact i 0 false (c.freq y.rec_) cap motion)) ∧
        (∀ v, v = actuatorVerdict c limit cap motion → v ≠ 0 → exec (.effectStart i r limit cap motion) s =
          .next (((t.actuatorFact i v false (c.freq y.rec_) cap motion).endPlay i 4 0).count 13 i 2))) ∧
      (∀ y, c.play = some y → exec (.effectDone i) s =
        .next (((s.updChan i (fun c => { c with
          play := none
          devTokens := 0 })).effectDone i y y.outcome 0).boost)) ∧
      (∀ counts z f, c.driving = false → s.touch.d2dUp = true →
        z = (if c.contactTime + 50000000 ≤ s.devTime then counts else c.forceZero) →
        f = (clampI 0 20000 (Config.forceMn (Config.factory 3 i 1) (s.gainDelta i) ((counts : Int) - z))).toNat →
        ∃ t, exec (.forceSample i counts) s = .next ([0, 1, 2, 3].foldl (fun u k => u.stepClick i k) t) ∧
          t = s.updChan i (fun c => { c with
            forceZero := z
            force := f
            forceTime := s.devTime }) ∧ f ≤ 20000))

/-- 17 R475, R476, R478, R482 to R486, R489, R492, R494, R471, R480: the audio packets that pass their checks open, fill and close a
stream, set gains by a ramp or at a zero crossing, route inputs and destinations, configure ports, mixer and microphones, mark
alarm sources, set low-latency paths, and start and stop voices. -/
def Obligations.AudioPacketsComplete : Prop :=
  ∀ (p : Packet) (s u : State) (k n : Nat), u = s.markApplied p → n = p.inst →
    (p.target = hAudio → k = p.fld 16 0 5 →
      (s.takes opStreamOpen true p = true → p.length = 8 → 1 ≤ p.fld 17 0 4 → p.fld 17 0 4 ≤ 8 → p.fld 17 4 4 = 0 →
        p.u16 18 = 0 → (rateDomain (p.u32 20)).isSome = true → s.streamHolder k = n → (s.astream k).isOpen = false →
        (s.astream k).closing = false →
        exec (.streamOpen p) s = .next ((u.updStream k (fun _ => { AStream.reset with
          isOpen := true
          capture := p.flag 16 5
          format := p.fld 16 6 2
          channels := p.fld 17 0 4
          rate := p.u32 20 })).answer 0x8001 p .ok [w32 ((rateDomain (p.u32 20)).getD 0),
            w32 (Config.latencyUs (p.u32 20) s.audio.mixDomain s.audio.mixRate)])) ∧
      (s.takes opStreamBuffers true p = true → ∀ m es, m = p.u8 17 → es = (List.range m).map (bufEntry p) →
        p.length = 12 + 16 * m → 1 ≤ m → m ≤ 32 → p.fld 16 5 3 = 0 → p.fld 18 1 15 = 0 →
        (∀ e ∈ es, e.addr % 4 = 0 ∧ e.bytes ≠ 0 ∧ e.bytes % (s.astream k).frameBytes = 0) →
        (∀ j < m, p.u32 (40 + 16 * j) = 0) → s.busMaster n = true → s.streamHolder k = n → (s.astream k).isOpen = true →
        s.tokensHeld n + m ≤ (s.inst n).tokens → (s.astream k).bufs.length + m ≤ 64 →
        (p.flag 18 0 = false → exec (.streamBuffers p) s = .next ((u.updStream k (fun t => { t with
          bufs := t.bufs ++ es
          started := t.started || (t.bufs.isEmpty && !t.started) })).answer 0x8002 p .ok [])) ∧
        (p.flag 18 0 = true → s.devTime < p.u64 20 → exec (.streamBuffers p) s = .next ((u.updStream k (fun t => { t with
          bufs := t.bufs ++ es
          startAt := if t.bufs.isEmpty && !t.started then some (p.u64 20) else t.startAt })).answer 0x8002 p .ok []))) ∧
      (s.takes opStreamClose true p = true → p.length = 4 → p.fld 16 5 27 = 0 → s.streamHolder k = n → (s.astream k).isOpen = true →
        exec (.streamClose p) s = .next ((u.closeStream k true).answer 0x8003 p .ok []))) ∧
    (p.target = hAudio → s.takes opGainSet true p = true → p.length = 8 → p.fld 16 3 5 = 0 → p.u8 19 = 0 → p.fld 16 0 2 = 2 →
      p.u8 17 < 48 → p.u8 18 < 24 → (p.i16 20 = muted ∨ (-9600 ≤ p.i16 20 ∧ p.i16 20 ≤ 2400)) → n = 0 →
      (p.flag 16 2 = false → p.u16 22 ≤ 2000 → exec (.gainSet p) s = .next ((u.rampTo 2 (p.u8 17) (p.u8 18) (p.i16 20)
        (if p.u16 22 = 0 then 20 else p.u16 22)).answer 0x8004 p .ok [])) ∧
      (p.flag 16 2 = true → s.board.member.zcGain = true → p.u16 22 ≤ 50 → exec (.gainSet p) s = .next ((u.waitZc 2 (p.u8 17)
        (p.u8 18) (p.i16 20) (if p.u16 22 = 0 then 10 else p.u16 22)).answer 0x8004 p .ok []))) ∧
    (p.target = hAudio → s.takes opMixRoute true p = true → p.length = 4 →
      (p.u8 16 = 0 → p.fld 17 6 2 = 0 → p.fld 17 0 6 < 48 → sourceOk (p.u16 18) = true → s.audio.marks.get (p.fld 17 0 6) = none →
        exec (.mixRouteInput p) s = .next ((((u.setAudio { s.audio with
          source := s.audio.source.set (p.fld 17 0 6) (p.u16 18) }).intend hAudio false 0).armEdge).answer 0x8010 p .ok [])) ∧
      (p.u8 16 = 1 → (p.u8 17 < 24 ∨ p.u8 17 = 0xFF) → destOk (p.u16 18) = true → (∀ j < 24, s.audio.masked j = false) →
        s.audio.lowlatOn (p.u16 18) = false →
        exec (.mixRouteDest p) s = .next ((((u.setAudio { s.audio with
          dest := s.audio.dest.set (p.u16 18) (if p.u8 17 = 0xFF then 0 else p.u8 17 + 1) }).intend hAudio false 0).armEdge).answer
          0x8010 p .ok []))) ∧
    (p.target = hAudio → s.takes opTdmConfig true p = true → p.length = 12 → ∀ a : Audio, a.lowlatOk = true → a.audxOk = true →
      (p.u8 16 = 0 → p.fld 17 7 1 = 0 → p.fld 18 5 3 = 0 → p.fld 19 7 1 = 0 → (tdmPort p).legal = true →
        a = { s.audio with tdm := s.audio.tdm.set (p.fld 17 0 2) (tdmPort p) } →
        exec (.tdmConfigPort p) s = .next ((((u.setAudio a).intend hAudio false 0).armEdge).answer 0x8011 p .ok [])) ∧
      (p.u8 16 = 1 → p.fld 17 0 2 ≤ 2 → p.fld 17 5 3 = 0 → p.fld 18 2 14 = 0 → 32000 ≤ p.u32 20 → p.u32 20 ≤ 96000 →
        p.u32 24 = 0 → a = { s.audio with
          mixDomain := p.fld 17 0 2
          xport := p.fld 17 2 2
          xsrc := p.flag 17 4
          mclkOut := p.fld 18 0 2
          xrate := p.u32 20
          onAuda := s.audio.audxLost && decide (p.fld 17 0 2 = 2) } →
        exec (.tdmConfigMixer p) s = .next ((((u.setAudio a).intend hAudio false 0).armEdge).answer 0x8011 p .ok [])) ∧
      (p.u8 16 = 2 → p.fld 17 1 7 = 0 → p.u64 20 = 0 → a = { s.audio with
          pdmB := p.flag 17 0
          mics := p.u8 18
          wind := p.u8 19 } →
        exec (.tdmConfigPdm p) s = .next ((((u.setAudio a).intend hAudio false 0).armEdge).answer 0x8011 p .ok []))) ∧
    (p.target = hAudio → s.takes opAlarmSourceSet true p = true → p.length = 8 → p.fld 16 0 6 < 48 → p.fld 16 7 25 = 0 →
      p.fld 20 24 8 = 0 → s.audio.source.get (p.fld 16 0 6) / 4096 = 4 →
      (∀ m, s.audio.marks.get (p.fld 16 0 6) = some m → m.inst = n) → p.flag 16 6 = true →
      (∀ j ∈ maskBits 24 (p.fld 20 0 24), s.audio.tdmDests j ≠ []) →
      exec (.alarmSourceSet p) s = .next ((((u.setAudio { s.audio with
        marks := s.audio.marks.set (p.fld 16 0 6) (some (Mark_.mk n (p.fld 20 0 24))) }).intend hAudio false n).armEdge).answer 0x8013
        p .ok [])) ∧
    (p.target = hAudio → s.takes opLowlatSet true p = true → p.length = 8 → p.fld 16 3 5 = 0 → p.fld 17 3 5 = 0 → p.u16 22 = 0 →
      isTdmDest (p.u16 18) = true → (p.i16 20 = muted ∨ (-9600 ≤ p.i16 20 ∧ p.i16 20 ≤ 2400)) →
      (p.flag 16 2 = false → exec (.lowlatSet p) s = .next (((u.setAudio { s.audio with
        lowlat := s.audio.lowlat.set (p.fld 16 0 2) none }).intend hAudio false 0).answer 0x8012 p .ok [])) ∧
      (p.flag 16 2 = true → bitOf s.audio.mics (p.fld 17 0 3) = true →
        s.audio.lowlatPort (s.audio.tdm.get (bitsOf (p.u16 18) 4 2)) (p.u16 18 % 16) = true →
        (∀ j < 4, j ≠ p.fld 16 0 2 → s.audio.lowlat.get j = none) →
        exec (.lowlatSet p) s = .next (((u.setAudio { s.audio with
          lowlat := s.audio.lowlat.set (p.fld 16 0 2) (some (LowLat.mk (p.fld 17 0 3) (p.u16 18) (p.i16 20))) }).intend hAudio false
          0).answer 0x8012 p .ok []))) ∧
    (p.target = hTone → s.takes opTonePlay true p = true → p.length = 8 → p.fld 17 4 4 = 0 → p.u16 22 = 0 →
      s.sec.available = true →
      (p.fld 16 1 7 = 0 → -6000 ≤ p.i16 18 → p.i16 18 ≤ 0 → s.patternLoaded (p.fld 17 0 4) = true →
        exec (.tonePlay p) s = .next ((((u.setAudio { s.audio with
          voices := s.audio.voices.set (p.fld 16 0 1) (some (Voice.mk n (p.fld 17 0 4) (p.i16 18) (p.u16 20))) }).intend hTone false n).armEdge).answer 0x8014 p .ok [])) ∧
      (p.flag 16 1 = true → p.fld 16 2 6 = 0 → exec (.toneStop p) s = .next ((((u.setAudio { s.audio with
        voices := s.audio.voices.set (p.fld 16 0 1) none }).intend hTone false n).armEdge).answer 0x8014 p .ok [])))

/-- 17 R472, R477, R484, R485, R487, R488, R491, R492, R496: a started stream's first buffer is done, a shortfall is told once it ends,
a start time starts; AUDX is lost and restored; waiting gains are taken at a crossing or after their timeout; clipping, limiters
and the alarm floor follow their outputs; a voice ends. -/
def Obligations.AudioEventsComplete : Prop :=
  ∀ (s : State), s.present hAudio = true →
    (∀ k b bs fr, (s.astream k).bufs = b :: bs → (s.astream k).started = true → (s.astream k).paused = false →
      (s.astream k).capture = false → fr = b.bytes / max 1 (s.astream k).frameBytes →
      exec (.bufferDone k) s = .next (((s.updStream k (fun t => { t with
        bufs := bs
        moved := t.moved + fr
        dry := bs.isEmpty })).countBy 5 k 0 fr).bufferEvent k b false bs.length fr)) ∧
    (∀ k fr, (s.astream k).started = true → (s.astream k).dry = true → (s.astream k).bufs ≠ [] → ∀ t,
      t = (s.updStream k (fun t => { t with
        dry := false
        shortfalls := t.shortfalls + 1 })).count 5 k 1 →
      exec (.streamXrun k fr) s = .next (t.raise (t.streamHolder k) 0x81 hAudio (detail [(k, 5),
        (b2n (s.astream k).capture, 27), (fr, 32), ((s.astream k).shortfalls + 1, 32)]))) ∧
    (∀ k, (s.astream k).startAt ≠ none → exec (.streamStart k) s = .next (s.updStream k (fun t => { t with
      started := true
      startAt := none }))) ∧
    (∀ r, s.audio.audxLost = false → s.audio.mixDomain ≠ 2 → exec (.audxLost r) s =
      .next (((s.setAudio { s.audio with audxLost := true }).setFact hAudio 1).audioClock 1 r)) ∧
    (∀ r, s.audio.audxLost = true → s.audio.onAuda = false → exec (.audxRestored r) s =
      .next ((((s.setAudio { s.audio with
        audxLost := false
        onAuda := false }).audioClock 2 r).clearFact hAudio).settle hAudio)) ∧
    (∀ kind a b g, (s.audio.gain.get (gainKey kind a b)).zcTarget = some g →
      exec (.zeroCrossing kind a b) s = .next (s.rampTo kind a b g 0) ∧ exec (.zcTimeout kind a b) s = .next (s.rampTo kind a b g 1)) ∧
    (∀ o xs, o < 24 → s.audio.clipped.get o + (xs.filter clips).length = 0 → exec (.audioClip o xs) s =
      .next (((s.countBy 6 o 0 0)).setAudio { (s.countBy 6 o 0 0).audio with
        clipped := (s.countBy 6 o 0 0).audio.clipped.set o 0 })) ∧
    (∀ (o us need target : Nat) (peak : Int) (l : Loop) (t : State), o < 24 → need = (peak + s.audio.ceiling.get o).toNat →
      target = min 600 (max need (s.loopOut hAudio o - 200 * us / (1000 * max 1 (s.audio.releaseMs.get o)))) →
      s.loop hAudio o = some l →
      t = s.stepLoop hAudio o target (if l.wanted target < peak.toNat then some (min 600 peak.toNat) else none) →
      (t.loopOut hAudio o = 0 → exec (.limiterStep o peak us) s = .next (t.countMax 6 o 2 0)) ∧
      (0 < t.loopOut hAudio o → exec (.limiterStep o peak us) s =
        .next ((t.countBy 6 o 1 us).countMax 6 o 2 (t.loopOut hAudio o)))) ∧
    (∀ l, s.loop hAudio 24 = some l → s.audio.paths = [] → exec .alarmFloorStep s = .next (s.stepLoop hAudio 24 0 none)) ∧
    (∀ v x, s.audio.voices.get v = some x → x.repeat_ ≠ 0 → ∃ t, exec (.toneEnd v) s = .next (State.armEdge t) ∧
      t = s.setAudio { s.audio with voices := s.audio.voices.set v none })

/-- 20 R553 to R567, R556 to R559, R654: an order enters a state when nothing refuses it, and its reply means that the entry has
started; a pipe steeps; holds and settings are written; an automatic Steep, a wake source, a host wake, the Shelf exit and its
timeout, and the lost blocks of Warm, do what the power control unit's rules say. -/
def Obligations.PowerStatesComplete : Prop :=
  ∀ (s : State),
    (∀ p u, u = s.markApplied p → s.takes opPowerState (decide (p.inst = 0)) p = true → p.target = hPower → powerFieldsOk p = true →
      (p.fld 16 0 2 = 0 → exec (.powerState p) s = .next ((u.intend hPower false p.inst).answer 0x9001 p .ok [])) ∧
      (∀ t z v, t = askedState p → t ≠ .brew → s.entryRefusal t (p.flag 16 2) = none → z = u.intend hPower false p.inst →
        v = z.setPower { z.power with
          periodMs := if t = .steep then (if p.u16 18 = 0 then 100 else p.u16 18) else z.power.periodMs } →
        (v.runningCopy = none → exec (.powerState p) s =
          .next ((v.beginEntry (PEntry.mk t false p.inst none false (p.u32 20))).answer 0x9001 p .ok [])) ∧
        (v.runningCopy ≠ none → exec (.powerState p) s =
          .next ((v.beginEntry (PEntry.mk t false p.inst (some (Owed.mk 0x9001 p)) false (p.u32 20))).interim 0x9001 p)))) ∧
    (∀ p u k q v, u = s.markApplied p → k = p.target % 256 → q = s.pipe k →
      s.takes opPowerState (decide (p.inst = 0) || s.ownsDisplay p.inst k) p = true → isPipe p = true → powerFieldsOk p = true →
      v = u.finishOpt q.steepWaiting .cancelled [] →
      (p.fld 16 0 2 = 1 → s.pipeMonitored k = false → ∀ w, w = v.updPipe k (fun q => { q with
          steeped := true
          steepWaiting := none }) →
        (q.state = .run → exec (.powerStatePipe p) s = .next ((w.updPipe k (fun q => { q with
          steepWaiting := some { opcode := 0x9001, p := p } })).interim 0x9001 p)) ∧
        (q.state ≠ .run → exec (.powerStatePipe p) s = .next (w.answer 0x9001 p .ok []))) ∧
      (p.fld 16 0 2 = 0 → ∀ w, w = v.updPipe k (fun q => { q with
          steeped := false
          steepWaiting := none }) →
        (q.state = .blank → q.intent = 2 → exec (.powerStatePipe p) s = .next ((w.updPipe k (fun q => { q with
          steepWaiting := some { opcode := 0x9001, p := p } })).interim 0x9001 p)) ∧
        ((q.state ≠ .blank ∨ q.intent ≠ 2) → exec (.powerStatePipe p) s = .next (w.answer 0x9001 p .ok [])))) ∧
    (∀ p u m, u = s.markApplied p → m = s.power.keepAwake → s.takes opKeepAwake (ownHandle p) p = true → p.length = 4 →
      p.fld 16 1 31 = 0 →
      (p.flag 16 0 = true → bitOf m p.inst = false → exec (.keepAwake p) s =
        .next ((u.setPower { u.power with keepAwake := m + 2 ^ p.inst }).answer 0x9002 p .ok [])) ∧
      (p.flag 16 0 = false → bitOf m p.inst = true → exec (.keepAwake p) s =
        .next ((u.setPower { u.power with keepAwake := m - 2 ^ p.inst }).answer 0x9002 p .ok [])) ∧
      (p.flag 16 0 = bitOf m p.inst → exec (.keepAwake p) s = .next ((u.setPower { u.power with keepAwake := m }).answer 0x9002 p .ok
        []))) ∧
    (∀ p u, u = s.markApplied p → s.takes opPowerConfig true p = true → p.target = hPower →
      (p.length = 8 → p.u8 16 = 0 → p.fld 17 7 1 = 0 → p.u8 18 ≤ 50 → (p.u8 19 = 0 ∨ (85 ≤ p.u8 19 ∧ p.u8 19 ≤ 110)) →
        p.fld 20 10 6 = 0 → p.u8 23 = 0 → exec (.powerConfig p) s = .next (((u.setPower { u.power with cfg := {
          railGpio := p.fld 17 0 2
          railPol := p.flag 17 2
          pgoodGpio := p.fld 17 3 2
          pgoodPol := p.flag 17 5
          autoSteep := p.flag 17 6
          vsenseThr := p.u8 18
          tTarget := if p.u8 19 = 0 then 105 else p.u8 19
          pmicBus := p.fld 20 0 2
          pmicEn := p.flag 20 2
          pmicAddr := p.fld 20 3 7
          pmicReg := p.u8 22 } }).intend hPower false p.inst).answer 0x9003 p .ok [])) ∧
      (p.length = 4 → p.u8 16 = 2 → p.fld 17 4 4 = 0 → p.u16 18 = 0 → exec (.powerConfigRelease p) s =
        .next ((u.setPower { u.power with sag := { u.power.sag with
          pours := u.power.sag.pours.setAll (maskBits 4 (p.fld 17 0 4)) none } }).answer 0x9003 p .ok []))) ∧
    ((∃ k, k < s.board.member.pipes ∧ (s.pipe k).intent ≠ 0) →
      (∀ k, k < s.board.member.pipes → (s.pipe k).intent ≠ 0 → (s.pipe k).steeped = true) → s.accepting = true → s.boot.stage = 6 →
      s.power.cfg.autoSteep = true → s.entryRefusal .steep false = none →
      exec .steepAutoCheck s = .next ((s.setPower { s.power with periodMs := 100 }).beginEntry
        (PEntry.mk .steep true 0 none false 0))) ∧
    (∀ source arg us, s.power.entry = none → (s.power.state = .steep ∨ s.power.state = .warm) → s.power.sag.sagMark = false →
      wakes s.power.state source = true → s.sourceReady source arg s.power.rtcAlarm.isSome = true → ∀ lost l v w y x,
      lost = (if s.power.state = .warm then s.warmLost else []) → l = s.latchWake s.power.state source arg us →
      v = l.setPower { l.power with
        state := .brew
        steepAuto := false } →
      w = ((v.setDram (zeroBlocks v.dram lost)).setMemc { v.memc with lost := lost }).setSec { v.sec with holds := v.sec.available } →
      y = w.pipeList.foldl (fun s k => if (s.pipe k).intent ≠ 0 then s.updPipe k (fun q => { q with
          state := .starting
          bandSlots := true
          restartZero := true
          attempts := 0 }) else s) w →
      x = y.linkUnits.foldl (fun s h => s.updLink h (fun u => { u with training := u.cfg.enable && (u.hpd || isDsi h) })) y →
      exec (.wakeSource source arg us) s = .next (((x.callHosts source).resume).powerChanged .brew s.power.state false source arg
        us)) ∧
    (∀ port, s.present (hPort port) = true → bitOf s.power.wakeLow port = false →
      (s.power.entry ≠ none ∨ s.power.state = .steep ∨ s.power.state = .warm) →
      exec (.hostWake port) s = .next (s.setPorts (s.ports.upd port (fun q => { q with hostWake := true })))) ∧
    (∀ source arg, s.power.state = .shelf → s.power.railOn = false → (source = 2 ∨ source = 3) →
      s.sourceReady source arg s.power.rtcAlarm.isSome = true → ∀ l, l = s.latchWake .shelf source arg 0 →
      exec (.shelfExit source arg true) s = .next ((l.setPower { l.power with state := .brew }).fullReset 2) ∧
      exec (.shelfExit source arg false) s = .next (s.setPower { s.power with
        railOn := true
        railWake := (source, arg) })) ∧
    (s.power.state = .shelf → s.power.railOn = true →
      exec .pgoodTimeout s = .next (s.setPower { s.power with railOn := false })) ∧
    (∀ (n : Nat → Nat) (t : Nat → State → State),
      (∀ r, n r = (s.memc.lost.filter (fun b => decide (blockRegion s.memc.regions b = r))).length) →
      (∀ r v, t r v = if n r = 0 then v else v.memLost r (n r)) →
      exec .memLost s = .next (t 3 (t 2 (t 1 (s.setMemc { s.memc with lost := [] })))))

/-- 19 R536 to R551, 20 R568 to R576, R655, 06 R178, 15 R449: references fail over, come back and are chosen again; PLLs lose lock,
relock or give up; the slow oscillators are checked; the throttle level and the rail voltage follow the sensors; a sag saves and
restores; accesses time out and gates wait. -/
def Obligations.ClocksAndSupplyComplete : Prop :=
  ∀ (s : State),
    (∀ port, s.present (hPort port) = true →
      (s.clocks.selected = port → exec (.pllHoldover port) s = .next (s.setHoldover true)) ∧
      (∀ khz, s.refOk port = false → s.clocks.suspended = false → exec (.refclkHealthy port khz) s =
        .next (((s.setRef port true).clockRef 3 port khz).retrainPort port)) ∧
      (s.refOk port = true → s.clocks.degraded = false → s.refRank port < s.refRank s.clocks.selected →
        exec (.refSwitchBack port) s = .next (((s.setClocks { s.clocks with selected := port }).clockRef 4 port 100000).settleRef)) ∧
      (s.refOk port = true → s.clocks.degraded = true → s.refOrder.head? = some port → exec (.refSwitchBack port) s =
        .next ((((s.setClocks { s.clocks with
          selected := port
          degraded := false }).setHoldover false).clockRef 6 port 100000).settleRef))) ∧
    (∀ port khz warmrc r, s.clocks.suspended = false → s.refOk port = true → warmrcShortBad warmrc = false →
      r = s.setRef port false →
      (port ≠ s.clocks.selected → exec (.refclkFail [(port, khz)] warmrc) s = .next (r.clockRef 2 port khz)) ∧
      (∀ q, port = s.clocks.selected → r.refOrder.find? r.refOk = some q → exec (.refclkFail [(port, khz)] warmrc) s =
        .next (((((((((r.setClocks { r.clocks with selected := q }).setHoldover false).edge 1).setFact hRef 1).raiseErr 0x9001 1 hRef
          0xFF 0 0).count 8 2 3)).clockRef 1 port khz).settleRef)) ∧
      (port = s.clocks.selected → r.refOrder.find? r.refOk = none → exec (.refclkFail [(port, khz)] warmrc) s =
        .next ((((((((r.setClocks { r.clocks with
          selected := 0xF
          degraded := true }).setHoldover false).edge 1).setFact hRef 2).raiseErr 0x9002 3 hRef 0xFF 0 0).count 8 2 3).clockRef 5 port
            khz).dropDeadPorts))) ∧
    (∀ counts, (100 * counts < 97 * 15625 ∨ 103 * 15625 < 100 * counts) → s.clocks.suspended = false →
      exec (.warmrcCheck counts) s = .next ((((s.setClocks { s.clocks with suspended := true }).setFact (hClock 1) 6).raiseErr 0x9005
        3 (hClock 1) 0xFF 0 0).clockRef 7 0 0)) ∧
    (∀ counts, 97 * 15625 ≤ 100 * counts → 100 * counts ≤ 103 * 15625 → s.clocks.suspended = true → exec (.warmrcCheck counts) s =
      .next (((s.setClocks { s.clocks with suspended := false }).clearFact (hClock 1)).settle (hClock 1))) ∧
    (s.clocks.xtalLost = false → exec .xtalLost s = .next (((s.setClocks { s.clocks with xtalLost := true }).setFact (hClock 0)
      5).raiseErr 0x9006 0 (hClock 0) 0xFF 0 0)) ∧
    (∀ d x, s.present (hClock d) = true → x = (s.domLost d).clockPll d 1 → (s.dom d).state = .running →
      (domKind s.board.member d = .engine → exec (.pllUnlock d) s = .next x) ∧
      (domKind s.board.member d = .memc → exec (.pllUnlock d) s = .next ((x.updDom d (fun y => { y with logged := true })).raiseErr
        0x9004 4 (hClock d) 0xFF 0 0)) ∧
      (domKind s.board.member d = .sense → exec (.pllUnlock d) s = .next x.senseStopped) ∧
      (∀ p, domKind s.board.member d = .host p → exec (.pllUnlock d) s = .next (x.fencePort p 5)) ∧
      (∀ h, domKind s.board.member d = .link h → exec (.pllUnlock d) s = .next (x.linkDown h))) ∧
    (∀ d, s.present (hClock d) = true → domKind s.board.member d = .engine → (s.dom d).state = .bypass →
      exec (.pllRelockAttempt d true) s = .next (((s.domAttempt d).domRelocked d).clockPll d 2) ∧
      (1 ≤ ((s.domAttempt d).dom d).relocks → exec (.pllRelockAttempt d false) s = .next ((s.domAttempt d).domRetrying d))) ∧
    (∀ temps hot n, n = s.noteTemps temps → hottest temps = some hot → n.awake = true → n.boot.stage = 6 →
      (¬ (1200 ≤ hot.2 ∧ (n.throttle hot).loopOut hPower 0 = 9) → exec (.thermalSample temps) s =
        .next ((n.throttle hot).setPower { (n.throttle hot).power with hotMs := 0 })) ∧
      (∀ t, t = n.throttle hot → 1200 ≤ hot.2 → t.loopOut hPower 0 = 9 → t.power.hotMs ≠ 0 → exec (.thermalSample temps) s =
        .next ((t.setPower { t.power with hotMs := 0 }).thermalTrip hot))) ∧
    (∀ temp, s.power.tripped = true → temp ≤ 1000 → s.boot.stage ≠ 6 → exec (.thermalTripRelease temp) s =
      .next (s.setPower { s.power with tripped := false })) ∧
    (∀ passMv level t, s.power.cfg.pmicEn = true → s.awake = true → t = s.stepLoop hPower 1 (passMv + 10) none →
      exec (.adaptiveVoltageStep passMv level) s = .next (t.setPower { t.power with
        vddMv := t.loopOut hPower 1
        gpuLevelV := if t.loopOut hPower 1 < passMv then min 9 level else 0 })) ∧
    (∀ c required l, s.present (hChannel c) = true → s.loop (hChannel c) 0 = some l → l.low ≤ required → l.pin = none →
      exec (.refreshDerating c required) s = .next (s.stepLoop (hChannel c) 0 required none)) ∧
    (∀ panel deltas t rs, s.present (hTouch panel) = true → t = s.tp_ panel → s.power.state = .steep → s.touch.senseUp = true →
      rs = scanZones t.zones t.runs deltas → ∀ u, u = s.updTp panel (fun t => { t with runs := rs.map (·.1) }) →
      ((∀ r ∈ rs, r.2 = false) → exec (.steepWakeScan panel deltas) s = .next u) ∧
      (∀ k v, (List.range rs.length).find? (fun k => (rs.map (·.2)).getD k false) = some k →
        (t.cfg.mapped && (s.pipe t.cfg.pipe).steeped) = false →
        v = u.raise 0 0x65 (hTouch panel) (detail [(panel, 8), (k, 8), (0, 16), (deltas.getD k 0, 32)]) →
        exec (.steepWakeScan panel deltas) s = .next (v.tickFree.wakeUp 1 panel (Config.measure v.freeCtr hPower 3)))) ∧
    (∀ cause vsense late fatal, s.power.poured = false →
      (s.power.state ≠ .brew → exec (.supplySag cause vsense late fatal) s = .next (s.setPower { s.power with
        sag := { s.power.sag with sagMark := true } })) ∧
      (∀ t r, s.power.state = .brew → s.boot.stage = 6 →
        t = ((s.abortEntry { reason := 8, unit := hPower, inst := 0, arg := 0 } 0 0).edge 2).shedLoad →
        r = t.pour cause vsense late fatal → exec (.supplySag cause vsense late fatal) s = .next (t.setPower { t.power with
          poured := true
          sag := { t.power.sag with
            pours := match t.power.sag.erased with
              | some k => t.power.sag.pours.set k (some r)
              | none => t.power.sag.pours
            saves := t.power.sag.saves + 1
            sag := some cause
            sagFatal := fatal
            sagRecord := some r } }))) ∧
    (∀ r, s.power.poured = true → s.power.sag.sagRecord = some r → exec .supplyRestored s = .next ((s.setPower { s.power with
      poured := false
      wake := { s.power.wake with
        last := r.state
        source := 6
        arg := 0
        wakeTime := 0 } }).fullReset 7)) ∧
    (∀ vsense, exec (.railFall 2 vsense) s = .next s.vaonLost) ∧
    (∀ i unit write len t, t = s.abortEntry { reason := 4, unit := unit, inst := 0, arg := 0 } 0 0 →
      exec (.busTimeout 0xFF (0x100 + i % 4) unit write len) s =
        .next (if write then t.count 14 (0x100 + i % 4) 0 else (t.count 14 (0x100 + i % 4) 0).setBus (List.replicate len 0xFF))) ∧
    (∀ inst initiator unit write len t, initiator / 256 ≠ 0x01 → isCore initiator = false → inst ≠ 0xFF →
      t = s.abortEntry { reason := 4, unit := unit, inst := inst, arg := 0 } 0 0 →
      exec (.busTimeout inst initiator unit write len) s = .next (t.raiseErr 0x0003 2 unit inst 0 0)) ∧
    (∀ unit pending ws, s.present unit = true → (s.sec.holds = false ∨ heldUnit unit = false) →
      ws = s.memc.gateWaiting.filter (fun h => decide (h ≠ unit)) → exec (.gateRequest unit pending) s =
        .next (s.setMemc { s.memc with gateWaiting := if pending then ws ++ [unit] else ws }))

/-- 18 R498 to R531, 17 R510: the secure services answer as their rules say, the migration key is installed and erased, debug is
challenged and unlocked; mailbox slots fill, gateway calls go and return or time out; the watchdog is kicked or expires, Cupper starts
again; violations and JTAG accesses have the effect of the enables. -/
def Obligations.SecureWorldCompletes : Prop :=
  ∀ (s : State),
    (∀ (p : Packet) (u : State) (i : Nat), u = s.markApplied p → p.target = hCupper →
      (s.takes opSecService true p = true → p.length = 4 → p.u32 16 = 1 → exec (.status p) s = .next (u.answer 0xB001 p .ok
        [w32 (pack [(b2n s.sec.available, 1), (b2n s.armed, 1), (0, 2), (s.sec.debug, 4), (s.sec.unavail, 8), (s.sec.wdogMs, 16)]),
          w32 s.sec.causes, w32 s.sec.holdRefusals, 0])) ∧
      (s.sec.available = true →
        (s.takes opSecService true p = true →
          (p.length = 8 → p.u32 16 = 2 → 1 ≤ p.fld 20 0 9 → p.fld 20 0 9 ≤ 256 → p.fld 20 9 23 = 0 → exec (.random p) s =
            .next (u.tickFree.answer 0xB001 p .ok (padWords ((List.range (p.fld 20 0 9)).map (Config.random s.freeCtr))))) ∧
          (∀ body, p.length = 52 → p.u32 16 = 3 → body = s.attested (p.bytesFrom 20) → exec (.attest p) s =
            .next (u.answer 0xB001 p .ok (bytesWords (body ++ fixBytes 96 (Config.signature 0 body)))))) ∧
        (s.takes opSecService (s.isSafety p.inst && decide ((s.slot i).holder = some p.inst)) p = true → i = p.fld 20 0 6 →
          p.length = 16 → p.u32 16 = 0x10 → p.fld 20 7 25 = 0 →
          (p.flag 20 6 = true → exec (.fallbackSet p) s = .next ((u.setSec { u.sec with
            fallback := u.sec.fallback.set i none
            fallbackNext := u.sec.fallbackNext.set i none }).answer 0xB001 p .ok [])) ∧
          (p.flag 20 6 = false → p.u64 24 % 64 = 0 → mappedRange (s.inst p.inst).pages (p.u64 24) 16384 = true →
            exec (.fallbackSet p) s = .next ((u.setSec { u.sec with
              fallbackNext := u.sec.fallbackNext.set i (some (u.readInst p.inst (p.u64 24) 16384)) }).answer 0xB001 p .ok []))) ∧
        (s.takes opSecService (decide (p.inst = 0) || (s.isSafety p.inst && decide ((s.slot i).holder = some p.inst))) p = true →
          i = p.fld 20 0 6 → p.length = 8 → p.u32 16 = 0x11 → p.fld 20 6 2 = 0 → p.u16 22 = 0 → s.unitOk (hSlot i) = true →
          exec (.layerEscalate p) s = .next ((u.setSec { u.sec with escLayer := u.sec.escLayer.set i (some (p.u8 21)) }).answer 0xB001
            p .ok [])) ∧
        (s.takes opSecService (decide (p.inst = 0) || (s.isSafety p.inst && s.hasRegion p.inst i)) p = true → i = p.fld 20 0 3 →
          p.length = 8 → p.u32 16 = 0x12 → p.fld 20 3 5 = 0 → p.u16 22 = 0 → s.unitOk (hPipe i) = true →
          exec (.pipeEscalate p) s = .next ((u.setSec { u.sec with escPipe := u.sec.escPipe.set i (some (p.u8 21)) }).answer 0xB001 p
            .ok [])) ∧
        (∀ n, s.takes opSecService (decide (p.inst = 0) || s.isSafety p.inst) p = true → i = p.fld 20 0 4 → n = p.fld 21 0 5 →
          p.length = 8 + 4 * n → p.u32 16 = 0x13 → 5 ≤ i → p.fld 20 4 4 = 0 → 1 ≤ n → n ≤ 16 → p.fld 21 5 3 = 0 → p.u16 22 = 0 →
          (p.wordsFrom 24).all segmentOk = true → exec (.tonePattern p) s = .next ((u.setSec { u.sec with
            patterns := u.sec.patterns.set i (some ((p.wordsFrom 24).map (fun w => (w % 65536, w / 65536)))) }).answer 0xB001 p .ok
              [])) ∧
        (s.takes opSecService (decide (p.inst = 0)) p = true → p.length = 8 → p.u32 16 = 0x20 → 1 ≤ p.u16 20 → p.u16 20 ≤ 10000 →
          p.u16 22 = 0 → exec (.alarmTest p) s = .next ((u.assertCause 5 0xFFFF).answer 0xB001 p .ok [])) ∧
        (s.takes opMigrationKey true p = true → p.length = 44 → s.sec.keyFused = true →
          (∀ key, p.u32 16 = 0 → Config.unwrap (p.bytesFrom 20) = some key → exec (.migrationKeyInstall p) s =
            .next ((u.setSec { u.sec with key := some key }).answer 0xB002 p .ok [])) ∧
          (p.u32 16 = 1 → exec (.migrationKeyErase p) s = .next ((u.setSec { u.sec with key := none }).answer 0xB002 p .ok []))) ∧
        (∀ req nonce, s.takes opDebugChallenge true p = true → p.length = 4 → p.fld 16 4 28 = 0 → s.sec.debugFails < 8 →
          req = impliedEnables (p.fld 16 0 4) → nonce = (List.range 48).map (Config.random s.freeCtr) →
          exec (.debugChallenge p) s = .next ((u.tickFree.setSec { u.sec with challenge := some (Challenge.mk nonce req s.devTime)
            }).answer 0xB003 p .ok (bytesWords (leBytes 8 Config.deviceId ++ nonce ++ leBytes 4 req)))) ∧
        (∀ c pub spent, s.takes opDebugResponse true p = true → p.length = 192 → s.sec.debugFails < 8 → s.sec.challenge = some c →
          s.devTime ≤ c.time + 60000000000 → (bitOf c.request 3 && s.armed) = false → pub = (p.bytesFrom 16).drop 96 →
          spent = u.setSec { u.sec with challenge := none } →
          Config.verifies pub ((p.bytesFrom 16).take 96) (leBytes 8 Config.deviceId ++ c.nonce ++ leBytes 4 c.request) = true →
          Config.sha384 pub = Config.debugKeyHash → exec (.debugResponse p) s =
            .next (((spent.setSec { spent.sec with addedDebug := spent.sec.addedDebug ||| c.request }).debugUnlock c.request).answer
              0xB004 p .ok [])))) ∧
    (∀ slot data, slot < 16 →
      (s.sec.available = true → (s.sec.toCupper.get slot).full = false → exec (.mailboxFullSet true slot data) s =
        .next ((s.setSec { s.sec with toCupper := s.sec.toCupper.upd slot (fun m => { m with
          full := true
          data := data.take 64 }) }).edge (47 + slot))) ∧
      ((s.sec.toBarista.get slot).full = false → exec (.mailboxFullSet false slot data) s =
        .next ((s.setSec { s.sec with toBarista := s.sec.toBarista.upd slot (fun m => { m with
          full := true
          data := data.take 64 }) }).edge 63)) ∧
      ((s.sec.toBarista.get slot).full = true → exec (.mailboxFullSet false slot data) s =
        .next (s.setSec { s.sec with discarded := s.sec.discarded + 1 }))) ∧
    (s.sec.available = true →
      (∀ core slot entry inst data cause opcode, slot < 16 → entry < 64 → (s.sec.toCupper.get slot).full = false →
        (s.sec.toCupper.get slot).owed = false → entryMarked entry = true → s.originOk entry inst = true →
        data.length ≤ entryArgs entry → exec (.gatewayCall core slot entry inst data cause opcode) s = .next ((s.setSec { s.sec with
          toCupper := s.sec.toCupper.set slot { full := true
                                                data := data
                                                entry := entry
                                                core := core
                                                owed := true
                                                cause := cause.map (fun p => { opcode := opcode, p := p }) } }).edge (47 + slot))) ∧
      (∀ slot data, (s.sec.toCupper.get slot).owed = true → (s.sec.toBarista.get slot).full = false →
        exec (.gatewayReturn slot data) s = .next ((s.setSec { s.sec with
          toCupper := s.sec.toCupper.upd slot (fun m => { m with
            owed := false
            cause := none })
          toBarista := s.sec.toBarista.upd slot (fun m => { m with
            full := true
            data := data.take 64 }) }).edge 63)) ∧
      exec .secureWdogKick s = .next (s.setSec { s.sec with wdogKick := s.devTime }) ∧
      (s.sec.halted = false → exec .secureWdog s = .next (s.secureLost 1)) ∧
      exec .cupperSramUncorr s = .next (s.secureLost 3)) ∧
    (∀ slot m, m = s.sec.toCupper.get slot → m.owed = true → exec (.gatewayTimeout slot) s =
      .next ((s.setSec { s.sec with toCupper := s.sec.toCupper.set slot { m with cause := none } }).finishOpt m.cause .timeout [])) ∧
    (∀ slot t, s.sec.available = false → s.sec.wdogFatal = false → (s.sec.unavail = 1 ∨ s.sec.unavail = 3) → s.imageIn 1 = some slot →
      t = s.startCupper slot → exec .cupperRestart s =
        .next ((((t.setSec { t.sec with lastRestart := some s.devTime }).clearFact hCupper).settle hCupper).secureState 2)) ∧
    exec .alarmTestEnd s = .next (s.releaseCause 5 0xFFFF) ∧
    (∀ initiator inst len,
      exec (.secViolation initiator inst true len) s = .next ((s.setSec { s.sec with violations := s.sec.violations + 1 }).raiseErr
        0xB001 0 hCupper inst 0 initiator) ∧
      exec (.secViolation initiator inst false len) s = .next (((s.setBus (List.replicate len 0)).setSec { s.sec with
        violations := s.sec.violations + 1 }).raiseErr 0xB001 0 hCupper inst 0 initiator)) ∧
    exec (.jtagAccess .idcode) s = .next (s.setBus (leBytes 4 Config.idcode)) ∧ exec (.jtagAccess .bypass) s = .next s ∧
    (∀ a n, bitOf s.sec.debug 1 = true → exec (.jtagAccess (.readMem a n)) s = .next (s.setBus (Mem.read s.dram a n))) ∧
    (∀ a bs, bitOf s.sec.debug 1 = true → exec (.jtagAccess (.writeMem a bs)) s = .next (s.setDram (Mem.write s.dram a bs))) ∧
    (∀ a n bs, bitOf s.sec.debug 1 = false → exec (.jtagAccess (.readMem a n)) s = .next s ∧
      exec (.jtagAccess (.writeMem a bs)) s = .next s)

/-- 22 R614 to R628: a Refill opens, fills and ends; a commit of a good image programs the other slot and takes it live; slots are
selected; user calibration is stored, erased and written, the calibration is read, and units are recalibrated while running. -/
def Obligations.RefillAndCalibrationComplete : Prop :=
  ∀ (s : State),
    (∀ (p : Packet) (u : State), u = s.markApplied p →
      (p.target = hDevice →
        (s.takes opRefillBegin true p = true → p.length = 8 → p.fld 16 10 22 = 0 → 1 ≤ p.u8 16 → p.u8 16 ≤ 7 →
          (p.flag 16 8 = true ∨ p.flag 16 9 = true) → refillLengthOk (p.u32 20) = true →
          (p.u8 16 = 4 → s.board.member.sense = true) → s.firmware.refill = none → exec (.refillBegin p) s =
            .next ((u.setFirmware { u.firmware with
              refill := some (Refill.mk (p.u8 16) (p.flag 16 8) (p.flag 16 9) (p.u32 20) []) }).answer 0xC001 p .ok [])) ∧
        (∀ r d, s.takes opRefillData true p = true → s.firmware.refill = some r → d = p.bytesFrom 20 → 8 ≤ p.length →
          p.length ≤ 4076 → p.u32 16 = r.data.length → r.data.length + d.length ≤ r.length → exec (.refillData p) s =
            .next ((u.setFirmware { u.firmware with refill := some { r with data := r.data ++ d } }).answer 0xC002 p .ok [])) ∧
        (∀ r d x, s.takes opRefillCommit true p = true → s.firmware.refill = some r → p.length = 4 → p.fld 16 1 31 = 0 →
          r.data.length = r.length → d = r.data → s.sec.available = true →
          headerOk r.unit (s.firmware.counter.get r.unit) d = true → 272 + imgBodyLen d = r.length → bodyOk d = true →
          (r.live = true → Config.formatsMatch r.unit (imgBody d) = true) → x = u.commitRefill r (p.flag 16 0) p.inst →
          exec (.refillCommit p) s = .next (x.1.answer 0xC003 p x.2 [])) ∧
        (s.takes opRefillAbort true p = true → p.length = 0 → u.committing = true → exec (.refillAbort p) s =
          .next (u.answer 0xC004 p .busy [])) ∧
        (s.takes opRefillAbort true p = true → p.length = 0 → u.committing = false →
          (∀ r, s.firmware.refill = some r → exec (.refillAbort p) s = .next ((u.dropRefill r 3).answer 0xC004 p .ok [])) ∧
          (s.firmware.refill = none → exec (.refillAbort p) s = .next (u.answer 0xC004 p .ok []))) ∧
        (∀ unit i x, s.takes opSlotSelect true p = true → unit = p.u8 16 → i = p.fld 17 0 1 →
          x = s.firmware.slots.get (2 * unit + i) → p.length = 4 → p.fld 16 9 23 = 0 → 1 ≤ unit → unit ≤ 7 →
          (unit = 4 → s.board.member.sense = true) → s.sec.available = true → x.good = true →
          s.firmware.counter.get unit ≤ x.secVer → exec (.slotSelect p) s = .next (((u.setFirmware { u.firmware with
            selected := u.firmware.selected.set unit (some i)
            prefSeq := (u.firmware.prefSeq + 1) % 2 ^ 32 }).intend hDevice false p.inst).answer 0xC005 p .ok [])) ∧
        (s.takes opCalRead true p = true → p.length = 4 → p.u16 18 = 0 → s.calIndexOk (p.u8 16) (p.u8 17) = true →
          s.calFitted (p.u8 16) (p.u8 17) = true → exec (.calRead p) s =
            .next (u.answer 0xC006 p .ok (s.calResult (p.u8 16) (p.u8 17))))) ∧
      (s.takes opUsercalWrite true p = true → calKind p.target ≠ 0 →
        (p.length = 4 → p.u32 16 = 0 → exec (.usercalStore p) s =
          .next (((u.putCal p.target (s.calRecord p.target)).tickFree).answer 0xC007 p .ok [])) ∧
        (p.length = 4 → p.u32 16 = 1 → exec (.usercalErase p) s = .next ((u.putCal p.target []).answer 0xC007 p .ok [])) ∧
        (∀ bs, p.length = 12 → p.u32 16 = 2 → s.busMaster 0 = true → bs = s.hostBytes s.board.mgrPortInForce (p.u64 20)
            (leNat (s.hostBytes s.board.mgrPortInForce (p.u64 20 + 2) 2)) → calOk bs = true →
          leNat (bs.take 1) = calKind p.target → leNat ((bs.drop 1).take 1) = p.target % 256 → calKind p.target ≠ 3 →
          exec (.usercalWrite p) s = .next ((u.putCal p.target bs).tickFree.answer 0xC007 p .ok []))) ∧
      (∀ i c, i = p.target % 256 → c = (s.tp_ i).cfg → p.target / 256 = 0x14 → p.length = 12 → p.fld 16 1 31 = 0 → p.u16 24 = 0 →
        s.takes opRecalTouch (decide (p.inst = 0) || (!p.flag 16 0 && s.ownsTouchRect p.inst i 0 0 c.width c.height)) p = true →
        s.touch.d2dUp = true → s.touch.senseUp = true →
        ((s.tp_ i).state = .scanning → p.flag 16 0 = false → exec (.recalTouch p) s =
          .next (((u.recalPanel i).recalDone p p.target 0 c.nodes.length).answer 0xC008 p .ok [])) ∧
        ((s.tp_ i).state ≠ .scanning → exec (.recalTouch p) s = .next ((u.recalDone p p.target 2 0).answer 0xC008 p .ok []))) ∧
      (∀ i, i = p.target % 256 → s.takes opRecalHaptic true p = true → p.target / 256 = 0x15 → p.length = 4 → p.fld 16 1 31 = 0 →
        s.bridgedAway i = false → (s.chan i).driving = false → s.touch.d2dUp = true → (s.entry hBoost).fact ≠ 1 →
        (s.checkVerdict i ≠ 0 → exec (.recalHaptic p) s =
          .next (((u.runCheck i true).recalDone p p.target 2 0).answer 0xC009 p .ok [])) ∧
        (s.checkVerdict i = 0 → p.flag 16 0 = false → exec (.recalHaptic p) s =
          .next (((u.runCheck i true).recalDone p p.target 0 0).answer 0xC009 p .ok []))) ∧
      (∀ cs t, s.takes opRecalDram true p = true → p.length = 0 → (p.target = hDevice ∨ p.target / 256 = 0x06) →
        cs = (if p.target = hDevice then List.range s.board.member.channels else [p.target % 256]) →
        t = cs.foldl (fun t c => t.retrain c (decide (Config.measure s.freeCtr (hChannel c) 10 % 2 = 0))) u.tickFree →
        exec (.recalDram p) s = .next ((t.recalDone p p.target (if cs.all (fun c =>
          decide (Config.measure s.freeCtr (hChannel c) 10 % 2 = 0)) then 0 else 2) 0).answer 0xC00A p .ok [])) ∧
      (∀ ref trims t, s.takes opRecalMic true p = true → p.target = hAudio → p.length = 4 → p.fld 16 17 15 = 0 → ref = p.fld 16 8 3 →
        1 ≤ p.fld 16 11 5 → p.fld 16 11 5 ≤ 10 → bitOf s.audio.mics ref = true → p.flag 16 16 = false →
        (∀ k ∈ maskBits 8 (p.u8 16), bitOf s.audio.mics k = true) →
        (∀ i, i < s.board.member.haptics → (s.chan i).driving = false) → s.touch.d2dUp = true → (s.entry hBoost).fact ≠ 1 →
        trims = (maskBits 8 (p.u8 16)).foldl (fun t k => t.set k (if k = ref then s.audio.trims.get k
          else clampI (-600) 600 (signed 16 (Config.measure s.freeCtr hAudio (16 + k))))) s.audio.trims →
        t = (u.setAudio { u.audio with trims := trims }).tickFree →
        exec (.recalMic p) s = .next ((t.recalDone p p.target 0 (match (maskBits 8 (p.u8 16)).head? with
          | some k => ofSigned 32 (t.audio.trims.get k)
          | none => 0)).answer 0xC00B p .ok []))) ∧
    (∀ r, s.firmware.refill = some r → exec .refillTimeout s = .next (s.dropRefill r 3)) ∧
    (∀ unit part left, s.firmware.parts.contains (unit, part) = true → left = s.firmware.parts.erase (unit, part) →
      (left.any (fun x => decide (x.1 = unit)) = true → exec (.refillDeferredTaken unit part) s =
        .next (s.setFirmware { s.firmware with parts := left })) ∧
      (∀ v t, left.any (fun x => decide (x.1 = unit)) = false → v = (s.firmware.deferred.get unit).getD 0 →
        t = (s.setFirmware { s.firmware with parts := left }).runs unit v → exec (.refillDeferredTaken unit part) s =
          .next ((t.setFirmware { t.firmware with deferred := s.firmware.deferred.set unit none }).refillState unit 4 v false false
            true)))

/-- 03 R126 to R128, 23 R640 to R643: a block write with a good PEC carries packets of messages, a failed PEC is NACKed; Ibnov
messages are checked as packets of the manager; the basic registers read and are written in recovery; MCTP control commands are
answered; a failed image is replaced page by page. -/
def Obligations.ManagementPortCompletes : Prop :=
  ∀ (s : State), s.power.state ≠ .shelf →
    (∀ bytes flags tag body t, flags = (bytes.getD 7 0).toNat → tag = flags % 8 → 9 ≤ bytes.length →
      (bytes.getD 0 0).toNat = 2 * (0x68 + s.board.smbaddr) →
      (crc8 (bytes.take (bytes.length - 1)) ≠ bytes.getD (bytes.length - 1) 0 → exec (.smbusTransaction bytes) s =
        .next ((s.setBoot { s.boot with
          nacked := true
          skipping := true
          asm := s.boot.asm.filter (fun m => decide (m.1 ≠ tag)) }).mgmtDiscard)) ∧
      (crc8 (bytes.take (bytes.length - 1)) = bytes.getD (bytes.length - 1) 0 → (bytes.getD 1 0).toNat = 0x0F →
        (bytes.getD 2 0).toNat + 4 = bytes.length → (bytes.getD 5 0).toNat = s.boot.eid.getD 0 → bitOf flags 7 = true →
        body = (bytes.take (bytes.length - 1)).drop 8 → t = (s.setBoot { s.boot with nacked := false }) →
        (bitOf flags 6 = false → exec (.smbusTransaction bytes) s = .next (t.setBoot { t.boot with
          skipping := false
          asm := t.boot.asm.filter (fun m => decide (m.1 ≠ tag)) ++ [(tag, body)] })) ∧
        (bitOf flags 6 = true → mgmtTypeOk body = true → exec (.smbusTransaction bytes) s = .next (t.setBoot { t.boot with
          skipping := false
          asm := t.boot.asm.filter (fun m => decide (m.1 ≠ tag))
          arrived := t.boot.arrived ++ [(tag, body)] })))) ∧
    (∀ tag, s.boot.asm.any (fun m => decide (m.1 = tag)) = true → exec (.mctpMessageTimeout tag) s =
      .next ((s.setBoot { s.boot with asm := s.boot.asm.filter (fun m => decide (m.1 ≠ tag)) }).mgmtDiscard)) ∧
    (∀ tag bytes h p t, h = parseHeader bytes → p = toPacket 0 (.mgmt tag) h bytes → t = s.mgmtServed tag →
      exec (.mctpIbnovMessage tag true bytes) s = .next t.mgmtDiscard ∧
      (s.accepting = true → t.mgmtInFlight < 4 → t.creditsHeld 0 < (t.inst 0).credits → 16 ≤ bytes.length → h.frameOk = true →
        bytes.length = 20 + h.length →
        (trailerOk h bytes = true → exec (.mctpIbnovMessage tag false bytes) s =
          .next ((t.count 0 0 2).takePacket p h.opcode (t.acceptCheck 0 2 false h))) ∧
        (trailerOk h bytes = false → exec (.mctpIbnovMessage tag false bytes) s = .next (t.answerBroken h.opcode p .badCrc)))) ∧
    (∀ reg len,
      (basicReadOk reg len = false → exec (.basicRegisterRead reg len) s = .next (s.mgmtSend (mgmtBody 2 [1]))) ∧
      (basicReadOk reg len = true → reg + len ≤ 0x28 → exec (.basicRegisterRead reg len) s = .next (s.mgmtSend (mgmtBody 2
        (0 :: ((s.basicBytes (s.boot.timeHi.getD (s.devTime / 2 ^ 32 % 2 ^ 32))).drop reg).take len))))) ∧
    (∀ data, s.boot.stage = 14 → data.length = 256 → exec (.basicRegisterWrite 0x40 data) s =
      .next ((s.recPage data).mgmtSend (mgmtBody 3 [0]))) ∧
    (∀ reg data, s.boot.stage = 14 → 0x30 ≤ reg → reg ≤ 0x13C → data.length = 4 → exec (.basicRegisterWrite reg data) s =
      .next ((s.recWrite reg (leNat data)).mgmtSend (mgmtBody 3 [0]))) ∧
    (∀ op eid, (op = 0 ∨ op = 1) → 8 ≤ eid → eid < 255 → exec (.setEndpointId op eid) s =
      .next ((s.setBoot { s.boot with eid := some eid }).mgmtSend (ctrlBody 1 0 [0, BitVec.ofNat 8 eid, 0]))) ∧
    exec .getEndpointId s = .next (s.mgmtSend (ctrlBody 2 0 [BitVec.ofNat 8 (s.boot.eid.getD 0), 0, 0])) ∧
    exec .getEndpointUuid s = .next (s.mgmtSend (ctrlBody 3 0 Config.uuid)) ∧
    (∀ t, (t = 0xFF ∨ t = 0) → exec (.getMctpVersionSupport t) s = .next (s.mgmtSend (ctrlBody 4 0 [1, 0xF1, 0xF3, 0xF0, 0x00]))) ∧
    exec .getMessageTypeSupport s = .next (s.mgmtSend (ctrlBody 5 0 [1, 0x7E])) ∧
    exec (.getVendorDefinedMessageSupport 0) s = .next (s.mgmtSend (ctrlBody 6 0 [0xFF, 0, BitVec.ofNat 8 (Config.vendorId / 256),
      BitVec.ofNat 8 Config.vendorId, 0, 0])) ∧
    (∀ c, exec (.errorUnsupportedCmd c) s = .next (s.mgmtSend (ctrlBody c 5 []))) ∧
    (s.boot.stage = 14 → s.boot.recResult ≠ 3 →
      exec (.recoveryStart s.failedUnit) s = .next ((s.setFirmware { s.firmware with
        slots := s.firmware.slots.set (2 * s.failedUnit) .empty }).setBoot { s.boot with
          recUnit := s.failedUnit
          recData := []
          recOffset := 0
          recResult := 1 }) ∧
      (∀ data, data.length = 256 →
        (s.boot.recOffset = s.boot.recData.length → exec (.recoveryData data) s = .next (s.setBoot { s.boot with
          recData := s.boot.recData ++ data
          recOffset := (s.boot.recOffset + 256) % 2 ^ 24
          recResult := 2 })) ∧
        (s.boot.recOffset ≠ s.boot.recData.length → exec (.recoveryData data) s =
          .next (s.setBoot { s.boot with recResult := 5 }))) ∧
      (∀ u d ok t, u = s.failedUnit → d = s.boot.recData →
        ok = (headerOk u (s.firmware.counter.get u) d && decide (272 + imgBodyLen d ≤ d.length) && bodyOk d) →
        t = (s.setFirmware { s.firmware with slots := s.firmware.slots.set (2 * u) (slotOf d true) }).prefer u 0 →
        (ok = true → exec .recoveryCommit s = .next (t.setBoot { t.boot with recResult := 3 })) ∧
        (ok = false → exec .recoveryCommit s = .next (s.setBoot { s.boot with recResult := 4 }))))

/-- 02 R46, R47, R81 to R85, 23 R629 to R637: a function's reset, and the clearing of Bus Master Enable or of VFs, fence it; PERST_N
and the link take a port down and up; configuration writes take effect; a boot runs its steps with a reference or, later,
without one, waits for one, or halts; where it stands in STAGE 4 for the commands that come then, it goes on to its end. -/
def Obligations.PortsAndBootComplete : Prop :=
  ∀ (s : State),
    (∀ port, s.present (hPort port) = true →
      (∀ fn k, s.fnExists port fn = true → k = fnKey port fn →
        (fn ≠ 0 → exec (.functionLevelReset port fn) s = .next ((s.fenceFn k 2).pcieReset k)) ∧
        (fn = 0 → exec (.functionLevelReset port fn) s = .next (((s.fenceFn k 2).pcieReset k).setVfs port false 0)) ∧
        ((s.fn k).busMaster = true → exec (.busMasterEnableCleared port fn) s =
          .next ((s.fenceFn k 3).updFn k (fun f => { f with busMaster := false }))) ∧
        (4 ≤ s.boot.stage → ∀ v on, on = bitOf v 0 →
          exec (.configRequest port fn .read v) s = .next s ∧
          (on = true → exec (.configRequest port fn .busMaster v) s = .next (s.updFn k (fun f => { f with busMaster := true }))) ∧
          exec (.configRequest port fn .memorySpace v) s = .next (s.updFn k (fun f => { f with memorySpace := on })) ∧
          (fn = 0 → exec (.configRequest port fn .numVfs v) s = .next (s.setVfs port (s.ports.get port).vfEnable v)) ∧
          exec (.configRequest port fn .completionTimeout v) s = .next (s.updFn k (fun f => { f with cplTimeout := v % 32 })) ∧
          exec (.configRequest port fn .msixEnable v) s = .next ((s.updFn k (fun f => { f with msixEnable := on })).flushPba k) ∧
          exec (.configRequest port fn .functionMask v) s = .next ((s.updFn k (fun f => { f with fnMask := on })).flushPba k))) ∧
      (∀ b n, exec (.vfEnableCleared port b n) s = .next (s.setVfs port b n)) ∧
      (∀ t, t = s.fencePort port 1 → exec (.perstNAsserted port) s =
        .next (t.setPorts (t.ports.set port { t.ports.get port with perst := true }))) ∧
      exec (.perstNDeasserted port) s = .next (s.setPorts (s.ports.set port { s.ports.get port with
        perst := false
        training := decide (s.boot.stage ≠ 0) && !(s.ports.get port).linkUp })) ∧
      ((s.ports.get port).training = true → (s.ports.get port).perst = false → exec (.hostLinkUp port) s =
        .next (s.setPorts (s.ports.set port { s.ports.get port with
          training := false
          linkUp := true
          fcDone := true }))) ∧
      exec (.hostLinkDown port) s = .next ((s.fencePort port 5).retrainPort port)) ∧
    (∀ healthy mismatch pause, s.boot.stage = 4 → exec (.boot healthy mismatch pause) s = .next s.bootLedger) ∧
    (s.mayBoot = true →
      (∀ healthy mismatch t, t = s.bootStraps healthy →
        (∀ u, t.bootReference = some u →
          exec (.boot healthy mismatch true) s = .next (u.bootCupper.bootOn mismatch) ∧
          exec (.boot healthy mismatch false) s = .next (u.bootCupper.bootOn mismatch).bootFinish) ∧
        (∀ pause, t.bootReference = none → exec (.boot healthy mismatch pause) s = .next (t.bootAt 1 0))) ∧
      (∀ mismatch, s.boot.stage = 1 → s.refOrder.find? s.refOk = none → exec (.bootNoReference mismatch) s =
        .next (s.bootDegraded.bootCupper.bootOn mismatch).bootFinish) ∧
      (∀ healthy t, s.boot.stage = 0 → t = s.bootStraps healthy →
        (∀ u, t.bootReference = some u → exec (.flashSfdpTimeout healthy) s = .next (u.bootAt 15 5)) ∧
        (t.bootReference = none → exec (.flashSfdpTimeout healthy) s = .next (t.bootDegraded.bootAt 15 5)))) ∧
    (∀ t, s.boot.stage ≤ 1 ∨ s.boot.stage = 4 → t = s.shedLoad → exec .supplySagAtBoot s = .next ((t.setPower { t.power with
      sag := { t.power.sag with sagMark := true }
      wake := { t.power.wake with
        vreg := false
        osc := false
        memRdy := false
        logic := false } }).bootAt 0 0))

/-- An invariant that every step keeps, over all commands and idle steps: DRAM, the scratchpad, host memory and the ledger stay in
their one canonical form (the model's own form, log 18), no generation becomes 0 (01 R20), and the error queue holds at most 64
records (21 R588, R589). That it holds at reset is Obligations.ResetMeetsInvariants. -/
def Obligations.EveryStepKeepsInvariant : Prop :=
  ∀ (s t : State), s.Inv → step s = .next t → t.Inv
end

