-- ==== Sys2Proof/Laws/State.lean ====
section
/-!
SUPPORT. One lemma per field of State per update: what a setter sets and that it leaves every other field alone.
No later proof unfolds a record update.
-/

namespace Sys2Proof.Machine

/-- Setting `pending` sets it and changes no other field. -/
@[simp] theorem State.setPending_frame (s : State) (x : List Instr) :
    (s.setPending x).pending = x ∧
    (s.setPending x).board = s.board ∧
    (s.setPending x).devTime = s.devTime ∧
    (s.setPending x).freeCtr = s.freeCtr ∧
    (s.setPending x).ledger = s.ledger ∧
    (s.setPending x).loops = s.loops ∧
    (s.setPending x).insts = s.insts ∧
    (s.setPending x).ports = s.ports ∧
    (s.setPending x).fns = s.fns ∧
    (s.setPending x).tp = s.tp ∧
    (s.setPending x).eic = s.eic ∧
    (s.setPending x).bus = s.bus ∧
    (s.setPending x).hostMem = s.hostMem ∧
    (s.setPending x).dram = s.dram ∧
    (s.setPending x).spad = s.spad ∧
    (s.setPending x).memc = s.memc ∧
    (s.setPending x).copy = s.copy ∧
    (s.setPending x).surf = s.surf ∧
    (s.setPending x).gpu = s.gpu ∧
    (s.setPending x).blend = s.blend ∧
    (s.setPending x).colour = s.colour ∧
    (s.setPending x).pipes = s.pipes ∧
    (s.setPending x).err = s.err ∧
    (s.setPending x).tele = s.tele ∧
    (s.setPending x).links = s.links ∧
    (s.setPending x).touch = s.touch ∧
    (s.setPending x).haptics = s.haptics ∧
    (s.setPending x).audio = s.audio ∧
    (s.setPending x).sec = s.sec ∧
    (s.setPending x).clocks = s.clocks ∧
    (s.setPending x).power = s.power ∧
    (s.setPending x).firmware = s.firmware ∧
    (s.setPending x).boot = s.boot :=
  ⟨rfl, rfl, rfl, rfl, rfl, rfl, rfl, rfl, rfl, rfl, rfl, rfl, rfl, rfl, rfl, rfl, rfl, rfl, rfl, rfl, rfl, rfl, rfl, rfl, rfl, rfl, rfl, rfl, rfl, rfl, rfl, rfl, rfl⟩

/-- Setting `board` sets it and changes no other field. -/
@[simp] theorem State.setBoard_frame (s : State) (x : Board) :
    (s.setBoard x).pending = s.pending ∧
    (s.setBoard x).board = x ∧
    (s.setBoard x).devTime = s.devTime ∧
    (s.setBoard x).freeCtr = s.freeCtr ∧
    (s.setBoard x).ledger = s.ledger ∧
    (s.setBoard x).loops = s.loops ∧
    (s.setBoard x).insts = s.insts ∧
    (s.setBoard x).ports = s.ports ∧
    (s.setBoard x).fns = s.fns ∧
    (s.setBoard x).tp = s.tp ∧
    (s.setBoard x).eic = s.eic ∧
    (s.setBoard x).bus = s.bus ∧
    (s.setBoard x).hostMem = s.hostMem ∧
    (s.setBoard x).dram = s.dram ∧
    (s.setBoard x).spad = s.spad ∧
    (s.setBoard x).memc = s.memc ∧
    (s.setBoard x).copy = s.copy ∧
    (s.setBoard x).surf = s.surf ∧
    (s.setBoard x).gpu = s.gpu ∧
    (s.setBoard x).blend = s.blend ∧
    (s.setBoard x).colour = s.colour ∧
    (s.setBoard x).pipes = s.pipes ∧
    (s.setBoard x).err = s.err ∧
    (s.setBoard x).tele = s.tele ∧
    (s.setBoard x).links = s.links ∧
    (s.setBoard x).touch = s.touch ∧
    (s.setBoard x).haptics = s.haptics ∧
    (s.setBoard x).audio = s.audio ∧
    (s.setBoard x).sec = s.sec ∧
    (s.setBoard x).clocks = s.clocks ∧
    (s.setBoard x).power = s.power ∧
    (s.setBoard x).firmware = s.firmware ∧
    (s.setBoard x).boot = s.boot :=
  ⟨rfl, rfl, rfl, rfl, rfl, rfl, rfl, rfl, rfl, rfl, rfl, rfl, rfl, rfl, rfl, rfl, rfl, rfl, rfl, rfl, rfl, rfl, rfl, rfl, rfl, rfl, rfl, rfl, rfl, rfl, rfl, rfl, rfl⟩

/-- Setting `devTime` sets it and changes no other field. -/
@[simp] theorem State.setDevTime_frame (s : State) (x : Nat) :
    (s.setDevTime x).pending = s.pending ∧
    (s.setDevTime x).board = s.board ∧
    (s.setDevTime x).devTime = x ∧
    (s.setDevTime x).freeCtr = s.freeCtr ∧
    (s.setDevTime x).ledger = s.ledger ∧
    (s.setDevTime x).loops = s.loops ∧
    (s.setDevTime x).insts = s.insts ∧
    (s.setDevTime x).ports = s.ports ∧
    (s.setDevTime x).fns = s.fns ∧
    (s.setDevTime x).tp = s.tp ∧
    (s.setDevTime x).eic = s.eic ∧
    (s.setDevTime x).bus = s.bus ∧
    (s.setDevTime x).hostMem = s.hostMem ∧
    (s.setDevTime x).dram = s.dram ∧
    (s.setDevTime x).spad = s.spad ∧
    (s.setDevTime x).memc = s.memc ∧
    (s.setDevTime x).copy = s.copy ∧
    (s.setDevTime x).surf = s.surf ∧
    (s.setDevTime x).gpu = s.gpu ∧
    (s.setDevTime x).blend = s.blend ∧
    (s.setDevTime x).colour = s.colour ∧
    (s.setDevTime x).pipes = s.pipes ∧
    (s.setDevTime x).err = s.err ∧
    (s.setDevTime x).tele = s.tele ∧
    (s.setDevTime x).links = s.links ∧
    (s.setDevTime x).touch = s.touch ∧
    (s.setDevTime x).haptics = s.haptics ∧
    (s.setDevTime x).audio = s.audio ∧
    (s.setDevTime x).sec = s.sec ∧
    (s.setDevTime x).clocks = s.clocks ∧
    (s.setDevTime x).power = s.power ∧
    (s.setDevTime x).firmware = s.firmware ∧
    (s.setDevTime x).boot = s.boot :=
  ⟨rfl, rfl, rfl, rfl, rfl, rfl, rfl, rfl, rfl, rfl, rfl, rfl, rfl, rfl, rfl, rfl, rfl, rfl, rfl, rfl, rfl, rfl, rfl, rfl, rfl, rfl, rfl, rfl, rfl, rfl, rfl, rfl, rfl⟩

/-- Setting `freeCtr` sets it and changes no other field. -/
@[simp] theorem State.setFreeCtr_frame (s : State) (x : Nat) :
    (s.setFreeCtr x).pending = s.pending ∧
    (s.setFreeCtr x).board = s.board ∧
    (s.setFreeCtr x).devTime = s.devTime ∧
    (s.setFreeCtr x).freeCtr = x ∧
    (s.setFreeCtr x).ledger = s.ledger ∧
    (s.setFreeCtr x).loops = s.loops ∧
    (s.setFreeCtr x).insts = s.insts ∧
    (s.setFreeCtr x).ports = s.ports ∧
    (s.setFreeCtr x).fns = s.fns ∧
    (s.setFreeCtr x).tp = s.tp ∧
    (s.setFreeCtr x).eic = s.eic ∧
    (s.setFreeCtr x).bus = s.bus ∧
    (s.setFreeCtr x).hostMem = s.hostMem ∧
    (s.setFreeCtr x).dram = s.dram ∧
    (s.setFreeCtr x).spad = s.spad ∧
    (s.setFreeCtr x).memc = s.memc ∧
    (s.setFreeCtr x).copy = s.copy ∧
    (s.setFreeCtr x).surf = s.surf ∧
    (s.setFreeCtr x).gpu = s.gpu ∧
    (s.setFreeCtr x).blend = s.blend ∧
    (s.setFreeCtr x).colour = s.colour ∧
    (s.setFreeCtr x).pipes = s.pipes ∧
    (s.setFreeCtr x).err = s.err ∧
    (s.setFreeCtr x).tele = s.tele ∧
    (s.setFreeCtr x).links = s.links ∧
    (s.setFreeCtr x).touch = s.touch ∧
    (s.setFreeCtr x).haptics = s.haptics ∧
    (s.setFreeCtr x).audio = s.audio ∧
    (s.setFreeCtr x).sec = s.sec ∧
    (s.setFreeCtr x).clocks = s.clocks ∧
    (s.setFreeCtr x).power = s.power ∧
    (s.setFreeCtr x).firmware = s.firmware ∧
    (s.setFreeCtr x).boot = s.boot :=
  ⟨rfl, rfl, rfl, rfl, rfl, rfl, rfl, rfl, rfl, rfl, rfl, rfl, rfl, rfl, rfl, rfl, rfl, rfl, rfl, rfl, rfl, rfl, rfl, rfl, rfl, rfl, rfl, rfl, rfl, rfl, rfl, rfl, rfl⟩

/-- Setting `ledger` sets it and changes no other field. -/
@[simp] theorem State.setLedger_frame (s : State) (x : Tab Entry.reset) :
    (s.setLedger x).pending = s.pending ∧
    (s.setLedger x).board = s.board ∧
    (s.setLedger x).devTime = s.devTime ∧
    (s.setLedger x).freeCtr = s.freeCtr ∧
    (s.setLedger x).ledger = x ∧
    (s.setLedger x).loops = s.loops ∧
    (s.setLedger x).insts = s.insts ∧
    (s.setLedger x).ports = s.ports ∧
    (s.setLedger x).fns = s.fns ∧
    (s.setLedger x).tp = s.tp ∧
    (s.setLedger x).eic = s.eic ∧
    (s.setLedger x).bus = s.bus ∧
    (s.setLedger x).hostMem = s.hostMem ∧
    (s.setLedger x).dram = s.dram ∧
    (s.setLedger x).spad = s.spad ∧
    (s.setLedger x).memc = s.memc ∧
    (s.setLedger x).copy = s.copy ∧
    (s.setLedger x).surf = s.surf ∧
    (s.setLedger x).gpu = s.gpu ∧
    (s.setLedger x).blend = s.blend ∧
    (s.setLedger x).colour = s.colour ∧
    (s.setLedger x).pipes = s.pipes ∧
    (s.setLedger x).err = s.err ∧
    (s.setLedger x).tele = s.tele ∧
    (s.setLedger x).links = s.links ∧
    (s.setLedger x).touch = s.touch ∧
    (s.setLedger x).haptics = s.haptics ∧
    (s.setLedger x).audio = s.audio ∧
    (s.setLedger x).sec = s.sec ∧
    (s.setLedger x).clocks = s.clocks ∧
    (s.setLedger x).power = s.power ∧
    (s.setLedger x).firmware = s.firmware ∧
    (s.setLedger x).boot = s.boot :=
  ⟨rfl, rfl, rfl, rfl, rfl, rfl, rfl, rfl, rfl, rfl, rfl, rfl, rfl, rfl, rfl, rfl, rfl, rfl, rfl, rfl, rfl, rfl, rfl, rfl, rfl, rfl, rfl, rfl, rfl, rfl, rfl, rfl, rfl⟩

/-- Setting `loops` sets it and changes no other field. -/
@[simp] theorem State.setLoops_frame (s : State) (x : Tab (none : Option Loop)) :
    (s.setLoops x).pending = s.pending ∧
    (s.setLoops x).board = s.board ∧
    (s.setLoops x).devTime = s.devTime ∧
    (s.setLoops x).freeCtr = s.freeCtr ∧
    (s.setLoops x).ledger = s.ledger ∧
    (s.setLoops x).loops = x ∧
    (s.setLoops x).insts = s.insts ∧
    (s.setLoops x).ports = s.ports ∧
    (s.setLoops x).fns = s.fns ∧
    (s.setLoops x).tp = s.tp ∧
    (s.setLoops x).eic = s.eic ∧
    (s.setLoops x).bus = s.bus ∧
    (s.setLoops x).hostMem = s.hostMem ∧
    (s.setLoops x).dram = s.dram ∧
    (s.setLoops x).spad = s.spad ∧
    (s.setLoops x).memc = s.memc ∧
    (s.setLoops x).copy = s.copy ∧
    (s.setLoops x).surf = s.surf ∧
    (s.setLoops x).gpu = s.gpu ∧
    (s.setLoops x).blend = s.blend ∧
    (s.setLoops x).colour = s.colour ∧
    (s.setLoops x).pipes = s.pipes ∧
    (s.setLoops x).err = s.err ∧
    (s.setLoops x).tele = s.tele ∧
    (s.setLoops x).links = s.links ∧
    (s.setLoops x).touch = s.touch ∧
    (s.setLoops x).haptics = s.haptics ∧
    (s.setLoops x).audio = s.audio ∧
    (s.setLoops x).sec = s.sec ∧
    (s.setLoops x).clocks = s.clocks ∧
    (s.setLoops x).power = s.power ∧
    (s.setLoops x).firmware = s.firmware ∧
    (s.setLoops x).boot = s.boot :=
  ⟨rfl, rfl, rfl, rfl, rfl, rfl, rfl, rfl, rfl, rfl, rfl, rfl, rfl, rfl, rfl, rfl, rfl, rfl, rfl, rfl, rfl, rfl, rfl, rfl, rfl, rfl, rfl, rfl, rfl, rfl, rfl, rfl, rfl⟩

/-- Setting `insts` sets it and changes no other field. -/
@[simp] theorem State.setInsts_frame (s : State) (x : Tab Inst.none) :
    (s.setInsts x).pending = s.pending ∧
    (s.setInsts x).board = s.board ∧
    (s.setInsts x).devTime = s.devTime ∧
    (s.setInsts x).freeCtr = s.freeCtr ∧
    (s.setInsts x).ledger = s.ledger ∧
    (s.setInsts x).loops = s.loops ∧
    (s.setInsts x).insts = x ∧
    (s.setInsts x).ports = s.ports ∧
    (s.setInsts x).fns = s.fns ∧
    (s.setInsts x).tp = s.tp ∧
    (s.setInsts x).eic = s.eic ∧
    (s.setInsts x).bus = s.bus ∧
    (s.setInsts x).hostMem = s.hostMem ∧
    (s.setInsts x).dram = s.dram ∧
    (s.setInsts x).spad = s.spad ∧
    (s.setInsts x).memc = s.memc ∧
    (s.setInsts x).copy = s.copy ∧
    (s.setInsts x).surf = s.surf ∧
    (s.setInsts x).gpu = s.gpu ∧
    (s.setInsts x).blend = s.blend ∧
    (s.setInsts x).colour = s.colour ∧
    (s.setInsts x).pipes = s.pipes ∧
    (s.setInsts x).err = s.err ∧
    (s.setInsts x).tele = s.tele ∧
    (s.setInsts x).links = s.links ∧
    (s.setInsts x).touch = s.touch ∧
    (s.setInsts x).haptics = s.haptics ∧
    (s.setInsts x).audio = s.audio ∧
    (s.setInsts x).sec = s.sec ∧
    (s.setInsts x).clocks = s.clocks ∧
    (s.setInsts x).power = s.power ∧
    (s.setInsts x).firmware = s.firmware ∧
    (s.setInsts x).boot = s.boot :=
  ⟨rfl, rfl, rfl, rfl, rfl, rfl, rfl, rfl, rfl, rfl, rfl, rfl, rfl, rfl, rfl, rfl, rfl, rfl, rfl, rfl, rfl, rfl, rfl, rfl, rfl, rfl, rfl, rfl, rfl, rfl, rfl, rfl, rfl⟩

/-- Setting `ports` sets it and changes no other field. -/
@[simp] theorem State.setPorts_frame (s : State) (x : Tab Port.reset) :
    (s.setPorts x).pending = s.pending ∧
    (s.setPorts x).board = s.board ∧
    (s.setPorts x).devTime = s.devTime ∧
    (s.setPorts x).freeCtr = s.freeCtr ∧
    (s.setPorts x).ledger = s.ledger ∧
    (s.setPorts x).loops = s.loops ∧
    (s.setPorts x).insts = s.insts ∧
    (s.setPorts x).ports = x ∧
    (s.setPorts x).fns = s.fns ∧
    (s.setPorts x).tp = s.tp ∧
    (s.setPorts x).eic = s.eic ∧
    (s.setPorts x).bus = s.bus ∧
    (s.setPorts x).hostMem = s.hostMem ∧
    (s.setPorts x).dram = s.dram ∧
    (s.setPorts x).spad = s.spad ∧
    (s.setPorts x).memc = s.memc ∧
    (s.setPorts x).copy = s.copy ∧
    (s.setPorts x).surf = s.surf ∧
    (s.setPorts x).gpu = s.gpu ∧
    (s.setPorts x).blend = s.blend ∧
    (s.setPorts x).colour = s.colour ∧
    (s.setPorts x).pipes = s.pipes ∧
    (s.setPorts x).err = s.err ∧
    (s.setPorts x).tele = s.tele ∧
    (s.setPorts x).links = s.links ∧
    (s.setPorts x).touch = s.touch ∧
    (s.setPorts x).haptics = s.haptics ∧
    (s.setPorts x).audio = s.audio ∧
    (s.setPorts x).sec = s.sec ∧
    (s.setPorts x).clocks = s.clocks ∧
    (s.setPorts x).power = s.power ∧
    (s.setPorts x).firmware = s.firmware ∧
    (s.setPorts x).boot = s.boot :=
  ⟨rfl, rfl, rfl, rfl, rfl, rfl, rfl, rfl, rfl, rfl, rfl, rfl, rfl, rfl, rfl, rfl, rfl, rfl, rfl, rfl, rfl, rfl, rfl, rfl, rfl, rfl, rfl, rfl, rfl, rfl, rfl, rfl, rfl⟩

/-- Setting `fns` sets it and changes no other field. -/
@[simp] theorem State.setFns_frame (s : State) (x : Tab Fn.reset) :
    (s.setFns x).pending = s.pending ∧
    (s.setFns x).board = s.board ∧
    (s.setFns x).devTime = s.devTime ∧
    (s.setFns x).freeCtr = s.freeCtr ∧
    (s.setFns x).ledger = s.ledger ∧
    (s.setFns x).loops = s.loops ∧
    (s.setFns x).insts = s.insts ∧
    (s.setFns x).ports = s.ports ∧
    (s.setFns x).fns = x ∧
    (s.setFns x).tp = s.tp ∧
    (s.setFns x).eic = s.eic ∧
    (s.setFns x).bus = s.bus ∧
    (s.setFns x).hostMem = s.hostMem ∧
    (s.setFns x).dram = s.dram ∧
    (s.setFns x).spad = s.spad ∧
    (s.setFns x).memc = s.memc ∧
    (s.setFns x).copy = s.copy ∧
    (s.setFns x).surf = s.surf ∧
    (s.setFns x).gpu = s.gpu ∧
    (s.setFns x).blend = s.blend ∧
    (s.setFns x).colour = s.colour ∧
    (s.setFns x).pipes = s.pipes ∧
    (s.setFns x).err = s.err ∧
    (s.setFns x).tele = s.tele ∧
    (s.setFns x).links = s.links ∧
    (s.setFns x).touch = s.touch ∧
    (s.setFns x).haptics = s.haptics ∧
    (s.setFns x).audio = s.audio ∧
    (s.setFns x).sec = s.sec ∧
    (s.setFns x).clocks = s.clocks ∧
    (s.setFns x).power = s.power ∧
    (s.setFns x).firmware = s.firmware ∧
    (s.setFns x).boot = s.boot :=
  ⟨rfl, rfl, rfl, rfl, rfl, rfl, rfl, rfl, rfl, rfl, rfl, rfl, rfl, rfl, rfl, rfl, rfl, rfl, rfl, rfl, rfl, rfl, rfl, rfl, rfl, rfl, rfl, rfl, rfl, rfl, rfl, rfl, rfl⟩

/-- Setting `tp` sets it and changes no other field. -/
@[simp] theorem State.setTp_frame (s : State) (x : Transport) :
    (s.setTp x).pending = s.pending ∧
    (s.setTp x).board = s.board ∧
    (s.setTp x).devTime = s.devTime ∧
    (s.setTp x).freeCtr = s.freeCtr ∧
    (s.setTp x).ledger = s.ledger ∧
    (s.setTp x).loops = s.loops ∧
    (s.setTp x).insts = s.insts ∧
    (s.setTp x).ports = s.ports ∧
    (s.setTp x).fns = s.fns ∧
    (s.setTp x).tp = x ∧
    (s.setTp x).eic = s.eic ∧
    (s.setTp x).bus = s.bus ∧
    (s.setTp x).hostMem = s.hostMem ∧
    (s.setTp x).dram = s.dram ∧
    (s.setTp x).spad = s.spad ∧
    (s.setTp x).memc = s.memc ∧
    (s.setTp x).copy = s.copy ∧
    (s.setTp x).surf = s.surf ∧
    (s.setTp x).gpu = s.gpu ∧
    (s.setTp x).blend = s.blend ∧
    (s.setTp x).colour = s.colour ∧
    (s.setTp x).pipes = s.pipes ∧
    (s.setTp x).err = s.err ∧
    (s.setTp x).tele = s.tele ∧
    (s.setTp x).links = s.links ∧
    (s.setTp x).touch = s.touch ∧
    (s.setTp x).haptics = s.haptics ∧
    (s.setTp x).audio = s.audio ∧
    (s.setTp x).sec = s.sec ∧
    (s.setTp x).clocks = s.clocks ∧
    (s.setTp x).power = s.power ∧
    (s.setTp x).firmware = s.firmware ∧
    (s.setTp x).boot = s.boot :=
  ⟨rfl, rfl, rfl, rfl, rfl, rfl, rfl, rfl, rfl, rfl, rfl, rfl, rfl, rfl, rfl, rfl, rfl, rfl, rfl, rfl, rfl, rfl, rfl, rfl, rfl, rfl, rfl, rfl, rfl, rfl, rfl, rfl, rfl⟩

/-- Setting `eic` sets it and changes no other field. -/
@[simp] theorem State.setEic_frame (s : State) (x : Eic) :
    (s.setEic x).pending = s.pending ∧
    (s.setEic x).board = s.board ∧
    (s.setEic x).devTime = s.devTime ∧
    (s.setEic x).freeCtr = s.freeCtr ∧
    (s.setEic x).ledger = s.ledger ∧
    (s.setEic x).loops = s.loops ∧
    (s.setEic x).insts = s.insts ∧
    (s.setEic x).ports = s.ports ∧
    (s.setEic x).fns = s.fns ∧
    (s.setEic x).tp = s.tp ∧
    (s.setEic x).eic = x ∧
    (s.setEic x).bus = s.bus ∧
    (s.setEic x).hostMem = s.hostMem ∧
    (s.setEic x).dram = s.dram ∧
    (s.setEic x).spad = s.spad ∧
    (s.setEic x).memc = s.memc ∧
    (s.setEic x).copy = s.copy ∧
    (s.setEic x).surf = s.surf ∧
    (s.setEic x).gpu = s.gpu ∧
    (s.setEic x).blend = s.blend ∧
    (s.setEic x).colour = s.colour ∧
    (s.setEic x).pipes = s.pipes ∧
    (s.setEic x).err = s.err ∧
    (s.setEic x).tele = s.tele ∧
    (s.setEic x).links = s.links ∧
    (s.setEic x).touch = s.touch ∧
    (s.setEic x).haptics = s.haptics ∧
    (s.setEic x).audio = s.audio ∧
    (s.setEic x).sec = s.sec ∧
    (s.setEic x).clocks = s.clocks ∧
    (s.setEic x).power = s.power ∧
    (s.setEic x).firmware = s.firmware ∧
    (s.setEic x).boot = s.boot :=
  ⟨rfl, rfl, rfl, rfl, rfl, rfl, rfl, rfl, rfl, rfl, rfl, rfl, rfl, rfl, rfl, rfl, rfl, rfl, rfl, rfl, rfl, rfl, rfl, rfl, rfl, rfl, rfl, rfl, rfl, rfl, rfl, rfl, rfl⟩

/-- Setting `bus` sets it and changes no other field. -/
@[simp] theorem State.setBus_frame (s : State) (x : List Byte) :
    (s.setBus x).pending = s.pending ∧
    (s.setBus x).board = s.board ∧
    (s.setBus x).devTime = s.devTime ∧
    (s.setBus x).freeCtr = s.freeCtr ∧
    (s.setBus x).ledger = s.ledger ∧
    (s.setBus x).loops = s.loops ∧
    (s.setBus x).insts = s.insts ∧
    (s.setBus x).ports = s.ports ∧
    (s.setBus x).fns = s.fns ∧
    (s.setBus x).tp = s.tp ∧
    (s.setBus x).eic = s.eic ∧
    (s.setBus x).bus = x ∧
    (s.setBus x).hostMem = s.hostMem ∧
    (s.setBus x).dram = s.dram ∧
    (s.setBus x).spad = s.spad ∧
    (s.setBus x).memc = s.memc ∧
    (s.setBus x).copy = s.copy ∧
    (s.setBus x).surf = s.surf ∧
    (s.setBus x).gpu = s.gpu ∧
    (s.setBus x).blend = s.blend ∧
    (s.setBus x).colour = s.colour ∧
    (s.setBus x).pipes = s.pipes ∧
    (s.setBus x).err = s.err ∧
    (s.setBus x).tele = s.tele ∧
    (s.setBus x).links = s.links ∧
    (s.setBus x).touch = s.touch ∧
    (s.setBus x).haptics = s.haptics ∧
    (s.setBus x).audio = s.audio ∧
    (s.setBus x).sec = s.sec ∧
    (s.setBus x).clocks = s.clocks ∧
    (s.setBus x).power = s.power ∧
    (s.setBus x).firmware = s.firmware ∧
    (s.setBus x).boot = s.boot :=
  ⟨rfl, rfl, rfl, rfl, rfl, rfl, rfl, rfl, rfl, rfl, rfl, rfl, rfl, rfl, rfl, rfl, rfl, rfl, rfl, rfl, rfl, rfl, rfl, rfl, rfl, rfl, rfl, rfl, rfl, rfl, rfl, rfl, rfl⟩

/-- Setting `hostMem` sets it and changes no other field. -/
@[simp] theorem State.setHostMem_frame (s : State) (x : Mem) :
    (s.setHostMem x).pending = s.pending ∧
    (s.setHostMem x).board = s.board ∧
    (s.setHostMem x).devTime = s.devTime ∧
    (s.setHostMem x).freeCtr = s.freeCtr ∧
    (s.setHostMem x).ledger = s.ledger ∧
    (s.setHostMem x).loops = s.loops ∧
    (s.setHostMem x).insts = s.insts ∧
    (s.setHostMem x).ports = s.ports ∧
    (s.setHostMem x).fns = s.fns ∧
    (s.setHostMem x).tp = s.tp ∧
    (s.setHostMem x).eic = s.eic ∧
    (s.setHostMem x).bus = s.bus ∧
    (s.setHostMem x).hostMem = x ∧
    (s.setHostMem x).dram = s.dram ∧
    (s.setHostMem x).spad = s.spad ∧
    (s.setHostMem x).memc = s.memc ∧
    (s.setHostMem x).copy = s.copy ∧
    (s.setHostMem x).surf = s.surf ∧
    (s.setHostMem x).gpu = s.gpu ∧
    (s.setHostMem x).blend = s.blend ∧
    (s.setHostMem x).colour = s.colour ∧
    (s.setHostMem x).pipes = s.pipes ∧
    (s.setHostMem x).err = s.err ∧
    (s.setHostMem x).tele = s.tele ∧
    (s.setHostMem x).links = s.links ∧
    (s.setHostMem x).touch = s.touch ∧
    (s.setHostMem x).haptics = s.haptics ∧
    (s.setHostMem x).audio = s.audio ∧
    (s.setHostMem x).sec = s.sec ∧
    (s.setHostMem x).clocks = s.clocks ∧
    (s.setHostMem x).power = s.power ∧
    (s.setHostMem x).firmware = s.firmware ∧
    (s.setHostMem x).boot = s.boot :=
  ⟨rfl, rfl, rfl, rfl, rfl, rfl, rfl, rfl, rfl, rfl, rfl, rfl, rfl, rfl, rfl, rfl, rfl, rfl, rfl, rfl, rfl, rfl, rfl, rfl, rfl, rfl, rfl, rfl, rfl, rfl, rfl, rfl, rfl⟩

/-- Setting `dram` sets it and changes no other field. -/
@[simp] theorem State.setDram_frame (s : State) (x : Mem) :
    (s.setDram x).pending = s.pending ∧
    (s.setDram x).board = s.board ∧
    (s.setDram x).devTime = s.devTime ∧
    (s.setDram x).freeCtr = s.freeCtr ∧
    (s.setDram x).ledger = s.ledger ∧
    (s.setDram x).loops = s.loops ∧
    (s.setDram x).insts = s.insts ∧
    (s.setDram x).ports = s.ports ∧
    (s.setDram x).fns = s.fns ∧
    (s.setDram x).tp = s.tp ∧
    (s.setDram x).eic = s.eic ∧
    (s.setDram x).bus = s.bus ∧
    (s.setDram x).hostMem = s.hostMem ∧
    (s.setDram x).dram = x ∧
    (s.setDram x).spad = s.spad ∧
    (s.setDram x).memc = s.memc ∧
    (s.setDram x).copy = s.copy ∧
    (s.setDram x).surf = s.surf ∧
    (s.setDram x).gpu = s.gpu ∧
    (s.setDram x).blend = s.blend ∧
    (s.setDram x).colour = s.colour ∧
    (s.setDram x).pipes = s.pipes ∧
    (s.setDram x).err = s.err ∧
    (s.setDram x).tele = s.tele ∧
    (s.setDram x).links = s.links ∧
    (s.setDram x).touch = s.touch ∧
    (s.setDram x).haptics = s.haptics ∧
    (s.setDram x).audio = s.audio ∧
    (s.setDram x).sec = s.sec ∧
    (s.setDram x).clocks = s.clocks ∧
    (s.setDram x).power = s.power ∧
    (s.setDram x).firmware = s.firmware ∧
    (s.setDram x).boot = s.boot :=
  ⟨rfl, rfl, rfl, rfl, rfl, rfl, rfl, rfl, rfl, rfl, rfl, rfl, rfl, rfl, rfl, rfl, rfl, rfl, rfl, rfl, rfl, rfl, rfl, rfl, rfl, rfl, rfl, rfl, rfl, rfl, rfl, rfl, rfl⟩

/-- Setting `spad` sets it and changes no other field. -/
@[simp] theorem State.setSpad_frame (s : State) (x : Mem) :
    (s.setSpad x).pending = s.pending ∧
    (s.setSpad x).board = s.board ∧
    (s.setSpad x).devTime = s.devTime ∧
    (s.setSpad x).freeCtr = s.freeCtr ∧
    (s.setSpad x).ledger = s.ledger ∧
    (s.setSpad x).loops = s.loops ∧
    (s.setSpad x).insts = s.insts ∧
    (s.setSpad x).ports = s.ports ∧
    (s.setSpad x).fns = s.fns ∧
    (s.setSpad x).tp = s.tp ∧
    (s.setSpad x).eic = s.eic ∧
    (s.setSpad x).bus = s.bus ∧
    (s.setSpad x).hostMem = s.hostMem ∧
    (s.setSpad x).dram = s.dram ∧
    (s.setSpad x).spad = x ∧
    (s.setSpad x).memc = s.memc ∧
    (s.setSpad x).copy = s.copy ∧
    (s.setSpad x).surf = s.surf ∧
    (s.setSpad x).gpu = s.gpu ∧
    (s.setSpad x).blend = s.blend ∧
    (s.setSpad x).colour = s.colour ∧
    (s.setSpad x).pipes = s.pipes ∧
    (s.setSpad x).err = s.err ∧
    (s.setSpad x).tele = s.tele ∧
    (s.setSpad x).links = s.links ∧
    (s.setSpad x).touch = s.touch ∧
    (s.setSpad x).haptics = s.haptics ∧
    (s.setSpad x).audio = s.audio ∧
    (s.setSpad x).sec = s.sec ∧
    (s.setSpad x).clocks = s.clocks ∧
    (s.setSpad x).power = s.power ∧
    (s.setSpad x).firmware = s.firmware ∧
    (s.setSpad x).boot = s.boot :=
  ⟨rfl, rfl, rfl, rfl, rfl, rfl, rfl, rfl, rfl, rfl, rfl, rfl, rfl, rfl, rfl, rfl, rfl, rfl, rfl, rfl, rfl, rfl, rfl, rfl, rfl, rfl, rfl, rfl, rfl, rfl, rfl, rfl, rfl⟩

/-- Setting `memc` sets it and changes no other field. -/
@[simp] theorem State.setMemc_frame (s : State) (x : Memc) :
    (s.setMemc x).pending = s.pending ∧
    (s.setMemc x).board = s.board ∧
    (s.setMemc x).devTime = s.devTime ∧
    (s.setMemc x).freeCtr = s.freeCtr ∧
    (s.setMemc x).ledger = s.ledger ∧
    (s.setMemc x).loops = s.loops ∧
    (s.setMemc x).insts = s.insts ∧
    (s.setMemc x).ports = s.ports ∧
    (s.setMemc x).fns = s.fns ∧
    (s.setMemc x).tp = s.tp ∧
    (s.setMemc x).eic = s.eic ∧
    (s.setMemc x).bus = s.bus ∧
    (s.setMemc x).hostMem = s.hostMem ∧
    (s.setMemc x).dram = s.dram ∧
    (s.setMemc x).spad = s.spad ∧
    (s.setMemc x).memc = x ∧
    (s.setMemc x).copy = s.copy ∧
    (s.setMemc x).surf = s.surf ∧
    (s.setMemc x).gpu = s.gpu ∧
    (s.setMemc x).blend = s.blend ∧
    (s.setMemc x).colour = s.colour ∧
    (s.setMemc x).pipes = s.pipes ∧
    (s.setMemc x).err = s.err ∧
    (s.setMemc x).tele = s.tele ∧
    (s.setMemc x).links = s.links ∧
    (s.setMemc x).touch = s.touch ∧
    (s.setMemc x).haptics = s.haptics ∧
    (s.setMemc x).audio = s.audio ∧
    (s.setMemc x).sec = s.sec ∧
    (s.setMemc x).clocks = s.clocks ∧
    (s.setMemc x).power = s.power ∧
    (s.setMemc x).firmware = s.firmware ∧
    (s.setMemc x).boot = s.boot :=
  ⟨rfl, rfl, rfl, rfl, rfl, rfl, rfl, rfl, rfl, rfl, rfl, rfl, rfl, rfl, rfl, rfl, rfl, rfl, rfl, rfl, rfl, rfl, rfl, rfl, rfl, rfl, rfl, rfl, rfl, rfl, rfl, rfl, rfl⟩

/-- Setting `copy` sets it and changes no other field. -/
@[simp] theorem State.setCopy_frame (s : State) (x : List CopyJob) :
    (s.setCopy x).pending = s.pending ∧
    (s.setCopy x).board = s.board ∧
    (s.setCopy x).devTime = s.devTime ∧
    (s.setCopy x).freeCtr = s.freeCtr ∧
    (s.setCopy x).ledger = s.ledger ∧
    (s.setCopy x).loops = s.loops ∧
    (s.setCopy x).insts = s.insts ∧
    (s.setCopy x).ports = s.ports ∧
    (s.setCopy x).fns = s.fns ∧
    (s.setCopy x).tp = s.tp ∧
    (s.setCopy x).eic = s.eic ∧
    (s.setCopy x).bus = s.bus ∧
    (s.setCopy x).hostMem = s.hostMem ∧
    (s.setCopy x).dram = s.dram ∧
    (s.setCopy x).spad = s.spad ∧
    (s.setCopy x).memc = s.memc ∧
    (s.setCopy x).copy = x ∧
    (s.setCopy x).surf = s.surf ∧
    (s.setCopy x).gpu = s.gpu ∧
    (s.setCopy x).blend = s.blend ∧
    (s.setCopy x).colour = s.colour ∧
    (s.setCopy x).pipes = s.pipes ∧
    (s.setCopy x).err = s.err ∧
    (s.setCopy x).tele = s.tele ∧
    (s.setCopy x).links = s.links ∧
    (s.setCopy x).touch = s.touch ∧
    (s.setCopy x).haptics = s.haptics ∧
    (s.setCopy x).audio = s.audio ∧
    (s.setCopy x).sec = s.sec ∧
    (s.setCopy x).clocks = s.clocks ∧
    (s.setCopy x).power = s.power ∧
    (s.setCopy x).firmware = s.firmware ∧
    (s.setCopy x).boot = s.boot :=
  ⟨rfl, rfl, rfl, rfl, rfl, rfl, rfl, rfl, rfl, rfl, rfl, rfl, rfl, rfl, rfl, rfl, rfl, rfl, rfl, rfl, rfl, rfl, rfl, rfl, rfl, rfl, rfl, rfl, rfl, rfl, rfl, rfl, rfl⟩

/-- Setting `surf` sets it and changes no other field. -/
@[simp] theorem State.setSurf_frame (s : State) (x : Surf) :
    (s.setSurf x).pending = s.pending ∧
    (s.setSurf x).board = s.board ∧
    (s.setSurf x).devTime = s.devTime ∧
    (s.setSurf x).freeCtr = s.freeCtr ∧
    (s.setSurf x).ledger = s.ledger ∧
    (s.setSurf x).loops = s.loops ∧
    (s.setSurf x).insts = s.insts ∧
    (s.setSurf x).ports = s.ports ∧
    (s.setSurf x).fns = s.fns ∧
    (s.setSurf x).tp = s.tp ∧
    (s.setSurf x).eic = s.eic ∧
    (s.setSurf x).bus = s.bus ∧
    (s.setSurf x).hostMem = s.hostMem ∧
    (s.setSurf x).dram = s.dram ∧
    (s.setSurf x).spad = s.spad ∧
    (s.setSurf x).memc = s.memc ∧
    (s.setSurf x).copy = s.copy ∧
    (s.setSurf x).surf = x ∧
    (s.setSurf x).gpu = s.gpu ∧
    (s.setSurf x).blend = s.blend ∧
    (s.setSurf x).colour = s.colour ∧
    (s.setSurf x).pipes = s.pipes ∧
    (s.setSurf x).err = s.err ∧
    (s.setSurf x).tele = s.tele ∧
    (s.setSurf x).links = s.links ∧
    (s.setSurf x).touch = s.touch ∧
    (s.setSurf x).haptics = s.haptics ∧
    (s.setSurf x).audio = s.audio ∧
    (s.setSurf x).sec = s.sec ∧
    (s.setSurf x).clocks = s.clocks ∧
    (s.setSurf x).power = s.power ∧
    (s.setSurf x).firmware = s.firmware ∧
    (s.setSurf x).boot = s.boot :=
  ⟨rfl, rfl, rfl, rfl, rfl, rfl, rfl, rfl, rfl, rfl, rfl, rfl, rfl, rfl, rfl, rfl, rfl, rfl, rfl, rfl, rfl, rfl, rfl, rfl, rfl, rfl, rfl, rfl, rfl, rfl, rfl, rfl, rfl⟩

/-- Setting `gpu` sets it and changes no other field. -/
@[simp] theorem State.setGpu_frame (s : State) (x : Gpu) :
    (s.setGpu x).pending = s.pending ∧
    (s.setGpu x).board = s.board ∧
    (s.setGpu x).devTime = s.devTime ∧
    (s.setGpu x).freeCtr = s.freeCtr ∧
    (s.setGpu x).ledger = s.ledger ∧
    (s.setGpu x).loops = s.loops ∧
    (s.setGpu x).insts = s.insts ∧
    (s.setGpu x).ports = s.ports ∧
    (s.setGpu x).fns = s.fns ∧
    (s.setGpu x).tp = s.tp ∧
    (s.setGpu x).eic = s.eic ∧
    (s.setGpu x).bus = s.bus ∧
    (s.setGpu x).hostMem = s.hostMem ∧
    (s.setGpu x).dram = s.dram ∧
    (s.setGpu x).spad = s.spad ∧
    (s.setGpu x).memc = s.memc ∧
    (s.setGpu x).copy = s.copy ∧
    (s.setGpu x).surf = s.surf ∧
    (s.setGpu x).gpu = x ∧
    (s.setGpu x).blend = s.blend ∧
    (s.setGpu x).colour = s.colour ∧
    (s.setGpu x).pipes = s.pipes ∧
    (s.setGpu x).err = s.err ∧
    (s.setGpu x).tele = s.tele ∧
    (s.setGpu x).links = s.links ∧
    (s.setGpu x).touch = s.touch ∧
    (s.setGpu x).haptics = s.haptics ∧
    (s.setGpu x).audio = s.audio ∧
    (s.setGpu x).sec = s.sec ∧
    (s.setGpu x).clocks = s.clocks ∧
    (s.setGpu x).power = s.power ∧
    (s.setGpu x).firmware = s.firmware ∧
    (s.setGpu x).boot = s.boot :=
  ⟨rfl, rfl, rfl, rfl, rfl, rfl, rfl, rfl, rfl, rfl, rfl, rfl, rfl, rfl, rfl, rfl, rfl, rfl, rfl, rfl, rfl, rfl, rfl, rfl, rfl, rfl, rfl, rfl, rfl, rfl, rfl, rfl, rfl⟩

/-- Setting `blend` sets it and changes no other field. -/
@[simp] theorem State.setBlend_frame (s : State) (x : Blend) :
    (s.setBlend x).pending = s.pending ∧
    (s.setBlend x).board = s.board ∧
    (s.setBlend x).devTime = s.devTime ∧
    (s.setBlend x).freeCtr = s.freeCtr ∧
    (s.setBlend x).ledger = s.ledger ∧
    (s.setBlend x).loops = s.loops ∧
    (s.setBlend x).insts = s.insts ∧
    (s.setBlend x).ports = s.ports ∧
    (s.setBlend x).fns = s.fns ∧
    (s.setBlend x).tp = s.tp ∧
    (s.setBlend x).eic = s.eic ∧
    (s.setBlend x).bus = s.bus ∧
    (s.setBlend x).hostMem = s.hostMem ∧
    (s.setBlend x).dram = s.dram ∧
    (s.setBlend x).spad = s.spad ∧
    (s.setBlend x).memc = s.memc ∧
    (s.setBlend x).copy = s.copy ∧
    (s.setBlend x).surf = s.surf ∧
    (s.setBlend x).gpu = s.gpu ∧
    (s.setBlend x).blend = x ∧
    (s.setBlend x).colour = s.colour ∧
    (s.setBlend x).pipes = s.pipes ∧
    (s.setBlend x).err = s.err ∧
    (s.setBlend x).tele = s.tele ∧
    (s.setBlend x).links = s.links ∧
    (s.setBlend x).touch = s.touch ∧
    (s.setBlend x).haptics = s.haptics ∧
    (s.setBlend x).audio = s.audio ∧
    (s.setBlend x).sec = s.sec ∧
    (s.setBlend x).clocks = s.clocks ∧
    (s.setBlend x).power = s.power ∧
    (s.setBlend x).firmware = s.firmware ∧
    (s.setBlend x).boot = s.boot :=
  ⟨rfl, rfl, rfl, rfl, rfl, rfl, rfl, rfl, rfl, rfl, rfl, rfl, rfl, rfl, rfl, rfl, rfl, rfl, rfl, rfl, rfl, rfl, rfl, rfl, rfl, rfl, rfl, rfl, rfl, rfl, rfl, rfl, rfl⟩

/-- Setting `colour` sets it and changes no other field. -/
@[simp] theorem State.setColour_frame (s : State) (x : Tab Colour.reset) :
    (s.setColour x).pending = s.pending ∧
    (s.setColour x).board = s.board ∧
    (s.setColour x).devTime = s.devTime ∧
    (s.setColour x).freeCtr = s.freeCtr ∧
    (s.setColour x).ledger = s.ledger ∧
    (s.setColour x).loops = s.loops ∧
    (s.setColour x).insts = s.insts ∧
    (s.setColour x).ports = s.ports ∧
    (s.setColour x).fns = s.fns ∧
    (s.setColour x).tp = s.tp ∧
    (s.setColour x).eic = s.eic ∧
    (s.setColour x).bus = s.bus ∧
    (s.setColour x).hostMem = s.hostMem ∧
    (s.setColour x).dram = s.dram ∧
    (s.setColour x).spad = s.spad ∧
    (s.setColour x).memc = s.memc ∧
    (s.setColour x).copy = s.copy ∧
    (s.setColour x).surf = s.surf ∧
    (s.setColour x).gpu = s.gpu ∧
    (s.setColour x).blend = s.blend ∧
    (s.setColour x).colour = x ∧
    (s.setColour x).pipes = s.pipes ∧
    (s.setColour x).err = s.err ∧
    (s.setColour x).tele = s.tele ∧
    (s.setColour x).links = s.links ∧
    (s.setColour x).touch = s.touch ∧
    (s.setColour x).haptics = s.haptics ∧
    (s.setColour x).audio = s.audio ∧
    (s.setColour x).sec = s.sec ∧
    (s.setColour x).clocks = s.clocks ∧
    (s.setColour x).power = s.power ∧
    (s.setColour x).firmware = s.firmware ∧
    (s.setColour x).boot = s.boot :=
  ⟨rfl, rfl, rfl, rfl, rfl, rfl, rfl, rfl, rfl, rfl, rfl, rfl, rfl, rfl, rfl, rfl, rfl, rfl, rfl, rfl, rfl, rfl, rfl, rfl, rfl, rfl, rfl, rfl, rfl, rfl, rfl, rfl, rfl⟩

/-- Setting `pipes` sets it and changes no other field. -/
@[simp] theorem State.setPipes_frame (s : State) (x : Pipes) :
    (s.setPipes x).pending = s.pending ∧
    (s.setPipes x).board = s.board ∧
    (s.setPipes x).devTime = s.devTime ∧
    (s.setPipes x).freeCtr = s.freeCtr ∧
    (s.setPipes x).ledger = s.ledger ∧
    (s.setPipes x).loops = s.loops ∧
    (s.setPipes x).insts = s.insts ∧
    (s.setPipes x).ports = s.ports ∧
    (s.setPipes x).fns = s.fns ∧
    (s.setPipes x).tp = s.tp ∧
    (s.setPipes x).eic = s.eic ∧
    (s.setPipes x).bus = s.bus ∧
    (s.setPipes x).hostMem = s.hostMem ∧
    (s.setPipes x).dram = s.dram ∧
    (s.setPipes x).spad = s.spad ∧
    (s.setPipes x).memc = s.memc ∧
    (s.setPipes x).copy = s.copy ∧
    (s.setPipes x).surf = s.surf ∧
    (s.setPipes x).gpu = s.gpu ∧
    (s.setPipes x).blend = s.blend ∧
    (s.setPipes x).colour = s.colour ∧
    (s.setPipes x).pipes = x ∧
    (s.setPipes x).err = s.err ∧
    (s.setPipes x).tele = s.tele ∧
    (s.setPipes x).links = s.links ∧
    (s.setPipes x).touch = s.touch ∧
    (s.setPipes x).haptics = s.haptics ∧
    (s.setPipes x).audio = s.audio ∧
    (s.setPipes x).sec = s.sec ∧
    (s.setPipes x).clocks = s.clocks ∧
    (s.setPipes x).power = s.power ∧
    (s.setPipes x).firmware = s.firmware ∧
    (s.setPipes x).boot = s.boot :=
  ⟨rfl, rfl, rfl, rfl, rfl, rfl, rfl, rfl, rfl, rfl, rfl, rfl, rfl, rfl, rfl, rfl, rfl, rfl, rfl, rfl, rfl, rfl, rfl, rfl, rfl, rfl, rfl, rfl, rfl, rfl, rfl, rfl, rfl⟩

/-- Setting `err` sets it and changes no other field. -/
@[simp] theorem State.setErr_frame (s : State) (x : Err) :
    (s.setErr x).pending = s.pending ∧
    (s.setErr x).board = s.board ∧
    (s.setErr x).devTime = s.devTime ∧
    (s.setErr x).freeCtr = s.freeCtr ∧
    (s.setErr x).ledger = s.ledger ∧
    (s.setErr x).loops = s.loops ∧
    (s.setErr x).insts = s.insts ∧
    (s.setErr x).ports = s.ports ∧
    (s.setErr x).fns = s.fns ∧
    (s.setErr x).tp = s.tp ∧
    (s.setErr x).eic = s.eic ∧
    (s.setErr x).bus = s.bus ∧
    (s.setErr x).hostMem = s.hostMem ∧
    (s.setErr x).dram = s.dram ∧
    (s.setErr x).spad = s.spad ∧
    (s.setErr x).memc = s.memc ∧
    (s.setErr x).copy = s.copy ∧
    (s.setErr x).surf = s.surf ∧
    (s.setErr x).gpu = s.gpu ∧
    (s.setErr x).blend = s.blend ∧
    (s.setErr x).colour = s.colour ∧
    (s.setErr x).pipes = s.pipes ∧
    (s.setErr x).err = x ∧
    (s.setErr x).tele = s.tele ∧
    (s.setErr x).links = s.links ∧
    (s.setErr x).touch = s.touch ∧
    (s.setErr x).haptics = s.haptics ∧
    (s.setErr x).audio = s.audio ∧
    (s.setErr x).sec = s.sec ∧
    (s.setErr x).clocks = s.clocks ∧
    (s.setErr x).power = s.power ∧
    (s.setErr x).firmware = s.firmware ∧
    (s.setErr x).boot = s.boot :=
  ⟨rfl, rfl, rfl, rfl, rfl, rfl, rfl, rfl, rfl, rfl, rfl, rfl, rfl, rfl, rfl, rfl, rfl, rfl, rfl, rfl, rfl, rfl, rfl, rfl, rfl, rfl, rfl, rfl, rfl, rfl, rfl, rfl, rfl⟩

/-- Setting `tele` sets it and changes no other field. -/
@[simp] theorem State.setTele_frame (s : State) (x : Tab (0 : Nat)) :
    (s.setTele x).pending = s.pending ∧
    (s.setTele x).board = s.board ∧
    (s.setTele x).devTime = s.devTime ∧
    (s.setTele x).freeCtr = s.freeCtr ∧
    (s.setTele x).ledger = s.ledger ∧
    (s.setTele x).loops = s.loops ∧
    (s.setTele x).insts = s.insts ∧
    (s.setTele x).ports = s.ports ∧
    (s.setTele x).fns = s.fns ∧
    (s.setTele x).tp = s.tp ∧
    (s.setTele x).eic = s.eic ∧
    (s.setTele x).bus = s.bus ∧
    (s.setTele x).hostMem = s.hostMem ∧
    (s.setTele x).dram = s.dram ∧
    (s.setTele x).spad = s.spad ∧
    (s.setTele x).memc = s.memc ∧
    (s.setTele x).copy = s.copy ∧
    (s.setTele x).surf = s.surf ∧
    (s.setTele x).gpu = s.gpu ∧
    (s.setTele x).blend = s.blend ∧
    (s.setTele x).colour = s.colour ∧
    (s.setTele x).pipes = s.pipes ∧
    (s.setTele x).err = s.err ∧
    (s.setTele x).tele = x ∧
    (s.setTele x).links = s.links ∧
    (s.setTele x).touch = s.touch ∧
    (s.setTele x).haptics = s.haptics ∧
    (s.setTele x).audio = s.audio ∧
    (s.setTele x).sec = s.sec ∧
    (s.setTele x).clocks = s.clocks ∧
    (s.setTele x).power = s.power ∧
    (s.setTele x).firmware = s.firmware ∧
    (s.setTele x).boot = s.boot :=
  ⟨rfl, rfl, rfl, rfl, rfl, rfl, rfl, rfl, rfl, rfl, rfl, rfl, rfl, rfl, rfl, rfl, rfl, rfl, rfl, rfl, rfl, rfl, rfl, rfl, rfl, rfl, rfl, rfl, rfl, rfl, rfl, rfl, rfl⟩

/-- Setting `links` sets it and changes no other field. -/
@[simp] theorem State.setLinks_frame (s : State) (x : Links) :
    (s.setLinks x).pending = s.pending ∧
    (s.setLinks x).board = s.board ∧
    (s.setLinks x).devTime = s.devTime ∧
    (s.setLinks x).freeCtr = s.freeCtr ∧
    (s.setLinks x).ledger = s.ledger ∧
    (s.setLinks x).loops = s.loops ∧
    (s.setLinks x).insts = s.insts ∧
    (s.setLinks x).ports = s.ports ∧
    (s.setLinks x).fns = s.fns ∧
    (s.setLinks x).tp = s.tp ∧
    (s.setLinks x).eic = s.eic ∧
    (s.setLinks x).bus = s.bus ∧
    (s.setLinks x).hostMem = s.hostMem ∧
    (s.setLinks x).dram = s.dram ∧
    (s.setLinks x).spad = s.spad ∧
    (s.setLinks x).memc = s.memc ∧
    (s.setLinks x).copy = s.copy ∧
    (s.setLinks x).surf = s.surf ∧
    (s.setLinks x).gpu = s.gpu ∧
    (s.setLinks x).blend = s.blend ∧
    (s.setLinks x).colour = s.colour ∧
    (s.setLinks x).pipes = s.pipes ∧
    (s.setLinks x).err = s.err ∧
    (s.setLinks x).tele = s.tele ∧
    (s.setLinks x).links = x ∧
    (s.setLinks x).touch = s.touch ∧
    (s.setLinks x).haptics = s.haptics ∧
    (s.setLinks x).audio = s.audio ∧
    (s.setLinks x).sec = s.sec ∧
    (s.setLinks x).clocks = s.clocks ∧
    (s.setLinks x).power = s.power ∧
    (s.setLinks x).firmware = s.firmware ∧
    (s.setLinks x).boot = s.boot :=
  ⟨rfl, rfl, rfl, rfl, rfl, rfl, rfl, rfl, rfl, rfl, rfl, rfl, rfl, rfl, rfl, rfl, rfl, rfl, rfl, rfl, rfl, rfl, rfl, rfl, rfl, rfl, rfl, rfl, rfl, rfl, rfl, rfl, rfl⟩

/-- Setting `touch` sets it and changes no other field. -/
@[simp] theorem State.setTouch_frame (s : State) (x : Touch) :
    (s.setTouch x).pending = s.pending ∧
    (s.setTouch x).board = s.board ∧
    (s.setTouch x).devTime = s.devTime ∧
    (s.setTouch x).freeCtr = s.freeCtr ∧
    (s.setTouch x).ledger = s.ledger ∧
    (s.setTouch x).loops = s.loops ∧
    (s.setTouch x).insts = s.insts ∧
    (s.setTouch x).ports = s.ports ∧
    (s.setTouch x).fns = s.fns ∧
    (s.setTouch x).tp = s.tp ∧
    (s.setTouch x).eic = s.eic ∧
    (s.setTouch x).bus = s.bus ∧
    (s.setTouch x).hostMem = s.hostMem ∧
    (s.setTouch x).dram = s.dram ∧
    (s.setTouch x).spad = s.spad ∧
    (s.setTouch x).memc = s.memc ∧
    (s.setTouch x).copy = s.copy ∧
    (s.setTouch x).surf = s.surf ∧
    (s.setTouch x).gpu = s.gpu ∧
    (s.setTouch x).blend = s.blend ∧
    (s.setTouch x).colour = s.colour ∧
    (s.setTouch x).pipes = s.pipes ∧
    (s.setTouch x).err = s.err ∧
    (s.setTouch x).tele = s.tele ∧
    (s.setTouch x).links = s.links ∧
    (s.setTouch x).touch = x ∧
    (s.setTouch x).haptics = s.haptics ∧
    (s.setTouch x).audio = s.audio ∧
    (s.setTouch x).sec = s.sec ∧
    (s.setTouch x).clocks = s.clocks ∧
    (s.setTouch x).power = s.power ∧
    (s.setTouch x).firmware = s.firmware ∧
    (s.setTouch x).boot = s.boot :=
  ⟨rfl, rfl, rfl, rfl, rfl, rfl, rfl, rfl, rfl, rfl, rfl, rfl, rfl, rfl, rfl, rfl, rfl, rfl, rfl, rfl, rfl, rfl, rfl, rfl, rfl, rfl, rfl, rfl, rfl, rfl, rfl, rfl, rfl⟩

/-- Setting `haptics` sets it and changes no other field. -/
@[simp] theorem State.setHaptics_frame (s : State) (x : Haptics) :
    (s.setHaptics x).pending = s.pending ∧
    (s.setHaptics x).board = s.board ∧
    (s.setHaptics x).devTime = s.devTime ∧
    (s.setHaptics x).freeCtr = s.freeCtr ∧
    (s.setHaptics x).ledger = s.ledger ∧
    (s.setHaptics x).loops = s.loops ∧
    (s.setHaptics x).insts = s.insts ∧
    (s.setHaptics x).ports = s.ports ∧
    (s.setHaptics x).fns = s.fns ∧
    (s.setHaptics x).tp = s.tp ∧
    (s.setHaptics x).eic = s.eic ∧
    (s.setHaptics x).bus = s.bus ∧
    (s.setHaptics x).hostMem = s.hostMem ∧
    (s.setHaptics x).dram = s.dram ∧
    (s.setHaptics x).spad = s.spad ∧
    (s.setHaptics x).memc = s.memc ∧
    (s.setHaptics x).copy = s.copy ∧
    (s.setHaptics x).surf = s.surf ∧
    (s.setHaptics x).gpu = s.gpu ∧
    (s.setHaptics x).blend = s.blend ∧
    (s.setHaptics x).colour = s.colour ∧
    (s.setHaptics x).pipes = s.pipes ∧
    (s.setHaptics x).err = s.err ∧
    (s.setHaptics x).tele = s.tele ∧
    (s.setHaptics x).links = s.links ∧
    (s.setHaptics x).touch = s.touch ∧
    (s.setHaptics x).haptics = x ∧
    (s.setHaptics x).audio = s.audio ∧
    (s.setHaptics x).sec = s.sec ∧
    (s.setHaptics x).clocks = s.clocks ∧
    (s.setHaptics x).power = s.power ∧
    (s.setHaptics x).firmware = s.firmware ∧
    (s.setHaptics x).boot = s.boot :=
  ⟨rfl, rfl, rfl, rfl, rfl, rfl, rfl, rfl, rfl, rfl, rfl, rfl, rfl, rfl, rfl, rfl, rfl, rfl, rfl, rfl, rfl, rfl, rfl, rfl, rfl, rfl, rfl, rfl, rfl, rfl, rfl, rfl, rfl⟩

/-- Setting `audio` sets it and changes no other field. -/
@[simp] theorem State.setAudio_frame (s : State) (x : Audio) :
    (s.setAudio x).pending = s.pending ∧
    (s.setAudio x).board = s.board ∧
    (s.setAudio x).devTime = s.devTime ∧
    (s.setAudio x).freeCtr = s.freeCtr ∧
    (s.setAudio x).ledger = s.ledger ∧
    (s.setAudio x).loops = s.loops ∧
    (s.setAudio x).insts = s.insts ∧
    (s.setAudio x).ports = s.ports ∧
    (s.setAudio x).fns = s.fns ∧
    (s.setAudio x).tp = s.tp ∧
    (s.setAudio x).eic = s.eic ∧
    (s.setAudio x).bus = s.bus ∧
    (s.setAudio x).hostMem = s.hostMem ∧
    (s.setAudio x).dram = s.dram ∧
    (s.setAudio x).spad = s.spad ∧
    (s.setAudio x).memc = s.memc ∧
    (s.setAudio x).copy = s.copy ∧
    (s.setAudio x).surf = s.surf ∧
    (s.setAudio x).gpu = s.gpu ∧
    (s.setAudio x).blend = s.blend ∧
    (s.setAudio x).colour = s.colour ∧
    (s.setAudio x).pipes = s.pipes ∧
    (s.setAudio x).err = s.err ∧
    (s.setAudio x).tele = s.tele ∧
    (s.setAudio x).links = s.links ∧
    (s.setAudio x).touch = s.touch ∧
    (s.setAudio x).haptics = s.haptics ∧
    (s.setAudio x).audio = x ∧
    (s.setAudio x).sec = s.sec ∧
    (s.setAudio x).clocks = s.clocks ∧
    (s.setAudio x).power = s.power ∧
    (s.setAudio x).firmware = s.firmware ∧
    (s.setAudio x).boot = s.boot :=
  ⟨rfl, rfl, rfl, rfl, rfl, rfl, rfl, rfl, rfl, rfl, rfl, rfl, rfl, rfl, rfl, rfl, rfl, rfl, rfl, rfl, rfl, rfl, rfl, rfl, rfl, rfl, rfl, rfl, rfl, rfl, rfl, rfl, rfl⟩

/-- Setting `sec` sets it and changes no other field. -/
@[simp] theorem State.setSec_frame (s : State) (x : Sec) :
    (s.setSec x).pending = s.pending ∧
    (s.setSec x).board = s.board ∧
    (s.setSec x).devTime = s.devTime ∧
    (s.setSec x).freeCtr = s.freeCtr ∧
    (s.setSec x).ledger = s.ledger ∧
    (s.setSec x).loops = s.loops ∧
    (s.setSec x).insts = s.insts ∧
    (s.setSec x).ports = s.ports ∧
    (s.setSec x).fns = s.fns ∧
    (s.setSec x).tp = s.tp ∧
    (s.setSec x).eic = s.eic ∧
    (s.setSec x).bus = s.bus ∧
    (s.setSec x).hostMem = s.hostMem ∧
    (s.setSec x).dram = s.dram ∧
    (s.setSec x).spad = s.spad ∧
    (s.setSec x).memc = s.memc ∧
    (s.setSec x).copy = s.copy ∧
    (s.setSec x).surf = s.surf ∧
    (s.setSec x).gpu = s.gpu ∧
    (s.setSec x).blend = s.blend ∧
    (s.setSec x).colour = s.colour ∧
    (s.setSec x).pipes = s.pipes ∧
    (s.setSec x).err = s.err ∧
    (s.setSec x).tele = s.tele ∧
    (s.setSec x).links = s.links ∧
    (s.setSec x).touch = s.touch ∧
    (s.setSec x).haptics = s.haptics ∧
    (s.setSec x).audio = s.audio ∧
    (s.setSec x).sec = x ∧
    (s.setSec x).clocks = s.clocks ∧
    (s.setSec x).power = s.power ∧
    (s.setSec x).firmware = s.firmware ∧
    (s.setSec x).boot = s.boot :=
  ⟨rfl, rfl, rfl, rfl, rfl, rfl, rfl, rfl, rfl, rfl, rfl, rfl, rfl, rfl, rfl, rfl, rfl, rfl, rfl, rfl, rfl, rfl, rfl, rfl, rfl, rfl, rfl, rfl, rfl, rfl, rfl, rfl, rfl⟩

/-- Setting `clocks` sets it and changes no other field. -/
@[simp] theorem State.setClocks_frame (s : State) (x : Clocks) :
    (s.setClocks x).pending = s.pending ∧
    (s.setClocks x).board = s.board ∧
    (s.setClocks x).devTime = s.devTime ∧
    (s.setClocks x).freeCtr = s.freeCtr ∧
    (s.setClocks x).ledger = s.ledger ∧
    (s.setClocks x).loops = s.loops ∧
    (s.setClocks x).insts = s.insts ∧
    (s.setClocks x).ports = s.ports ∧
    (s.setClocks x).fns = s.fns ∧
    (s.setClocks x).tp = s.tp ∧
    (s.setClocks x).eic = s.eic ∧
    (s.setClocks x).bus = s.bus ∧
    (s.setClocks x).hostMem = s.hostMem ∧
    (s.setClocks x).dram = s.dram ∧
    (s.setClocks x).spad = s.spad ∧
    (s.setClocks x).memc = s.memc ∧
    (s.setClocks x).copy = s.copy ∧
    (s.setClocks x).surf = s.surf ∧
    (s.setClocks x).gpu = s.gpu ∧
    (s.setClocks x).blend = s.blend ∧
    (s.setClocks x).colour = s.colour ∧
    (s.setClocks x).pipes = s.pipes ∧
    (s.setClocks x).err = s.err ∧
    (s.setClocks x).tele = s.tele ∧
    (s.setClocks x).links = s.links ∧
    (s.setClocks x).touch = s.touch ∧
    (s.setClocks x).haptics = s.haptics ∧
    (s.setClocks x).audio = s.audio ∧
    (s.setClocks x).sec = s.sec ∧
    (s.setClocks x).clocks = x ∧
    (s.setClocks x).power = s.power ∧
    (s.setClocks x).firmware = s.firmware ∧
    (s.setClocks x).boot = s.boot :=
  ⟨rfl, rfl, rfl, rfl, rfl, rfl, rfl, rfl, rfl, rfl, rfl, rfl, rfl, rfl, rfl, rfl, rfl, rfl, rfl, rfl, rfl, rfl, rfl, rfl, rfl, rfl, rfl, rfl, rfl, rfl, rfl, rfl, rfl⟩

/-- Setting `power` sets it and changes no other field. -/
@[simp] theorem State.setPower_frame (s : State) (x : Power) :
    (s.setPower x).pending = s.pending ∧
    (s.setPower x).board = s.board ∧
    (s.setPower x).devTime = s.devTime ∧
    (s.setPower x).freeCtr = s.freeCtr ∧
    (s.setPower x).ledger = s.ledger ∧
    (s.setPower x).loops = s.loops ∧
    (s.setPower x).insts = s.insts ∧
    (s.setPower x).ports = s.ports ∧
    (s.setPower x).fns = s.fns ∧
    (s.setPower x).tp = s.tp ∧
    (s.setPower x).eic = s.eic ∧
    (s.setPower x).bus = s.bus ∧
    (s.setPower x).hostMem = s.hostMem ∧
    (s.setPower x).dram = s.dram ∧
    (s.setPower x).spad = s.spad ∧
    (s.setPower x).memc = s.memc ∧
    (s.setPower x).copy = s.copy ∧
    (s.setPower x).surf = s.surf ∧
    (s.setPower x).gpu = s.gpu ∧
    (s.setPower x).blend = s.blend ∧
    (s.setPower x).colour = s.colour ∧
    (s.setPower x).pipes = s.pipes ∧
    (s.setPower x).err = s.err ∧
    (s.setPower x).tele = s.tele ∧
    (s.setPower x).links = s.links ∧
    (s.setPower x).touch = s.touch ∧
    (s.setPower x).haptics = s.haptics ∧
    (s.setPower x).audio = s.audio ∧
    (s.setPower x).sec = s.sec ∧
    (s.setPower x).clocks = s.clocks ∧
    (s.setPower x).power = x ∧
    (s.setPower x).firmware = s.firmware ∧
    (s.setPower x).boot = s.boot :=
  ⟨rfl, rfl, rfl, rfl, rfl, rfl, rfl, rfl, rfl, rfl, rfl, rfl, rfl, rfl, rfl, rfl, rfl, rfl, rfl, rfl, rfl, rfl, rfl, rfl, rfl, rfl, rfl, rfl, rfl, rfl, rfl, rfl, rfl⟩

/-- Setting `firmware` sets it and changes no other field. -/
@[simp] theorem State.setFirmware_frame (s : State) (x : Firmware) :
    (s.setFirmware x).pending = s.pending ∧
    (s.setFirmware x).board = s.board ∧
    (s.setFirmware x).devTime = s.devTime ∧
    (s.setFirmware x).freeCtr = s.freeCtr ∧
    (s.setFirmware x).ledger = s.ledger ∧
    (s.setFirmware x).loops = s.loops ∧
    (s.setFirmware x).insts = s.insts ∧
    (s.setFirmware x).ports = s.ports ∧
    (s.setFirmware x).fns = s.fns ∧
    (s.setFirmware x).tp = s.tp ∧
    (s.setFirmware x).eic = s.eic ∧
    (s.setFirmware x).bus = s.bus ∧
    (s.setFirmware x).hostMem = s.hostMem ∧
    (s.setFirmware x).dram = s.dram ∧
    (s.setFirmware x).spad = s.spad ∧
    (s.setFirmware x).memc = s.memc ∧
    (s.setFirmware x).copy = s.copy ∧
    (s.setFirmware x).surf = s.surf ∧
    (s.setFirmware x).gpu = s.gpu ∧
    (s.setFirmware x).blend = s.blend ∧
    (s.setFirmware x).colour = s.colour ∧
    (s.setFirmware x).pipes = s.pipes ∧
    (s.setFirmware x).err = s.err ∧
    (s.setFirmware x).tele = s.tele ∧
    (s.setFirmware x).links = s.links ∧
    (s.setFirmware x).touch = s.touch ∧
    (s.setFirmware x).haptics = s.haptics ∧
    (s.setFirmware x).audio = s.audio ∧
    (s.setFirmware x).sec = s.sec ∧
    (s.setFirmware x).clocks = s.clocks ∧
    (s.setFirmware x).power = s.power ∧
    (s.setFirmware x).firmware = x ∧
    (s.setFirmware x).boot = s.boot :=
  ⟨rfl, rfl, rfl, rfl, rfl, rfl, rfl, rfl, rfl, rfl, rfl, rfl, rfl, rfl, rfl, rfl, rfl, rfl, rfl, rfl, rfl, rfl, rfl, rfl, rfl, rfl, rfl, rfl, rfl, rfl, rfl, rfl, rfl⟩

/-- Setting `boot` sets it and changes no other field. -/
@[simp] theorem State.setBoot_frame (s : State) (x : Boot) :
    (s.setBoot x).pending = s.pending ∧
    (s.setBoot x).board = s.board ∧
    (s.setBoot x).devTime = s.devTime ∧
    (s.setBoot x).freeCtr = s.freeCtr ∧
    (s.setBoot x).ledger = s.ledger ∧
    (s.setBoot x).loops = s.loops ∧
    (s.setBoot x).insts = s.insts ∧
    (s.setBoot x).ports = s.ports ∧
    (s.setBoot x).fns = s.fns ∧
    (s.setBoot x).tp = s.tp ∧
    (s.setBoot x).eic = s.eic ∧
    (s.setBoot x).bus = s.bus ∧
    (s.setBoot x).hostMem = s.hostMem ∧
    (s.setBoot x).dram = s.dram ∧
    (s.setBoot x).spad = s.spad ∧
    (s.setBoot x).memc = s.memc ∧
    (s.setBoot x).copy = s.copy ∧
    (s.setBoot x).surf = s.surf ∧
    (s.setBoot x).gpu = s.gpu ∧
    (s.setBoot x).blend = s.blend ∧
    (s.setBoot x).colour = s.colour ∧
    (s.setBoot x).pipes = s.pipes ∧
    (s.setBoot x).err = s.err ∧
    (s.setBoot x).tele = s.tele ∧
    (s.setBoot x).links = s.links ∧
    (s.setBoot x).touch = s.touch ∧
    (s.setBoot x).haptics = s.haptics ∧
    (s.setBoot x).audio = s.audio ∧
    (s.setBoot x).sec = s.sec ∧
    (s.setBoot x).clocks = s.clocks ∧
    (s.setBoot x).power = s.power ∧
    (s.setBoot x).firmware = s.firmware ∧
    (s.setBoot x).boot = x :=
  ⟨rfl, rfl, rfl, rfl, rfl, rfl, rfl, rfl, rfl, rfl, rfl, rfl, rfl, rfl, rfl, rfl, rfl, rfl, rfl, rfl, rfl, rfl, rfl, rfl, rfl, rfl, rfl, rfl, rfl, rfl, rfl, rfl, rfl⟩

end Sys2Proof.Machine
end

