-- ==== Sys2Proof/Laws/Frames.lean ====
section
/-!
SUPPORT. What each shared operation leaves alone: one lemma per operation, over the fields of State.
-/

namespace Sys2Proof.Machine

open Sys2Proof

/-- Telemetry changes the counters alone. -/
@[simp] theorem State.countBy_frame (s : State) (set scope idx n : Nat) :
    (s.countBy set scope idx n).pending = s.pending ∧
    (s.countBy set scope idx n).board = s.board ∧
    (s.countBy set scope idx n).devTime = s.devTime ∧
    (s.countBy set scope idx n).freeCtr = s.freeCtr ∧
    (s.countBy set scope idx n).ledger = s.ledger ∧
    (s.countBy set scope idx n).loops = s.loops ∧
    (s.countBy set scope idx n).insts = s.insts ∧
    (s.countBy set scope idx n).ports = s.ports ∧
    (s.countBy set scope idx n).fns = s.fns ∧
    (s.countBy set scope idx n).tp = s.tp ∧
    (s.countBy set scope idx n).eic = s.eic ∧
    (s.countBy set scope idx n).bus = s.bus ∧
    (s.countBy set scope idx n).hostMem = s.hostMem ∧
    (s.countBy set scope idx n).dram = s.dram ∧
    (s.countBy set scope idx n).spad = s.spad ∧
    (s.countBy set scope idx n).memc = s.memc ∧
    (s.countBy set scope idx n).copy = s.copy ∧
    (s.countBy set scope idx n).surf = s.surf ∧
    (s.countBy set scope idx n).gpu = s.gpu ∧
    (s.countBy set scope idx n).blend = s.blend ∧
    (s.countBy set scope idx n).colour = s.colour ∧
    (s.countBy set scope idx n).pipes = s.pipes ∧
    (s.countBy set scope idx n).err = s.err ∧
    (s.countBy set scope idx n).links = s.links ∧
    (s.countBy set scope idx n).touch = s.touch ∧
    (s.countBy set scope idx n).haptics = s.haptics ∧
    (s.countBy set scope idx n).audio = s.audio ∧
    (s.countBy set scope idx n).sec = s.sec ∧
    (s.countBy set scope idx n).clocks = s.clocks ∧
    (s.countBy set scope idx n).power = s.power ∧
    (s.countBy set scope idx n).firmware = s.firmware ∧
    (s.countBy set scope idx n).boot = s.boot := by simp [State.countBy]

/-- Telemetry changes the counters alone. -/
@[simp] theorem State.count_frame (s : State) (set scope idx : Nat) :
    (s.count set scope idx).pending = s.pending ∧
    (s.count set scope idx).board = s.board ∧
    (s.count set scope idx).devTime = s.devTime ∧
    (s.count set scope idx).freeCtr = s.freeCtr ∧
    (s.count set scope idx).ledger = s.ledger ∧
    (s.count set scope idx).loops = s.loops ∧
    (s.count set scope idx).insts = s.insts ∧
    (s.count set scope idx).ports = s.ports ∧
    (s.count set scope idx).fns = s.fns ∧
    (s.count set scope idx).tp = s.tp ∧
    (s.count set scope idx).eic = s.eic ∧
    (s.count set scope idx).bus = s.bus ∧
    (s.count set scope idx).hostMem = s.hostMem ∧
    (s.count set scope idx).dram = s.dram ∧
    (s.count set scope idx).spad = s.spad ∧
    (s.count set scope idx).memc = s.memc ∧
    (s.count set scope idx).copy = s.copy ∧
    (s.count set scope idx).surf = s.surf ∧
    (s.count set scope idx).gpu = s.gpu ∧
    (s.count set scope idx).blend = s.blend ∧
    (s.count set scope idx).colour = s.colour ∧
    (s.count set scope idx).pipes = s.pipes ∧
    (s.count set scope idx).err = s.err ∧
    (s.count set scope idx).links = s.links ∧
    (s.count set scope idx).touch = s.touch ∧
    (s.count set scope idx).haptics = s.haptics ∧
    (s.count set scope idx).audio = s.audio ∧
    (s.count set scope idx).sec = s.sec ∧
    (s.count set scope idx).clocks = s.clocks ∧
    (s.count set scope idx).power = s.power ∧
    (s.count set scope idx).firmware = s.firmware ∧
    (s.count set scope idx).boot = s.boot := by simp [State.count]

/-- Telemetry changes the counters alone. -/
@[simp] theorem State.countMax_frame (s : State) (set scope idx n : Nat) :
    (s.countMax set scope idx n).pending = s.pending ∧
    (s.countMax set scope idx n).board = s.board ∧
    (s.countMax set scope idx n).devTime = s.devTime ∧
    (s.countMax set scope idx n).freeCtr = s.freeCtr ∧
    (s.countMax set scope idx n).ledger = s.ledger ∧
    (s.countMax set scope idx n).loops = s.loops ∧
    (s.countMax set scope idx n).insts = s.insts ∧
    (s.countMax set scope idx n).ports = s.ports ∧
    (s.countMax set scope idx n).fns = s.fns ∧
    (s.countMax set scope idx n).tp = s.tp ∧
    (s.countMax set scope idx n).eic = s.eic ∧
    (s.countMax set scope idx n).bus = s.bus ∧
    (s.countMax set scope idx n).hostMem = s.hostMem ∧
    (s.countMax set scope idx n).dram = s.dram ∧
    (s.countMax set scope idx n).spad = s.spad ∧
    (s.countMax set scope idx n).memc = s.memc ∧
    (s.countMax set scope idx n).copy = s.copy ∧
    (s.countMax set scope idx n).surf = s.surf ∧
    (s.countMax set scope idx n).gpu = s.gpu ∧
    (s.countMax set scope idx n).blend = s.blend ∧
    (s.countMax set scope idx n).colour = s.colour ∧
    (s.countMax set scope idx n).pipes = s.pipes ∧
    (s.countMax set scope idx n).err = s.err ∧
    (s.countMax set scope idx n).links = s.links ∧
    (s.countMax set scope idx n).touch = s.touch ∧
    (s.countMax set scope idx n).haptics = s.haptics ∧
    (s.countMax set scope idx n).audio = s.audio ∧
    (s.countMax set scope idx n).sec = s.sec ∧
    (s.countMax set scope idx n).clocks = s.clocks ∧
    (s.countMax set scope idx n).power = s.power ∧
    (s.countMax set scope idx n).firmware = s.firmware ∧
    (s.countMax set scope idx n).boot = s.boot := by simp [State.countMax]

/-- A change of one instance record changes the instances alone. -/
@[simp] theorem State.updInst_frame (s : State) (n : Nat) (f : Inst → Inst) :
    (s.updInst n f).pending = s.pending ∧
    (s.updInst n f).board = s.board ∧
    (s.updInst n f).devTime = s.devTime ∧
    (s.updInst n f).freeCtr = s.freeCtr ∧
    (s.updInst n f).ledger = s.ledger ∧
    (s.updInst n f).loops = s.loops ∧
    (s.updInst n f).ports = s.ports ∧
    (s.updInst n f).fns = s.fns ∧
    (s.updInst n f).tp = s.tp ∧
    (s.updInst n f).eic = s.eic ∧
    (s.updInst n f).bus = s.bus ∧
    (s.updInst n f).hostMem = s.hostMem ∧
    (s.updInst n f).dram = s.dram ∧
    (s.updInst n f).spad = s.spad ∧
    (s.updInst n f).memc = s.memc ∧
    (s.updInst n f).copy = s.copy ∧
    (s.updInst n f).surf = s.surf ∧
    (s.updInst n f).gpu = s.gpu ∧
    (s.updInst n f).blend = s.blend ∧
    (s.updInst n f).colour = s.colour ∧
    (s.updInst n f).pipes = s.pipes ∧
    (s.updInst n f).err = s.err ∧
    (s.updInst n f).tele = s.tele ∧
    (s.updInst n f).links = s.links ∧
    (s.updInst n f).touch = s.touch ∧
    (s.updInst n f).haptics = s.haptics ∧
    (s.updInst n f).audio = s.audio ∧
    (s.updInst n f).sec = s.sec ∧
    (s.updInst n f).clocks = s.clocks ∧
    (s.updInst n f).power = s.power ∧
    (s.updInst n f).firmware = s.firmware ∧
    (s.updInst n f).boot = s.boot := by simp [State.updInst]

/-- A change of one function record changes the functions alone. -/
@[simp] theorem State.updFn_frame (s : State) (k : Nat) (f : Fn → Fn) :
    (s.updFn k f).pending = s.pending ∧
    (s.updFn k f).board = s.board ∧
    (s.updFn k f).devTime = s.devTime ∧
    (s.updFn k f).freeCtr = s.freeCtr ∧
    (s.updFn k f).ledger = s.ledger ∧
    (s.updFn k f).loops = s.loops ∧
    (s.updFn k f).insts = s.insts ∧
    (s.updFn k f).ports = s.ports ∧
    (s.updFn k f).tp = s.tp ∧
    (s.updFn k f).eic = s.eic ∧
    (s.updFn k f).bus = s.bus ∧
    (s.updFn k f).hostMem = s.hostMem ∧
    (s.updFn k f).dram = s.dram ∧
    (s.updFn k f).spad = s.spad ∧
    (s.updFn k f).memc = s.memc ∧
    (s.updFn k f).copy = s.copy ∧
    (s.updFn k f).surf = s.surf ∧
    (s.updFn k f).gpu = s.gpu ∧
    (s.updFn k f).blend = s.blend ∧
    (s.updFn k f).colour = s.colour ∧
    (s.updFn k f).pipes = s.pipes ∧
    (s.updFn k f).err = s.err ∧
    (s.updFn k f).tele = s.tele ∧
    (s.updFn k f).links = s.links ∧
    (s.updFn k f).touch = s.touch ∧
    (s.updFn k f).haptics = s.haptics ∧
    (s.updFn k f).audio = s.audio ∧
    (s.updFn k f).sec = s.sec ∧
    (s.updFn k f).clocks = s.clocks ∧
    (s.updFn k f).power = s.power ∧
    (s.updFn k f).firmware = s.firmware ∧
    (s.updFn k f).boot = s.boot := by simp [State.updFn]

/-- A change of one layer slot changes the Blend engine alone. -/
@[simp] theorem State.updSlot_frame (s : State) (k : Nat) (f : Slot → Slot) :
    (s.updSlot k f).pending = s.pending ∧
    (s.updSlot k f).board = s.board ∧
    (s.updSlot k f).devTime = s.devTime ∧
    (s.updSlot k f).freeCtr = s.freeCtr ∧
    (s.updSlot k f).ledger = s.ledger ∧
    (s.updSlot k f).loops = s.loops ∧
    (s.updSlot k f).insts = s.insts ∧
    (s.updSlot k f).ports = s.ports ∧
    (s.updSlot k f).fns = s.fns ∧
    (s.updSlot k f).tp = s.tp ∧
    (s.updSlot k f).eic = s.eic ∧
    (s.updSlot k f).bus = s.bus ∧
    (s.updSlot k f).hostMem = s.hostMem ∧
    (s.updSlot k f).dram = s.dram ∧
    (s.updSlot k f).spad = s.spad ∧
    (s.updSlot k f).memc = s.memc ∧
    (s.updSlot k f).copy = s.copy ∧
    (s.updSlot k f).surf = s.surf ∧
    (s.updSlot k f).gpu = s.gpu ∧
    (s.updSlot k f).colour = s.colour ∧
    (s.updSlot k f).pipes = s.pipes ∧
    (s.updSlot k f).err = s.err ∧
    (s.updSlot k f).tele = s.tele ∧
    (s.updSlot k f).links = s.links ∧
    (s.updSlot k f).touch = s.touch ∧
    (s.updSlot k f).haptics = s.haptics ∧
    (s.updSlot k f).audio = s.audio ∧
    (s.updSlot k f).sec = s.sec ∧
    (s.updSlot k f).clocks = s.clocks ∧
    (s.updSlot k f).power = s.power ∧
    (s.updSlot k f).firmware = s.firmware ∧
    (s.updSlot k f).boot = s.boot := by simp [State.updSlot]

/-- A change of one pipe changes the pipes alone. -/
@[simp] theorem State.updPipe_frame (s : State) (k : Nat) (f : Pipe → Pipe) :
    (s.updPipe k f).pending = s.pending ∧
    (s.updPipe k f).board = s.board ∧
    (s.updPipe k f).devTime = s.devTime ∧
    (s.updPipe k f).freeCtr = s.freeCtr ∧
    (s.updPipe k f).ledger = s.ledger ∧
    (s.updPipe k f).loops = s.loops ∧
    (s.updPipe k f).insts = s.insts ∧
    (s.updPipe k f).ports = s.ports ∧
    (s.updPipe k f).fns = s.fns ∧
    (s.updPipe k f).tp = s.tp ∧
    (s.updPipe k f).eic = s.eic ∧
    (s.updPipe k f).bus = s.bus ∧
    (s.updPipe k f).hostMem = s.hostMem ∧
    (s.updPipe k f).dram = s.dram ∧
    (s.updPipe k f).spad = s.spad ∧
    (s.updPipe k f).memc = s.memc ∧
    (s.updPipe k f).copy = s.copy ∧
    (s.updPipe k f).surf = s.surf ∧
    (s.updPipe k f).gpu = s.gpu ∧
    (s.updPipe k f).blend = s.blend ∧
    (s.updPipe k f).colour = s.colour ∧
    (s.updPipe k f).err = s.err ∧
    (s.updPipe k f).tele = s.tele ∧
    (s.updPipe k f).links = s.links ∧
    (s.updPipe k f).touch = s.touch ∧
    (s.updPipe k f).haptics = s.haptics ∧
    (s.updPipe k f).audio = s.audio ∧
    (s.updPipe k f).sec = s.sec ∧
    (s.updPipe k f).clocks = s.clocks ∧
    (s.updPipe k f).power = s.power ∧
    (s.updPipe k f).firmware = s.firmware ∧
    (s.updPipe k f).boot = s.boot := by simp [State.updPipe]

/-- A change of one monitor changes the pipes alone. -/
@[simp] theorem State.updMon_frame (s : State) (k : Nat) (f : Mon → Mon) :
    (s.updMon k f).pending = s.pending ∧
    (s.updMon k f).board = s.board ∧
    (s.updMon k f).devTime = s.devTime ∧
    (s.updMon k f).freeCtr = s.freeCtr ∧
    (s.updMon k f).ledger = s.ledger ∧
    (s.updMon k f).loops = s.loops ∧
    (s.updMon k f).insts = s.insts ∧
    (s.updMon k f).ports = s.ports ∧
    (s.updMon k f).fns = s.fns ∧
    (s.updMon k f).tp = s.tp ∧
    (s.updMon k f).eic = s.eic ∧
    (s.updMon k f).bus = s.bus ∧
    (s.updMon k f).hostMem = s.hostMem ∧
    (s.updMon k f).dram = s.dram ∧
    (s.updMon k f).spad = s.spad ∧
    (s.updMon k f).memc = s.memc ∧
    (s.updMon k f).copy = s.copy ∧
    (s.updMon k f).surf = s.surf ∧
    (s.updMon k f).gpu = s.gpu ∧
    (s.updMon k f).blend = s.blend ∧
    (s.updMon k f).colour = s.colour ∧
    (s.updMon k f).err = s.err ∧
    (s.updMon k f).tele = s.tele ∧
    (s.updMon k f).links = s.links ∧
    (s.updMon k f).touch = s.touch ∧
    (s.updMon k f).haptics = s.haptics ∧
    (s.updMon k f).audio = s.audio ∧
    (s.updMon k f).sec = s.sec ∧
    (s.updMon k f).clocks = s.clocks ∧
    (s.updMon k f).power = s.power ∧
    (s.updMon k f).firmware = s.firmware ∧
    (s.updMon k f).boot = s.boot := by simp [State.updMon]

/-- An event record changes the raised records, the counters, and the count of a frozen instance. -/
@[simp] theorem State.raise_frame (s : State) (dst code unit det : Nat) :
    (s.raise dst code unit det).pending = s.pending ∧
    (s.raise dst code unit det).board = s.board ∧
    (s.raise dst code unit det).devTime = s.devTime ∧
    (s.raise dst code unit det).freeCtr = s.freeCtr ∧
    (s.raise dst code unit det).ledger = s.ledger ∧
    (s.raise dst code unit det).loops = s.loops ∧
    (s.raise dst code unit det).ports = s.ports ∧
    (s.raise dst code unit det).fns = s.fns ∧
    (s.raise dst code unit det).eic = s.eic ∧
    (s.raise dst code unit det).bus = s.bus ∧
    (s.raise dst code unit det).hostMem = s.hostMem ∧
    (s.raise dst code unit det).dram = s.dram ∧
    (s.raise dst code unit det).spad = s.spad ∧
    (s.raise dst code unit det).memc = s.memc ∧
    (s.raise dst code unit det).copy = s.copy ∧
    (s.raise dst code unit det).surf = s.surf ∧
    (s.raise dst code unit det).gpu = s.gpu ∧
    (s.raise dst code unit det).blend = s.blend ∧
    (s.raise dst code unit det).colour = s.colour ∧
    (s.raise dst code unit det).pipes = s.pipes ∧
    (s.raise dst code unit det).err = s.err ∧
    (s.raise dst code unit det).links = s.links ∧
    (s.raise dst code unit det).touch = s.touch ∧
    (s.raise dst code unit det).haptics = s.haptics ∧
    (s.raise dst code unit det).audio = s.audio ∧
    (s.raise dst code unit det).sec = s.sec ∧
    (s.raise dst code unit det).clocks = s.clocks ∧
    (s.raise dst code unit det).power = s.power ∧
    (s.raise dst code unit det).firmware = s.firmware ∧
    (s.raise dst code unit det).boot = s.boot := by
  unfold State.raise
  simp only []
  split
  · simp
  · split
    · simp
    · simp
    · split <;> simp

/-- So does a record to several instances. -/
@[simp] theorem State.raiseAll_frame (s : State) (tos : List Nat) (code unit det : Nat) :
    (s.raiseAll tos code unit det).pending = s.pending ∧
    (s.raiseAll tos code unit det).board = s.board ∧
    (s.raiseAll tos code unit det).devTime = s.devTime ∧
    (s.raiseAll tos code unit det).freeCtr = s.freeCtr ∧
    (s.raiseAll tos code unit det).ledger = s.ledger ∧
    (s.raiseAll tos code unit det).loops = s.loops ∧
    (s.raiseAll tos code unit det).ports = s.ports ∧
    (s.raiseAll tos code unit det).fns = s.fns ∧
    (s.raiseAll tos code unit det).eic = s.eic ∧
    (s.raiseAll tos code unit det).bus = s.bus ∧
    (s.raiseAll tos code unit det).hostMem = s.hostMem ∧
    (s.raiseAll tos code unit det).dram = s.dram ∧
    (s.raiseAll tos code unit det).spad = s.spad ∧
    (s.raiseAll tos code unit det).memc = s.memc ∧
    (s.raiseAll tos code unit det).copy = s.copy ∧
    (s.raiseAll tos code unit det).surf = s.surf ∧
    (s.raiseAll tos code unit det).gpu = s.gpu ∧
    (s.raiseAll tos code unit det).blend = s.blend ∧
    (s.raiseAll tos code unit det).colour = s.colour ∧
    (s.raiseAll tos code unit det).pipes = s.pipes ∧
    (s.raiseAll tos code unit det).err = s.err ∧
    (s.raiseAll tos code unit det).links = s.links ∧
    (s.raiseAll tos code unit det).touch = s.touch ∧
    (s.raiseAll tos code unit det).haptics = s.haptics ∧
    (s.raiseAll tos code unit det).audio = s.audio ∧
    (s.raiseAll tos code unit det).sec = s.sec ∧
    (s.raiseAll tos code unit det).clocks = s.clocks ∧
    (s.raiseAll tos code unit det).power = s.power ∧
    (s.raiseAll tos code unit det).firmware = s.firmware ∧
    (s.raiseAll tos code unit det).boot = s.boot := by
  unfold State.raiseAll
  induction tos generalizing s with
  | nil => simp
  | cons n ns ih => simpa using ih (s.raise n code unit det)

/-- So does LEDGER_CHANGED. -/
@[simp] theorem State.ledgerChanged_frame (s : State) (h cause sender : Nat) :
    (s.ledgerChanged h cause sender).pending = s.pending ∧
    (s.ledgerChanged h cause sender).board = s.board ∧
    (s.ledgerChanged h cause sender).devTime = s.devTime ∧
    (s.ledgerChanged h cause sender).freeCtr = s.freeCtr ∧
    (s.ledgerChanged h cause sender).ledger = s.ledger ∧
    (s.ledgerChanged h cause sender).loops = s.loops ∧
    (s.ledgerChanged h cause sender).ports = s.ports ∧
    (s.ledgerChanged h cause sender).fns = s.fns ∧
    (s.ledgerChanged h cause sender).eic = s.eic ∧
    (s.ledgerChanged h cause sender).bus = s.bus ∧
    (s.ledgerChanged h cause sender).hostMem = s.hostMem ∧
    (s.ledgerChanged h cause sender).dram = s.dram ∧
    (s.ledgerChanged h cause sender).spad = s.spad ∧
    (s.ledgerChanged h cause sender).memc = s.memc ∧
    (s.ledgerChanged h cause sender).copy = s.copy ∧
    (s.ledgerChanged h cause sender).surf = s.surf ∧
    (s.ledgerChanged h cause sender).gpu = s.gpu ∧
    (s.ledgerChanged h cause sender).blend = s.blend ∧
    (s.ledgerChanged h cause sender).colour = s.colour ∧
    (s.ledgerChanged h cause sender).pipes = s.pipes ∧
    (s.ledgerChanged h cause sender).err = s.err ∧
    (s.ledgerChanged h cause sender).links = s.links ∧
    (s.ledgerChanged h cause sender).touch = s.touch ∧
    (s.ledgerChanged h cause sender).haptics = s.haptics ∧
    (s.ledgerChanged h cause sender).audio = s.audio ∧
    (s.ledgerChanged h cause sender).sec = s.sec ∧
    (s.ledgerChanged h cause sender).clocks = s.clocks ∧
    (s.ledgerChanged h cause sender).power = s.power ∧
    (s.ledgerChanged h cause sender).firmware = s.firmware ∧
    (s.ledgerChanged h cause sender).boot = s.boot := by simp [State.ledgerChanged]

/-- Writing an entry changes the ledger alone. -/
@[simp] theorem State.setEntry_frame (s : State) (h : Nat) (e : Entry) :
    (s.setEntry h e).pending = s.pending ∧
    (s.setEntry h e).board = s.board ∧
    (s.setEntry h e).devTime = s.devTime ∧
    (s.setEntry h e).freeCtr = s.freeCtr ∧
    (s.setEntry h e).loops = s.loops ∧
    (s.setEntry h e).insts = s.insts ∧
    (s.setEntry h e).ports = s.ports ∧
    (s.setEntry h e).fns = s.fns ∧
    (s.setEntry h e).tp = s.tp ∧
    (s.setEntry h e).eic = s.eic ∧
    (s.setEntry h e).bus = s.bus ∧
    (s.setEntry h e).hostMem = s.hostMem ∧
    (s.setEntry h e).dram = s.dram ∧
    (s.setEntry h e).spad = s.spad ∧
    (s.setEntry h e).memc = s.memc ∧
    (s.setEntry h e).copy = s.copy ∧
    (s.setEntry h e).surf = s.surf ∧
    (s.setEntry h e).gpu = s.gpu ∧
    (s.setEntry h e).blend = s.blend ∧
    (s.setEntry h e).colour = s.colour ∧
    (s.setEntry h e).pipes = s.pipes ∧
    (s.setEntry h e).err = s.err ∧
    (s.setEntry h e).tele = s.tele ∧
    (s.setEntry h e).links = s.links ∧
    (s.setEntry h e).touch = s.touch ∧
    (s.setEntry h e).haptics = s.haptics ∧
    (s.setEntry h e).audio = s.audio ∧
    (s.setEntry h e).sec = s.sec ∧
    (s.setEntry h e).clocks = s.clocks ∧
    (s.setEntry h e).power = s.power ∧
    (s.setEntry h e).firmware = s.firmware ∧
    (s.setEntry h e).boot = s.boot := by simp [State.setEntry]

/-- An advance changes the ledger alone. -/
@[simp] theorem State.advance_frame (s : State) (h : Nat) :
    (s.advance h).pending = s.pending ∧
    (s.advance h).board = s.board ∧
    (s.advance h).devTime = s.devTime ∧
    (s.advance h).freeCtr = s.freeCtr ∧
    (s.advance h).loops = s.loops ∧
    (s.advance h).insts = s.insts ∧
    (s.advance h).ports = s.ports ∧
    (s.advance h).fns = s.fns ∧
    (s.advance h).tp = s.tp ∧
    (s.advance h).eic = s.eic ∧
    (s.advance h).bus = s.bus ∧
    (s.advance h).hostMem = s.hostMem ∧
    (s.advance h).dram = s.dram ∧
    (s.advance h).spad = s.spad ∧
    (s.advance h).memc = s.memc ∧
    (s.advance h).copy = s.copy ∧
    (s.advance h).surf = s.surf ∧
    (s.advance h).gpu = s.gpu ∧
    (s.advance h).blend = s.blend ∧
    (s.advance h).colour = s.colour ∧
    (s.advance h).pipes = s.pipes ∧
    (s.advance h).err = s.err ∧
    (s.advance h).tele = s.tele ∧
    (s.advance h).links = s.links ∧
    (s.advance h).touch = s.touch ∧
    (s.advance h).haptics = s.haptics ∧
    (s.advance h).audio = s.audio ∧
    (s.advance h).sec = s.sec ∧
    (s.advance h).clocks = s.clocks ∧
    (s.advance h).power = s.power ∧
    (s.advance h).firmware = s.firmware ∧
    (s.advance h).boot = s.boot := by simp [State.advance]

/-- A new intention changes the ledger, tells the others, and marks the display area to be retained. -/
@[simp] theorem State.intend_frame (s : State) (h : Nat) (b : Bool) (n : Nat) :
    (s.intend h b n).pending = s.pending ∧
    (s.intend h b n).board = s.board ∧
    (s.intend h b n).devTime = s.devTime ∧
    (s.intend h b n).freeCtr = s.freeCtr ∧
    (s.intend h b n).loops = s.loops ∧
    (s.intend h b n).ports = s.ports ∧
    (s.intend h b n).fns = s.fns ∧
    (s.intend h b n).eic = s.eic ∧
    (s.intend h b n).bus = s.bus ∧
    (s.intend h b n).hostMem = s.hostMem ∧
    (s.intend h b n).dram = s.dram ∧
    (s.intend h b n).spad = s.spad ∧
    (s.intend h b n).memc = s.memc ∧
    (s.intend h b n).copy = s.copy ∧
    (s.intend h b n).surf = s.surf ∧
    (s.intend h b n).gpu = s.gpu ∧
    (s.intend h b n).blend = s.blend ∧
    (s.intend h b n).colour = s.colour ∧
    (s.intend h b n).pipes = s.pipes ∧
    (s.intend h b n).err = s.err ∧
    (s.intend h b n).links = s.links ∧
    (s.intend h b n).touch = s.touch ∧
    (s.intend h b n).haptics = s.haptics ∧
    (s.intend h b n).audio = s.audio ∧
    (s.intend h b n).sec = s.sec ∧
    (s.intend h b n).clocks = s.clocks ∧
    (s.intend h b n).firmware = s.firmware ∧
    (s.intend h b n).boot = s.boot := by
  unfold State.intend
  simp only []
  split <;> simp

/-- A fact changes the ledger and tells the others. -/
@[simp] theorem State.setFact_frame (s : State) (h f : Nat) :
    (s.setFact h f).pending = s.pending ∧
    (s.setFact h f).board = s.board ∧
    (s.setFact h f).devTime = s.devTime ∧
    (s.setFact h f).freeCtr = s.freeCtr ∧
    (s.setFact h f).loops = s.loops ∧
    (s.setFact h f).ports = s.ports ∧
    (s.setFact h f).fns = s.fns ∧
    (s.setFact h f).eic = s.eic ∧
    (s.setFact h f).bus = s.bus ∧
    (s.setFact h f).hostMem = s.hostMem ∧
    (s.setFact h f).dram = s.dram ∧
    (s.setFact h f).spad = s.spad ∧
    (s.setFact h f).memc = s.memc ∧
    (s.setFact h f).copy = s.copy ∧
    (s.setFact h f).surf = s.surf ∧
    (s.setFact h f).gpu = s.gpu ∧
    (s.setFact h f).blend = s.blend ∧
    (s.setFact h f).colour = s.colour ∧
    (s.setFact h f).pipes = s.pipes ∧
    (s.setFact h f).err = s.err ∧
    (s.setFact h f).links = s.links ∧
    (s.setFact h f).touch = s.touch ∧
    (s.setFact h f).haptics = s.haptics ∧
    (s.setFact h f).audio = s.audio ∧
    (s.setFact h f).sec = s.sec ∧
    (s.setFact h f).clocks = s.clocks ∧
    (s.setFact h f).power = s.power ∧
    (s.setFact h f).firmware = s.firmware ∧
    (s.setFact h f).boot = s.boot := by
  unfold State.setFact
  simp only []
  split <;> simp

/-- So does the clearing of one. -/
@[simp] theorem State.clearFact_frame (s : State) (h : Nat) :
    (s.clearFact h).pending = s.pending ∧
    (s.clearFact h).board = s.board ∧
    (s.clearFact h).devTime = s.devTime ∧
    (s.clearFact h).freeCtr = s.freeCtr ∧
    (s.clearFact h).loops = s.loops ∧
    (s.clearFact h).ports = s.ports ∧
    (s.clearFact h).fns = s.fns ∧
    (s.clearFact h).eic = s.eic ∧
    (s.clearFact h).bus = s.bus ∧
    (s.clearFact h).hostMem = s.hostMem ∧
    (s.clearFact h).dram = s.dram ∧
    (s.clearFact h).spad = s.spad ∧
    (s.clearFact h).memc = s.memc ∧
    (s.clearFact h).copy = s.copy ∧
    (s.clearFact h).surf = s.surf ∧
    (s.clearFact h).gpu = s.gpu ∧
    (s.clearFact h).blend = s.blend ∧
    (s.clearFact h).colour = s.colour ∧
    (s.clearFact h).pipes = s.pipes ∧
    (s.clearFact h).err = s.err ∧
    (s.clearFact h).links = s.links ∧
    (s.clearFact h).touch = s.touch ∧
    (s.clearFact h).haptics = s.haptics ∧
    (s.clearFact h).audio = s.audio ∧
    (s.clearFact h).sec = s.sec ∧
    (s.clearFact h).clocks = s.clocks ∧
    (s.clearFact h).power = s.power ∧
    (s.clearFact h).firmware = s.firmware ∧
    (s.clearFact h).boot = s.boot := by
  unfold State.clearFact
  simp only []
  split <;> simp

/-- Settling changes the ledger alone. -/
@[simp] theorem State.settle_frame (s : State) (h : Nat) :
    (s.settle h).pending = s.pending ∧
    (s.settle h).board = s.board ∧
    (s.settle h).devTime = s.devTime ∧
    (s.settle h).freeCtr = s.freeCtr ∧
    (s.settle h).loops = s.loops ∧
    (s.settle h).insts = s.insts ∧
    (s.settle h).ports = s.ports ∧
    (s.settle h).fns = s.fns ∧
    (s.settle h).tp = s.tp ∧
    (s.settle h).eic = s.eic ∧
    (s.settle h).bus = s.bus ∧
    (s.settle h).hostMem = s.hostMem ∧
    (s.settle h).dram = s.dram ∧
    (s.settle h).spad = s.spad ∧
    (s.settle h).memc = s.memc ∧
    (s.settle h).copy = s.copy ∧
    (s.settle h).surf = s.surf ∧
    (s.settle h).gpu = s.gpu ∧
    (s.settle h).blend = s.blend ∧
    (s.settle h).colour = s.colour ∧
    (s.settle h).pipes = s.pipes ∧
    (s.settle h).err = s.err ∧
    (s.settle h).tele = s.tele ∧
    (s.settle h).links = s.links ∧
    (s.settle h).touch = s.touch ∧
    (s.settle h).haptics = s.haptics ∧
    (s.settle h).audio = s.audio ∧
    (s.settle h).sec = s.sec ∧
    (s.settle h).clocks = s.clocks ∧
    (s.settle h).power = s.power ∧
    (s.settle h).firmware = s.firmware ∧
    (s.settle h).boot = s.boot := by
  unfold State.settle
  simp only []
  split <;> simp

/-- An error record changes the error queue and the counters alone. -/
@[simp] theorem State.raiseErr_frame (s : State) (code sev unit inst seq det : Nat) (b : Bool) :
    (s.raiseErr code sev unit inst seq det b).pending = s.pending ∧
    (s.raiseErr code sev unit inst seq det b).board = s.board ∧
    (s.raiseErr code sev unit inst seq det b).devTime = s.devTime ∧
    (s.raiseErr code sev unit inst seq det b).freeCtr = s.freeCtr ∧
    (s.raiseErr code sev unit inst seq det b).ledger = s.ledger ∧
    (s.raiseErr code sev unit inst seq det b).loops = s.loops ∧
    (s.raiseErr code sev unit inst seq det b).insts = s.insts ∧
    (s.raiseErr code sev unit inst seq det b).ports = s.ports ∧
    (s.raiseErr code sev unit inst seq det b).fns = s.fns ∧
    (s.raiseErr code sev unit inst seq det b).tp = s.tp ∧
    (s.raiseErr code sev unit inst seq det b).eic = s.eic ∧
    (s.raiseErr code sev unit inst seq det b).bus = s.bus ∧
    (s.raiseErr code sev unit inst seq det b).hostMem = s.hostMem ∧
    (s.raiseErr code sev unit inst seq det b).dram = s.dram ∧
    (s.raiseErr code sev unit inst seq det b).spad = s.spad ∧
    (s.raiseErr code sev unit inst seq det b).memc = s.memc ∧
    (s.raiseErr code sev unit inst seq det b).copy = s.copy ∧
    (s.raiseErr code sev unit inst seq det b).surf = s.surf ∧
    (s.raiseErr code sev unit inst seq det b).gpu = s.gpu ∧
    (s.raiseErr code sev unit inst seq det b).blend = s.blend ∧
    (s.raiseErr code sev unit inst seq det b).colour = s.colour ∧
    (s.raiseErr code sev unit inst seq det b).pipes = s.pipes ∧
    (s.raiseErr code sev unit inst seq det b).links = s.links ∧
    (s.raiseErr code sev unit inst seq det b).touch = s.touch ∧
    (s.raiseErr code sev unit inst seq det b).haptics = s.haptics ∧
    (s.raiseErr code sev unit inst seq det b).audio = s.audio ∧
    (s.raiseErr code sev unit inst seq det b).sec = s.sec ∧
    (s.raiseErr code sev unit inst seq det b).clocks = s.clocks ∧
    (s.raiseErr code sev unit inst seq det b).power = s.power ∧
    (s.raiseErr code sev unit inst seq det b).firmware = s.firmware ∧
    (s.raiseErr code sev unit inst seq det b).boot = s.boot := by
  unfold State.raiseErr
  simp only []
  repeat' split
  all_goals simp

/-- A reply changes the transport and the counters alone. -/
@[simp] theorem State.answer_frame (s : State) (code : Nat) (p : Packet) (st : Status) (res : List W32) :
    (s.answer code p st res).pending = s.pending ∧
    (s.answer code p st res).board = s.board ∧
    (s.answer code p st res).devTime = s.devTime ∧
    (s.answer code p st res).freeCtr = s.freeCtr ∧
    (s.answer code p st res).ledger = s.ledger ∧
    (s.answer code p st res).loops = s.loops ∧
    (s.answer code p st res).insts = s.insts ∧
    (s.answer code p st res).ports = s.ports ∧
    (s.answer code p st res).fns = s.fns ∧
    (s.answer code p st res).eic = s.eic ∧
    (s.answer code p st res).bus = s.bus ∧
    (s.answer code p st res).hostMem = s.hostMem ∧
    (s.answer code p st res).dram = s.dram ∧
    (s.answer code p st res).spad = s.spad ∧
    (s.answer code p st res).memc = s.memc ∧
    (s.answer code p st res).copy = s.copy ∧
    (s.answer code p st res).surf = s.surf ∧
    (s.answer code p st res).gpu = s.gpu ∧
    (s.answer code p st res).blend = s.blend ∧
    (s.answer code p st res).colour = s.colour ∧
    (s.answer code p st res).pipes = s.pipes ∧
    (s.answer code p st res).err = s.err ∧
    (s.answer code p st res).links = s.links ∧
    (s.answer code p st res).touch = s.touch ∧
    (s.answer code p st res).haptics = s.haptics ∧
    (s.answer code p st res).audio = s.audio ∧
    (s.answer code p st res).sec = s.sec ∧
    (s.answer code p st res).clocks = s.clocks ∧
    (s.answer code p st res).power = s.power ∧
    (s.answer code p st res).firmware = s.firmware ∧
    (s.answer code p st res).boot = s.boot := by
  unfold State.answer
  simp only []
  split <;> simp

/-- So does the final reply of a long packet. -/
@[simp] theorem State.finish_frame (s : State) (o : Owed) (st : Status) (res : List W32) :
    (s.finish o st res).pending = s.pending ∧
    (s.finish o st res).board = s.board ∧
    (s.finish o st res).devTime = s.devTime ∧
    (s.finish o st res).freeCtr = s.freeCtr ∧
    (s.finish o st res).ledger = s.ledger ∧
    (s.finish o st res).loops = s.loops ∧
    (s.finish o st res).insts = s.insts ∧
    (s.finish o st res).ports = s.ports ∧
    (s.finish o st res).fns = s.fns ∧
    (s.finish o st res).eic = s.eic ∧
    (s.finish o st res).bus = s.bus ∧
    (s.finish o st res).hostMem = s.hostMem ∧
    (s.finish o st res).dram = s.dram ∧
    (s.finish o st res).spad = s.spad ∧
    (s.finish o st res).memc = s.memc ∧
    (s.finish o st res).copy = s.copy ∧
    (s.finish o st res).surf = s.surf ∧
    (s.finish o st res).gpu = s.gpu ∧
    (s.finish o st res).blend = s.blend ∧
    (s.finish o st res).colour = s.colour ∧
    (s.finish o st res).pipes = s.pipes ∧
    (s.finish o st res).err = s.err ∧
    (s.finish o st res).links = s.links ∧
    (s.finish o st res).touch = s.touch ∧
    (s.finish o st res).haptics = s.haptics ∧
    (s.finish o st res).audio = s.audio ∧
    (s.finish o st res).sec = s.sec ∧
    (s.finish o st res).clocks = s.clocks ∧
    (s.finish o st res).power = s.power ∧
    (s.finish o st res).firmware = s.firmware ∧
    (s.finish o st res).boot = s.boot := by simp [State.finish]

/-- So does one that may wait. -/
@[simp] theorem State.finishOpt_frame (s : State) (o : Option Owed) (st : Status) (res : List W32) :
    (s.finishOpt o st res).pending = s.pending ∧
    (s.finishOpt o st res).board = s.board ∧
    (s.finishOpt o st res).devTime = s.devTime ∧
    (s.finishOpt o st res).freeCtr = s.freeCtr ∧
    (s.finishOpt o st res).ledger = s.ledger ∧
    (s.finishOpt o st res).loops = s.loops ∧
    (s.finishOpt o st res).insts = s.insts ∧
    (s.finishOpt o st res).ports = s.ports ∧
    (s.finishOpt o st res).fns = s.fns ∧
    (s.finishOpt o st res).eic = s.eic ∧
    (s.finishOpt o st res).bus = s.bus ∧
    (s.finishOpt o st res).hostMem = s.hostMem ∧
    (s.finishOpt o st res).dram = s.dram ∧
    (s.finishOpt o st res).spad = s.spad ∧
    (s.finishOpt o st res).memc = s.memc ∧
    (s.finishOpt o st res).copy = s.copy ∧
    (s.finishOpt o st res).surf = s.surf ∧
    (s.finishOpt o st res).gpu = s.gpu ∧
    (s.finishOpt o st res).blend = s.blend ∧
    (s.finishOpt o st res).colour = s.colour ∧
    (s.finishOpt o st res).pipes = s.pipes ∧
    (s.finishOpt o st res).err = s.err ∧
    (s.finishOpt o st res).links = s.links ∧
    (s.finishOpt o st res).touch = s.touch ∧
    (s.finishOpt o st res).haptics = s.haptics ∧
    (s.finishOpt o st res).audio = s.audio ∧
    (s.finishOpt o st res).sec = s.sec ∧
    (s.finishOpt o st res).clocks = s.clocks ∧
    (s.finishOpt o st res).power = s.power ∧
    (s.finishOpt o st res).firmware = s.firmware ∧
    (s.finishOpt o st res).boot = s.boot := by cases o <;> simp [State.finishOpt]

/-- A noted generation changes the transport alone. -/
@[simp] theorem State.noteGen_frame (s : State) (p : Packet) :
    (s.noteGen p).pending = s.pending ∧
    (s.noteGen p).board = s.board ∧
    (s.noteGen p).devTime = s.devTime ∧
    (s.noteGen p).freeCtr = s.freeCtr ∧
    (s.noteGen p).ledger = s.ledger ∧
    (s.noteGen p).loops = s.loops ∧
    (s.noteGen p).insts = s.insts ∧
    (s.noteGen p).ports = s.ports ∧
    (s.noteGen p).fns = s.fns ∧
    (s.noteGen p).eic = s.eic ∧
    (s.noteGen p).bus = s.bus ∧
    (s.noteGen p).hostMem = s.hostMem ∧
    (s.noteGen p).dram = s.dram ∧
    (s.noteGen p).spad = s.spad ∧
    (s.noteGen p).memc = s.memc ∧
    (s.noteGen p).copy = s.copy ∧
    (s.noteGen p).surf = s.surf ∧
    (s.noteGen p).gpu = s.gpu ∧
    (s.noteGen p).blend = s.blend ∧
    (s.noteGen p).colour = s.colour ∧
    (s.noteGen p).pipes = s.pipes ∧
    (s.noteGen p).err = s.err ∧
    (s.noteGen p).tele = s.tele ∧
    (s.noteGen p).links = s.links ∧
    (s.noteGen p).touch = s.touch ∧
    (s.noteGen p).haptics = s.haptics ∧
    (s.noteGen p).audio = s.audio ∧
    (s.noteGen p).sec = s.sec ∧
    (s.noteGen p).clocks = s.clocks ∧
    (s.noteGen p).power = s.power ∧
    (s.noteGen p).firmware = s.firmware ∧
    (s.noteGen p).boot = s.boot := by
  unfold State.noteGen
  simp

/-- An interim reply changes the transport alone. -/
@[simp] theorem State.interim_frame (s : State) (code : Nat) (p : Packet) :
    (s.interim code p).pending = s.pending ∧
    (s.interim code p).board = s.board ∧
    (s.interim code p).devTime = s.devTime ∧
    (s.interim code p).freeCtr = s.freeCtr ∧
    (s.interim code p).ledger = s.ledger ∧
    (s.interim code p).loops = s.loops ∧
    (s.interim code p).insts = s.insts ∧
    (s.interim code p).ports = s.ports ∧
    (s.interim code p).fns = s.fns ∧
    (s.interim code p).eic = s.eic ∧
    (s.interim code p).bus = s.bus ∧
    (s.interim code p).hostMem = s.hostMem ∧
    (s.interim code p).dram = s.dram ∧
    (s.interim code p).spad = s.spad ∧
    (s.interim code p).memc = s.memc ∧
    (s.interim code p).copy = s.copy ∧
    (s.interim code p).surf = s.surf ∧
    (s.interim code p).gpu = s.gpu ∧
    (s.interim code p).blend = s.blend ∧
    (s.interim code p).colour = s.colour ∧
    (s.interim code p).pipes = s.pipes ∧
    (s.interim code p).err = s.err ∧
    (s.interim code p).tele = s.tele ∧
    (s.interim code p).links = s.links ∧
    (s.interim code p).touch = s.touch ∧
    (s.interim code p).haptics = s.haptics ∧
    (s.interim code p).audio = s.audio ∧
    (s.interim code p).sec = s.sec ∧
    (s.interim code p).clocks = s.clocks ∧
    (s.interim code p).power = s.power ∧
    (s.interim code p).firmware = s.firmware ∧
    (s.interim code p).boot = s.boot := by
  unfold State.interim
  split <;> split <;> simp

/-- The mark of an applied packet changes the transport alone. -/
@[simp] theorem State.markApplied_frame (s : State) (p : Packet) :
    (s.markApplied p).pending = s.pending ∧
    (s.markApplied p).board = s.board ∧
    (s.markApplied p).devTime = s.devTime ∧
    (s.markApplied p).freeCtr = s.freeCtr ∧
    (s.markApplied p).ledger = s.ledger ∧
    (s.markApplied p).loops = s.loops ∧
    (s.markApplied p).insts = s.insts ∧
    (s.markApplied p).ports = s.ports ∧
    (s.markApplied p).fns = s.fns ∧
    (s.markApplied p).eic = s.eic ∧
    (s.markApplied p).bus = s.bus ∧
    (s.markApplied p).hostMem = s.hostMem ∧
    (s.markApplied p).dram = s.dram ∧
    (s.markApplied p).spad = s.spad ∧
    (s.markApplied p).memc = s.memc ∧
    (s.markApplied p).copy = s.copy ∧
    (s.markApplied p).surf = s.surf ∧
    (s.markApplied p).gpu = s.gpu ∧
    (s.markApplied p).blend = s.blend ∧
    (s.markApplied p).colour = s.colour ∧
    (s.markApplied p).pipes = s.pipes ∧
    (s.markApplied p).err = s.err ∧
    (s.markApplied p).tele = s.tele ∧
    (s.markApplied p).links = s.links ∧
    (s.markApplied p).touch = s.touch ∧
    (s.markApplied p).haptics = s.haptics ∧
    (s.markApplied p).audio = s.audio ∧
    (s.markApplied p).sec = s.sec ∧
    (s.markApplied p).clocks = s.clocks ∧
    (s.markApplied p).power = s.power ∧
    (s.markApplied p).firmware = s.firmware ∧
    (s.markApplied p).boot = s.boot := by simp [State.markApplied]

/-- A store to an instance changes the DRAM alone. -/
@[simp] theorem State.writeInst_frame (s : State) (n a : Nat) (bs : List Byte) :
    (s.writeInst n a bs).pending = s.pending ∧
    (s.writeInst n a bs).board = s.board ∧
    (s.writeInst n a bs).devTime = s.devTime ∧
    (s.writeInst n a bs).freeCtr = s.freeCtr ∧
    (s.writeInst n a bs).ledger = s.ledger ∧
    (s.writeInst n a bs).loops = s.loops ∧
    (s.writeInst n a bs).insts = s.insts ∧
    (s.writeInst n a bs).ports = s.ports ∧
    (s.writeInst n a bs).fns = s.fns ∧
    (s.writeInst n a bs).tp = s.tp ∧
    (s.writeInst n a bs).eic = s.eic ∧
    (s.writeInst n a bs).bus = s.bus ∧
    (s.writeInst n a bs).hostMem = s.hostMem ∧
    (s.writeInst n a bs).spad = s.spad ∧
    (s.writeInst n a bs).memc = s.memc ∧
    (s.writeInst n a bs).copy = s.copy ∧
    (s.writeInst n a bs).surf = s.surf ∧
    (s.writeInst n a bs).gpu = s.gpu ∧
    (s.writeInst n a bs).blend = s.blend ∧
    (s.writeInst n a bs).colour = s.colour ∧
    (s.writeInst n a bs).pipes = s.pipes ∧
    (s.writeInst n a bs).err = s.err ∧
    (s.writeInst n a bs).tele = s.tele ∧
    (s.writeInst n a bs).links = s.links ∧
    (s.writeInst n a bs).touch = s.touch ∧
    (s.writeInst n a bs).haptics = s.haptics ∧
    (s.writeInst n a bs).audio = s.audio ∧
    (s.writeInst n a bs).sec = s.sec ∧
    (s.writeInst n a bs).clocks = s.clocks ∧
    (s.writeInst n a bs).power = s.power ∧
    (s.writeInst n a bs).firmware = s.firmware ∧
    (s.writeInst n a bs).boot = s.boot := by simp [State.writeInst]

/-- A store to a grant changes the scratchpad alone. -/
@[simp] theorem State.writeSpad_frame (s : State) (n a : Nat) (bs : List Byte) :
    (s.writeSpad n a bs).pending = s.pending ∧
    (s.writeSpad n a bs).board = s.board ∧
    (s.writeSpad n a bs).devTime = s.devTime ∧
    (s.writeSpad n a bs).freeCtr = s.freeCtr ∧
    (s.writeSpad n a bs).ledger = s.ledger ∧
    (s.writeSpad n a bs).loops = s.loops ∧
    (s.writeSpad n a bs).insts = s.insts ∧
    (s.writeSpad n a bs).ports = s.ports ∧
    (s.writeSpad n a bs).fns = s.fns ∧
    (s.writeSpad n a bs).tp = s.tp ∧
    (s.writeSpad n a bs).eic = s.eic ∧
    (s.writeSpad n a bs).bus = s.bus ∧
    (s.writeSpad n a bs).hostMem = s.hostMem ∧
    (s.writeSpad n a bs).dram = s.dram ∧
    (s.writeSpad n a bs).memc = s.memc ∧
    (s.writeSpad n a bs).copy = s.copy ∧
    (s.writeSpad n a bs).surf = s.surf ∧
    (s.writeSpad n a bs).gpu = s.gpu ∧
    (s.writeSpad n a bs).blend = s.blend ∧
    (s.writeSpad n a bs).colour = s.colour ∧
    (s.writeSpad n a bs).pipes = s.pipes ∧
    (s.writeSpad n a bs).err = s.err ∧
    (s.writeSpad n a bs).tele = s.tele ∧
    (s.writeSpad n a bs).links = s.links ∧
    (s.writeSpad n a bs).touch = s.touch ∧
    (s.writeSpad n a bs).haptics = s.haptics ∧
    (s.writeSpad n a bs).audio = s.audio ∧
    (s.writeSpad n a bs).sec = s.sec ∧
    (s.writeSpad n a bs).clocks = s.clocks ∧
    (s.writeSpad n a bs).power = s.power ∧
    (s.writeSpad n a bs).firmware = s.firmware ∧
    (s.writeSpad n a bs).boot = s.boot := by simp [State.writeSpad]

/-- A store to the host changes the host memory alone. -/
@[simp] theorem State.writeHost_frame (s : State) (k a : Nat) (bs : List Byte) :
    (s.writeHost k a bs).pending = s.pending ∧
    (s.writeHost k a bs).board = s.board ∧
    (s.writeHost k a bs).devTime = s.devTime ∧
    (s.writeHost k a bs).freeCtr = s.freeCtr ∧
    (s.writeHost k a bs).ledger = s.ledger ∧
    (s.writeHost k a bs).loops = s.loops ∧
    (s.writeHost k a bs).insts = s.insts ∧
    (s.writeHost k a bs).ports = s.ports ∧
    (s.writeHost k a bs).fns = s.fns ∧
    (s.writeHost k a bs).tp = s.tp ∧
    (s.writeHost k a bs).eic = s.eic ∧
    (s.writeHost k a bs).bus = s.bus ∧
    (s.writeHost k a bs).dram = s.dram ∧
    (s.writeHost k a bs).spad = s.spad ∧
    (s.writeHost k a bs).memc = s.memc ∧
    (s.writeHost k a bs).copy = s.copy ∧
    (s.writeHost k a bs).surf = s.surf ∧
    (s.writeHost k a bs).gpu = s.gpu ∧
    (s.writeHost k a bs).blend = s.blend ∧
    (s.writeHost k a bs).colour = s.colour ∧
    (s.writeHost k a bs).pipes = s.pipes ∧
    (s.writeHost k a bs).err = s.err ∧
    (s.writeHost k a bs).tele = s.tele ∧
    (s.writeHost k a bs).links = s.links ∧
    (s.writeHost k a bs).touch = s.touch ∧
    (s.writeHost k a bs).haptics = s.haptics ∧
    (s.writeHost k a bs).audio = s.audio ∧
    (s.writeHost k a bs).sec = s.sec ∧
    (s.writeHost k a bs).clocks = s.clocks ∧
    (s.writeHost k a bs).power = s.power ∧
    (s.writeHost k a bs).firmware = s.firmware ∧
    (s.writeHost k a bs).boot = s.boot := by simp [State.writeHost]

/-- The next free values change the counter alone. -/
@[simp] theorem State.tickFree_frame (s : State) :
    (s.tickFree).pending = s.pending ∧
    (s.tickFree).board = s.board ∧
    (s.tickFree).devTime = s.devTime ∧
    (s.tickFree).ledger = s.ledger ∧
    (s.tickFree).loops = s.loops ∧
    (s.tickFree).insts = s.insts ∧
    (s.tickFree).ports = s.ports ∧
    (s.tickFree).fns = s.fns ∧
    (s.tickFree).tp = s.tp ∧
    (s.tickFree).eic = s.eic ∧
    (s.tickFree).bus = s.bus ∧
    (s.tickFree).hostMem = s.hostMem ∧
    (s.tickFree).dram = s.dram ∧
    (s.tickFree).spad = s.spad ∧
    (s.tickFree).memc = s.memc ∧
    (s.tickFree).copy = s.copy ∧
    (s.tickFree).surf = s.surf ∧
    (s.tickFree).gpu = s.gpu ∧
    (s.tickFree).blend = s.blend ∧
    (s.tickFree).colour = s.colour ∧
    (s.tickFree).pipes = s.pipes ∧
    (s.tickFree).err = s.err ∧
    (s.tickFree).tele = s.tele ∧
    (s.tickFree).links = s.links ∧
    (s.tickFree).touch = s.touch ∧
    (s.tickFree).haptics = s.haptics ∧
    (s.tickFree).audio = s.audio ∧
    (s.tickFree).sec = s.sec ∧
    (s.tickFree).clocks = s.clocks ∧
    (s.tickFree).power = s.power ∧
    (s.tickFree).firmware = s.firmware ∧
    (s.tickFree).boot = s.boot := by simp [State.tickFree]

end Sys2Proof.Machine
end

