-- ==== Sys2Proof/Laws/Memory.lean ====
section
/-!
SUPPORT. The laws of sparse tables and memories: what a write changes and what it leaves, that every memory operation keeps
the canonical form, and that tables in canonical form which read alike are equal.
-/

namespace Sys2Proof

section Cells
variable {α : Type} [DecidableEq α] {d : α}

omit [DecidableEq α] in
theorem cellsGet_above {k : Nat} : ∀ {l : List (Nat × α)}, cellsAbove k l = true → cellsGet d k l = d
  | [], _ => rfl
  | (k', v) :: r, h => by
    simp [cellsAbove] at h
    have : k' ≠ k := by omega
    simp [cellsGet, this, cellsGet_above h.2]

omit [DecidableEq α] in
theorem cellsAbove_mono {k j : Nat} (hj : j ≤ k) : ∀ {l : List (Nat × α)}, cellsAbove k l = true → cellsAbove j l = true
  | [], _ => rfl
  | (k', v) :: r, h => by
    simp [cellsAbove] at h ⊢
    exact ⟨by omega, cellsAbove_mono hj h.2⟩

theorem cellsAbove_set {j k : Nat} (hj : j < k) (v : α) :
    ∀ {l : List (Nat × α)}, cellsAbove j l = true → cellsAbove j (cellsSet d k v l) = true
  | [], _ => by by_cases hv : v = d <;> simp [cellsSet, hv, cellsAbove, hj]
  | (k', v') :: r, h => by
    simp only [cellsAbove, Bool.and_eq_true, decide_eq_true_eq] at h
    simp only [cellsSet]
    split
    · split <;> simp [cellsAbove, h, hj]
    · split
      · split
        · exact h.2
        · simp [cellsAbove, h, hj]
      · simp [cellsAbove, h, cellsAbove_set hj v h.2]

/-- A write keeps the canonical form. -/
theorem cellsSet_wf (k : Nat) (v : α) : ∀ {l : List (Nat × α)}, cellsWf d l = true → cellsWf d (cellsSet d k v l) = true
  | [], _ => by by_cases hv : v = d <;> simp [cellsSet, hv, cellsWf, cellsAbove]
  | (k', v') :: r, h => by
    simp only [cellsWf, Bool.and_eq_true, decide_eq_true_eq] at h
    obtain ⟨⟨h1, h2⟩, h3⟩ := h
    simp only [cellsSet]
    split
    · rename_i hk
      split
      · simp [cellsWf, h1, h2, h3]
      · rename_i hv
        simp [cellsWf, cellsAbove, h1, h2, h3, hk, hv, cellsAbove_mono (Nat.le_of_lt hk) h2]
    · split
      · split
        · exact h3
        · rename_i hk hv; subst hk; simp [cellsWf, hv, h2, h3]
      · rename_i hk hk'
        have : k' < k := by omega
        simp [cellsWf, h1, cellsAbove_set this v h2, cellsSet_wf k v h3]

/-- A read after a write to the same key gives the value written. -/
theorem cellsGet_set_same (k : Nat) (v : α) :
    ∀ {l : List (Nat × α)}, cellsWf d l = true → cellsGet d k (cellsSet d k v l) = v
  | [], _ => by by_cases hv : v = d <;> simp [cellsSet, hv, cellsGet]
  | (k', v') :: r, h => by
    simp only [cellsWf, Bool.and_eq_true, decide_eq_true_eq] at h
    obtain ⟨⟨h1, h2⟩, h3⟩ := h
    simp only [cellsSet]
    split
    · rename_i hk
      split
      · rename_i hv
        have : k' ≠ k := by omega
        simp [cellsGet, this, hv, cellsGet_above (cellsAbove_mono (Nat.le_of_lt hk) h2)]
      · simp [cellsGet]
    · split
      · rename_i hk
        split
        · rename_i hv; subst hk; rw [cellsGet_above h2, hv]
        · simp [cellsGet]
      · rename_i hk hk'
        simp [cellsGet, hk', cellsGet_set_same k v h3]

/-- A write leaves every other key alone. -/
theorem cellsGet_set_other {j k : Nat} (hjk : j ≠ k) (v : α) :
    ∀ {l : List (Nat × α)}, cellsGet d j (cellsSet d k v l) = cellsGet d j l
  | [] => by by_cases hv : v = d <;> simp [cellsSet, hv, cellsGet, hjk.symm]
  | (k', v') :: r => by
    simp only [cellsSet]
    split
    · split <;> simp [cellsGet, hjk.symm]
    · split
      · rename_i hk; subst hk
        split <;> simp [cellsGet, hjk.symm]
      · simp only [cellsGet]
        split
        · rfl
        · exact cellsGet_set_other hjk v

/-- A read after a write of a value other than the default gives it, canonical or not. -/
theorem cellsGet_set_ne_default (k : Nat) {v : α} (hv : v ≠ d) : ∀ (l : List (Nat × α)), cellsGet d k (cellsSet d k v l) = v
  | [] => by simp [cellsSet, hv, cellsGet]
  | (k', v') :: r => by
    simp only [cellsSet]
    split
    · simp [cellsGet]
    · split
      · simp [cellsGet]
      · rename_i hk'
        simp [cellsGet, hk', cellsGet_set_ne_default k hv r]

omit [DecidableEq α] in
theorem cellsAbove_filter (q : Nat × α → Bool) {k : Nat} :
    ∀ {l : List (Nat × α)}, cellsAbove k l = true → cellsAbove k (l.filter q) = true
  | [], _ => rfl
  | (k', v) :: r, h => by
    simp only [cellsAbove, Bool.and_eq_true, decide_eq_true_eq] at h
    simp only [List.filter]
    split <;> simp [cellsAbove, h, cellsAbove_filter q h.2]

/-- Removing entries keeps the canonical form. -/
theorem cellsWf_filter (q : Nat × α → Bool) : ∀ {l : List (Nat × α)}, cellsWf d l = true → cellsWf d (l.filter q) = true
  | [], _ => rfl
  | (k', v) :: r, h => by
    simp only [cellsWf, Bool.and_eq_true, decide_eq_true_eq] at h
    obtain ⟨⟨h1, h2⟩, h3⟩ := h
    simp only [List.filter]
    split
    · simp [cellsWf, h1, cellsAbove_filter q h2, cellsWf_filter q h3]
    · exact cellsWf_filter q h3

end Cells

section Tables
variable {α : Type} [DecidableEq α] {d : α}

@[simp] theorem Tab.empty_wf : (Tab.empty : Tab d).wf = true := rfl

omit [DecidableEq α] in
@[simp] theorem Tab.get_empty (k : Nat) : (Tab.empty : Tab d).get k = d := rfl

@[simp] theorem Tab.set_wf {t : Tab d} (h : t.wf = true) (k : Nat) (v : α) : (t.set k v).wf = true := cellsSet_wf k v h

theorem Tab.get_set_same {t : Tab d} (h : t.wf = true) (k : Nat) (v : α) : (t.set k v).get k = v := cellsGet_set_same k v h

@[simp] theorem Tab.get_set_other {t : Tab d} {j k : Nat} (hjk : j ≠ k) (v : α) : (t.set k v).get j = t.get j :=
  cellsGet_set_other hjk v

theorem Tab.get_set_ne_default (t : Tab d) (k : Nat) {v : α} (hv : v ≠ d) : (t.set k v).get k = v :=
  cellsGet_set_ne_default k hv t.cells

@[simp] theorem Tab.upd_wf {t : Tab d} (h : t.wf = true) (k : Nat) (f : α → α) : (t.upd k f).wf = true := Tab.set_wf h _ _

theorem Tab.get_upd_same {t : Tab d} (h : t.wf = true) (k : Nat) (f : α → α) : (t.upd k f).get k = f (t.get k) :=
  Tab.get_set_same h _ _

@[simp] theorem Tab.get_upd_other {t : Tab d} {j k : Nat} (hjk : j ≠ k) (f : α → α) : (t.upd k f).get j = t.get j :=
  Tab.get_set_other hjk _

theorem Tab.setAll_wf (v : α) : ∀ (ks : List Nat) {t : Tab d}, t.wf = true → (t.setAll ks v).wf = true
  | [], _, h => h
  | k :: ks, _, h => Tab.setAll_wf v ks (Tab.set_wf h k v)

end Tables

/-! ### Byte memories -/

theorem Mem.write_wf : ∀ (bs : List Byte) {m : Mem} (a : Nat), Tab.wf m = true → Tab.wf (Mem.write m a bs) = true
  | [], _, _, h => h
  | _ :: bs, _, a, h => Mem.write_wf bs (a + 1) (Tab.set_wf h a _)

theorem Mem.zero_wf {m : Mem} (a n : Nat) (h : Tab.wf m = true) : Tab.wf (Mem.zero m a n) = true := cellsWf_filter _ h

/-- A write leaves every byte outside its range as it was. -/
theorem Mem.get_write_outside : ∀ (bs : List Byte) (m : Mem) (a j : Nat), j < a ∨ a + bs.length ≤ j →
    Tab.get (Mem.write m a bs) j = Tab.get m j
  | [], _, _, _, _ => rfl
  | b :: bs, m, a, j, h => by
    simp only [List.length_cons] at h
    rw [Mem.write, Mem.get_write_outside bs _ (a + 1) j (by omega), Tab.get_set_other (by omega)]

/-- A write stores its bytes in order. -/
theorem Mem.get_write_inside : ∀ (bs : List Byte) {m : Mem} (a i : Nat), Tab.wf m = true → (hi : i < bs.length) →
    Tab.get (Mem.write m a bs) (a + i) = bs[i]
  | b :: bs, m, a, 0, h, _ => by
    rw [Mem.write, Mem.get_write_outside bs _ (a + 1) (a + 0) (by omega)]
    exact Tab.get_set_same h a b
  | b :: bs, m, a, i + 1, h, hi => by
    have e : a + (i + 1) = a + 1 + i := by omega
    rw [Mem.write, e, Mem.get_write_inside bs (a + 1) i (Tab.set_wf h a b) (by simpa using hi)]
    rfl

namespace Machine

theorem writePages_wf (ps : List Page) : ∀ (bs : List Byte) {m : Mem} (a : Nat), Tab.wf m = true →
    Tab.wf (writePages m ps a bs) = true
  | [], _, _, h => h
  | b :: bs, m, a, h => by
    rw [writePages]
    split
    · exact writePages_wf ps bs (a + 1) (Tab.set_wf h _ _)
    · exact writePages_wf ps bs (a + 1) h

theorem writeSpad_wf (blocks : List Nat) : ∀ (bs : List Byte) {m : Mem} (off : Nat), Tab.wf m = true →
    Tab.wf (writeSpad m blocks off bs) = true
  | [], _, _, h => h
  | b :: bs, m, off, h => by
    rw [writeSpad]
    split
    · exact writeSpad_wf blocks bs (off + 1) (Tab.set_wf h _ _)
    · exact writeSpad_wf blocks bs (off + 1) h

/-- A store through an instance's pages changes only bytes of the DRAM addresses that its pages give. -/
theorem writePages_outside (ps : List Page) : ∀ (bs : List Byte) (m : Mem) (a q : Nat),
    (∀ i, i < bs.length → physAt ps (a + i) ≠ some q) → Tab.get (writePages m ps a bs) q = Tab.get m q
  | [], _, _, _, _ => rfl
  | b :: bs, m, a, q, h => by
    have h0 := h 0 (by simp)
    have hs : ∀ i, i < bs.length → physAt ps (a + 1 + i) ≠ some q := fun i hi => by
      have := h (i + 1) (by simpa using hi)
      rwa [show a + (i + 1) = a + 1 + i by omega] at this
    rw [writePages]
    split
    · rename_i q' hq
      rw [writePages_outside ps bs _ (a + 1) q hs, Tab.get_set_other]
      rintro rfl
      exact h0 (by simpa using hq)
    · exact writePages_outside ps bs _ (a + 1) q hs

/-- A store through a scratchpad grant changes only bytes of the grant's blocks. -/
theorem writeSpad_outside (blocks : List Nat) : ∀ (bs : List Byte) (m : Mem) (off q : Nat),
    (∀ i, i < bs.length → spadAt blocks (off + i) ≠ some q) → Tab.get (writeSpad m blocks off bs) q = Tab.get m q
  | [], _, _, _, _ => rfl
  | b :: bs, m, off, q, h => by
    have h0 := h 0 (by simp)
    have hs : ∀ i, i < bs.length → spadAt blocks (off + 1 + i) ≠ some q := fun i hi => by
      have := h (i + 1) (by simpa using hi)
      rwa [show off + (i + 1) = off + 1 + i by omega] at this
    rw [writeSpad]
    split
    · rename_i q' hq
      rw [writeSpad_outside blocks bs _ (off + 1) q hs, Tab.get_set_other]
      rintro rfl
      exact h0 (by simpa using hq)
    · exact writeSpad_outside blocks bs _ (off + 1) q hs

/-- Two offsets of a grant without repeated blocks lie at different addresses. -/
theorem spadAt_inj {blocks : List Nat} (hn : blocks.Nodup) {a b q : Nat} (ha : spadAt blocks a = some q)
    (hb : spadAt blocks b = some q) : a = b := by
  simp only [spadAt, Option.map_eq_some_iff] at ha hb
  obtain ⟨x, hx, ex⟩ := ha
  obtain ⟨y, hy, ey⟩ := hb
  have hxy : x = y := by omega
  subst hxy
  obtain ⟨h1, e1⟩ := List.getElem?_eq_some_iff.mp hx
  obtain ⟨h2, e2⟩ := List.getElem?_eq_some_iff.mp hy
  have : a / 4096 = b / 4096 := (List.Nodup.getElem_inj_iff hn).mp (e1.trans e2.symm)
  omega

/-- A store through a scratchpad grant puts each byte at its own place. -/
theorem writeSpad_inside {blocks : List Nat} (hn : blocks.Nodup) : ∀ (bs : List Byte) {m : Mem} (off i q : Nat),
    Tab.wf m = true → (hi : i < bs.length) → spadAt blocks (off + i) = some q →
    Tab.get (writeSpad m blocks off bs) q = bs[i]
  | b :: bs, m, off, 0, q, hw, _, hq => by
    rw [writeSpad]
    simp only [Nat.add_zero] at hq
    rw [hq]
    simp only []
    rw [writeSpad_outside, Tab.get_set_same hw]
    · rfl
    · intro i hi hc
      have := spadAt_inj hn hc hq
      omega
  | b :: bs, m, off, i + 1, q, hw, hi, hq => by
    rw [show off + (i + 1) = off + 1 + i by omega] at hq
    rw [writeSpad]
    split
    · exact writeSpad_inside hn bs (off + 1) i q (Tab.set_wf hw _ _) (by simpa using hi) hq
    · exact writeSpad_inside hn bs (off + 1) i q hw (by simpa using hi) hq

end Machine

end Sys2Proof
end

