-- ==== Sys2Proof/Laws/Ops.lean ====
section
/-!
SUPPORT. What the shared operations can do, said once: a packet that waits, one that a check refuses and one that is
taken; checks in their order; event rows on a fitted and on an absent unit; and which fields telemetry, events, the ledger,
error records and replies leave alone.
-/

namespace Sys2Proof.Machine

open Sys2Proof

/-! ### Packets -/

@[simp] theorem State.admit_markApplied (s : State) (op : Op) (own : Bool) (p q : Packet) :
    (s.markApplied q).verdict op own p = s.verdict op own p := rfl

/-- A packet that must wait changes nothing. -/
theorem packet_blocked {op : Op} {own : Bool} {p : Packet} {s : State} {run : State → Ans} (h : s.blocked p = true) :
    packet op own p s run = .next s := by simp [packet, applyPacket, h]

/-- A packet that steps 4 to 9 refuse changes nothing but its mark, the count of denials and its reply. -/
theorem packet_refused {op : Op} {own : Bool} {p : Packet} {s : State} {run : State → Ans} {st : Status}
    (hb : s.blocked p = false) (h : s.verdict op own p = some st) :
    packet op own p s run = .next ((if decide (st = .denied) && decide (p.inst ≠ 0) then (s.markApplied p).count 0 p.inst 28
      else s.markApplied p).answer op.code p st []) := by
  simp [packet, applyPacket, hb, h]

/-- What a row that has passed steps 4 to 9 leaves behind: the state after its execution, with its reply. -/
def Ans.close (s : State) (op : Op) (p : Packet) : Ans → State
  | .fail st res => s.answer op.code p st res
  | .done t st res => t.answer op.code p st res
  | .owe t => t.interim op.code p

@[simp] theorem Ans.close_fail (s : State) (op : Op) (p : Packet) (st : Status) (res : List W32) :
    Ans.close s op p (.fail st res) = s.answer op.code p st res := rfl
@[simp] theorem Ans.close_done (s t : State) (op : Op) (p : Packet) (st : Status) (res : List W32) :
    Ans.close s op p (.done t st res) = t.answer op.code p st res := rfl
@[simp] theorem Ans.close_owe (s t : State) (op : Op) (p : Packet) : Ans.close s op p (.owe t) = t.interim op.code p := rfl

/-- A packet that is taken runs. -/
theorem packet_taken {op : Op} {own : Bool} {p : Packet} {s : State} {run : State → Ans} (h : s.takes op own p = true) :
    packet op own p s run = .next (Ans.close (s.markApplied p) op p (run (s.markApplied p))) := by
  simp only [State.takes, Bool.and_eq_true, Bool.not_eq_true', Option.isNone_iff_eq_none] at h
  simp only [packet, applyPacket, h.1, State.admit_markApplied, h.2, Bool.false_eq_true, if_false]
  split <;> simp_all

/-- A packet row always goes on. -/
theorem packet_next (op : Op) (own : Bool) (p : Packet) (s : State) (run : State → Ans) :
    ∃ t, packet op own p s run = .next t := ⟨_, rfl⟩

@[simp] theorem checks_nil (k : Ans) : checks [] k = k := rfl
@[simp] theorem checks_true (st : Status) (cs : List (Bool × Status)) (k : Ans) :
    checks ((true, st) :: cs) k = checks cs k := rfl
@[simp] theorem checks_false (st : Status) (cs : List (Bool × Status)) (k : Ans) :
    checks ((false, st) :: cs) k = .fail st [] := rfl

/-- A check that holds is passed. -/
theorem checks_pass {ok : Bool} {st : Status} {cs : List (Bool × Status)} {k : Ans} (h : ok = true) :
    checks ((ok, st) :: cs) k = checks cs k := by subst h; rfl

/-- The first check that fails gives the status. -/
theorem checks_stop {ok : Bool} {st : Status} {cs : List (Bool × Status)} {k : Ans} (h : ok = false) :
    checks ((ok, st) :: cs) k = .fail st [] := by subst h; rfl

/-! ### Units -/

theorem onUnit_present {s : State} {h : Nat} {k : State} (hp : s.present h = true) : onUnit s h k = .next k := by
  simp [onUnit, hp]

theorem onUnit_absent {s : State} {h : Nat} {k : State} (hp : s.present h = false) :
    onUnit s h k = .fault (.absentUnit h) := by simp [onUnit, hp]

/-- A row on a unit goes on, or faults for the unit that the member does not have. -/
theorem onUnit_goesOn (s : State) (h : Nat) (k : State) : s.goesOn (onUnit s h k) := by
  unfold State.goesOn onUnit
  split
  · exact .inl ⟨k, rfl⟩
  · exact .inr ⟨h, by simp_all, rfl⟩

/-! ### Events and the ledger -/

/-- A record leaves accepted packets, replies and messages alone. -/
@[simp] theorem State.raise_tp (s : State) (dst code unit det : Nat) :
    (s.raise dst code unit det).tp.accepted = s.tp.accepted ∧ (s.raise dst code unit det).tp.replies = s.tp.replies ∧
    (s.raise dst code unit det).tp.mgmtOut = s.tp.mgmtOut ∧ (s.raise dst code unit det).tp.voided = s.tp.voided ∧
    (s.raise dst code unit det).tp.msixSent = s.tp.msixSent := by
  unfold State.raise
  simp only []
  split
  · simp
  · split
    · simp
    · simp
    · split <;> simp

/-- A record leaves everything of every instance as it was, but for the count of a frozen one. -/
theorem State.raise_inst (s : State) (dst code unit det n : Nat) :
    ∃ f, (s.raise dst code unit det).inst n = { s.inst n with frozen := f } := by
  unfold State.raise
  simp only []
  split
  · exact ⟨_, rfl⟩
  · split
    · exact ⟨_, rfl⟩
    · rename_i hf
      by_cases hn : n = dst
      · subst hn
        refine ⟨(s.inst n).frozen.map (fun f => { f with discarded := f.discarded + 1 }), ?_⟩
        have := Tab.get_set_ne_default s.insts n
          (v := { s.inst n with frozen := (s.inst n).frozen.map (fun f => { f with discarded := f.discarded + 1 }) })
          (by intro h; have := congrArg Inst.state h; simp [hf, Inst.none] at this)
        simpa [State.inst, State.updInst, Tab.upd] using this
      · exact ⟨(s.inst n).frozen, by simp [State.inst, State.updInst, Tab.get_upd_other hn]⟩
    · split
      · exact ⟨(s.inst n).frozen, by simp [State.inst]⟩
      · exact ⟨_, rfl⟩

@[simp] theorem State.raiseAll_tp (s : State) (tos : List Nat) (code unit det : Nat) :
    (s.raiseAll tos code unit det).tp.accepted = s.tp.accepted ∧ (s.raiseAll tos code unit det).tp.replies = s.tp.replies ∧
    (s.raiseAll tos code unit det).tp.mgmtOut = s.tp.mgmtOut ∧ (s.raiseAll tos code unit det).tp.voided = s.tp.voided ∧
    (s.raiseAll tos code unit det).tp.msixSent = s.tp.msixSent := by
  unfold State.raiseAll
  induction tos generalizing s with
  | nil => simp
  | cons n ns ih => simpa using ih (s.raise n code unit det)

/-- What a new intention does to the ledger. -/
@[simp] theorem State.intend_ledger (s : State) (h : Nat) (b : Bool) (n : Nat) :
    (s.intend h b n).ledger = s.ledger.set h
      { gen := nextGen (s.genOf h),
        agree := if (s.entry h).agree = .contradicted then .contradicted else if b then .settling else .agreed,
        fact := (s.entry h).fact } := by
  unfold State.intend
  simp only []
  split <;> simp [State.setEntry, State.genOf]

/-- What a fact does to the ledger. -/
theorem State.setFact_ledger (s : State) (h f : Nat) : (s.setFact h f).ledger =
    if (s.entry h).agree = .contradicted ∧ (s.entry h).fact = f then s.ledger
    else s.ledger.set h { gen := nextGen (s.genOf h), agree := .contradicted, fact := f } := by
  unfold State.setFact
  simp only []
  split <;> simp [State.setEntry, State.genOf]

/-- What the clearing of a fact does to the ledger. -/
theorem State.clearFact_ledger (s : State) (h : Nat) : (s.clearFact h).ledger =
    if (s.entry h).agree = .contradicted then s.ledger.set h { gen := nextGen (s.genOf h), agree := .settling, fact := 0 }
    else s.ledger := by
  unfold State.clearFact
  simp only []
  split <;> simp [State.setEntry, State.genOf]

/-- The generation after an advance is never 0. -/
theorem nextGen_ne_zero (g : W32) : nextGen g ≠ 0 := by
  unfold nextGen
  split
  · decide
  · assumption

/-- A host write whose bytes lie in no HOST_RO page is stored whole (R190). -/
theorem State.hostWrite_writable {s : State} {n a : Nat} {d : List Byte}
    (h : ∀ i, i < d.length → hostRoAt (s.inst n).pages (a + i) = false) : s.hostWrite n a d = s.writeInst n a d := by
  have : (List.range d.length).any (fun i => hostRoAt (s.inst n).pages (a + i)) = false := by
    simpa using h
  simp [State.hostWrite, this]

/-- A host write whose bytes all lie in HOST_RO pages is only counted (R190). -/
theorem State.hostWrite_discarded {s : State} {n a : Nat} {d : List Byte} (hl : 0 < d.length)
    (h : ∀ i, i < d.length → hostRoAt (s.inst n).pages (a + i) = true) : s.hostWrite n a d = s.count 0 n 37 := by
  have h1 : (List.range d.length).any (fun i => hostRoAt (s.inst n).pages (a + i)) = true := by
    simp only [List.any_eq_true, List.mem_range]
    exact ⟨0, hl, h 0 hl⟩
  have h2 : d.zipIdx.filter (fun x => !hostRoAt (s.inst n).pages (a + x.2)) = [] := by
    simp only [List.filter_eq_nil_iff]
    rintro ⟨b, i⟩ hx
    have := List.mem_zipIdx hx
    simp only [h i (by omega), Bool.not_true, Bool.false_eq_true, not_false_iff]
  simp [State.hostWrite, h1, h2]

end Sys2Proof.Machine
end

