-- ==== Sys2Proof/Laws/Invariant.lean ====
section
/-!
SUPPORT. Every operation keeps the invariant of Safety: one lemma per operation.
-/

namespace Sys2Proof.Machine

open Sys2Proof

def ansInv : Ans → Prop
  | .fail _ _ => True
  | .done s _ _ => State.Inv s
  | .owe s => State.Inv s
def outInv : Host.Outcome State Fault Refusal → Prop
  | .next s => State.Inv s
  | _ => True
theorem out_next {s : State} (h : State.Inv s) : outInv (.next s) := h
theorem out_fault {f : Fault} : outInv (.fault f) := trivial
theorem ans_done {s : State} {st : Status} {r : List W32} (h : State.Inv s) : ansInv (.done s st r) := h
theorem ans_owe {s : State} (h : State.Inv s) : ansInv (.owe s) := h
theorem ans_fail {st : Status} {r : List W32} : ansInv (.fail st r) := trivial

theorem foldl_inv {α : Type} {l : List α} {f : State → α → State} {s : State} (hf : ∀ s a, State.Inv s → State.Inv (f s a)) (h : State.Inv s) :
    State.Inv (l.foldl f s) := by
  induction l generalizing s with
  | nil => exact h
  | cons a l ih => exact ih (hf s a h)

theorem checks_inv {k : Ans} {l : List (Bool × Status)} (h : ansInv k) : ansInv (checks l k) := by
  induction l with
  | nil => exact h
  | cons x l ih =>
    obtain ⟨b, st⟩ := x
    cases b with
    | true => exact ih
    | false => exact trivial
theorem unless_inv {b : Bool} {st : Status} {k : Ans} (h : ansInv k) : ansInv (Ans.unless b st k) := by
  cases b with
  | true => exact h
  | false => exact trivial
theorem foldl_fst_inv {α β : Type} {l : List α} {f : State × β → α → State × β} {s : State × β}
    (hf : ∀ s a, State.Inv s.1 → State.Inv (f s a).1) (h : State.Inv s.1) : State.Inv (l.foldl f s).1 := by
  induction l generalizing s with
  | nil => exact h
  | cons a l ih => exact ih (hf s a h)
theorem ite_inv {c : Prop} [Decidable c] {a b : State} (ha : c → State.Inv a) (hb : ¬c → State.Inv b) : State.Inv (if c then a else b) := by
  split
  · exact ha ‹_›
  · exact hb ‹_›
theorem oite_inv {c : Prop} [Decidable c] {a b : Host.Outcome State Fault Refusal} (ha : c → outInv a) (hb : ¬c → outInv b) :
    outInv (if c then a else b) := by
  split
  · exact ha ‹_›
  · exact hb ‹_›
theorem of_done {x : Ans} {s : State} {st : Status} {r : List W32} (h : x = .done s st r) (hx : ansInv x) : State.Inv s := by
  rw [h] at hx; exact hx
theorem of_owe {x : Ans} {s : State} (h : x = .owe s) (hx : ansInv x) : State.Inv s := by rw [h] at hx; exact hx
theorem id_inv {s : State} (h : State.Inv s) : State.Inv (id s) := h
theorem dramOk {s : State} (h : State.Inv s) : Tab.wf s.dram = true := by
  have := h.1; simp only [State.memWf, Bool.and_eq_true] at this; exact this.1.1
theorem spadOk {s : State} (h : State.Inv s) : Tab.wf s.spad = true := by
  have := h.1; simp only [State.memWf, Bool.and_eq_true] at this; exact this.1.2
theorem hostOk {s : State} (h : State.Inv s) : Tab.wf s.hostMem = true := by
  have := h.1; simp only [State.memWf, Bool.and_eq_true] at this; exact this.2
theorem genOk {s : State} (h : State.Inv s) (k : Nat) : (s.entry k).gen ≠ 0 := h.2.2.1 k
theorem errOk {s : State} (h : State.Inv s) : s.err.queue.length ≤ 64 := h.2.2.2
theorem foldWf {α : Type} {l : List α} {f : Mem → α → Mem} {m : Mem} (hf : ∀ m a, Tab.wf m = true → Tab.wf (f m a) = true)
    (h : Tab.wf m = true) : Tab.wf (l.foldl f m) = true := by
  induction l generalizing m with
  | nil => exact h
  | cons a l ih => exact ih (hf m a h)
theorem zeroBlocks_wf {m : Mem} {bs : List Nat} (h : Tab.wf m = true) : Tab.wf (zeroBlocks m bs) = true :=
  foldWf (fun _ _ h => Mem.zero_wf _ _ h) h
theorem zeroSpad_wf {m : Mem} {bs : List Nat} (h : Tab.wf m = true) : Tab.wf (zeroSpad m bs) = true :=
  foldWf (fun _ _ h => Mem.zero_wf _ _ h) h
theorem zeroPages_wf {m : Mem} {bs : List Page} (h : Tab.wf m = true) : Tab.wf (zeroPages m bs) = true :=
  foldWf (fun _ _ h => Mem.zero_wf _ _ h) h
theorem fst_ite_inv {β : Type} {c : Prop} [Decidable c] {a b : State × β} (ha : c → State.Inv a.1) (hb : ¬c → State.Inv b.1) :
    State.Inv (if c then a else b).1 := by
  split
  · exact ha ‹_›
  · exact hb ‹_›
theorem stop_inv {o : Option Status} {k : Ans} (h : ansInv k) : ansInv (Ans.stop o k) := by
  cases o with
  | none => exact h
  | some _ => exact trivial

theorem State.setPending_inv (s : State) (x : List Instr) (h1 : State.Inv s) : State.Inv (State.setPending s x) := h1

theorem State.setBoard_inv (s : State) (x : Board) (h1 : State.Inv s) : State.Inv (State.setBoard s x) := h1

theorem State.setDevTime_inv (s : State) (x : Nat) (h1 : State.Inv s) : State.Inv (State.setDevTime s x) := h1

theorem State.setFreeCtr_inv (s : State) (x : Nat) (h1 : State.Inv s) : State.Inv (State.setFreeCtr s x) := h1

theorem State.setLedger_inv (s : State) (x : Tab Entry.reset) (h1 : State.Inv s) (hx : x.wf = true)
    (hg : ∀ k, (x.get k).gen ≠ 0) : State.Inv (State.setLedger s x) := ⟨h1.1, hx, hg, h1.2.2.2⟩

theorem State.setLoops_inv (s : State) (x : Tab none) (h1 : State.Inv s) : State.Inv (State.setLoops s x) := h1

theorem State.setInsts_inv (s : State) (x : Tab Inst.none) (h1 : State.Inv s) : State.Inv (State.setInsts s x) := h1

theorem State.setPorts_inv (s : State) (x : Tab Port.reset) (h1 : State.Inv s) : State.Inv (State.setPorts s x) := h1

theorem State.setFns_inv (s : State) (x : Tab Fn.reset) (h1 : State.Inv s) : State.Inv (State.setFns s x) := h1

theorem State.setTp_inv (s : State) (x : Transport) (h1 : State.Inv s) : State.Inv (State.setTp s x) := h1

theorem State.setEic_inv (s : State) (x : Eic) (h1 : State.Inv s) : State.Inv (State.setEic s x) := h1

theorem State.setBus_inv (s : State) (x : List Byte) (h1 : State.Inv s) : State.Inv (State.setBus s x) := h1

theorem State.setHostMem_inv (s : State) (x : Mem) (h1 : State.Inv s) (hx : Tab.wf x = true) : State.Inv (State.setHostMem s x) := by
  have hd := dramOk h1
  have hs := spadOk h1
  refine ⟨?_, h1.2⟩
  simp only [State.memWf, Bool.and_eq_true]
  exact ⟨⟨hd, hs⟩, hx⟩

theorem State.setDram_inv (s : State) (x : Mem) (h1 : State.Inv s) (hx : Tab.wf x = true) : State.Inv (State.setDram s x) := by
  have hs := spadOk h1
  have hh := hostOk h1
  refine ⟨?_, h1.2⟩
  simp only [State.memWf, Bool.and_eq_true]
  exact ⟨⟨hx, hs⟩, hh⟩

theorem State.setSpad_inv (s : State) (x : Mem) (h1 : State.Inv s) (hx : Tab.wf x = true) : State.Inv (State.setSpad s x) := by
  have hd := dramOk h1
  have hh := hostOk h1
  refine ⟨?_, h1.2⟩
  simp only [State.memWf, Bool.and_eq_true]
  exact ⟨⟨hd, hx⟩, hh⟩

theorem State.setMemc_inv (s : State) (x : Memc) (h1 : State.Inv s) : State.Inv (State.setMemc s x) := h1

theorem State.setCopy_inv (s : State) (x : List CopyJob) (h1 : State.Inv s) : State.Inv (State.setCopy s x) := h1

theorem State.setSurf_inv (s : State) (x : Surf) (h1 : State.Inv s) : State.Inv (State.setSurf s x) := h1

theorem State.setGpu_inv (s : State) (x : Gpu) (h1 : State.Inv s) : State.Inv (State.setGpu s x) := h1

theorem State.setBlend_inv (s : State) (x : Blend) (h1 : State.Inv s) : State.Inv (State.setBlend s x) := h1

theorem State.setColour_inv (s : State) (x : Tab Colour.reset) (h1 : State.Inv s) : State.Inv (State.setColour s x) := h1

theorem State.setPipes_inv (s : State) (x : Pipes) (h1 : State.Inv s) : State.Inv (State.setPipes s x) := h1

theorem State.setErr_inv (s : State) (x : Err) (h1 : State.Inv s) (hx : x.queue.length ≤ 64) : State.Inv (State.setErr s x) :=
  ⟨h1.1, h1.2.1, h1.2.2.1, hx⟩

theorem State.setTele_inv (s : State) (x : Tab 0) (h1 : State.Inv s) : State.Inv (State.setTele s x) := h1

theorem State.setLinks_inv (s : State) (x : Links) (h1 : State.Inv s) : State.Inv (State.setLinks s x) := h1

theorem State.setTouch_inv (s : State) (x : Touch) (h1 : State.Inv s) : State.Inv (State.setTouch s x) := h1

theorem State.setHaptics_inv (s : State) (x : Haptics) (h1 : State.Inv s) : State.Inv (State.setHaptics s x) := h1

theorem State.setAudio_inv (s : State) (x : Audio) (h1 : State.Inv s) : State.Inv (State.setAudio s x) := h1

theorem State.setSec_inv (s : State) (x : Sec) (h1 : State.Inv s) : State.Inv (State.setSec s x) := h1

theorem State.setClocks_inv (s : State) (x : Clocks) (h1 : State.Inv s) : State.Inv (State.setClocks s x) := h1

theorem State.setPower_inv (s : State) (x : Power) (h1 : State.Inv s) : State.Inv (State.setPower s x) := h1

theorem State.setFirmware_inv (s : State) (x : Firmware) (h1 : State.Inv s) : State.Inv (State.setFirmware s x) := h1

theorem State.setBoot_inv (s : State) (x : Boot) (h1 : State.Inv s) : State.Inv (State.setBoot s x) := h1

theorem State.countBy_inv (s : State) (set : Nat) (scope : Nat) (idx : Nat) (n : Nat) (h1 : State.Inv s) : State.Inv (State.countBy s set scope idx n) := by
  unfold State.countBy
  with_reducible repeat' first
    | assumption | apply State.setTele_inv

theorem State.count_inv (s : State) (set : Nat) (scope : Nat) (idx : Nat) (h1 : State.Inv s) : State.Inv (State.count s set scope idx) := by
  unfold State.count
  with_reducible repeat' first
    | assumption | apply State.countBy_inv

theorem State.countMax_inv (s : State) (set : Nat) (scope : Nat) (idx : Nat) (n : Nat) (h1 : State.Inv s) : State.Inv (State.countMax s set scope idx n) := by
  unfold State.countMax
  with_reducible repeat' first
    | assumption | apply State.setTele_inv

theorem State.updInst_inv (s : State) (n : Nat) (f : Inst → Inst) (h1 : State.Inv s) : State.Inv (State.updInst s n f) := by
  unfold State.updInst
  with_reducible repeat' first
    | assumption | apply State.setInsts_inv

theorem State.updFn_inv (s : State) (k : Nat) (f : Fn → Fn) (h1 : State.Inv s) : State.Inv (State.updFn s k f) := by
  unfold State.updFn
  with_reducible repeat' first
    | assumption | apply State.setFns_inv

theorem State.updSlot_inv (s : State) (i : Nat) (f : Slot → Slot) (h1 : State.Inv s) : State.Inv (State.updSlot s i f) := by
  unfold State.updSlot
  dsimp only
  with_reducible repeat' first
    | assumption | apply State.setBlend_inv

theorem State.updPipe_inv (s : State) (i : Nat) (f : Pipe → Pipe) (h1 : State.Inv s) : State.Inv (State.updPipe s i f) := by
  unfold State.updPipe
  dsimp only
  with_reducible repeat' first
    | assumption | apply State.setPipes_inv

theorem State.updMon_inv (s : State) (i : Nat) (f : Mon → Mon) (h1 : State.Inv s) : State.Inv (State.updMon s i f) := by
  unfold State.updMon
  dsimp only
  with_reducible repeat' first
    | assumption | apply State.setPipes_inv

theorem State.raise_inv (s : State) (dst : Nat) (code : Nat) (unit : Nat) (det : Nat) (h1 : State.Inv s) : State.Inv (State.raise s dst code unit det) := by
  unfold State.raise
  dsimp only
  with_reducible repeat' first
    | assumption | apply State.count_inv | apply State.setTp_inv | apply State.updInst_inv | apply ite_inv | intro _ | split

theorem State.raiseAll_inv (s : State) (tos : List Nat) (code : Nat) (unit : Nat) (det : Nat) (h1 : State.Inv s) : State.Inv (State.raiseAll s tos code unit det) := by
  unfold State.raiseAll
  with_reducible repeat' first
    | assumption | apply State.raise_inv | apply foldl_inv | intro _

theorem State.ledgerChanged_inv (s : State) (a1 : Nat) (cause : Nat) (sender : Nat) (h1 : State.Inv s) : State.Inv (State.ledgerChanged s a1 cause sender) := by
  unfold State.ledgerChanged
  dsimp only
  with_reducible repeat' first
    | assumption | apply State.raiseAll_inv

theorem State.setEntry_inv (s : State) (k : Nat) (e : Entry) (h1 : State.Inv s) (he : e.gen ≠ 0) : State.Inv (State.setEntry s k e) := by
  unfold State.setEntry
  refine State.setLedger_inv _ _ h1 (Tab.set_wf h1.2.1 _ _) fun j => ?_
  by_cases hj : j = k
  · subst hj; rw [Tab.get_set_same h1.2.1]; exact he
  · rw [Tab.get_set_other hj]; exact h1.2.2.1 j

theorem State.advance_inv (s : State) (a1 : Nat) (h1 : State.Inv s) : State.Inv (State.advance s a1) := by
  unfold State.advance
  dsimp only
  with_reducible repeat' first
    | assumption | apply nextGen_ne_zero | apply State.setEntry_inv

theorem State.intend_inv (s : State) (a1 : Nat) (settling : Bool) (sender : Nat) (h1 : State.Inv s) : State.Inv (State.intend s a1 settling sender) := by
  unfold State.intend
  dsimp only
  with_reducible repeat' first
    | assumption | apply State.ledgerChanged_inv | apply State.setEntry_inv | apply State.setPower_inv | apply ite_inv
    | apply nextGen_ne_zero | intro _

theorem State.setFact_inv (s : State) (a1 : Nat) (fact : Nat) (h1 : State.Inv s) : State.Inv (State.setFact s a1 fact) := by
  unfold State.setFact
  dsimp only
  with_reducible repeat' first
    | assumption | apply State.ledgerChanged_inv | apply State.setEntry_inv | apply ite_inv | apply nextGen_ne_zero | intro _

theorem State.clearFact_inv (s : State) (a1 : Nat) (h1 : State.Inv s) : State.Inv (State.clearFact s a1) := by
  unfold State.clearFact
  dsimp only
  with_reducible repeat' first
    | assumption | apply State.ledgerChanged_inv | apply State.setEntry_inv | apply ite_inv | apply nextGen_ne_zero | intro _

theorem State.settle_inv (s : State) (a1 : Nat) (h1 : State.Inv s) : State.Inv (State.settle s a1) := by
  unfold State.settle
  dsimp only
  with_reducible repeat' first
    | assumption | apply State.setEntry_inv | apply genOk | apply ite_inv | intro _

theorem State.raiseErr_inv (s : State) (code sev unit inst seq det : Nat) (inj : Bool) (h1 : State.Inv s) :
    State.Inv (State.raiseErr s code sev unit inst seq det inj) := by
  have hq := errOk h1
  unfold State.raiseErr
  dsimp only
  with_reducible apply ite_inv <;> intro _
  · refine State.setErr_inv _ _ (State.count_inv _ _ _ _ (State.count_inv _ _ _ _ h1)) ?_
    dsimp only
    rcases List.eq_nil_or_concat s.err.queue with h | ⟨q, r, h⟩
    · rw [h]; exact Nat.zero_le _
    · rw [h] at hq ⊢; simpa using hq
  · refine State.setErr_inv _ _ (ite_inv (fun _ => State.count_inv _ _ _ _ ?_) (fun _ => ?_)) ?_
    · exact ite_inv (fun _ => State.countBy_inv _ _ _ _ _ (State.count_inv _ _ _ _ h1)) (fun _ => State.count_inv _ _ _ _ h1)
    · exact ite_inv (fun _ => State.countBy_inv _ _ _ _ _ (State.count_inv _ _ _ _ h1)) (fun _ => State.count_inv _ _ _ _ h1)
    · have hn : s.err.queue.dropLast.length + 1 ≤ 64 ∨ s.err.queue = [] := by
        rcases List.eq_nil_or_concat s.err.queue with h | ⟨q, r, h⟩
        · exact Or.inr h
        · left; rw [h] at hq ⊢; simpa using hq
      generalize (s.count 10 0 sev).errRecord code sev unit inst seq det inj = r
      have hl : ∀ c : Bool, (if (!decide (64 ≤ s.err.queue.length)) = true then s.err.queue ++ [r]
          else if (decide (64 ≤ s.err.queue.length) && c && decide (sev ≠ 4)) = true then s.err.queue
          else s.err.queue.dropLast ++ [r]).length ≤ 64 := by
        intro c
        split
        · rename_i h; simp at h; simp; omega
        · split
          · exact hq
          · rcases hn with h | h
            · simpa using h
            · simp [h]
      by_cases hb : (s.count 10 0 sev).errEscalates sev unit = true
      · simp only [hb, if_true]
        split <;> exact hl _
      · simp only [hb, if_false, Bool.false_eq_true]
        split <;> exact hl _

theorem State.writeInst_inv (s : State) (n : Nat) (a : Nat) (bs : List Byte) (h1 : State.Inv s) : State.Inv (State.writeInst s n a bs) := by
  unfold State.writeInst
  with_reducible repeat' first
    | assumption | apply State.setDram_inv | apply writePages_wf | apply dramOk

theorem State.writeSpad_inv (s : State) (n : Nat) (off : Nat) (bs : List Byte) (h1 : State.Inv s) : State.Inv (State.writeSpad s n off bs) := by
  unfold State.writeSpad
  with_reducible repeat' first
    | assumption | apply State.setSpad_inv | apply writeSpad_wf | apply spadOk

theorem State.writeHost_inv (s : State) (port : Nat) (a : Nat) (bs : List Byte) (h1 : State.Inv s) : State.Inv (State.writeHost s port a bs) := by
  unfold State.writeHost
  with_reducible repeat' first
    | assumption | apply Mem.write_wf | apply hostOk | apply State.setHostMem_inv

theorem State.tickFree_inv (s : State) (h1 : State.Inv s) : State.Inv (State.tickFree s) := by
  unfold State.tickFree
  with_reducible repeat' first
    | assumption | apply State.setFreeCtr_inv

theorem State.markApplied_inv (s : State) (p : Packet) (h1 : State.Inv s) : State.Inv (State.markApplied s p) := by
  unfold State.markApplied
  dsimp only
  with_reducible repeat' first
    | assumption | apply State.setTp_inv

theorem State.answer_inv (s : State) (code : Nat) (p : Packet) (st : Status) (res : List W32) (h1 : State.Inv s) : State.Inv (State.answer s code p st res) := by
  unfold State.answer
  dsimp only
  with_reducible repeat' first
    | assumption | apply State.count_inv | apply State.setTp_inv | apply ite_inv | intro _

theorem State.finish_inv (s : State) (o : Owed) (st : Status) (res : List W32) (h1 : State.Inv s) : State.Inv (State.finish s o st res) := by
  unfold State.finish
  with_reducible repeat' first
    | assumption | apply State.answer_inv

theorem State.finishOpt_inv (s : State) (o : Option Owed) (st : Status) (res : List W32) (h1 : State.Inv s) : State.Inv (State.finishOpt s o st res) := by
  unfold State.finishOpt
  with_reducible repeat' first
    | assumption | apply State.finish_inv | split

theorem State.noteGen_inv (s : State) (p : Packet) (h1 : State.Inv s) : State.Inv (State.noteGen s p) := by
  unfold State.noteGen
  dsimp only
  with_reducible repeat' first
    | assumption | apply State.setTp_inv

theorem State.interim_inv (s : State) (code : Nat) (p : Packet) (h1 : State.Inv s) : State.Inv (State.interim s code p) := by
  unfold State.interim
  dsimp only
  with_reducible repeat' first
    | assumption | apply State.setTp_inv | apply ite_inv | intro _

theorem applyPacket_inv (op : Op) (own : Bool) (p : Packet) (s : State) (run : State → Ans) (h4 : State.Inv s) (h5 : ∀ s, State.Inv s → ansInv (run s)) : State.Inv (applyPacket op own p s run) := by
  unfold applyPacket
  dsimp only
  with_reducible repeat' first
    | assumption | apply h5 | apply State.answer_inv | apply State.count_inv | apply State.interim_inv
    | apply State.markApplied_inv | apply ite_inv | (apply of_done; assumption) | (apply of_owe; assumption) | intro _ | split

theorem packet_inv (op : Op) (own : Bool) (p : Packet) (s : State) (run : State → Ans) (h4 : State.Inv s) (h5 : ∀ s, State.Inv s → ansInv (run s)) : outInv (packet op own p s run) := by
  unfold packet
  with_reducible repeat' first
    | assumption | apply h5 | apply applyPacket_inv | apply out_next

theorem onUnit_inv (s : State) (a1 : Nat) (k : State) (h1 : State.Inv s) (h3 : State.Inv k) : outInv (onUnit s a1 k) := by
  unfold onUnit
  with_reducible repeat' first
    | assumption | apply out_next | apply out_fault | apply oite_inv | intro _

theorem State.setEicNotice_inv (s : State) (e : Eic) (h1 : State.Inv s) : State.Inv (State.setEicNotice s e) := by
  unfold State.setEicNotice
  with_reducible repeat' first
    | assumption | apply State.setEic_inv

theorem State.edge_inv (s : State) (source : Nat) (h1 : State.Inv s) : State.Inv (State.edge s source) := by
  unfold State.edge
  dsimp only
  with_reducible repeat' first
    | assumption | apply State.setEicNotice_inv | apply ite_inv | intro _

theorem State.withdrawSource_inv (s : State) (target : Nat) (source : Nat) (h1 : State.Inv s) : State.Inv (State.withdrawSource s target source) := by
  unfold State.withdrawSource
  dsimp only
  with_reducible repeat' first
    | assumption | apply State.setEicNotice_inv

theorem State.readMailbox_inv (s : State) (source : Nat) (h1 : State.Inv s) : State.Inv (State.readMailbox s source) := by
  unfold State.readMailbox
  dsimp only
  with_reducible repeat' first
    | assumption | apply State.setSec_inv | apply ite_inv | intro _

theorem State.sendMsix_inv (s : State) (k : Nat) (v : Nat) (h1 : State.Inv s) : State.Inv (State.sendMsix s k v) := by
  unfold State.sendMsix
  dsimp only
  with_reducible repeat' first
    | assumption | apply State.setTp_inv | apply State.writeHost_inv

theorem State.signal_inv (s : State) (k : Nat) (v : Nat) (h1 : State.Inv s) : State.Inv (State.signal s k v) := by
  unfold State.signal
  dsimp only
  with_reducible repeat' first
    | assumption | apply State.sendMsix_inv | apply State.updFn_inv | apply ite_inv | intro _

theorem State.flushPba_inv (s : State) (k : Nat) (h1 : State.Inv s) : State.Inv (State.flushPba s k) := by
  unfold State.flushPba
  with_reducible repeat' first
    | assumption | apply State.sendMsix_inv | apply State.updFn_inv | apply foldl_inv | apply ite_inv | intro _

theorem State.writeRing_inv (s : State) (port : Nat) (base : Nat) (size : Nat) (tail : Nat) (bs : List Byte) (h1 : State.Inv s) : State.Inv (State.writeRing s port base size tail bs) := by
  unfold State.writeRing
  with_reducible repeat' first
    | assumption | apply State.writeHost_inv | apply foldl_fst_inv | intro _

theorem State.putEvent_inv (s : State) (k : Nat) (r : EvRec) (h1 : State.Inv s) : State.Inv (State.putEvent s k r) := by
  unfold State.putEvent
  dsimp only
  with_reducible repeat' first
    | assumption | apply State.signal_inv | apply State.updFn_inv | apply State.writeHost_inv | apply State.writeRing_inv
    | apply ite_inv | intro _

theorem State.hold_inv (s : State) (k : Nat) (r : EvRec) (h1 : State.Inv s) : State.Inv (State.hold s k r) := by
  unfold State.hold
  with_reducible repeat' first
    | assumption | apply State.count_inv | apply State.updFn_inv | apply ite_inv | intro _

theorem State.deliver_inv (s : State) (k : Nat) (r : EvRec) (h1 : State.Inv s) : State.Inv (State.deliver s k r) := by
  unfold State.deliver
  dsimp only
  with_reducible repeat' first
    | assumption | apply State.hold_inv | apply State.putEvent_inv | apply ite_inv | intro _

theorem State.drainHolding_inv (fuel : Nat) : ∀ (a1 : State) (a2 : Nat) (h2 : State.Inv a1), State.Inv (State.drainHolding fuel a1 a2) := by
  induction fuel with
  | zero => intros; assumption
  | succ k ih =>
    intros
    unfold State.drainHolding
    try dsimp only
    with_reducible repeat' first
      | assumption | apply ih | apply State.putEvent_inv | apply State.updFn_inv | apply ite_inv | intro _ | split

theorem State.maskOrDeliver_inv (s : State) (k : Nat) (r : EvRec) (h1 : State.Inv s) : State.Inv (State.maskOrDeliver s k r) := by
  unfold State.maskOrDeliver
  with_reducible repeat' first
    | assumption | apply State.deliver_inv | apply State.updFn_inv | apply ite_inv | intro _

theorem State.unlatch_inv (s : State) (k : Nat) (code : Nat) (h1 : State.Inv s) : State.Inv (State.unlatch s k code) := by
  unfold State.unlatch
  dsimp only
  with_reducible repeat' first
    | assumption | apply State.deliver_inv | apply State.updFn_inv | apply ite_inv | intro _ | split

theorem State.withdrawEvents_inv (s : State) (n : Nat) (h1 : State.Inv s) : State.Inv (State.withdrawEvents s n) := by
  unfold State.withdrawEvents
  dsimp only
  with_reducible repeat' first
    | assumption | apply State.countBy_inv | apply State.setTp_inv | apply State.updFn_inv | apply State.withdrawSource_inv
    | split

theorem State.putLoop_inv (s : State) (a1 : Nat) (i : Nat) (l : Loop) (h1 : State.Inv s) : State.Inv (State.putLoop s a1 i l) := by
  unfold State.putLoop
  with_reducible repeat' first
    | assumption | apply State.setLoops_inv

theorem State.loopEvent_inv (s : State) (code : Nat) (a2 : Nat) (i : Nat) (enter : Bool) (setter : Nat) (h1 : State.Inv s) : State.Inv (State.loopEvent s code a2 i enter setter) := by
  unfold State.loopEvent
  with_reducible repeat' first
    | assumption | apply State.raiseAll_inv

theorem State.stepLoop_inv (s : State) (a1 : Nat) (i : Nat) (target : Nat) (force : Option Nat) (h1 : State.Inv s) : State.Inv (State.stepLoop s a1 i target force) := by
  unfold State.stepLoop
  dsimp only
  with_reducible repeat' first
    | assumption | apply State.advance_inv | apply State.count_inv | apply State.loopEvent_inv | apply State.putLoop_inv
    | apply ite_inv | intro _ | split

theorem loopSet_inv (op : Nat) (ok : Loop → Bool) (f : Loop → Loop) (p : Packet) (s : State) (after : State → State) (h5 : State.Inv s) (h6 : ∀ s, State.Inv s → State.Inv (after s)) : outInv (loopSet op ok f p s after) := by
  unfold loopSet
  dsimp only
  with_reducible repeat' first
    | assumption | apply h6 | apply State.intend_inv | apply State.putLoop_inv | apply packet_inv | apply ans_fail
    | apply ans_done | apply checks_inv | intro _ | split

theorem State.setSurface_inv (s : State) (n : Nat) (id : Nat) (f : Option Surface) (h1 : State.Inv s) : State.Inv (State.setSurface s n id f) := by
  unfold State.setSurface
  dsimp only
  with_reducible repeat' first
    | assumption | apply State.setSurf_inv

theorem State.updSurface_inv (s : State) (n : Nat) (id : Nat) (g : Surface → Surface) (h1 : State.Inv s) : State.Inv (State.updSurface s n id g) := by
  unfold State.updSurface
  with_reducible repeat' first
    | assumption | apply State.setSurface_inv

theorem State.sealTiles_inv (s : State) (n : Nat) (id : Nat) (tiles : List Nat) (h1 : State.Inv s) : State.Inv (State.sealTiles s n id tiles) := by
  unfold State.sealTiles
  dsimp only
  with_reducible repeat' first
    | assumption | apply State.setSurface_inv | split

theorem State.bindWriter_inv (s : State) (n : Nat) (id : Nat) (h1 : State.Inv s) : State.Inv (State.bindWriter s n id) := by
  unfold State.bindWriter
  with_reducible repeat' first
    | assumption | apply State.updSurface_inv

theorem State.unbindWriter_inv (s : State) (n : Nat) (id : Nat) (h1 : State.Inv s) : State.Inv (State.unbindWriter s n id) := by
  unfold State.unbindWriter
  with_reducible repeat' first
    | assumption | apply State.updSurface_inv

theorem State.fnCount_inv (s : State) (k : Nat) (idx : Nat) (h1 : State.Inv s) : State.Inv (State.fnCount s k idx) := by
  unfold State.fnCount
  with_reducible repeat' first
    | assumption | apply State.count_inv | split

theorem onPort_inv (s : State) (port : Nat) (k : State) (h1 : State.Inv s) (h3 : State.Inv k) : outInv (onPort s port k) := by
  unfold onPort
  with_reducible repeat' first
    | assumption | apply onUnit_inv

theorem State.updSq_inv (s : State) (k : Nat) (ring : Nat) (f : Sq → Sq) (h1 : State.Inv s) : State.Inv (State.updSq s k ring f) := by
  unfold State.updSq
  with_reducible repeat' first
    | assumption | apply State.updFn_inv

theorem State.badDoorbell_inv (s : State) (k : Nat) (ring : Nat) (h1 : State.Inv s) : State.Inv (State.badDoorbell s k ring) := by
  unfold State.badDoorbell
  with_reducible repeat' first
    | assumption | apply State.fnCount_inv | apply State.updSq_inv

theorem State.takePacket_inv (s : State) (p : Packet) (opcode : Nat) (st : Option Status) (h1 : State.Inv s) : State.Inv (State.takePacket s p opcode st) := by
  unfold State.takePacket
  dsimp only
  with_reducible repeat' first
    | assumption | apply State.answer_inv | apply State.setTp_inv | split

theorem State.answerBroken_inv (s : State) (opcode : Nat) (p : Packet) (st : Status) (h1 : State.Inv s) : State.Inv (State.answerBroken s opcode p st) := by
  unfold State.answerBroken
  dsimp only
  with_reducible repeat' first
    | assumption | apply State.count_inv | apply State.setTp_inv

theorem State.dropReply_inv (s : State) (r : Reply) (h1 : State.Inv s) : State.Inv (State.dropReply s r) := by
  unfold State.dropReply
  dsimp only
  with_reducible repeat' first
    | assumption | apply State.setTp_inv

theorem State.writeReply_inv (s : State) (port : Nat) (fn : Nat) (h1 : State.Inv s) : State.Inv (State.writeReply s port fn) := by
  unfold State.writeReply
  dsimp only
  with_reducible repeat' first
    | assumption | apply State.dropReply_inv | apply State.setTp_inv | apply State.signal_inv | apply State.updFn_inv
    | apply State.writeHost_inv | apply State.writeRing_inv | apply ite_inv | intro _ | split

theorem State.resetFnRegs_inv (s : State) (k : Nat) (h1 : State.Inv s) : State.Inv (State.resetFnRegs s k) := by
  unfold State.resetFnRegs
  dsimp only
  with_reducible repeat' first
    | assumption | apply State.hold_inv | apply State.updFn_inv | apply foldl_inv | apply ite_inv | intro _

theorem State.settleDead_inv (s : State) (n : Nat) (d : DeadPages) (h1 : State.Inv s) : State.Inv (State.settleDead s n d).1 := by
  unfold State.settleDead
  dsimp only
  split
  · with_reducible repeat' (first | assumption | apply State.finishOpt_inv | apply State.finish_inv | apply State.raise_inv | apply State.setDram_inv | apply zeroPages_wf | apply dramOk | apply ite_inv | intro _ | split)
  · split
    · split
      · with_reducible repeat' (first | assumption | apply State.finishOpt_inv | apply State.finish_inv | apply State.raise_inv | apply State.setDram_inv | apply zeroPages_wf | apply dramOk | apply ite_inv | intro _ | split)
      · with_reducible repeat' (first | assumption | apply State.finishOpt_inv | apply State.finish_inv | apply State.raise_inv | apply State.setDram_inv | apply zeroPages_wf | apply dramOk | apply ite_inv | intro _ | split)
    · dsimp only; with_reducible repeat' (first | assumption | apply State.finishOpt_inv | apply State.finish_inv | apply State.raise_inv | apply State.setDram_inv | apply zeroPages_wf | apply dramOk | apply ite_inv | intro _ | split)

theorem State.settleAllDead_inv (s : State) (n : Nat) (h1 : State.Inv s) : State.Inv (State.settleAllDead s n) := by
  unfold State.settleAllDead
  dsimp only
  with_reducible repeat' first
    | assumption | apply State.settleDead_inv | apply State.updInst_inv | apply foldl_fst_inv | intro _

theorem State.setPages_inv (s : State) (n : Nat) (ps : List Page) (h1 : State.Inv s) : State.Inv (State.setPages s n ps) :=
  State.updInst_inv s n _ h1

theorem State.asJob_inv (s : State) (n : Nat) (p : Packet) (k : State → State) (h1 : State.Inv s)
    (h2 : ∀ t, State.Inv t → State.Inv (k t)) : State.Inv (State.asJob s n p k) :=
  State.setPages_inv _ _ _ (h2 _ (State.setPages_inv _ _ _ h1))

theorem State.addrFault_inv (s : State) (n : Nat) (unit : Nat) (a : Nat) (source : Nat) (write : Bool) (atomic : Bool) (bytes : Nat) (seq : Nat) (h1 : State.Inv s) : State.Inv (State.addrFault s n unit a source write atomic bytes seq) := by
  unfold State.addrFault
  with_reducible repeat' first
    | assumption | apply State.count_inv | apply State.raise_inv

theorem State.writeSide_inv (s : State) (n : Nat) (spad : Bool) (a : Nat) (bs : List Byte) (h1 : State.Inv s) : State.Inv (State.writeSide s n spad a bs) := by
  unfold State.writeSide
  with_reducible repeat' first
    | assumption | apply State.writeInst_inv | apply State.writeSpad_inv | apply ite_inv | intro _

theorem State.sideFault_inv (s : State) (n : Nat) (e : Nat) (write : Bool) (spad : Bool) (a : Nat) (len : Nat) (seq : Nat) (h1 : State.Inv s) : State.Inv (State.sideFault s n e write spad a len seq) := by
  unfold State.sideFault
  with_reducible repeat' first
    | assumption | apply State.addrFault_inv | apply ite_inv | intro _

theorem State.runDesc_inv (s : State) (n : Nat) (e : Nat) (seq : Nat) (d : CopyDesc) (hostData : List Byte) (h1 : State.Inv s) : State.Inv (State.runDesc s n e seq d hostData) := by
  unfold State.runDesc
  dsimp only
  with_reducible repeat' first
    | assumption | apply State.sealTiles_inv | apply State.sideFault_inv | apply State.writeHost_inv
    | apply State.writeInst_inv | apply State.writeSide_inv | apply ite_inv | intro _ | split

theorem State.dropJob_inv (s : State) (j : CopyJob) (h1 : State.Inv s) : State.Inv (State.dropJob s j) := by
  unfold State.dropJob
  dsimp only
  with_reducible repeat' first
    | assumption | apply State.setCopy_inv | apply State.settleAllDead_inv | apply State.unbindWriter_inv | apply foldl_inv
    | apply ite_inv | intro _

theorem State.endJob_inv (s : State) (j : CopyJob) (st : Status) (failed : Nat) (bytes : Nat) (h1 : State.Inv s) : State.Inv (State.endJob s j st failed bytes) := by
  unfold State.endJob
  dsimp only
  with_reducible repeat' first
    | assumption | apply State.dropJob_inv | apply State.finish_inv

theorem State.runSeal_inv (s : State) (j : CopyJob) (d : CopyDesc) (h1 : State.Inv s) : State.Inv (State.runSeal s j d) := by
  unfold State.runSeal
  dsimp only
  with_reducible repeat' first
    | assumption | apply State.sealTiles_inv | apply State.updSurface_inv | apply ite_inv | intro _ | split

theorem State.failHostRead_inv (s : State) (engine : Nat) (moved : Nat) (st : Status) (h1 : State.Inv s) : State.Inv (State.failHostRead s engine moved st) := by
  unfold State.failHostRead
  with_reducible repeat' first
    | assumption | apply State.edge_inv | apply State.endJob_inv | apply ite_inv | intro _ | split

theorem memConfig_inv (op : Nat) (target : Nat) (len : Nat) (p : Packet) (s : State) (run : State → Ans) (h5 : State.Inv s) (h6 : ∀ s, State.Inv s → ansInv (run s)) : outInv (memConfig op target len p s run) := by
  unfold memConfig
  with_reducible repeat' first
    | assumption | apply h6 | apply packet_inv | apply checks_inv | intro _

theorem State.hostMiss_inv (s : State) (k : Nat) (a : Nat) (source : Nat) (write : Bool) (atomic : Bool) (bytes : Nat) (h1 : State.Inv s) : State.Inv (State.hostMiss s k a source write atomic bytes) := by
  unfold State.hostMiss
  dsimp only
  with_reducible repeat' first
    | assumption | apply State.addrFault_inv | apply State.setBus_inv | apply ite_inv | intro _ | split

theorem State.retrain_inv (s : State) (channel : Nat) (converged : Bool) (h1 : State.Inv s) : State.Inv (State.retrain s channel converged) := by
  unfold State.retrain
  dsimp only
  with_reducible repeat' first
    | assumption | apply State.count_inv | apply State.raiseErr_inv | apply State.setMemc_inv | apply ite_inv | intro _

theorem State.memLost_inv (s : State) (region : Nat) (blocks : Nat) (h1 : State.Inv s) : State.Inv (State.memLost s region blocks) := by
  unfold State.memLost
  with_reducible repeat' first
    | assumption | apply State.raise_inv

theorem State.signalFence_inv (s : State) (f : Fence) (h1 : State.Inv s) : State.Inv (State.signalFence s f) := by
  unfold State.signalFence
  dsimp only
  with_reducible repeat' first
    | assumption | apply State.raise_inv | apply State.writeSpad_inv | apply ite_inv | intro _

theorem State.flushFences_inv (s : State) (h1 : State.Inv s) : State.Inv (State.flushFences s) := by
  unfold State.flushFences
  dsimp only
  with_reducible repeat' first
    | assumption | apply State.setSurf_inv | apply State.signalFence_inv | apply foldl_inv

theorem State.dropPending_inv (s : State) (i : Nat) (h1 : State.Inv s) : State.Inv (State.dropPending s i) := by
  unfold State.dropPending
  dsimp only
  with_reducible repeat' first
    | assumption | apply State.count_inv | apply State.setBlend_inv | apply State.settle_inv | apply State.updSlot_inv

theorem State.removeSurface_inv (s : State) (n : Nat) (id : Nat) (h1 : State.Inv s) : State.Inv (State.removeSurface s n id) := by
  unfold State.removeSurface
  with_reducible repeat' first
    | assumption | apply State.flushFences_inv | apply State.setSurface_inv

theorem State.dropSurfaces_inv (s : State) (n : Nat) (h1 : State.Inv s) : State.Inv (State.dropSurfaces s n) := by
  unfold State.dropSurfaces
  dsimp only
  with_reducible repeat' first
    | assumption | apply State.setSurf_inv | apply State.setSurface_inv | apply State.updSurface_inv | apply foldl_inv
    | apply ite_inv | intro _

theorem State.setAlarms_inv (s : State) (as : List (Nat × Nat)) (unit : Nat) (h1 : State.Inv s) : State.Inv (State.setAlarms s as unit) := by
  unfold State.setAlarms
  dsimp only
  with_reducible repeat' first
    | assumption | apply State.count_inv | apply State.raise_inv | apply State.setSec_inv | apply ite_inv | intro _

theorem State.assertCause_inv (s : State) (bit : Nat) (unit : Nat) (h1 : State.Inv s) : State.Inv (State.assertCause s bit unit) := by
  unfold State.assertCause
  with_reducible repeat' first
    | assumption | apply State.setAlarms_inv | apply ite_inv | intro _

theorem State.releaseCause_inv (s : State) (bit : Nat) (unit : Nat) (h1 : State.Inv s) : State.Inv (State.releaseCause s bit unit) := by
  unfold State.releaseCause
  with_reducible repeat' first
    | assumption | apply State.setAlarms_inv

theorem State.wdogEdge_inv (s : State) (h1 : State.Inv s) : State.Inv (State.wdogEdge s) := by
  unfold State.wdogEdge
  dsimp only
  with_reducible repeat' first
    | assumption | apply State.setEicNotice_inv

theorem State.secureState_inv (s : State) (cause : Nat) (h1 : State.Inv s) : State.Inv (State.secureState s cause) := by
  unfold State.secureState
  with_reducible repeat' first
    | assumption | apply State.raiseAll_inv

theorem State.dropCalls_inv (s : State) (h1 : State.Inv s) : State.Inv (State.dropCalls s) := by
  unfold State.dropCalls
  dsimp only
  with_reducible repeat' first
    | assumption | apply State.finish_inv | apply State.setSec_inv | apply foldl_inv | intro _

theorem State.cupperDown_inv (s : State) (unavail : Nat) (h1 : State.Inv s) : State.Inv (State.cupperDown s unavail) := by
  unfold State.cupperDown
  dsimp only
  with_reducible repeat' first
    | assumption | apply State.dropCalls_inv | apply State.secureState_inv | apply State.setAudio_inv | apply State.setSec_inv

theorem State.wdogSteps_inv (s : State) (unavail : Nat) (h1 : State.Inv s) : State.Inv (State.wdogSteps s unavail) := by
  unfold State.wdogSteps
  dsimp only
  with_reducible repeat' first
    | assumption | apply State.assertCause_inv | apply State.cupperDown_inv | apply State.raiseErr_inv
    | apply State.setSec_inv | apply State.wdogEdge_inv

theorem State.secureLost_inv (s : State) (unavail : Nat) (h1 : State.Inv s) : State.Inv (State.secureLost s unavail) := by
  unfold State.secureLost
  dsimp only
  with_reducible repeat' first
    | assumption | apply State.cupperDown_inv | apply State.raiseErr_inv | apply State.setFact_inv | apply State.wdogEdge_inv
    | apply State.wdogSteps_inv | apply ite_inv | intro _

theorem State.armEdge_inv (s : State) (h1 : State.Inv s) : State.Inv (State.armEdge s) := by
  unfold State.armEdge
  dsimp only
  with_reducible repeat' first
    | assumption | apply State.assertCause_inv | apply State.setSec_inv | apply State.wdogSteps_inv | apply ite_inv | intro _

theorem State.countHold_inv (s : State) (h1 : State.Inv s) : State.Inv (State.countHold s) := by
  unfold State.countHold
  dsimp only
  with_reducible repeat' first
    | assumption | apply State.count_inv | apply State.setSec_inv

theorem State.stagedApplied_inv (s : State) (is : List Nat) (h1 : State.Inv s) : State.Inv (State.stagedApplied s is) := by
  unfold State.stagedApplied
  with_reducible repeat' first
    | assumption | apply State.updSlot_inv | apply foldl_inv | intro _

theorem State.replaceWaiting_inv (s : State) (i : Nat) (h1 : State.Inv s) : State.Inv (State.replaceWaiting s i) := by
  unfold State.replaceWaiting
  dsimp only
  with_reducible repeat' first
    | assumption | apply State.count_inv | apply State.setBlend_inv | apply ite_inv | intro _

theorem State.clipSlot_inv (s : State) (i : Nat) (pipe : Nat) (h1 : State.Inv s) : State.Inv (State.clipSlot s i pipe) := by
  unfold State.clipSlot
  dsimp only
  with_reducible repeat' first
    | assumption | apply State.raise_inv | apply State.updSlot_inv | apply ite_inv | intro _ | split

theorem State.leaveOld_inv (s : State) (pipe : Nat) (i : Nat) (h1 : State.Inv s) : State.Inv (State.leaveOld s pipe i) := by
  unfold State.leaveOld
  dsimp only
  with_reducible repeat' first
    | assumption | apply State.updSlot_inv | apply ite_inv | intro _

theorem State.takeSlot_inv (s : State) (i : Nat) (h1 : State.Inv s) : State.Inv (State.takeSlot s i) := by
  unfold State.takeSlot
  with_reducible repeat' first
    | assumption | apply State.settle_inv | apply State.updSlot_inv

theorem State.commitApplied_inv (s : State) (g : Part) (pipe : Nat) (taken : Nat) (waiting : Nat) (h1 : State.Inv s) : State.Inv (State.commitApplied s g pipe taken waiting) := by
  unfold State.commitApplied
  with_reducible repeat' first
    | assumption | apply State.raise_inv | apply ite_inv | intro _

theorem State.reprojected_inv (s : State) (i : Nat) (fin : Bool) (h1 : State.Inv s) : State.Inv (State.reprojected s i fin) := by
  unfold State.reprojected
  dsimp only
  with_reducible repeat' first
    | assumption | apply State.raise_inv | split

theorem State.stepReproject_inv (s : State) (pipe : Nat) (i : Nat) (h1 : State.Inv s) : State.Inv (State.stepReproject s pipe i) := by
  unfold State.stepReproject
  dsimp only
  with_reducible repeat' first
    | assumption | apply State.count_inv | apply State.reprojected_inv | apply State.updSlot_inv | apply ite_inv | intro _

theorem State.latchSlot_inv (s : State) (pipe : Nat) (i : Nat) (h1 : State.Inv s) : State.Inv (State.latchSlot s pipe i) := by
  unfold State.latchSlot
  dsimp only
  with_reducible repeat' first
    | assumption | apply State.updSlot_inv | apply ite_inv | intro _

theorem State.latchGen_inv (s : State) (pipe : Nat) (i : Nat) (h1 : State.Inv s) : State.Inv (State.latchGen s pipe i) := by
  unfold State.latchGen
  dsimp only
  with_reducible repeat' first
    | assumption | apply State.updSlot_inv | apply ite_inv | intro _ | split

theorem State.latchLayers_inv (s : State) (pipe : Nat) (h1 : State.Inv s) : State.Inv (State.latchLayers s pipe) := by
  unfold State.latchLayers
  dsimp only
  with_reducible apply State.updPipe_inv
  with_reducible repeat' (first | assumption | apply State.clipSlot_inv | apply State.commitApplied_inv | apply State.latchGen_inv | apply State.latchSlot_inv | apply State.leaveOld_inv | apply State.setBlend_inv | apply State.stepReproject_inv | apply State.takeSlot_inv | apply State.updPipe_inv | apply State.updSlot_inv | apply fst_ite_inv | apply foldl_inv | apply foldl_fst_inv | apply ite_inv | intro _ | split)
  unfold judgePart
  dsimp only
  with_reducible apply fst_ite_inv <;> intro _ <;> dsimp only
  · assumption
  · repeat' (first | with_reducible assumption | with_reducible apply State.commitApplied_inv | with_reducible apply State.updSlot_inv | with_reducible apply State.takeSlot_inv | with_reducible apply foldl_inv | intro _ | split)

theorem State.dropParts_inv (s : State) (n : Nat) (h1 : State.Inv s) : State.Inv (State.dropParts s n) :=
  State.setBlend_inv s _ h1

theorem State.dropWaiting_inv (s : State) (n : Nat) (h1 : State.Inv s) : State.Inv (State.dropWaiting s n) := by
  unfold State.dropWaiting
  dsimp only
  with_reducible repeat' first
    | assumption | apply State.intend_inv | apply State.dropParts_inv | apply State.updSlot_inv | apply foldl_inv
    | apply ite_inv | intro _

theorem State.emptySlots_inv (s : State) (n : Nat) (h1 : State.Inv s) : State.Inv (State.emptySlots s n) := by
  unfold State.emptySlots
  dsimp only
  with_reducible repeat' first
    | assumption | apply State.intend_inv | apply State.dropParts_inv | apply State.updSlot_inv | apply foldl_inv
    | apply ite_inv | intro _

theorem State.giveSlot_inv (s : State) (i : Nat) (a2 : Option Nat) (h1 : State.Inv s) : State.Inv (State.giveSlot s i a2) := by
  unfold State.giveSlot
  dsimp only
  with_reducible repeat' first
    | assumption | apply State.updSlot_inv

theorem State.monEvent_inv (s : State) (i : Nat) (cause : Nat) (frames : Nat) (crc : Nat) (h1 : State.Inv s) : State.Inv (State.monEvent s i cause frames crc) := by
  unfold State.monEvent
  dsimp only
  with_reducible repeat' first
    | assumption | apply State.raiseAll_inv

theorem State.monClear_inv (s : State) (i : Nat) (h1 : State.Inv s) : State.Inv (State.monClear s i) := by
  unfold State.monClear
  with_reducible repeat' first
    | assumption | apply State.releaseCause_inv | apply State.updMon_inv

theorem State.monOff_inv (s : State) (i : Nat) (h1 : State.Inv s) : State.Inv (State.monOff s i) := by
  unfold State.monOff
  with_reducible repeat' first
    | assumption | apply State.monClear_inv | apply State.updMon_inv

theorem State.monTiming_inv (s : State) (i : Nat) (h1 : State.Inv s) : State.Inv (State.monTiming s i) := by
  unfold State.monTiming
  dsimp only
  with_reducible repeat' first
    | assumption | apply State.intend_inv | apply State.monEvent_inv | apply State.monOff_inv | apply ite_inv | intro _

theorem State.dropMons_inv (s : State) (n : Nat) (h1 : State.Inv s) : State.Inv (State.dropMons s n) := by
  unfold State.dropMons
  with_reducible repeat' first
    | assumption | apply State.intend_inv | apply State.monOff_inv | apply foldl_inv | apply ite_inv | intro _

theorem State.monFrameStart_inv (s : State) (pipe : Nat) (h1 : State.Inv s) : State.Inv (State.monFrameStart s pipe) := by
  unfold State.monFrameStart
  dsimp only
  with_reducible repeat' first
    | assumption | apply State.monClear_inv | apply State.settle_inv | apply State.updMon_inv | apply foldl_inv | intro _
    | split

theorem State.monLine_inv (s : State) (pipe : Nat) (line : Nat) (final : Nat → Nat) (blend : Nat → Nat) (h1 : State.Inv s) : State.Inv (State.monLine s pipe line final blend) := by
  unfold State.monLine
  dsimp only
  with_reducible repeat' first
    | assumption | apply State.updMon_inv | apply foldl_inv | apply ite_inv | intro _

theorem State.monMismatch_inv (s : State) (i : Nat) (crc : Nat) (h1 : State.Inv s) : State.Inv (State.monMismatch s i crc) := by
  unfold State.monMismatch
  dsimp only
  with_reducible repeat' first
    | assumption | apply State.assertCause_inv | apply State.count_inv | apply State.monEvent_inv | apply State.raiseErr_inv
    | apply State.updMon_inv | apply ite_inv | intro _

theorem State.monMatch_inv (s : State) (i : Nat) (crc : Nat) (h1 : State.Inv s) : State.Inv (State.monMatch s i crc) := by
  unfold State.monMatch
  dsimp only
  with_reducible repeat' first
    | assumption | apply State.count_inv | apply State.monEvent_inv | apply State.releaseCause_inv | apply State.updMon_inv
    | apply ite_inv | intro _

theorem State.monFirst_inv (s : State) (i : Nat) (h1 : State.Inv s) : State.Inv (State.monFirst s i) := by
  unfold State.monFirst
  dsimp only
  with_reducible repeat' first
    | assumption | apply State.releaseCause_inv | apply State.setSec_inv | apply ite_inv | intro _

theorem State.fetchTile_inv (s : State) (l : FLayer) (f : Surface) (t m : Nat) (h1 : State.Inv s) : State.Inv (State.fetchTile s l f t m).1 := by
  unfold State.fetchTile
  dsimp only
  split
  · with_reducible repeat' (first | assumption | apply State.count_inv | apply State.updSlot_inv | apply ite_inv | intro _ | split)
  · with_reducible repeat' (first | assumption | apply State.count_inv | apply State.updSlot_inv | apply ite_inv | intro _ | split)

theorem State.fetchStrip_inv (s : State) (b : Band) (set : FrameSet) (hact y0 y1 x0 x1 : Nat) (fs : FetchFaults) (h1 : State.Inv s) :
    State.Inv (State.fetchStrip s b set hact y0 y1 x0 x1 fs).1 := by
  unfold State.fetchStrip
  with_reducible apply foldl_fst_inv
  · intro a k ha
    dsimp only
    split
    · exact ha
    · split
      · exact ha
      · with_reducible apply foldl_fst_inv
        · intro a k ha
          exact State.fetchTile_inv _ _ _ _ _ ha
        · exact ha
  · exact h1

theorem State.composeStrip_inv (s : State) (p : Nat) (b : Band) (fs : FetchFaults) (h1 : State.Inv s) :
    State.Inv (State.composeStrip s p b fs).1 := by
  unfold State.composeStrip
  exact State.fetchStrip_inv _ _ _ _ _ _ _ _ _ h1

theorem State.sealLayer_inv (s : State) (pipe : Nat) (l : FLayer) (h1 : State.Inv s) : State.Inv (State.sealLayer s pipe l) := by
  unfold State.sealLayer
  dsimp only
  with_reducible repeat' first
    | assumption | apply State.assertCause_inv | apply State.count_inv | apply State.raiseAll_inv | apply State.raiseErr_inv
    | apply State.raise_inv | apply State.releaseCause_inv | apply State.updSlot_inv | apply ite_inv | intro _

theorem State.sealFrame_inv (s : State) (pipe : Nat) (set : FrameSet) (h1 : State.Inv s) : State.Inv (State.sealFrame s pipe set) := by
  unfold State.sealFrame
  with_reducible repeat' first
    | assumption | apply State.sealLayer_inv | apply foldl_inv | intro _

theorem State.sendLine_inv (s : State) (pipe : Nat) (b : Band) (line : Nat) (h1 : State.Inv s) : State.Inv (State.sendLine s pipe b line) := by
  unfold State.sendLine
  dsimp only
  with_reducible repeat' first
    | assumption | apply State.monLine_inv | apply State.updPipe_inv

theorem State.updStage_inv (s : State) (k : Nat) (f : Colour → Colour) (h1 : State.Inv s) : State.Inv (State.updStage s k f) := by
  unfold State.updStage
  with_reducible repeat' first
    | assumption | apply State.setColour_inv

theorem State.latchColour_inv (s : State) (k : Nat) (h1 : State.Inv s) : State.Inv (State.latchColour s k) := by
  unfold State.latchColour
  dsimp only
  with_reducible repeat' first
    | assumption | apply State.finish_inv | apply State.settle_inv | apply State.updStage_inv | apply foldl_inv
    | apply ite_inv | intro _

theorem State.updDom_inv (s : State) (d : Nat) (f : Dom → Dom) (h1 : State.Inv s) : State.Inv (State.updDom s d f) := by
  unfold State.updDom
  dsimp only
  with_reducible repeat' first
    | assumption | apply State.setClocks_inv

theorem State.pllRecord_inv (s : State) (d : Nat) (outcome : Nat) (h1 : State.Inv s) : State.Inv (State.pllRecord s d outcome) := by
  unfold State.pllRecord
  dsimp only
  with_reducible repeat' first
    | assumption | apply State.raiseErr_inv | apply State.updDom_inv | apply ite_inv | intro _

theorem State.domLost_inv (s : State) (d : Nat) (h1 : State.Inv s) : State.Inv (State.domLost s d) := by
  unfold State.domLost
  dsimp only
  with_reducible repeat' first
    | assumption | apply State.count_inv | apply State.edge_inv | apply State.setFact_inv | apply State.updDom_inv

theorem State.domAttempt_inv (s : State) (d : Nat) (h1 : State.Inv s) : State.Inv (State.domAttempt s d) := by
  unfold State.domAttempt
  with_reducible repeat' first
    | assumption | apply State.updDom_inv

theorem State.domRelocked_inv (s : State) (d : Nat) (h1 : State.Inv s) : State.Inv (State.domRelocked s d) := by
  unfold State.domRelocked
  dsimp only
  with_reducible repeat' first
    | assumption | apply State.clearFact_inv | apply State.countBy_inv | apply State.count_inv | apply State.pllRecord_inv
    | apply State.settle_inv | apply State.updDom_inv | apply ite_inv | intro _

theorem State.domOffline_inv (s : State) (d : Nat) (h1 : State.Inv s) : State.Inv (State.domOffline s d) := by
  unfold State.domOffline
  with_reducible repeat' first
    | assumption | apply State.pllRecord_inv | apply State.setFact_inv | apply State.updDom_inv

theorem State.domRetrying_inv (s : State) (d : Nat) (h1 : State.Inv s) : State.Inv (State.domRetrying s d) := by
  unfold State.domRetrying
  with_reducible repeat' first
    | assumption | apply State.pllRecord_inv

theorem State.evictTo_inv (fuel : Nat) : ∀ (a1 : State) (a2 : Nat) (a3 : Nat) (h2 : State.Inv a1), State.Inv (State.evictTo fuel a1 a2 a3) := by
  induction fuel with
  | zero => intros; assumption
  | succ k ih =>
    intros
    unfold State.evictTo
    try dsimp only
    with_reducible repeat' first
      | assumption | apply ih | apply State.setGpu_inv | apply ite_inv | intro _ | split

theorem State.evict_inv (s : State) (n : Nat) (extra : Nat) (h1 : State.Inv s) : State.Inv (State.evict s n extra) := by
  unfold State.evict
  with_reducible repeat' first
    | assumption | apply State.evictTo_inv

theorem State.cacheCode_inv (s : State) (n : Nat) (e : CacheEntry) (h1 : State.Inv s) : State.Inv (State.cacheCode s n e) := by
  unfold State.cacheCode
  dsimp only
  with_reducible repeat' first
    | assumption | apply State.evict_inv | apply State.setGpu_inv | apply ite_inv | intro _

theorem State.addPipeline_inv (s : State) (n : Nat) (q : Pipeline) (h1 : State.Inv s) : State.Inv (State.addPipeline s n q) := by
  unfold State.addPipeline
  dsimp only
  with_reducible repeat' first
    | assumption | apply State.setGpu_inv

theorem State.failCompile_inv (s : State) (c : Compile) (error : Nat) (h1 : State.Inv s) : State.Inv (State.failCompile s c error) := by
  unfold State.failCompile
  dsimp only
  with_reducible repeat' first
    | assumption | apply State.finish_inv | apply State.setGpu_inv | apply State.tickFree_inv

theorem State.sweepPipelines_inv (s : State) (n : Nat) (h1 : State.Inv s) : State.Inv (State.sweepPipelines s n) := by
  unfold State.sweepPipelines
  dsimp only
  with_reducible repeat' first
    | assumption | apply State.setGpu_inv

theorem queueConfig_inv (op : Nat) (len : Nat) (named : Bool) (ok : Bool) (p : Packet) (s : State) (k : State → State) (h6 : State.Inv s) (h7 : ∀ s, State.Inv s → State.Inv (k s)) : outInv (queueConfig op len named ok p s k) := by
  unfold queueConfig
  with_reducible repeat' first
    | assumption | apply h7 | apply State.intend_inv | apply packet_inv | apply ans_done | apply checks_inv | intro _

theorem State.updQueue_inv (s : State) (n : Nat) (q : Nat) (f : Queue → Queue) (h1 : State.Inv s) : State.Inv (State.updQueue s n q f) := by
  unfold State.updQueue
  dsimp only
  with_reducible repeat' first
    | assumption | apply State.setGpu_inv

theorem State.updCluster_inv (s : State) (c : Nat) (f : Cluster → Cluster) (h1 : State.Inv s) : State.Inv (State.updCluster s c f) := by
  unfold State.updCluster
  dsimp only
  with_reducible repeat' first
    | assumption | apply State.setGpu_inv

theorem State.updHead_inv (s : State) (n : Nat) (q : Nat) (f : Submit → Submit) (h1 : State.Inv s) : State.Inv (State.updHead s n q f) := by
  unfold State.updHead
  with_reducible repeat' first
    | assumption | apply State.updQueue_inv

theorem State.charge_inv (s : State) (h1 : State.Inv s) : State.Inv (State.charge s) := by
  unfold State.charge
  dsimp only
  with_reducible repeat' first
    | assumption | apply State.countBy_inv | apply State.setGpu_inv | apply State.updCluster_inv | apply State.updHead_inv
    | apply foldl_inv | apply ite_inv | intro _ | split

theorem State.freeClusters_inv (s : State) (n : Nat) (q : Nat) (h1 : State.Inv s) : State.Inv (State.freeClusters s n q) := by
  unfold State.freeClusters
  with_reducible repeat' first
    | assumption | apply State.charge_inv | apply State.updCluster_inv | apply foldl_inv | intro _

theorem State.becomeReady_inv (s : State) (n : Nat) (q : Nat) (h1 : State.Inv s) : State.Inv (State.becomeReady s n q) := by
  unfold State.becomeReady
  dsimp only
  with_reducible repeat' first
    | assumption | apply State.setGpu_inv | apply ite_inv | intro _ | split

theorem State.enqueue_inv (s : State) (p : Packet) (q : Nat) (h1 : State.Inv s) : ansInv (State.enqueue s p q) := by
  unfold State.enqueue
  dsimp only
  with_reducible repeat' first
    | assumption | apply State.becomeReady_inv | apply State.bindWriter_inv | apply State.count_inv | apply State.updQueue_inv
    | apply foldl_inv | apply ans_fail | apply ans_owe | apply checks_inv | apply ite_inv | intro _ | split

theorem State.admitWaiting_inv (fuel : Nat) : ∀ (a1 : State) (a2 : Nat) (a3 : Nat) (h2 : State.Inv a1), State.Inv (State.admitWaiting fuel a1 a2 a3) := by
  induction fuel with
  | zero => intros; assumption
  | succ k ih =>
    intros
    unfold State.admitWaiting
    try dsimp only
    with_reducible repeat' first
      | assumption | apply ih | apply State.enqueue_inv | apply State.finish_inv | apply State.updQueue_inv | apply ite_inv
      | (apply of_done; assumption) | (apply of_owe; assumption) | intro _ | split

theorem State.putPixel_inv (s : State) (n : Nat) (f : Surface) (x : Nat) (y : Nat) (px : List Byte) (h1 : State.Inv s) : State.Inv (State.putPixel s n f x y px) := by
  unfold State.putPixel
  with_reducible repeat' first
    | assumption | apply State.writeInst_inv

theorem State.clearRect_inv (s : State) (n : Nat) (t : Token) (x : Nat) (y : Nat) (w : Nat) (a6 : Nat) (col : Nat → Bool) (depth : Bool) (h1 : State.Inv s) : State.Inv (State.clearRect s n t x y w a6 col depth) := by
  unfold State.clearRect
  dsimp only
  with_reducible repeat' first
    | assumption | apply State.putPixel_inv | apply State.writeInst_inv | apply foldl_inv | apply ite_inv | intro _ | split

theorem State.sealIf_inv (s : State) (n : Nat) (id : Nat) (tiles : List Nat) (h1 : State.Inv s) : State.Inv (State.sealIf s n id tiles) := by
  unfold State.sealIf
  with_reducible repeat' first
    | assumption | apply State.sealTiles_inv | apply ite_inv | intro _ | split

theorem State.gpuFault_inv (s : State) (n : Nat) (q : Nat) (cause : Nat) (cluster : Nat) (a : Nat) (h1 : State.Inv s) : State.Inv (State.gpuFault s n q cause cluster a) := by
  unfold State.gpuFault
  dsimp only
  with_reducible repeat' first
    | assumption | apply State.count_inv | apply State.raise_inv | apply State.updHead_inv

theorem State.descFault_inv (s : State) (n : Nat) (q : Nat) (d : DescFault) (h1 : State.Inv s) : State.Inv (State.descFault s n q d) := by
  unfold State.descFault
  dsimp only
  with_reducible repeat' first
    | assumption | apply State.count_inv | apply State.raise_inv | apply State.updHead_inv

theorem State.cmdFault_inv (s : State) (n : Nat) (q : Nat) (off : Nat) (h1 : State.Inv s) : State.Inv (State.cmdFault s n q off) := by
  unfold State.cmdFault
  dsimp only
  with_reducible repeat' first
    | assumption | apply State.raise_inv | apply State.updHead_inv

theorem State.gpuAccess_inv (s : State) (n : Nat) (q : Nat) (atts : List (Nat × Nat)) (a : GpuAccess) (h1 : State.Inv s) : State.Inv (State.gpuAccess s n q atts a) := by
  unfold State.gpuAccess
  dsimp only
  with_reducible repeat' first
    | assumption | apply State.gpuFault_inv | apply State.writeInst_inv | apply ite_inv | intro _

theorem State.storeSamples_inv (s : State) (n : Nat) (body : List Token) (samples : List Nat) (h1 : State.Inv s) : State.Inv (State.storeSamples s n body samples) := by
  unfold State.storeSamples
  with_reducible repeat' first
    | assumption | apply State.writeInst_inv | apply foldl_inv | intro _

theorem State.applyWork_inv (s : State) (n : Nat) (q : Nat) (storage : List (Nat × Nat)) (w : GpuWork) (h1 : State.Inv s) : State.Inv (State.applyWork s n q storage w) := by
  unfold State.applyWork
  dsimp only
  with_reducible repeat' first
    | assumption | apply State.countBy_inv | apply State.descFault_inv | apply State.gpuAccess_inv | apply foldl_inv | intro _

theorem State.toItem_inv (fuel : Nat) : ∀ (a1 : State) (a2 : Nat) (a3 : Nat) (h2 : State.Inv a1), State.Inv (State.toItem fuel a1 a2 a3) := by
  induction fuel with
  | zero => intros; assumption
  | succ k ih =>
    intros
    unfold State.toItem
    try dsimp only
    with_reducible repeat' first
      | assumption | apply ih | apply State.updHead_inv | apply State.writeInst_inv | apply ite_inv | intro _ | split

theorem State.startItem_inv (s : State) (n : Nat) (q : Nat) (h1 : State.Inv s) : State.Inv (State.startItem s n q) := by
  unfold State.startItem
  dsimp only
  with_reducible repeat' first
    | assumption | apply State.clearRect_inv | apply State.updHead_inv | apply ite_inv | intro _ | split

theorem State.endItem_inv (s : State) (n : Nat) (q : Nat) (w : GpuWork) (h1 : State.Inv s) : State.Inv (State.endItem s n q w) := by
  unfold State.endItem
  dsimp only
  with_reducible repeat' first
    | assumption | apply State.applyWork_inv | apply State.sealIf_inv | apply State.storeSamples_inv | apply State.updHead_inv
    | apply foldl_inv | apply ite_inv | intro _ | split

theorem State.sealBins_inv (s : State) (n : Nat) (t : Token) (k : Nat) (done : List Nat) (written : List Nat) (whole : Bool) (h1 : State.Inv s) : State.Inv (State.sealBins s n t k done written whole) := by
  unfold State.sealBins
  dsimp only
  with_reducible repeat' first
    | assumption | apply State.sealIf_inv | apply foldl_inv | intro _ | split

theorem State.writeBin_inv (s : State) (n : Nat) (t : Token) (k : Nat) (flush : Bool) (first : Bool) (touched : Bool) (data : List (List Byte)) (h1 : State.Inv s) : State.Inv (State.writeBin s n t k flush first touched data) := by
  unfold State.writeBin
  dsimp only
  with_reducible repeat' first
    | assumption | apply State.clearRect_inv | apply State.putPixel_inv | apply State.writeInst_inv | apply foldl_inv
    | apply ite_inv | intro _ | split

theorem State.processBin_inv (s : State) (n : Nat) (q : Nat) (x : Submit) (t : Token) (k : Nat) (touched : Bool) (data : List (List Byte)) (h1 : State.Inv s) : State.Inv (State.processBin s n q x t k touched data) := by
  unfold State.processBin
  dsimp only
  with_reducible repeat' first
    | assumption | apply State.sealBins_inv | apply State.updHead_inv | apply State.writeBin_inv

theorem State.dropHead_inv (s : State) (n : Nat) (q : Nat) (h1 : State.Inv s) : State.Inv (State.dropHead s n q) := by
  unfold State.dropHead
  dsimp only
  with_reducible repeat' first
    | assumption | apply State.freeClusters_inv | apply State.settleAllDead_inv | apply State.sweepPipelines_inv
    | apply State.unbindWriter_inv | apply State.updQueue_inv | apply foldl_inv | intro _ | split

theorem State.abortHead_inv (s : State) (n : Nat) (q : Nat) (cause : Nat) (off : Nat) (h1 : State.Inv s) : State.Inv (State.abortHead s n q cause off) := by
  unfold State.abortHead
  with_reducible repeat' first
    | assumption | apply State.updHead_inv

theorem State.clustersChanged_inv (s : State) (n : Nat) (h1 : State.Inv s) : State.Inv (State.clustersChanged s n) := by
  unfold State.clustersChanged
  dsimp only
  with_reducible repeat' first
    | assumption | apply State.raiseAll_inv

theorem State.moveReservation_inv (s : State) (c : Nat) (h1 : State.Inv s) : State.Inv (State.moveReservation s c) := by
  unfold State.moveReservation
  dsimp only
  with_reducible repeat' first
    | assumption | apply State.clustersChanged_inv | apply State.setFact_inv | apply State.updCluster_inv | split

theorem State.cancelQueue_inv (s : State) (n : Nat) (q : Nat) (h1 : State.Inv s) : State.Inv (State.cancelQueue s n q) := by
  unfold State.cancelQueue
  dsimp only
  with_reducible repeat' first
    | assumption | apply State.dropHead_inv | apply State.finish_inv | apply State.updQueue_inv | apply foldl_inv | intro _
    | split

theorem State.cancelGpu_inv (s : State) (n : Nat) (h1 : State.Inv s) : State.Inv (State.cancelGpu s n) := by
  unfold State.cancelGpu
  dsimp only
  with_reducible repeat' first
    | assumption | apply State.cancelQueue_inv | apply State.finish_inv | apply State.setGpu_inv
    | apply State.sweepPipelines_inv | apply foldl_inv | intro _

theorem State.requestClusters_inv (s : State) (n : Nat) (h1 : State.Inv s) : State.Inv (State.requestClusters s n) := by
  unfold State.requestClusters
  with_reducible repeat' first
    | assumption | apply State.updCluster_inv | apply foldl_inv | apply ite_inv | intro _ | split

theorem State.dropGpu_inv (s : State) (n : Nat) (h1 : State.Inv s) : State.Inv (State.dropGpu s n) := by
  unfold State.dropGpu
  dsimp only
  with_reducible repeat' first
    | assumption | apply State.setGpu_inv

theorem State.missDeadlines_inv (s : State) (pipe : Nat) (h1 : State.Inv s) : State.Inv (State.missDeadlines s pipe) := by
  unfold State.missDeadlines
  dsimp only
  with_reducible repeat' first
    | assumption | apply State.count_inv | apply State.raise_inv | apply State.updQueue_inv | apply foldl_inv | apply ite_inv
    | intro _

theorem State.retimeDeadlines_inv (s : State) (pipe : Nat) (h1 : State.Inv s) : State.Inv (State.retimeDeadlines s pipe) := by
  unfold State.retimeDeadlines
  dsimp only
  with_reducible repeat' first
    | assumption | apply State.updQueue_inv | apply foldl_inv | intro _

theorem State.updLink_inv (s : State) (a1 : Nat) (f : LinkUnit → LinkUnit) (h1 : State.Inv s) : State.Inv (State.updLink s a1 f) := by
  unfold State.updLink
  dsimp only
  with_reducible repeat' first
    | assumption | apply State.setLinks_inv

theorem State.linkState_inv (s : State) (a1 : Nat) (cause : Nat) (h1 : State.Inv s) : State.Inv (State.linkState s a1 cause) := by
  unfold State.linkState
  dsimp only
  with_reducible repeat' first
    | assumption | apply State.raiseAll_inv

theorem State.setDropped_inv (s : State) (a1 : Nat) (i : Nat) (b : Bool) (h1 : State.Inv s) : State.Inv (State.setDropped s a1 i b) := by
  unfold State.setDropped
  with_reducible repeat' first
    | assumption | apply State.updLink_inv

theorem State.recheckLink_inv (s : State) (a1 : Nat) (h1 : State.Inv s) : State.Inv (State.recheckLink s a1) := by
  unfold State.recheckLink
  dsimp only
  with_reducible repeat' first
    | assumption | apply State.clearFact_inv | apply State.linkState_inv | apply State.setDropped_inv
    | apply State.setFact_inv | apply State.settle_inv | apply ite_inv | intro _

theorem State.finishRoute_inv (s : State) (a1 : Nat) (h1 : State.Inv s) : State.Inv (State.finishRoute s a1) := by
  unfold State.finishRoute
  dsimp only
  with_reducible repeat' first
    | assumption | apply State.finish_inv | apply State.settle_inv | apply State.updLink_inv | apply ite_inv | intro _ | split

theorem State.settleStream_inv (s : State) (a1 : Nat) (i : Nat) (h1 : State.Inv s) : State.Inv (State.settleStream s a1 i) := by
  unfold State.settleStream
  dsimp only
  with_reducible repeat' first
    | assumption | apply State.updLink_inv | apply ite_inv | intro _

theorem State.settleRoutes_inv (s : State) (a1 : Nat) (h1 : State.Inv s) : State.Inv (State.settleRoutes s a1) := by
  unfold State.settleRoutes
  with_reducible repeat' first
    | assumption | apply State.finishRoute_inv | apply State.settleStream_inv

theorem State.applyDsc_inv (s : State) (e : Nat) (h1 : State.Inv s) : State.Inv (State.applyDsc s e) := by
  unfold State.applyDsc
  dsimp only
  with_reducible repeat' first
    | assumption | apply State.setLinks_inv | apply State.settle_inv | apply State.updLink_inv | apply foldl_inv
    | apply ite_inv | intro _ | split

theorem State.linksLatch_inv (s : State) (pipe : Nat) (h1 : State.Inv s) : State.Inv (State.linksLatch s pipe) := by
  unfold State.linksLatch
  dsimp only
  with_reducible repeat' first
    | assumption | apply State.settle_inv | apply State.updLink_inv | apply foldl_inv | apply ite_inv | intro _ | split

theorem State.linksFrameStart_inv (s : State) (pipe : Nat) (h1 : State.Inv s) : State.Inv (State.linksFrameStart s pipe) := by
  unfold State.linksFrameStart
  dsimp only
  with_reducible repeat' first
    | assumption | apply State.applyDsc_inv | apply State.finishRoute_inv | apply State.updLink_inv | apply foldl_inv
    | apply ite_inv | intro _

theorem State.linksFrameDone_inv (s : State) (pipe : Nat) (h1 : State.Inv s) : State.Inv (State.linksFrameDone s pipe) := by
  unfold State.linksFrameDone
  dsimp only
  with_reducible repeat' first
    | assumption | apply State.settleRoutes_inv | apply State.updLink_inv | apply foldl_inv | apply ite_inv | intro _

theorem State.linkDown_inv (s : State) (a1 : Nat) (h1 : State.Inv s) : State.Inv (State.linkDown s a1) := by
  unfold State.linkDown
  with_reducible repeat' first
    | assumption | apply State.linkState_inv | apply State.setFact_inv | apply State.updLink_inv

theorem State.updPanel_inv (s : State) (a1 : Nat) (f : Panel → Panel) (h1 : State.Inv s) : State.Inv (State.updPanel s a1 f) := by
  unfold State.updPanel
  with_reducible repeat' first
    | assumption | apply State.updLink_inv

theorem State.panelDone_inv (s : State) (a1 : Nat) (op : Nat) (h1 : State.Inv s) : State.Inv (State.panelDone s a1 op) := by
  unfold State.panelDone
  dsimp only
  with_reducible repeat' first
    | assumption | apply State.finishOpt_inv | apply State.raise_inv | apply State.settle_inv | apply State.updPanel_inv

theorem State.updStream_inv (s : State) (k : Nat) (f : AStream → AStream) (h1 : State.Inv s) : State.Inv (State.updStream s k f) := by
  unfold State.updStream
  dsimp only
  with_reducible repeat' first
    | assumption | apply State.setAudio_inv

theorem State.bufferEvent_inv (s : State) (k : Nat) (b : ABuf) (cancelled : Bool) (queued : Nat) (frames : Nat) (h1 : State.Inv s) : State.Inv (State.bufferEvent s k b cancelled queued frames) := by
  unfold State.bufferEvent
  with_reducible repeat' first
    | assumption | apply State.raise_inv

theorem State.closeStream_inv (s : State) (k : Nat) (tell : Bool) (h1 : State.Inv s) : State.Inv (State.closeStream s k tell) := by
  unfold State.closeStream
  dsimp only
  with_reducible repeat' first
    | assumption | apply State.bufferEvent_inv | apply State.setAudio_inv | apply State.updStream_inv | apply foldl_inv
    | apply ite_inv | intro _

theorem tdmConfig_inv (op : Nat) (ok : Bool) (f : Audio → Audio) (p : Packet) (s : State) (h5 : State.Inv s) : outInv (tdmConfig op ok f p s) := by
  unfold tdmConfig
  dsimp only
  with_reducible repeat' first
    | assumption | apply State.armEdge_inv | apply State.intend_inv | apply State.setAudio_inv | apply packet_inv
    | apply ans_done | apply checks_inv | intro _

theorem State.rampTo_inv (s : State) (kind : Nat) (a : Nat) (b : Nat) (target : Int) (ms : Nat) (h1 : State.Inv s) : State.Inv (State.rampTo s kind a b target ms) := by
  unfold State.rampTo
  dsimp only
  with_reducible repeat' first
    | assumption | apply State.setAudio_inv

theorem State.waitZc_inv (s : State) (kind : Nat) (a : Nat) (b : Nat) (target : Int) (ms : Nat) (h1 : State.Inv s) : State.Inv (State.waitZc s kind a b target ms) := by
  unfold State.waitZc
  dsimp only
  with_reducible repeat' first
    | assumption | apply State.setAudio_inv

theorem State.audioClock_inv (s : State) (cause : Nat) (rate : Nat) (h1 : State.Inv s) : State.Inv (State.audioClock s cause rate) := by
  unfold State.audioClock
  with_reducible repeat' first
    | assumption | apply State.raise_inv

theorem State.cancelAudio_inv (s : State) (n : Nat) (h1 : State.Inv s) : State.Inv (State.cancelAudio s n) := by
  unfold State.cancelAudio
  with_reducible repeat' first
    | assumption | apply State.updStream_inv | apply foldl_inv | apply ite_inv | intro _

theorem State.pauseAudio_inv (s : State) (n : Nat) (b : Bool) (h1 : State.Inv s) : State.Inv (State.pauseAudio s n b) := by
  unfold State.pauseAudio
  with_reducible repeat' first
    | assumption | apply State.updStream_inv | apply foldl_inv | apply ite_inv | intro _

theorem State.closeAudio_inv (s : State) (n : Nat) (h1 : State.Inv s) : State.Inv (State.closeAudio s n) := by
  unfold State.closeAudio
  dsimp only
  with_reducible repeat' first
    | assumption | apply State.closeStream_inv | apply State.setAudio_inv | apply foldl_inv | apply ite_inv | intro _

theorem State.runImage_inv (s : State) (unit : Nat) (slot : Nat) (h1 : State.Inv s) : State.Inv (State.runImage s unit slot) := by
  unfold State.runImage
  dsimp only
  with_reducible repeat' first
    | assumption | apply State.setFirmware_inv

theorem State.startCupper_inv (s : State) (slot : Nat) (h1 : State.Inv s) : State.Inv (State.startCupper s slot) := by
  unfold State.startCupper
  dsimp only
  with_reducible repeat' first
    | assumption | apply State.runImage_inv | apply State.setMemc_inv | apply State.setSec_inv | apply State.tickFree_inv

theorem State.refuseCall_inv (s : State) (slot : Nat) (inst : Nat) (cause : Option Owed) (h1 : State.Inv s) : State.Inv (State.refuseCall s slot inst cause) := by
  unfold State.refuseCall
  dsimp only
  with_reducible repeat' first
    | assumption | apply State.edge_inv | apply State.finishOpt_inv | apply State.raiseErr_inv | apply State.setSec_inv
    | apply State.tickFree_inv

theorem secService_inv (service : Nat) (len : Packet → Nat) (own : Bool) (p : Packet) (s : State) (ok : Bool) (units : Bool) (k : State → Ans) (h5 : State.Inv s) (h8 : ∀ s, State.Inv s → ansInv (k s)) : outInv (secService service len own p s ok units k) := by
  unfold secService
  with_reducible repeat' first
    | assumption | apply h8 | apply packet_inv | apply checks_inv | intro _

theorem State.latchFallback_inv (s : State) (i : Nat) (h1 : State.Inv s) : State.Inv (State.latchFallback s i) := by
  unfold State.latchFallback
  dsimp only
  with_reducible repeat' first
    | assumption | apply State.setSec_inv | split

theorem State.dropFallback_inv (s : State) (i : Nat) (h1 : State.Inv s) : State.Inv (State.dropFallback s i) := by
  unfold State.dropFallback
  dsimp only
  with_reducible repeat' first
    | assumption | apply State.setSec_inv

theorem State.takeEscalate_inv (s : State) (pipe : Nat) (h1 : State.Inv s) : State.Inv (State.takeEscalate s pipe) := by
  unfold State.takeEscalate
  dsimp only
  with_reducible repeat' first
    | assumption | apply State.setSec_inv | apply State.updPipe_inv | apply State.updSlot_inv | apply foldl_inv
    | apply ite_inv | intro _ | split

theorem migrationKey_inv (op : Nat) (p : Packet) (s : State) (k : State → Ans) (h3 : State.Inv s) (h4 : ∀ s, State.Inv s → ansInv (k s)) : outInv (migrationKey op p s k) := by
  unfold migrationKey
  with_reducible repeat' first
    | assumption | apply h4 | apply packet_inv | apply checks_inv | intro _

theorem State.debugUnlock_inv (s : State) (granted : Nat) (h1 : State.Inv s) : State.Inv (State.debugUnlock s granted) := by
  unfold State.debugUnlock
  with_reducible repeat' first
    | assumption | apply State.raise_inv

theorem State.restartCupper_inv (s : State) (slot : Nat) (h1 : State.Inv s) : State.Inv (State.restartCupper s slot) := by
  unfold State.restartCupper
  dsimp only
  with_reducible repeat' first
    | assumption | apply State.settle_inv | apply State.clearFact_inv | apply State.secureState_inv | apply State.setSec_inv
    | apply State.startCupper_inv

theorem State.dropSubs_inv (s : State) (pipe : Nat) (h1 : State.Inv s) : State.Inv (State.dropSubs s pipe) := by
  unfold State.dropSubs
  dsimp only
  with_reducible repeat' first
    | assumption | apply State.setPipes_inv | apply foldl_inv | apply ite_inv | intro _

theorem State.timingForce_inv (s : State) (pipe : Nat) (t : Timing) (h1 : State.Inv s) : State.Inv (State.timingForce s pipe t) := by
  unfold State.timingForce
  dsimp only
  with_reducible repeat' first
    | assumption | apply State.dropSubs_inv | apply State.monTiming_inv | apply State.recheckLink_inv
    | apply State.retimeDeadlines_inv | apply State.updInst_inv | apply State.updPipe_inv | apply foldl_inv | intro _

theorem State.answerTiming_inv (s : State) (pipe : Nat) (h1 : State.Inv s) : State.Inv (State.answerTiming s pipe) := by
  unfold State.answerTiming
  dsimp only
  with_reducible repeat' first
    | assumption | apply State.finish_inv | apply State.updPipe_inv | apply foldl_inv | intro _

theorem State.pipeClock_inv (s : State) (pipe : Nat) (cause : Nat) (h1 : State.Inv s) : State.Inv (State.pipeClock s pipe cause) := by
  unfold State.pipeClock
  with_reducible repeat' first
    | assumption | apply State.raiseAll_inv

theorem State.countHeld_inv (s : State) (pipe : Nat) (h1 : State.Inv s) : State.Inv (State.countHeld s pipe) := by
  unfold State.countHeld
  dsimp only
  with_reducible repeat' first
    | assumption | apply State.countBy_inv | split

theorem State.clearPixFact_inv (s : State) (pipe : Nat) (h1 : State.Inv s) : State.Inv (State.clearPixFact s pipe) := by
  unfold State.clearPixFact
  dsimp only
  with_reducible repeat' first
    | assumption | apply State.clearFact_inv | apply ite_inv | intro _

theorem State.stopPipe_inv (s : State) (pipe : Nat) (h1 : State.Inv s) : State.Inv (State.stopPipe s pipe) := by
  unfold State.stopPipe
  dsimp only
  with_reducible repeat' first
    | assumption | apply State.answerTiming_inv | apply State.clearPixFact_inv | apply State.countHeld_inv
    | apply State.finishOpt_inv | apply State.flushFences_inv | apply State.linksFrameDone_inv
    | apply State.retimeDeadlines_inv | apply State.setTouch_inv | apply State.settle_inv | apply State.timingForce_inv
    | apply State.updPipe_inv | split

theorem State.buildTouchMap_inv (s : State) (pipe : Nat) (h1 : State.Inv s) : State.Inv (State.buildTouchMap s pipe) := by
  unfold State.buildTouchMap
  dsimp only
  with_reducible repeat' first
    | assumption | apply State.updPipe_inv | apply ite_inv | intro _

theorem State.steepReply_inv (s : State) (pipe : Nat) (old : PipeState) (h1 : State.Inv s) : State.Inv (State.steepReply s pipe old) := by
  unfold State.steepReply
  dsimp only
  with_reducible repeat' first
    | assumption | apply State.finishOpt_inv | apply State.updPipe_inv | apply ite_inv | intro _

theorem State.beginFrame_inv (s : State) (pipe : Nat) (st : PipeState) (h1 : State.Inv s) : State.Inv (State.beginFrame s pipe st) := by
  unfold State.beginFrame
  dsimp only
  with_reducible repeat' first
    | assumption | apply State.answerTiming_inv | apply State.buildTouchMap_inv | apply State.count_inv
    | apply State.finishOpt_inv | apply State.linksFrameStart_inv | apply State.monFrameStart_inv | apply State.settle_inv
    | apply State.takeEscalate_inv | apply State.timingForce_inv | apply State.updPipe_inv | apply ite_inv | intro _ | split

theorem State.safetyFrameDone_inv (s : State) (pipe : Nat) (h1 : State.Inv s) : State.Inv (State.safetyFrameDone s pipe) := by
  unfold State.safetyFrameDone
  dsimp only
  with_reducible repeat' first
    | assumption | apply State.assertCause_inv | apply State.count_inv | apply State.raiseAll_inv | apply State.raiseErr_inv
    | apply State.releaseCause_inv | apply State.updPipe_inv | apply ite_inv | intro _

theorem State.pixLost_inv (s : State) (pipe : Nat) (h1 : State.Inv s) : State.Inv (State.pixLost s pipe) := by
  unfold State.pixLost
  dsimp only
  with_reducible repeat' first
    | assumption | apply State.count_inv | apply State.domLost_inv | apply State.edge_inv | apply State.flushFences_inv
    | apply State.pipeClock_inv | apply State.retimeDeadlines_inv | apply State.setFact_inv | apply State.setTouch_inv
    | apply State.updPipe_inv | apply ite_inv | intro _

theorem State.pixRestart_inv (s : State) (pipe : Nat) (cause : Nat) (zero : Bool) (h1 : State.Inv s) : State.Inv (State.pixRestart s pipe cause zero) := by
  unfold State.pixRestart
  dsimp only
  with_reducible repeat' first
    | assumption | apply State.clearPixFact_inv | apply State.countHeld_inv | apply State.count_inv
    | apply State.domRelocked_inv | apply State.pipeClock_inv | apply State.timingForce_inv | apply State.updPipe_inv | split

theorem State.pixAttempt_inv (s : State) (pipe : Nat) (locked : Bool) (h1 : State.Inv s) : State.Inv (State.pixAttempt s pipe locked) := by
  unfold State.pixAttempt
  dsimp only
  with_reducible repeat' first
    | assumption | apply State.countHeld_inv | apply State.domAttempt_inv | apply State.domOffline_inv | apply State.edge_inv
    | apply State.pipeClock_inv | apply State.pixRestart_inv | apply State.retimeDeadlines_inv | apply State.setFact_inv
    | apply State.updPipe_inv | apply ite_inv | intro _

theorem State.pixRetry_inv (s : State) (pipe : Nat) (locked : Bool) (h1 : State.Inv s) : State.Inv (State.pixRetry s pipe locked) := by
  unfold State.pixRetry
  dsimp only
  with_reducible repeat' first
    | assumption | apply State.domAttempt_inv | apply State.pixRestart_inv | apply State.updPipe_inv | apply ite_inv | intro _

theorem State.evalUrgency_inv (s : State) (h1 : State.Inv s) : State.Inv (State.evalUrgency s) := by
  unfold State.evalUrgency
  with_reducible repeat' first
    | assumption | apply State.updHead_inv | apply foldl_inv | intro _ | split

theorem State.assign_inv (s : State) (c : Nat) (h1 : State.Inv s) : State.Inv (State.assign s c) := by
  unfold State.assign
  dsimp only
  with_reducible repeat' first
    | assumption | apply State.setGpu_inv | apply State.updCluster_inv | apply State.updHead_inv | apply ite_inv | intro _
    | split

theorem State.request_inv (s : State) (c : Nat) (h1 : State.Inv s) : State.Inv (State.request s c) := by
  unfold State.request
  with_reducible repeat' first
    | assumption | apply State.count_inv | apply State.updCluster_inv | apply ite_inv | intro _ | split

theorem State.updTp_inv (s : State) (i : Nat) (f : TPanel → TPanel) (h1 : State.Inv s) : State.Inv (State.updTp s i f) := by
  unfold State.updTp
  dsimp only
  with_reducible repeat' first
    | assumption | apply State.setTouch_inv

theorem State.setArea_inv (s : State) (n : Nat) (i : Nat) (a : Option TArea) (h1 : State.Inv s) : State.Inv (State.setArea s n i a) := by
  unfold State.setArea
  dsimp only
  with_reducible repeat' first
    | assumption | apply State.setTouch_inv

theorem State.writeReport_inv (s : State) (n : Nat) (i : Nat) (b : Nat) (a : TArea) (r : TReport) (h1 : State.Inv s) : State.Inv (State.writeReport s n i b a r) := by
  unfold State.writeReport
  dsimp only
  with_reducible repeat' first
    | assumption | apply State.raise_inv | apply State.setArea_inv | apply State.writeSpad_inv

theorem State.report_inv (s : State) (n : Nat) (i : Nat) (r : TReport) (h1 : State.Inv s) : State.Inv (State.report s n i r) := by
  unfold State.report
  dsimp only
  with_reducible repeat' first
    | assumption | apply State.countBy_inv | apply State.count_inv | apply State.setArea_inv | apply State.writeReport_inv
    | apply ite_inv | intro _ | split

theorem State.mgrContact_inv (s : State) (i : Nat) (frame : Nat) (r : CRec) (h1 : State.Inv s) : State.Inv (State.mgrContact s i frame r) := by
  unfold State.mgrContact
  with_reducible repeat' first
    | assumption | apply State.raise_inv

theorem State.deliverRecs_inv (s : State) (i : Nat) (extraFlags : Nat) (rs : List (Nat × CRec)) (h1 : State.Inv s) : State.Inv (State.deliverRecs s i extraFlags rs) := by
  unfold State.deliverRecs
  dsimp only
  with_reducible repeat' first
    | assumption | apply State.count_inv | apply State.mgrContact_inv | apply State.report_inv | apply foldl_inv
    | apply ite_inv | intro _

theorem State.cancelContacts_inv (s : State) (i : Nat) (cause : Nat) (h1 : State.Inv s) : State.Inv (State.cancelContacts s i cause) := by
  unfold State.cancelContacts
  dsimp only
  with_reducible repeat' first
    | assumption | apply State.deliverRecs_inv | apply State.updTp_inv

theorem State.contactsReset_inv (s : State) (i : Nat) (h1 : State.Inv s) : State.Inv (State.contactsReset s i) := by
  unfold State.contactsReset
  dsimp only
  with_reducible repeat' first
    | assumption | apply State.raiseAll_inv | apply State.updTp_inv | apply ite_inv | intro _

theorem State.stopPanel_inv (s : State) (i : Nat) (cause : Nat) (st : TState) (h1 : State.Inv s) : State.Inv (State.stopPanel s i cause st) := by
  unfold State.stopPanel
  with_reducible repeat' first
    | assumption | apply State.cancelContacts_inv | apply State.updTp_inv

theorem State.setFaulty_inv (s : State) (i : Nat) (fs : List (Nat × Nat × Nat)) (h1 : State.Inv s) : State.Inv (State.setFaulty s i fs) := by
  unfold State.setFaulty
  dsimp only
  with_reducible repeat' first
    | assumption | apply State.clearFact_inv | apply State.raiseErr_inv | apply State.raise_inv | apply State.setFact_inv
    | apply State.settle_inv | apply State.updTp_inv | apply ite_inv | intro _ | split

theorem State.rebase_inv (s : State) (i : Nat) (nodes : List Nat) (h1 : State.Inv s) : State.Inv (State.rebase s i nodes) := by
  unfold State.rebase
  dsimp only
  with_reducible repeat' first
    | assumption | apply State.deliverRecs_inv | apply State.updTp_inv

theorem State.cancelTouch_inv (s : State) (n : Nat) (h1 : State.Inv s) : State.Inv (State.cancelTouch s n) := by
  unfold State.cancelTouch
  with_reducible repeat' first
    | assumption | apply State.setArea_inv | apply foldl_inv | intro _ | split

theorem State.updChan_inv (s : State) (i : Nat) (f : HChan → HChan) (h1 : State.Inv s) : State.Inv (State.updChan s i f) := by
  unfold State.updChan
  dsimp only
  with_reducible repeat' first
    | assumption | apply State.setHaptics_inv

theorem State.boost_inv (s : State) (h1 : State.Inv s) : State.Inv (State.boost s) := by
  unfold State.boost
  dsimp only
  with_reducible repeat' first
    | assumption | apply State.setHaptics_inv | apply ite_inv | intro _ | split

theorem State.effectDone_inv (s : State) (i : Nat) (p : Play) (outcome : Nat) (r : Nat) (h1 : State.Inv s) : State.Inv (State.effectDone s i p outcome r) := by
  unfold State.effectDone
  with_reducible repeat' first
    | assumption | apply State.raise_inv | apply ite_inv | intro _

theorem State.endPlay_inv (s : State) (i : Nat) (outcome : Nat) (r : Nat) (h1 : State.Inv s) : State.Inv (State.endPlay s i outcome r) := by
  unfold State.endPlay
  with_reducible repeat' first
    | assumption | apply State.boost_inv | apply State.effectDone_inv | apply State.updChan_inv | split

theorem State.dropDrives_inv (s : State) (i : Nat) (outcome : Nat) (h1 : State.Inv s) : State.Inv (State.dropDrives s i outcome) := by
  unfold State.dropDrives
  dsimp only
  with_reducible repeat' first
    | assumption | apply State.effectDone_inv | apply State.endPlay_inv | apply State.updChan_inv | apply foldl_inv | intro _

theorem State.dropAllDrives_inv (s : State) (outcome : Nat) (h1 : State.Inv s) : State.Inv (State.dropAllDrives s outcome) := by
  unfold State.dropAllDrives
  dsimp only
  with_reducible repeat' first
    | assumption | apply State.dropDrives_inv | apply State.setHaptics_inv | apply foldl_inv | intro _

theorem State.actuatorEvent_inv (s : State) (i : Nat) (cause : Nat) (freq : Nat) (capPf : Nat) (motion : Nat) (h1 : State.Inv s) : State.Inv (State.actuatorEvent s i cause freq capPf motion) := by
  unfold State.actuatorEvent
  with_reducible repeat' first
    | assumption | apply State.raiseAll_inv

theorem State.actuatorFact_inv (s : State) (i : Nat) (verdict : Nat) (check : Bool) (freq : Nat) (capPf : Nat) (motion : Nat) (h1 : State.Inv s) : State.Inv (State.actuatorFact s i verdict check freq capPf motion) := by
  unfold State.actuatorFact
  dsimp only
  with_reducible repeat' first
    | assumption | apply State.actuatorEvent_inv | apply State.clearFact_inv | apply State.raiseErr_inv
    | apply State.setFact_inv | apply State.settle_inv | apply ite_inv | intro _

theorem State.characterise_inv (s : State) (i : Nat) (h1 : State.Inv s) : State.Inv (State.characterise s i) := by
  unfold State.characterise
  dsimp only
  with_reducible repeat' first
    | assumption | apply State.updChan_inv

theorem State.runCheck_inv (s : State) (i : Nat) (full : Bool) (h1 : State.Inv s) : State.Inv (State.runCheck s i full) := by
  unfold State.runCheck
  dsimp only
  with_reducible repeat' first
    | assumption | apply State.actuatorFact_inv | apply State.characterise_inv | apply State.tickFree_inv | apply ite_inv
    | intro _

theorem State.fireClick_inv (s : State) (i : Nat) (k : Nat) (r : Click) (release : Bool) (contact : Nat) (h1 : State.Inv s) : State.Inv (State.fireClick s i k r release contact) := by
  unfold State.fireClick
  dsimp only
  with_reducible repeat' first
    | assumption | apply State.updChan_inv

theorem State.stepClick_inv (s : State) (i : Nat) (k : Nat) (h1 : State.Inv s) : State.Inv (State.stepClick s i k) := by
  unfold State.stepClick
  dsimp only
  with_reducible repeat' first
    | assumption | apply State.fireClick_inv | apply State.updChan_inv | apply ite_inv | intro _ | split

theorem State.brakeChan_inv (s : State) (n : Nat) (i : Nat) (give : Bool) (h1 : State.Inv s) : State.Inv (State.brakeChan s n i give) := by
  unfold State.brakeChan
  dsimp only
  with_reducible repeat' first
    | assumption | apply State.updChan_inv

theorem State.cancelHaptics_inv (s : State) (n : Nat) (h1 : State.Inv s) : State.Inv (State.cancelHaptics s n) := by
  unfold State.cancelHaptics
  with_reducible repeat' first
    | assumption | apply State.boost_inv | apply State.brakeChan_inv | apply State.updChan_inv | apply foldl_inv | intro _

theorem State.freezeHaptics_inv (s : State) (n : Nat) (h1 : State.Inv s) : State.Inv (State.freezeHaptics s n) := by
  unfold State.freezeHaptics
  with_reducible repeat' first
    | assumption | apply State.brakeChan_inv | apply foldl_inv | intro _

theorem State.removeChan_inv (s : State) (n : Nat) (i : Nat) (h1 : State.Inv s) : State.Inv (State.removeChan s n i) := by
  unfold State.removeChan
  with_reducible repeat' first
    | assumption | apply State.boost_inv | apply State.brakeChan_inv | apply State.updChan_inv

theorem State.setDramGrant_inv (s : State) (n : Nat) (v : Nat) (h1 : State.Inv s) : State.Inv (State.setDramGrant s n v) := by
  unfold State.setDramGrant
  dsimp only
  with_reducible repeat' first
    | assumption | apply State.setDram_inv | apply State.updInst_inv | apply zeroBlocks_wf | apply dramOk | apply ite_inv
    | intro _

theorem State.setSpadGrant_inv (s : State) (n : Nat) (v : Nat) (h1 : State.Inv s) : State.Inv (State.setSpadGrant s n v) := by
  unfold State.setSpadGrant
  dsimp only
  with_reducible repeat' first
    | assumption | apply State.setSpad_inv | apply State.updInst_inv | apply zeroSpad_wf | apply spadOk | apply ite_inv
    | intro _

theorem State.passSlot_inv (s : State) (i : Nat) (a2 : Option Nat) (h1 : State.Inv s) : State.Inv (State.passSlot s i a2) := by
  unfold State.passSlot
  with_reducible repeat' first
    | assumption | apply State.dropFallback_inv | apply State.giveSlot_inv

theorem State.setSlots_inv (s : State) (n : Nat) (kind : Nat) (v : Nat) (h1 : State.Inv s) : State.Inv (State.setSlots s n kind v) := by
  unfold State.setSlots
  dsimp only
  with_reducible repeat' first
    | assumption | apply State.passSlot_inv | apply foldl_inv | apply ite_inv | intro _

theorem State.setReserved_inv (s : State) (n : Nat) (v : Nat) (h1 : State.Inv s) : State.Inv (State.setReserved s n v) := by
  unfold State.setReserved
  dsimp only
  with_reducible repeat' first
    | assumption | apply State.updCluster_inv | apply State.updInst_inv | apply foldl_inv | apply ite_inv | intro _

theorem State.setStreams_inv (s : State) (n : Nat) (v : Nat) (h1 : State.Inv s) : State.Inv (State.setStreams s n v) := by
  unfold State.setStreams
  dsimp only
  with_reducible repeat' first
    | assumption | apply State.closeStream_inv | apply State.updInst_inv | apply foldl_inv | intro _

theorem State.setHapticChans_inv (s : State) (n : Nat) (v : Nat) (h1 : State.Inv s) : State.Inv (State.setHapticChans s n v) := by
  unfold State.setHapticChans
  dsimp only
  with_reducible repeat' first
    | assumption | apply State.removeChan_inv | apply State.updInst_inv | apply foldl_inv | intro _

theorem State.setRegions_inv (s : State) (n : Nat) (pipe : Nat) (rs : List Region) (h1 : State.Inv s) : State.Inv (State.setRegions s n pipe rs) := by
  unfold State.setRegions
  with_reducible repeat' first
    | assumption | apply State.dropSubs_inv | apply State.updInst_inv

theorem State.applyEntry_inv (s : State) (n : Nat) (e : QEntry) (h1 : State.Inv s) : State.Inv (State.applyEntry s n e) := by
  unfold State.applyEntry
  dsimp only
  with_reducible repeat' first
    | assumption | apply State.setDramGrant_inv | apply State.setHapticChans_inv | apply State.setRegions_inv
    | apply State.setReserved_inv | apply State.setSlots_inv | apply State.setSpadGrant_inv | apply State.setStreams_inv
    | apply State.updInst_inv | split

theorem State.applyQuotas_inv (s : State) (n : Nat) (es : List QEntry) (h1 : State.Inv s) : State.Inv (State.applyQuotas s n es) := by
  unfold State.applyQuotas
  with_reducible repeat' first
    | assumption | apply State.applyEntry_inv | apply foldl_inv | intro _

theorem State.voidPackets_inv (s : State) (n : Nat) (h1 : State.Inv s) : State.Inv (State.voidPackets s n) := by
  unfold State.voidPackets
  dsimp only
  with_reducible repeat' first
    | assumption | apply State.setTp_inv

theorem State.dropPackets_inv (s : State) (n : Nat) (h1 : State.Inv s) : State.Inv (State.dropPackets s n) := by
  unfold State.dropPackets
  dsimp only
  with_reducible repeat' first
    | assumption | apply State.setTp_inv

theorem State.cancelWaitingSubmits_inv (s : State) (n : Nat) (h1 : State.Inv s) : State.Inv (State.cancelWaitingSubmits s n) := by
  unfold State.cancelWaitingSubmits
  dsimp only
  with_reducible repeat' first
    | assumption | apply State.finish_inv | apply State.sweepPipelines_inv | apply State.unbindWriter_inv
    | apply State.updQueue_inv | apply foldl_inv | intro _

theorem State.cancelJob_inv (s : State) (j : CopyJob) (h1 : State.Inv s) : State.Inv (State.cancelJob s j) := by
  unfold State.cancelJob
  with_reducible repeat' first
    | assumption | apply State.dropJob_inv | apply State.finish_inv

theorem State.cancelWaitingCopies_inv (s : State) (n : Nat) (h1 : State.Inv s) : State.Inv (State.cancelWaitingCopies s n) := by
  unfold State.cancelWaitingCopies
  with_reducible repeat' first
    | assumption | apply State.cancelJob_inv | apply foldl_inv

theorem State.movePart_inv (s : State) (j : CopyJob) (h1 : State.Inv s) : State.Inv (State.movePart s j) := by
  unfold State.movePart
  dsimp only
  with_reducible repeat' first
    | assumption | apply State.runDesc_inv | apply State.sealTiles_inv | apply State.tickFree_inv | apply State.writeInst_inv
    | apply ite_inv | intro _ | split

theorem State.cancelCopies_inv (s : State) (n : Nat) (h1 : State.Inv s) : State.Inv (State.cancelCopies s n) := by
  unfold State.cancelCopies
  dsimp only
  with_reducible repeat' first
    | assumption | apply State.cancelJob_inv | apply State.movePart_inv | apply foldl_inv | apply State.asJob_inv | apply ite_inv | intro _

theorem State.cancelWindows_inv (s : State) (n : Nat) (h1 : State.Inv s) : State.Inv (State.cancelWindows s n) := by
  unfold State.cancelWindows
  dsimp only
  with_reducible repeat' first
    | assumption | apply State.finishOpt_inv | apply State.setSurf_inv | apply State.updSurface_inv | apply foldl_inv
    | intro _

theorem State.dropAwake_inv (s : State) (n : Nat) (h1 : State.Inv s) : State.Inv (State.dropAwake s n) := by
  unfold State.dropAwake
  dsimp only
  with_reducible repeat' first
    | assumption | apply State.setPower_inv | apply ite_inv | intro _

theorem State.stopIntake_inv (s : State) (n : Nat) (d : Drain) (h1 : State.Inv s) : State.Inv (State.stopIntake s n d) := by
  unfold State.stopIntake
  dsimp only
  with_reducible repeat' first
    | assumption | apply State.cancelHaptics_inv | apply State.cancelTouch_inv | apply State.cancelWaitingCopies_inv
    | apply State.cancelWaitingSubmits_inv | apply State.dropAwake_inv | apply State.dropWaiting_inv
    | apply State.requestClusters_inv | apply State.updInst_inv

theorem State.convertFreeze_inv (s : State) (n : Nat) (d : Drain) (h1 : State.Inv s) : State.Inv (State.convertFreeze s n d) := by
  unfold State.convertFreeze
  dsimp only
  with_reducible repeat' first
    | assumption | apply State.finishOpt_inv | apply State.stopIntake_inv | apply State.updInst_inv

theorem State.cancelWork_inv (s : State) (n : Nat) (h1 : State.Inv s) : State.Inv (State.cancelWork s n) := by
  unfold State.cancelWork
  dsimp only
  with_reducible repeat' first
    | assumption | apply State.cancelAudio_inv | apply State.cancelCopies_inv | apply State.cancelGpu_inv
    | apply State.cancelHaptics_inv | apply State.cancelTouch_inv | apply State.cancelWindows_inv | apply State.charge_inv
    | apply State.pauseAudio_inv | apply State.settleAllDead_inv

theorem State.answerCancelled_inv (s : State) (n : Nat) (h1 : State.Inv s) : State.Inv (State.answerCancelled s n) := by
  unfold State.answerCancelled
  dsimp only
  with_reducible repeat' first
    | assumption | apply State.answer_inv | apply State.setTp_inv | apply foldl_inv | apply ite_inv | intro _

theorem State.writeReplies_inv (fuel : Nat) : ∀ (a1 : State) (a2 : Nat) (h2 : State.Inv a1), State.Inv (State.writeReplies fuel a1 a2) := by
  induction fuel with
  | zero => intros; assumption
  | succ k ih =>
    intros
    unfold State.writeReplies
    try dsimp only
    with_reducible repeat' first
      | assumption | apply ih | apply State.writeReply_inv

theorem State.discardReplies_inv (s : State) (n : Nat) (h1 : State.Inv s) : State.Inv (State.discardReplies s n) := by
  unfold State.discardReplies
  dsimp only
  with_reducible repeat' first
    | assumption | apply State.countBy_inv | apply State.dropPackets_inv

theorem State.enterQuiesced_inv (s : State) (n : Nat) (h1 : State.Inv s) : State.Inv (State.enterQuiesced s n) := by
  unfold State.enterQuiesced
  dsimp only
  with_reducible repeat' first
    | assumption | apply State.count_inv | apply State.dropAwake_inv | apply State.finishOpt_inv | apply State.settle_inv
    | apply State.updInst_inv | apply State.withdrawEvents_inv

theorem State.drainWork_inv (s : State) (n : Nat) (h1 : State.Inv s) : State.Inv (State.drainWork s n) := by
  unfold State.drainWork
  dsimp only
  with_reducible repeat' first
    | assumption | apply State.answerCancelled_inv | apply State.cancelWork_inv | apply State.dropPackets_inv
    | apply State.writeReplies_inv | apply ite_inv | intro _ | split

theorem State.beginReset_inv (s : State) (n : Nat) (h1 : State.Inv s) : State.Inv (State.beginReset s n) := by
  unfold State.beginReset
  dsimp only
  with_reducible repeat' first
    | assumption | apply State.closeAudio_inv | apply State.dropAwake_inv | apply State.dropGpu_inv | apply State.dropMons_inv
    | apply State.dropSurfaces_inv | apply State.emptySlots_inv | apply State.setArea_inv | apply State.setPipes_inv
    | apply State.updInst_inv | apply foldl_inv | intro _

theorem State.scrubGrants_inv (s : State) (n : Nat) (h1 : State.Inv s) : State.Inv (State.scrubGrants s n) := by
  unfold State.scrubGrants
  dsimp only
  with_reducible repeat' first
    | assumption | apply State.setDram_inv | apply State.setSpad_inv | apply zeroSpad_wf | apply foldWf | apply dramOk
    | apply spadOk | apply Mem.zero_wf | intro _

theorem State.returnGrants_inv (s : State) (n : Nat) (h1 : State.Inv s) : State.Inv (State.returnGrants s n) := by
  unfold State.returnGrants
  dsimp only
  with_reducible repeat' first
    | assumption | apply State.dropPackets_inv | apply State.passSlot_inv | apply State.setHapticChans_inv
    | apply State.setReserved_inv | apply State.setStreams_inv | apply foldl_inv | intro _

theorem State.thawRings_inv (s : State) (k : Nat) (z : Frozen) (same : Bool) (h1 : State.Inv s) : State.Inv (State.thawRings s k z same) := by
  unfold State.thawRings
  with_reducible repeat' first
    | assumption | apply State.updSq_inv | apply foldl_inv | intro _

theorem State.placeImage_inv (s : State) (n : Nat) (time : Nat) (c : ImageContent) (h1 : State.Inv s) : State.Inv (State.placeImage s n time c) := by
  unfold State.placeImage
  dsimp only
  with_reducible repeat' first
    | assumption | apply State.raise_inv | apply State.setArea_inv | apply State.setCopy_inv | apply State.setEntry_inv
    | apply State.setGpu_inv | apply State.setReserved_inv | apply State.setSurf_inv | apply State.setTp_inv
    | apply State.updInst_inv | apply State.updSlot_inv | apply State.updStream_inv | apply foldl_inv | apply ite_inv
    | intro _

theorem State.wedgeEngine_inv (s : State) (n : Nat) (a2 : Nat) (h1 : State.Inv s) : State.Inv (State.wedgeEngine s n a2) := by
  unfold State.wedgeEngine
  dsimp only
  with_reducible repeat' first
    | assumption | apply State.moveReservation_inv | apply State.raiseErr_inv | apply State.setCopy_inv
    | apply State.setFact_inv | apply State.updCluster_inv | apply foldl_inv | intro _ | split

theorem State.wedge_inv (s : State) (n : Nat) (engines : List Nat) (h1 : State.Inv s) : State.Inv (State.wedge s n engines) := by
  unfold State.wedge
  dsimp only
  with_reducible repeat' first
    | assumption | apply State.finishOpt_inv | apply State.raiseErr_inv | apply State.raise_inv | apply State.setTp_inv
    | apply State.updInst_inv | apply State.voidPackets_inv | apply State.wedgeEngine_inv | apply State.withdrawEvents_inv
    | apply foldl_inv | intro _

theorem State.instFenced_inv (s : State) (k : Nat) (trigger : Nat) (n : Nat) (frozen : Bool) (h1 : State.Inv s) : State.Inv (State.instFenced s k trigger n frozen) := by
  unfold State.instFenced
  with_reducible repeat' first
    | assumption | apply State.raise_inv

theorem State.dropManagerPackets_inv (s : State) (h1 : State.Inv s) : State.Inv (State.dropManagerPackets s) := by
  unfold State.dropManagerPackets
  dsimp only
  with_reducible repeat' first
    | assumption | apply State.setTp_inv

theorem State.muteInst_inv (s : State) (n : Nat) (h1 : State.Inv s) : State.Inv (State.muteInst s n) := by
  unfold State.muteInst
  dsimp only
  with_reducible repeat' first
    | assumption | apply State.setTp_inv | apply State.voidPackets_inv

theorem State.fenceFn_inv (s : State) (k : Nat) (trigger : Nat) (h1 : State.Inv s) : State.Inv (State.fenceFn s k trigger) := by
  unfold State.fenceFn
  dsimp only
  with_reducible repeat' first
    | assumption | apply State.convertFreeze_inv | apply State.dropManagerPackets_inv | apply State.instFenced_inv
    | apply State.muteInst_inv | apply State.resetFnRegs_inv | apply State.stopIntake_inv | apply State.updInst_inv
    | apply State.withdrawEvents_inv | apply ite_inv | intro _ | split

theorem State.pcieReset_inv (s : State) (k : Nat) (h1 : State.Inv s) : State.Inv (State.pcieReset s k) := by
  unfold State.pcieReset
  with_reducible repeat' first
    | assumption | apply State.updFn_inv

theorem State.setVfs_inv (s : State) (port : Nat) (enable : Bool) (num : Nat) (h1 : State.Inv s) : State.Inv (State.setVfs s port enable num) := by
  unfold State.setVfs
  dsimp only
  with_reducible repeat' first
    | assumption | apply State.fenceFn_inv | apply State.pcieReset_inv | apply State.setPorts_inv | apply foldl_inv | intro _

theorem State.fencePort_inv (s : State) (port : Nat) (trigger : Nat) (h1 : State.Inv s) : State.Inv (State.fencePort s port trigger) := by
  unfold State.fencePort
  dsimp only
  with_reducible repeat' first
    | assumption | apply State.fenceFn_inv | apply State.pcieReset_inv | apply State.setPorts_inv | apply foldl_inv | intro _

theorem State.clearBusMaster_inv (s : State) (k : Nat) (h1 : State.Inv s) : State.Inv (State.clearBusMaster s k) := by
  unfold State.clearBusMaster
  with_reducible repeat' first
    | assumption | apply State.fenceFn_inv | apply State.updFn_inv | apply ite_inv | intro _

theorem State.retrainPort_inv (s : State) (port : Nat) (h1 : State.Inv s) : State.Inv (State.retrainPort s port) := by
  unfold State.retrainPort
  dsimp only
  with_reducible repeat' first
    | assumption | apply State.setPorts_inv

theorem State.settleManager_inv (s : State) (h1 : State.Inv s) : State.Inv (State.settleManager s) := by
  unfold State.settleManager
  dsimp only
  with_reducible repeat' first
    | assumption | apply State.maskOrDeliver_inv | apply State.setTp_inv | apply foldl_inv | intro _

theorem State.resyncOne_inv (s : State) (unit : Nat) (fact : Nat) (h1 : State.Inv s) : State.Inv (State.resyncOne s unit fact) := by
  unfold State.resyncOne
  with_reducible repeat' first
    | assumption | apply State.clearFact_inv | apply State.raiseErr_inv | apply State.setFact_inv | apply ite_inv | intro _

theorem State.resync_inv (s : State) (facts : List (Nat × Nat)) (h1 : State.Inv s) : State.Inv (State.resync s facts) := by
  unfold State.resync
  with_reducible repeat' first
    | assumption | apply State.resyncOne_inv | apply foldl_inv | intro _

theorem State.beanMismatch_inv (s : State) (pool : Nat) (h1 : State.Inv s) : State.Inv (State.beanMismatch s pool) := by
  unfold State.beanMismatch
  dsimp only
  with_reducible repeat' first
    | assumption | apply State.raiseErr_inv | apply State.tickFree_inv

theorem State.beanSweep_inv (s : State) (mismatched : List Nat) (h1 : State.Inv s) : State.Inv (State.beanSweep s mismatched) := by
  unfold State.beanSweep
  dsimp only
  with_reducible repeat' first
    | assumption | apply State.beanMismatch_inv | apply State.setErr_inv | apply foldl_inv | apply errOk

theorem State.senseLost_inv (s : State) (h1 : State.Inv s) : State.Inv (State.senseLost s) := by
  unfold State.senseLost
  dsimp only
  with_reducible repeat' first
    | assumption | apply State.dropAllDrives_inv | apply State.setTouch_inv | apply State.stopPanel_inv | apply foldl_inv
    | apply ite_inv | intro _

theorem State.mainLost_inv (s : State) (h1 : State.Inv s) : State.Inv (State.mainLost s) := by
  unfold State.mainLost
  dsimp only
  with_reducible repeat' first
    | assumption | apply State.raiseErr_inv | apply State.setFact_inv | apply State.setTouch_inv | apply foldl_inv | intro _

theorem State.clearFactIf_inv (s : State) (a1 : Nat) (fact : Nat) (h1 : State.Inv s) : State.Inv (State.clearFactIf s a1 fact) := by
  unfold State.clearFactIf
  with_reducible repeat' first
    | assumption | apply State.clearFact_inv | apply ite_inv | intro _

theorem State.clockRef_inv (s : State) (cause : Nat) (port : Nat) (khz : Nat) (h1 : State.Inv s) : State.Inv (State.clockRef s cause port khz) := by
  unfold State.clockRef
  with_reducible repeat' first
    | assumption | apply State.raise_inv

theorem State.clockPll_inv (s : State) (d : Nat) (cause : Nat) (h1 : State.Inv s) : State.Inv (State.clockPll s d cause) := by
  unfold State.clockPll
  with_reducible repeat' first
    | assumption | apply State.raise_inv | apply State.tickFree_inv

theorem State.setRef_inv (s : State) (port : Nat) (ok : Bool) (h1 : State.Inv s) : State.Inv (State.setRef s port ok) := by
  unfold State.setRef
  dsimp only
  with_reducible repeat' first
    | assumption | apply State.setClocks_inv

theorem State.setHoldover_inv (s : State) (b : Bool) (h1 : State.Inv s) : State.Inv (State.setHoldover s b) := by
  unfold State.setHoldover
  with_reducible repeat' first
    | assumption | apply State.updDom_inv | apply foldl_inv | intro _

theorem State.warmrcFault_inv (s : State) (h1 : State.Inv s) : State.Inv (State.warmrcFault s) := by
  unfold State.warmrcFault
  dsimp only
  with_reducible repeat' first
    | assumption | apply State.clockRef_inv | apply State.raiseErr_inv | apply State.setClocks_inv | apply State.setFact_inv
    | apply ite_inv | intro _

theorem State.settleRef_inv (s : State) (h1 : State.Inv s) : State.Inv (State.settleRef s) := by
  unfold State.settleRef
  with_reducible repeat' first
    | assumption | apply State.clearFact_inv | apply State.settle_inv | apply ite_inv | intro _

theorem State.dropDeadPorts_inv (s : State) (h1 : State.Inv s) : State.Inv (State.dropDeadPorts s) := by
  unfold State.dropDeadPorts
  dsimp only
  with_reducible repeat' first
    | assumption | apply State.fencePort_inv | apply foldl_inv | apply ite_inv | intro _

theorem State.failover_inv (s : State) (port : Nat) (khz : Nat) (h1 : State.Inv s) : State.Inv (State.failover s port khz) := by
  unfold State.failover
  dsimp only
  with_reducible repeat' first
    | assumption | apply State.clockRef_inv | apply State.count_inv | apply State.dropDeadPorts_inv | apply State.edge_inv
    | apply State.raiseErr_inv | apply State.setClocks_inv | apply State.setFact_inv | apply State.setHoldover_inv
    | apply State.settleRef_inv | split

theorem State.senseStopped_inv (s : State) (h1 : State.Inv s) : State.Inv (State.senseStopped s) := by
  unfold State.senseStopped
  with_reducible repeat' first
    | assumption | apply State.dropAllDrives_inv | apply State.stopPanel_inv | apply foldl_inv | apply ite_inv | intro _

theorem State.senseStarted_inv (s : State) (h1 : State.Inv s) : State.Inv (State.senseStarted s) := by
  unfold State.senseStarted
  with_reducible repeat' first
    | assumption | apply State.boost_inv | apply State.updTp_inv | apply foldl_inv | apply ite_inv | intro _

theorem State.fabLost_inv (s : State) (h1 : State.Inv s) : State.Inv (State.fabLost s) := by
  unfold State.fabLost
  dsimp only
  with_reducible repeat' first
    | assumption | apply State.clockPll_inv | apply State.domLost_inv | apply State.raiseErr_inv | apply State.updDom_inv
    | apply ite_inv | intro _

theorem State.fabAttempt_inv (s : State) (locked : Bool) (h1 : State.Inv s) : State.Inv (State.fabAttempt s locked) := by
  unfold State.fabAttempt
  dsimp only
  with_reducible repeat' first
    | assumption | apply State.clockPll_inv | apply State.domAttempt_inv | apply State.domRelocked_inv
    | apply State.raiseErr_inv | apply State.updDom_inv | apply ite_inv | intro _

theorem State.shedLoad_inv (s : State) (h1 : State.Inv s) : State.Inv (State.shedLoad s) := by
  unfold State.shedLoad
  dsimp only
  with_reducible repeat' first
    | assumption | apply State.dropAllDrives_inv | apply State.setPower_inv

theorem State.retainDisplay_inv (s : State) (old : State) (keep : Bool) (h1 : State.Inv s) (h2 : State.Inv old) : State.Inv (State.retainDisplay s old keep) := by
  unfold State.retainDisplay
  dsimp only
  with_reducible repeat' first
    | assumption | apply State.setLinks_inv | apply State.updLink_inv | apply State.updMon_inv | apply State.updPipe_inv
    | apply State.updStage_inv | apply foldl_inv | apply ite_inv | intro _

theorem State.fullReset_inv (s : State) (cause : Nat) (h1 : State.Inv s) : State.Inv (State.fullReset s cause) := by
  unfold State.fullReset
  dsimp only
  with_reducible apply State.retainDisplay_inv
  · refine ⟨?_, rfl, fun k => ?_, ?_⟩
    · simp only [State.memWf, Bool.and_eq_true]
      exact ⟨⟨rfl, rfl⟩, hostOk h1⟩
    · show ((Tab.empty : Tab Entry.reset).get k).gen ≠ 0
      rw [Tab.get_empty]; decide
    · show (s.errAfter cause).queue.length ≤ 64
      unfold State.errAfter; dsimp only; split
      · exact Nat.zero_le _
      · rw [List.length_map]; exact errOk h1
  · exact h1

theorem State.refuse_inv (s : State) (r : Refused) (asked : PState) (sender : Nat) (h1 : State.Inv s) : State.Inv (State.refuse s r asked sender) := by
  unfold State.refuse
  dsimp only
  with_reducible repeat' first
    | assumption | apply State.raise_inv | apply State.setPower_inv

theorem State.powerChanged_inv (s : State) (entered : PState) (left : PState) (aborted : Bool) (source : Nat) (arg : Nat) (us : Nat) (h1 : State.Inv s) : State.Inv (State.powerChanged s entered left aborted source arg us) := by
  unfold State.powerChanged
  with_reducible repeat' first
    | assumption | apply State.raiseAll_inv

theorem State.refuseEntry_inv (s : State) (r : Refused) (target : PState) (sender : Nat) (h1 : State.Inv s) : State.Inv (State.refuseEntry s r target sender) := by
  unfold State.refuseEntry
  with_reducible repeat' first
    | assumption | apply State.countHold_inv | apply State.refuse_inv | apply ite_inv | intro _

theorem State.quietDown_inv (s : State) (h1 : State.Inv s) : State.Inv (State.quietDown s) := by
  unfold State.quietDown
  dsimp only
  with_reducible repeat' first
    | assumption | apply State.freezeHaptics_inv | apply State.pauseAudio_inv | apply State.requestClusters_inv
    | apply State.stopPanel_inv | apply foldl_inv | apply ite_inv | intro _

theorem State.resume_inv (s : State) (h1 : State.Inv s) : State.Inv (State.resume s) := by
  unfold State.resume
  dsimp only
  with_reducible repeat' first
    | assumption | apply State.pauseAudio_inv | apply State.updTp_inv | apply foldl_inv | apply ite_inv | intro _

theorem State.startEntry_inv (s : State) (e : PEntry) (h1 : State.Inv s) : State.Inv (State.startEntry s e) := by
  unfold State.startEntry
  dsimp only
  with_reducible repeat' first
    | assumption | apply State.finishOpt_inv | apply State.powerChanged_inv | apply State.setPower_inv

theorem State.abortEntry_inv (s : State) (r : Refused) (source : Nat) (arg : Nat) (h1 : State.Inv s) : State.Inv (State.abortEntry s r source arg) := by
  unfold State.abortEntry
  dsimp only
  with_reducible repeat' first
    | assumption | apply State.finishOpt_inv | apply State.powerChanged_inv | apply State.refuse_inv | apply State.resume_inv
    | apply State.setPower_inv | apply ite_inv | intro _ | split

theorem State.haltPipe_inv (s : State) (k : Nat) (h1 : State.Inv s) : State.Inv (State.haltPipe s k) := by
  unfold State.haltPipe
  dsimp only
  with_reducible repeat' first
    | assumption | apply State.flushFences_inv | apply State.retimeDeadlines_inv | apply State.setTouch_inv
    | apply State.updPipe_inv | apply ite_inv | intro _

theorem State.completeEntry_inv (s : State) (e : PEntry) (h1 : State.Inv s) : State.Inv (State.completeEntry s e) := by
  unfold State.completeEntry
  dsimp only
  with_reducible repeat' first
    | assumption | apply State.haltPipe_inv | apply State.setPower_inv | apply State.setSec_inv | apply State.updLink_inv
    | apply State.updTp_inv | apply foldl_inv | intro _

theorem State.advanceEntry_inv (s : State) (h1 : State.Inv s) : State.Inv (State.advanceEntry s) := by
  unfold State.advanceEntry
  with_reducible repeat' first
    | assumption | apply State.abortEntry_inv | apply State.completeEntry_inv | apply State.startEntry_inv | apply ite_inv
    | intro _ | split

theorem State.beginEntry_inv (s : State) (e : PEntry) (h1 : State.Inv s) : State.Inv (State.beginEntry s e) := by
  unfold State.beginEntry
  dsimp only
  with_reducible repeat' first
    | assumption | apply State.quietDown_inv | apply State.setPower_inv | apply State.startEntry_inv | apply ite_inv | intro _

theorem State.wakePipe_inv (s : State) (pipe : Nat) (h1 : State.Inv s) : State.Inv (State.wakePipe s pipe) := by
  unfold State.wakePipe
  dsimp only
  with_reducible repeat' first
    | assumption | apply State.finishOpt_inv | apply State.updPipe_inv | apply ite_inv | intro _

theorem State.latchWake_inv (s : State) (left : PState) (source : Nat) (arg : Nat) (us : Nat) (h1 : State.Inv s) : State.Inv (State.latchWake s left source arg us) := by
  unfold State.latchWake
  dsimp only
  with_reducible repeat' first
    | assumption | apply State.setPorts_inv | apply State.setPower_inv | apply ite_inv | intro _

theorem State.callHosts_inv (s : State) (source : Nat) (h1 : State.Inv s) : State.Inv (State.callHosts s source) := by
  unfold State.callHosts
  dsimp only
  with_reducible repeat' first
    | assumption | apply State.setPower_inv | apply ite_inv | intro _

theorem State.wakeUp_inv (s : State) (source : Nat) (arg : Nat) (us : Nat) (h1 : State.Inv s) : State.Inv (State.wakeUp s source arg us) := by
  unfold State.wakeUp
  dsimp only
  with_reducible repeat' first
    | assumption | apply State.callHosts_inv | apply State.fullReset_inv | apply State.latchWake_inv
    | apply State.powerChanged_inv | apply State.resume_inv | apply State.setDram_inv | apply State.setMemc_inv
    | apply State.setPower_inv | apply State.setSec_inv | apply State.updLink_inv | apply State.updPipe_inv | apply foldl_inv
    | apply zeroBlocks_wf | apply dramOk | apply ite_inv | intro _

theorem State.thermalEvent_inv (s : State) (cause : Nat) (hot : Nat × Int) (h1 : State.Inv s) : State.Inv (State.thermalEvent s cause hot) := by
  unfold State.thermalEvent
  dsimp only
  with_reducible repeat' first
    | assumption | apply State.raise_inv | apply State.setPower_inv | apply ite_inv | intro _

theorem State.noteTemps_inv (s : State) (temps : List (Nat × Int)) (h1 : State.Inv s) : State.Inv (State.noteTemps s temps) := by
  unfold State.noteTemps
  dsimp only
  with_reducible repeat' first
    | assumption | apply State.setPower_inv

theorem State.throttle_inv (s : State) (hot : Nat × Int) (h1 : State.Inv s) : State.Inv (State.throttle s hot) := by
  unfold State.throttle
  dsimp only
  with_reducible repeat' first
    | assumption | apply State.setPower_inv | apply State.stepLoop_inv | apply State.thermalEvent_inv | apply ite_inv
    | intro _

theorem State.thermalTrip_inv (s : State) (hot : Nat × Int) (h1 : State.Inv s) : State.Inv (State.thermalTrip s hot) := by
  unfold State.thermalTrip
  dsimp only
  with_reducible repeat' first
    | assumption | apply State.raiseErr_inv | apply State.setPower_inv | apply State.shedLoad_inv
    | apply State.thermalEvent_inv

theorem State.takeSag_inv (s : State) (cause : Nat) (vsense : Nat) (late : Bool) (fatal : Bool) (h1 : State.Inv s) : State.Inv (State.takeSag s cause vsense late fatal) := by
  unfold State.takeSag
  dsimp only
  with_reducible repeat' first
    | assumption | apply State.abortEntry_inv | apply State.edge_inv | apply State.setPower_inv | apply State.shedLoad_inv
    | apply ite_inv | intro _

theorem State.vaonLost_inv (s : State) (h1 : State.Inv s) : State.Inv (State.vaonLost s) := by
  unfold State.vaonLost
  dsimp only
  with_reducible repeat' first
    | assumption | apply State.fullReset_inv | apply State.retainDisplay_inv | apply State.setFirmware_inv
    | apply State.setPipes_inv | apply State.setPower_inv | apply State.setSec_inv

theorem State.prefer_inv (s : State) (unit : Nat) (slot : Nat) (h1 : State.Inv s) : State.Inv (State.prefer s unit slot) := by
  unfold State.prefer
  dsimp only
  with_reducible repeat' first
    | assumption | apply State.setFirmware_inv

theorem State.refillState_inv (s : State) (unit : Nat) (cause : Nat) (version : Nat) (advanced : Bool) (flashed : Bool) (live : Bool) (h1 : State.Inv s) : State.Inv (State.refillState s unit cause version advanced flashed live) := by
  unfold State.refillState
  with_reducible repeat' first
    | assumption | apply State.raise_inv | apply State.tickFree_inv

theorem State.dropRefill_inv (s : State) (r : Refill) (cause : Nat) (h1 : State.Inv s) : State.Inv (State.dropRefill s r cause) := by
  unfold State.dropRefill
  dsimp only
  with_reducible repeat' first
    | assumption | apply State.refillState_inv | apply State.setFirmware_inv

theorem State.newBackEnd_inv (s : State) (backEnd : Nat) (h1 : State.Inv s) : State.Inv (State.newBackEnd s backEnd) := by
  unfold State.newBackEnd
  dsimp only
  with_reducible repeat' first
    | assumption | apply State.raise_inv | apply State.setGpu_inv | apply State.tickFree_inv | apply foldl_inv | apply ite_inv
    | intro _

theorem State.runs_inv (s : State) (unit : Nat) (version : Nat) (h1 : State.Inv s) : State.Inv (State.runs s unit version) := by
  unfold State.runs
  dsimp only
  with_reducible repeat' first
    | assumption | apply State.setFirmware_inv

theorem State.switchPanels_inv (s : State) (h1 : State.Inv s) : State.Inv (State.switchPanels s) := by
  unfold State.switchPanels
  with_reducible repeat' first
    | assumption | apply State.cancelContacts_inv | apply State.contactsReset_inv | apply foldl_inv | apply ite_inv | intro _

theorem State.takeLive_inv (s : State) (unit : Nat) (d : List Byte) (h1 : State.Inv s) : State.Inv (State.takeLive s unit d) := by
  unfold State.takeLive
  dsimp only
  with_reducible repeat' first
    | assumption | apply State.newBackEnd_inv | apply State.runs_inv | apply State.setFirmware_inv | apply State.setSec_inv
    | apply State.switchPanels_inv | apply ite_inv | intro _ | split

theorem State.programSlot_inv (s : State) (unit : Nat) (d : List Byte) (h1 : State.Inv s) : State.Inv (State.programSlot s unit d) := by
  unfold State.programSlot
  dsimp only
  with_reducible repeat' first
    | assumption | apply State.prefer_inv | apply State.setFirmware_inv | apply ite_inv | intro _

theorem State.advanceCounter_inv (s : State) (unit : Nat) (v : Nat) (h1 : State.Inv s) : State.Inv (State.advanceCounter s unit v) := by
  unfold State.advanceCounter
  dsimp only
  with_reducible repeat' first
    | assumption | apply State.setFirmware_inv

theorem State.rejectCommit_inv (s : State) (r : Refill) (programmed : Bool) (h1 : State.Inv s) : State.Inv (State.rejectCommit s r programmed) := by
  unfold State.rejectCommit
  with_reducible repeat' first
    | assumption | apply State.dropRefill_inv | apply State.programSlot_inv | apply ite_inv | intro _

theorem State.commitRefill_inv (s : State) (r : Refill) (a : Bool) (n : Nat) (h1 : State.Inv s) : State.Inv (State.commitRefill s r a n).1 := by
  unfold State.commitRefill
  dsimp only
  with_reducible apply fst_ite_inv <;> intro _ <;> dsimp only
  · with_reducible repeat' (first | assumption | apply State.advanceCounter_inv | apply State.intend_inv | apply State.programSlot_inv | apply State.refillState_inv | apply State.restartCupper_inv | apply State.setFirmware_inv | apply State.takeLive_inv | apply fst_ite_inv | apply ite_inv | intro _ | split)
  · with_reducible repeat' (first | assumption | apply State.advanceCounter_inv | apply State.intend_inv | apply State.programSlot_inv | apply State.refillState_inv | apply State.restartCupper_inv | apply State.setFirmware_inv | apply State.takeLive_inv | apply fst_ite_inv | apply ite_inv | intro _ | split)

theorem State.putCal_inv (s : State) (a1 : Nat) (bs : List Byte) (h1 : State.Inv s) : State.Inv (State.putCal s a1 bs) := by
  unfold State.putCal
  dsimp only
  with_reducible repeat' first
    | assumption | apply State.setFirmware_inv

theorem State.applyTrims_inv (s : State) (bs : List Byte) (h1 : State.Inv s) : State.Inv (State.applyTrims s bs) := by
  unfold State.applyTrims
  dsimp only
  with_reducible repeat' first
    | assumption | apply State.setAudio_inv

theorem State.recalDone_inv (s : State) (p : Packet) (a2 : Nat) (outcome : Nat) (value : Nat) (h1 : State.Inv s) : State.Inv (State.recalDone s p a2 outcome value) := by
  unfold State.recalDone
  with_reducible repeat' first
    | assumption | apply State.raiseAll_inv

theorem State.recalPanel_inv (s : State) (i : Nat) (h1 : State.Inv s) : State.Inv (State.recalPanel s i) := by
  unfold State.recalPanel
  dsimp only
  with_reducible repeat' first
    | assumption | apply State.cancelContacts_inv | apply State.contactsReset_inv | apply State.tickFree_inv
    | apply State.updTp_inv

theorem State.bootAt_inv (s : State) (stage : Nat) (fail : Nat) (h1 : State.Inv s) : State.Inv (State.bootAt s stage fail) := by
  unfold State.bootAt
  dsimp only
  with_reducible repeat' first
    | assumption | apply State.setBoot_inv

theorem State.readyBits_inv (s : State) (n : Nat) (h1 : State.Inv s) : State.Inv (State.readyBits s n) := by
  unfold State.readyBits
  dsimp only
  with_reducible repeat' first
    | assumption | apply State.setPower_inv

theorem State.bootStraps_inv (s : State) (healthy : Nat) (h1 : State.Inv s) : State.Inv (State.bootStraps s healthy) := by
  unfold State.bootStraps
  dsimp only
  with_reducible repeat' first
    | assumption | apply State.readyBits_inv | apply State.setBoard_inv | apply State.setPower_inv | apply State.setRef_inv
    | apply foldl_inv | intro _

theorem State.trainPorts_inv (s : State) (h1 : State.Inv s) : State.Inv (State.trainPorts s) := by
  unfold State.trainPorts
  with_reducible repeat' first
    | assumption | apply State.retrainPort_inv | apply foldl_inv

theorem State.bootReference_inv {s u : State} (h1 : State.Inv s) (h : State.bootReference s = some u) : State.Inv u := by
  unfold State.bootReference at h
  split at h
  · cases h
  · injection h with h; subst h
    with_reducible repeat' (first | assumption | apply State.readyBits_inv | apply State.setClocks_inv | apply State.trainPorts_inv | intro _ | split)

theorem State.bootDegraded_inv (s : State) (h1 : State.Inv s) : State.Inv (State.bootDegraded s) := by
  unfold State.bootDegraded
  dsimp only
  with_reducible repeat' first
    | assumption | apply State.clockRef_inv | apply State.raiseErr_inv | apply State.readyBits_inv | apply State.setBoot_inv
    | apply State.setClocks_inv | apply State.setFact_inv

theorem State.bootCupper_inv (s : State) (h1 : State.Inv s) : State.Inv (State.bootCupper s) := by
  unfold State.bootCupper
  dsimp only
  with_reducible repeat' first
    | assumption | apply State.setBoot_inv | apply State.setEntry_inv | apply State.setSec_inv | apply State.startCupper_inv
    | apply genOk | split

theorem State.bootImage_inv (s : State) (unit : Nat) (h1 : State.Inv s) : State.Inv (State.bootImage s unit) := by
  unfold State.bootImage
  with_reducible repeat' first
    | assumption | apply State.runImage_inv | apply State.runs_inv | split

theorem State.bornOffline_inv (s : State) (a1 : Nat) (fact : Nat) (h1 : State.Inv s) : State.Inv (State.bornOffline s a1 fact) := by
  unfold State.bornOffline
  dsimp only
  with_reducible repeat' first
    | assumption | apply State.setEntry_inv | apply genOk

theorem State.bootUnits_inv (s : State) (h1 : State.Inv s) : State.Inv (State.bootUnits s) := by
  unfold State.bootUnits
  dsimp only
  with_reducible repeat' first
    | assumption | apply State.bootImage_inv | apply State.bornOffline_inv | apply State.setGpu_inv | apply State.setTouch_inv
    | apply foldl_inv | apply ite_inv | intro _

theorem State.bootCalibration_inv (s : State) (h1 : State.Inv s) : State.Inv (State.bootCalibration s) := by
  unfold State.bootCalibration
  dsimp only
  with_reducible repeat' first
    | assumption | apply State.applyTrims_inv | apply State.updChan_inv | apply foldl_inv | apply ite_inv | intro _

theorem State.bootDisplay_inv (s : State) (h1 : State.Inv s) : State.Inv (State.bootDisplay s) := by
  unfold State.bootDisplay
  dsimp only
  with_reducible repeat' first
    | assumption | apply State.setBoot_inv | apply State.setEntry_inv | apply State.updLink_inv | apply State.updPanel_inv
    | apply State.updPipe_inv | apply foldl_inv | apply genOk | apply ite_inv | intro _

theorem State.pourEvents_inv (s : State) (h1 : State.Inv s) : State.Inv (State.pourEvents s) := by
  unfold State.pourEvents
  dsimp only
  with_reducible repeat' first
    | assumption | apply State.raise_inv | apply State.setPower_inv | apply foldl_inv | intro _ | split

theorem State.bootDone_inv (s : State) (h1 : State.Inv s) : State.Inv (State.bootDone s) := by
  unfold State.bootDone
  dsimp only
  with_reducible repeat' first
    | assumption | apply State.bootAt_inv | apply State.pourEvents_inv | apply State.raise_inv

theorem State.bootAlarms_inv (s : State) (h1 : State.Inv s) : State.Inv (State.bootAlarms s) := by
  unfold State.bootAlarms
  dsimp only
  with_reducible repeat' first
    | assumption | apply State.releaseCause_inv | apply State.setSec_inv | apply ite_inv | intro _

theorem State.bootOn_inv (s : State) (mismatch : Option Nat) (h1 : State.Inv s) : State.Inv (State.bootOn s mismatch) := by
  unfold State.bootOn
  dsimp only
  with_reducible repeat' first
    | assumption | apply State.bootAt_inv | apply State.bootCalibration_inv | apply State.bootImage_inv
    | apply State.bootUnits_inv | apply State.raiseErr_inv | apply State.readyBits_inv | apply State.runImage_inv
    | apply State.setBoot_inv | apply State.setFirmware_inv | apply ite_inv | intro _ | split

theorem State.bootLedger_inv (s : State) (h1 : State.Inv s) : State.Inv (State.bootLedger s) := by
  unfold State.bootLedger
  dsimp only
  with_reducible repeat' first
    | assumption | apply State.bootAlarms_inv | apply State.bootDisplay_inv | apply State.bootDone_inv
    | apply State.bornOffline_inv | apply State.raiseErr_inv | apply State.readyBits_inv | apply State.setBoot_inv
    | apply ite_inv | intro _

theorem State.bootFinish_inv (s : State) (h1 : State.Inv s) : State.Inv (State.bootFinish s) := by
  unfold State.bootFinish
  with_reducible repeat' first
    | assumption | apply State.bootLedger_inv | apply ite_inv | intro _

theorem State.recStart_inv (s : State) (unit : Nat) (h1 : State.Inv s) : State.Inv (State.recStart s unit) := by
  unfold State.recStart
  dsimp only
  with_reducible repeat' first
    | assumption | apply State.setBoot_inv | apply State.setFirmware_inv | apply ite_inv | intro _

theorem State.recPage_inv (s : State) (data : List Byte) (h1 : State.Inv s) : State.Inv (State.recPage s data) := by
  unfold State.recPage
  dsimp only
  with_reducible repeat' first
    | assumption | apply State.setBoot_inv | apply ite_inv | intro _

theorem State.recCommit_inv (s : State) (h1 : State.Inv s) : State.Inv (State.recCommit s) := by
  unfold State.recCommit
  dsimp only
  with_reducible repeat' first
    | assumption | apply State.prefer_inv | apply State.setBoot_inv | apply State.setFirmware_inv | apply ite_inv | intro _

theorem State.errorLogged_inv (s : State) (r : ErrRec) (h1 : State.Inv s) : State.Inv (State.errorLogged s r) := by
  unfold State.errorLogged
  with_reducible repeat' first
    | assumption | apply State.raise_inv

theorem State.finishHandling_inv (s : State) (r : ErrRec) (h1 : State.Inv s) : State.Inv (State.finishHandling s r) := by
  have key : ∀ (t : State) (b : Bool) (x : Err), State.Inv t → x.queue = markHandled r b t.err.queue →
      State.Inv (State.setErr t x) := by
    intro t b x h hx
    refine State.setErr_inv _ _ h ?_
    rw [hx, markHandled, List.length_map]; exact errOk h
  have hc : State.Inv (if s.superseded r = true then s.count 10 0 8 else s) :=
    ite_inv (fun _ => State.count_inv _ _ _ _ h1) (fun _ => h1)
  unfold State.finishHandling
  dsimp only
  with_reducible apply ite_inv <;> intro _
  · exact State.errorLogged_inv _ _ (key _ (s.superseded r) _ hc rfl)
  · exact key _ (s.superseded r) _ hc rfl

theorem State.handleOne_inv (s : State) (h1 : State.Inv s) : State.Inv (State.handleOne s) := by
  unfold State.handleOne
  dsimp only
  with_reducible repeat' first
    | assumption | apply State.finishHandling_inv | apply State.setErr_inv | apply errOk | apply ite_inv | intro _ | split

theorem State.rehold_inv (s : State) (h1 : State.Inv s) : State.Inv (State.rehold s) := by
  unfold State.rehold
  dsimp only
  with_reducible repeat' first
    | assumption | apply State.fullReset_inv | apply State.setBoot_inv | apply State.setErr_inv | apply errOk

theorem State.mgmtDiscard_inv (s : State) (h1 : State.Inv s) : State.Inv (State.mgmtDiscard s) := by
  unfold State.mgmtDiscard
  dsimp only
  with_reducible repeat' first
    | assumption | apply State.setBoot_inv

theorem State.mgmtSend_inv (s : State) (bs : List Byte) (h1 : State.Inv s) : State.Inv (State.mgmtSend s bs) := by
  unfold State.mgmtSend
  dsimp only
  with_reducible repeat' first
    | assumption | apply State.setTp_inv

theorem State.mgmtServed_inv (s : State) (tag : Nat) (h1 : State.Inv s) : State.Inv (State.mgmtServed s tag) := by
  unfold State.mgmtServed
  dsimp only
  with_reducible repeat' first
    | assumption | apply State.setBoot_inv

theorem State.mgmtPacket_inv (s : State) (tag : Nat) (som : Bool) (eom : Bool) (body : List Byte) (h1 : State.Inv s) : State.Inv (State.mgmtPacket s tag som eom body) := by
  unfold State.mgmtPacket
  dsimp only
  with_reducible repeat' first
    | assumption | apply State.mgmtDiscard_inv | apply State.setBoot_inv | apply ite_inv | intro _ | split

theorem State.mgmtBusy_inv (s : State) (opcode : Nat) (p : Packet) (h1 : State.Inv s) : State.Inv (State.mgmtBusy s opcode p) := by
  unfold State.mgmtBusy
  dsimp only
  with_reducible repeat' first
    | assumption | apply State.count_inv | apply State.setTp_inv

theorem State.recWrite_inv (s : State) (reg : Nat) (v : Nat) (h1 : State.Inv s) : State.Inv (State.recWrite s reg v) := by
  unfold State.recWrite
  dsimp only
  with_reducible repeat' first
    | assumption | apply State.recCommit_inv | apply State.recStart_inv | apply State.setBoot_inv | apply ite_inv | intro _

theorem State.ctrl_inv (s : State) (command : Nat) (completion : Nat) (data : List Byte) (h1 : State.Inv s) : State.Inv (State.ctrl s command completion data) := by
  unfold State.ctrl
  with_reducible repeat' first
    | assumption | apply State.mgmtSend_inv | apply ite_inv | intro _

theorem State.warmTick_inv (s : State) (h1 : State.Inv s) : State.Inv (State.warmTick s) := by
  unfold State.warmTick
  dsimp only
  with_reducible repeat' first
    | assumption | apply State.setDevTime_inv | apply State.setPower_inv | apply ite_inv | intro _

theorem State.clockTick_inv (s : State) (h1 : State.Inv s) : State.Inv (State.clockTick s) := by
  unfold State.clockTick
  dsimp only
  with_reducible repeat' first
    | assumption | apply State.setDevTime_inv | apply State.setPower_inv | apply State.warmTick_inv | apply ite_inv | intro _

theorem State.wakePins_inv (s : State) (h1 : State.Inv s) : State.Inv (State.wakePins s) := by
  unfold State.wakePins
  dsimp only
  with_reducible repeat' first
    | assumption | apply State.setPower_inv | apply ite_inv | intro _

theorem State.idle_inv (s : State) (h1 : State.Inv s) : State.Inv (State.idle s) := by
  unfold State.idle
  with_reducible repeat' first
    | assumption | apply State.advanceEntry_inv | apply State.clockTick_inv | apply State.wakePins_inv

end Sys2Proof.Machine
end

