-- ==== Sys2Proof/Laws/InvariantRows.lean ====
section
/-!
SUPPORT. Every row of the table keeps the invariant of Safety: one lemma per meaning.
-/

namespace Sys2Proof.Machine

open Sys2Proof

theorem execEicSourceEdge_inv (source : Nat) (s : State) (h2 : State.Inv s) : outInv (execEicSourceEdge source s) := by
  unfold execEicSourceEdge
  with_reducible repeat' first
    | assumption | apply State.edge_inv | apply out_next

theorem execEicClaim_inv (target : Nat) (s : State) (h2 : State.Inv s) : outInv (execEicClaim target s) := by
  unfold execEicClaim
  dsimp only
  with_reducible repeat' first
    | assumption | apply State.readMailbox_inv | apply State.setBus_inv | apply State.setEic_inv | apply out_next
    | apply oite_inv | intro _ | split

theorem execEicComplete_inv (target : Nat) (id : Nat) (s : State) (h3 : State.Inv s) : outInv (execEicComplete target id s) := by
  unfold execEicComplete
  dsimp only
  with_reducible repeat' first
    | assumption | apply State.setEicNotice_inv | apply State.setEic_inv | apply out_next | apply oite_inv | intro _

theorem execEicPendWithdraw_inv (target : Nat) (source : Nat) (s : State) (h3 : State.Inv s) : outInv (execEicPendWithdraw target source s) := by
  unfold execEicPendWithdraw
  with_reducible repeat' first
    | assumption | apply State.withdrawSource_inv | apply out_next

theorem execEicEnableWrite_inv (target : Nat) (source : Nat) (enable : Bool) (s : State) (h4 : State.Inv s) : outInv (execEicEnableWrite target source enable s) := by
  unfold execEicEnableWrite
  dsimp only
  with_reducible repeat' first
    | assumption | apply State.setEicNotice_inv | apply out_next | apply oite_inv | intro _

theorem execEicRouteWrite_inv (source : Nat) (target : Nat) (s : State) (h3 : State.Inv s) : outInv (execEicRouteWrite source target s) := by
  unfold execEicRouteWrite
  dsimp only
  with_reducible repeat' first
    | assumption | apply State.setEicNotice_inv | apply State.setEic_inv | apply out_next | apply oite_inv | intro _

theorem execEventWrite_inv (port : Nat) (fn : Nat) (s : State) (h3 : State.Inv s) : outInv (execEventWrite port fn s) := by
  unfold execEventWrite
  dsimp only
  with_reducible repeat' first
    | assumption | apply State.drainHolding_inv | apply State.maskOrDeliver_inv | apply State.setTp_inv | apply out_next
    | apply out_fault | apply oite_inv | intro _ | split

theorem execEvtMaskWrite_inv (port : Nat) (fn : Nat) (idx : Nat) (value : Nat) (s : State) (h5 : State.Inv s) : outInv (execEvtMaskWrite port fn idx value s) := by
  unfold execEvtMaskWrite
  dsimp only
  with_reducible repeat' first
    | assumption | apply State.unlatch_inv | apply State.updFn_inv | apply foldl_inv | apply out_next | apply ite_inv
    | apply oite_inv | intro _

theorem execLoopConstrained_inv (unit : Nat) (i : Nat) (s : State) (h3 : State.Inv s) : outInv (execLoopConstrained unit i s) := by
  unfold execLoopConstrained
  dsimp only
  with_reducible repeat' first
    | assumption | apply State.loopEvent_inv | apply State.putLoop_inv | apply onUnit_inv | apply ite_inv | intro _ | split

theorem execLoopSetBounds_inv (p : Packet) (s : State) (h2 : State.Inv s) : outInv (execLoopSetBounds p s) := by
  unfold execLoopSetBounds
  dsimp only
  with_reducible repeat' first
    | assumption | apply State.setAudio_inv | apply loopSet_inv | apply ite_inv | intro _

theorem execLoopSetPinPresent_inv (p : Packet) (s : State) (h2 : State.Inv s) : outInv (execLoopSetPinPresent p s) := by
  unfold execLoopSetPinPresent
  with_reducible repeat' first
    | assumption | apply loopSet_inv | apply id_inv

theorem execLoopSetPinValue_inv (p : Packet) (s : State) (h2 : State.Inv s) : outInv (execLoopSetPinValue p s) := by
  unfold execLoopSetPinValue
  with_reducible repeat' first
    | assumption | apply loopSet_inv | apply id_inv

theorem execLoopSetUnpin_inv (p : Packet) (s : State) (h2 : State.Inv s) : outInv (execLoopSetUnpin p s) := by
  unfold execLoopSetUnpin
  with_reducible repeat' first
    | assumption | apply loopSet_inv | apply id_inv

theorem execSqTailDoorbell_inv (port : Nat) (fn : Nat) (ring : Nat) (tail : Nat) (s : State) (h5 : State.Inv s) : outInv (execSqTailDoorbell port fn ring tail s) := by
  unfold execSqTailDoorbell
  dsimp only
  with_reducible repeat' first
    | assumption | apply State.badDoorbell_inv | apply State.edge_inv | apply State.updInst_inv | apply State.updSq_inv
    | apply onPort_inv | apply ite_inv | intro _ | split

theorem execSqResume_inv (port : Nat) (fn : Nat) (ring : Nat) (s : State) (h4 : State.Inv s) : outInv (execSqResume port fn ring s) := by
  unfold execSqResume
  dsimp only
  with_reducible repeat' first
    | assumption | apply State.fnCount_inv | apply State.updSq_inv | apply onPort_inv | apply ite_inv | intro _

theorem execRingSizeWrite_inv (port : Nat) (fn : Nat) (ring : Nat) (value : Nat) (s : State) (h5 : State.Inv s) : outInv (execRingSizeWrite port fn ring value s) := by
  unfold execRingSizeWrite
  dsimp only
  with_reducible repeat' first
    | assumption | apply State.drainHolding_inv | apply State.fnCount_inv | apply State.updFn_inv | apply State.updSq_inv
    | apply onPort_inv | apply ite_inv | intro _

theorem execRingHeadWrite_inv (port : Nat) (fn : Nat) (event : Bool) (value : Nat) (s : State) (h5 : State.Inv s) : outInv (execRingHeadWrite port fn event value s) := by
  unfold execRingHeadWrite
  dsimp only
  with_reducible repeat' first
    | assumption | apply State.drainHolding_inv | apply State.fnCount_inv | apply State.updFn_inv | apply onPort_inv
    | apply ite_inv | intro _

theorem execDevTimeLowRead_inv (port : Nat) (fn : Nat) (s : State) (h3 : State.Inv s) : outInv (execDevTimeLowRead port fn s) := by
  unfold execDevTimeLowRead
  dsimp only
  with_reducible repeat' first
    | assumption | apply State.setBus_inv | apply State.updFn_inv | apply onPort_inv | apply ite_inv | intro _

theorem execBar0BadAccess_inv (port : Nat) (fn : Nat) (write : Bool) (s : State) (h4 : State.Inv s) : outInv (execBar0BadAccess port fn write s) := by
  unfold execBar0BadAccess
  dsimp only
  with_reducible repeat' first
    | assumption | apply State.fnCount_inv | apply State.setBus_inv | apply onPort_inv | apply ite_inv | intro _

theorem execRegisterWrite_inv (port : Nat) (fn : Nat) (offset : Nat) (value : Nat) (s : State) (h5 : State.Inv s) : outInv (execRegisterWrite port fn offset value s) := by
  unfold execRegisterWrite
  dsimp only
  with_reducible repeat' first
    | assumption | apply State.flushPba_inv | apply State.fnCount_inv | apply State.updFn_inv | apply State.updSq_inv
    | apply onPort_inv | apply ite_inv | intro _

theorem execPacketAccept_inv (port : Nat) (fn : Nat) (ring : Nat) (bytes : List Byte) (s : State) (h5 : State.Inv s) : outInv (execPacketAccept port fn ring bytes s) := by
  unfold execPacketAccept
  dsimp only
  with_reducible repeat' first
    | assumption | apply State.answerBroken_inv | apply State.count_inv | apply State.takePacket_inv | apply State.updSq_inv
    | apply onPort_inv | apply ite_inv | intro _ | split

theorem execReplyWrite_inv (path : Path) (s : State) (h2 : State.Inv s) : outInv (execReplyWrite path s) := by
  unfold execReplyWrite
  dsimp only
  with_reducible repeat' first
    | assumption | apply State.dropReply_inv | apply State.setTp_inv | apply State.writeReply_inv | apply onPort_inv
    | apply out_next | split

theorem execMemMap_inv (p : Packet) (s : State) (h2 : State.Inv s) : outInv (execMemMap p s) := by
  unfold execMemMap
  dsimp only
  with_reducible repeat' first
    | assumption | apply State.updInst_inv | apply packet_inv | apply ans_done | apply checks_inv | intro _

theorem execMemUnmap_inv (p : Packet) (s : State) (h2 : State.Inv s) : outInv (execMemUnmap p s) := by
  unfold execMemUnmap
  dsimp only
  with_reducible repeat' first
    | assumption | apply State.settleAllDead_inv | apply State.updInst_inv | apply packet_inv | apply ans_owe
    | apply checks_inv | intro _

theorem execCopy_inv (p : Packet) (s : State) (h2 : State.Inv s) : outInv (execCopy p s) := by
  unfold execCopy
  dsimp only
  with_reducible repeat' first
    | assumption | apply State.bindWriter_inv | apply State.setCopy_inv | apply packet_inv | apply foldl_inv | apply ans_owe
    | apply checks_inv | apply ite_inv | intro _

theorem execCopyPacketStart_inv (n : Nat) (seq : Nat) (s : State) (h3 : State.Inv s) : outInv (execCopyPacketStart n seq s) := by
  unfold execCopyPacketStart
  dsimp only
  with_reducible repeat' first
    | assumption | apply State.setCopy_inv | apply out_next | apply oite_inv | intro _ | split

theorem execCopyDescriptorDone_inv (engine : Nat) (hostData : List Byte) (s : State) (h3 : State.Inv s) : outInv (execCopyDescriptorDone engine hostData s) := by
  unfold execCopyDescriptorDone
  dsimp only
  with_reducible repeat' first
    | assumption | apply State.asJob_inv | apply State.edge_inv | apply State.endJob_inv | apply State.runDesc_inv | apply State.runSeal_inv
    | apply State.setCopy_inv | apply State.unbindWriter_inv | apply onUnit_inv | apply ite_inv | intro _ | split

theorem execHostCompletionError_inv (engine : Nat) (moved : Nat) (s : State) (h3 : State.Inv s) : outInv (execHostCompletionError engine moved s) := by
  unfold execHostCompletionError
  with_reducible repeat' first
    | assumption | apply State.failHostRead_inv | apply onUnit_inv

theorem execHostCompletionTimeout_inv (engine : Nat) (moved : Nat) (s : State) (h3 : State.Inv s) : outInv (execHostCompletionTimeout engine moved s) := by
  unfold execHostCompletionTimeout
  with_reducible repeat' first
    | assumption | apply State.failHostRead_inv | apply onUnit_inv

theorem execMemConfigRegions_inv (p : Packet) (s : State) (h2 : State.Inv s) : outInv (execMemConfigRegions p s) := by
  unfold execMemConfigRegions
  dsimp only
  with_reducible repeat' first
    | assumption | apply State.intend_inv | apply State.setMemc_inv | apply memConfig_inv | apply ans_done | apply checks_inv
    | intro _

theorem execMemConfigNeighbourRefresh_inv (p : Packet) (s : State) (h2 : State.Inv s) : outInv (execMemConfigNeighbourRefresh p s) := by
  unfold execMemConfigNeighbourRefresh
  dsimp only
  with_reducible repeat' first
    | assumption | apply State.intend_inv | apply State.setMemc_inv | apply memConfig_inv | apply ans_done | apply checks_inv
    | intro _

theorem execMemConfigScheduler_inv (p : Packet) (s : State) (h2 : State.Inv s) : outInv (execMemConfigScheduler p s) := by
  unfold execMemConfigScheduler
  dsimp only
  with_reducible repeat' first
    | assumption | apply State.intend_inv | apply State.setMemc_inv | apply memConfig_inv | apply ans_done | apply checks_inv
    | intro _

theorem execMemConfigClassWays_inv (p : Packet) (s : State) (h2 : State.Inv s) : outInv (execMemConfigClassWays p s) := by
  unfold execMemConfigClassWays
  dsimp only
  with_reducible repeat' first
    | assumption | apply State.intend_inv | apply State.setMemc_inv | apply memConfig_inv | apply ans_done | apply checks_inv
    | intro _

theorem State.hostWrite_inv (s : State) (n a : Nat) (d : List Byte) (h1 : State.Inv s) : State.Inv (s.hostWrite n a d) := by
  unfold State.hostWrite
  with_reducible repeat' first
    | assumption | apply State.count_inv | apply foldl_inv | apply State.writeInst_inv | apply ite_inv | intro _

theorem execHostBar2Access_inv (port : Nat) (fn : Nat) (addr : Nat) (acc : Access) (s : State) (h5 : State.Inv s) : outInv (execHostBar2Access port fn addr acc s) := by
  unfold execHostBar2Access
  dsimp only
  with_reducible repeat' first
    | assumption | apply State.hostMiss_inv | apply State.setBus_inv | apply State.hostWrite_inv
    | apply onPort_inv | apply ite_inv | intro _ | split

theorem execHostBar4Access_inv (port : Nat) (fn : Nat) (addr : Nat) (acc : Access) (s : State) (h5 : State.Inv s) : outInv (execHostBar4Access port fn addr acc s) := by
  unfold execHostBar4Access
  dsimp only
  with_reducible repeat' first
    | assumption | apply State.hostMiss_inv | apply State.setBus_inv | apply State.writeSpad_inv | apply onPort_inv
    | apply ite_inv | intro _ | split

theorem execHostAtomicop_inv (port : Nat) (fn : Nat) (bar : Nat) (addr : Nat) (op : AtomicOp) (wide : Bool) (operand : Nat) (s : State) (h8 : State.Inv s) : outInv (execHostAtomicop port fn bar addr op wide operand s) := by
  unfold execHostAtomicop
  dsimp only
  with_reducible repeat' first
    | assumption | apply State.hostMiss_inv | apply State.setBus_inv | apply State.writeSpad_inv | apply onPort_inv
    | apply ite_inv | intro _ | split

theorem execNeighbourRefresh_inv (channel : Nat) (_bank : Nat) (row : Nat) (s : State) (h4 : State.Inv s) : outInv (execNeighbourRefresh channel _bank row s) := by
  unfold execNeighbourRefresh
  dsimp only
  with_reducible repeat' first
    | assumption | apply State.countBy_inv | apply onUnit_inv

theorem execNeighbourReseed_inv (s : State) (h1 : State.Inv s) : outInv (execNeighbourReseed s) := by
  unfold execNeighbourReseed
  dsimp only
  with_reducible repeat' first
    | assumption | apply State.setMemc_inv | apply State.tickFree_inv | apply out_next

theorem execRequestPromoted_inv (channel : Nat) (request : Nat) (s : State) (h3 : State.Inv s) : outInv (execRequestPromoted channel request s) := by
  unfold execRequestPromoted
  dsimp only
  with_reducible repeat' first
    | assumption | apply State.count_inv | apply State.setMemc_inv | apply onUnit_inv

theorem execDramRetrain_inv (channel : Nat) (converged : Bool) (s : State) (h3 : State.Inv s) : outInv (execDramRetrain channel converged s) := by
  unfold execDramRetrain
  with_reducible repeat' first
    | assumption | apply State.retrain_inv | apply onUnit_inv

theorem execDramEccError_inv (channel : Nat) (double : Bool) (region : Nat) (n : Nat) (iaddr : Nat) (s : State) (h6 : State.Inv s) : outInv (execDramEccError channel double region n iaddr s) := by
  unfold execDramEccError
  dsimp only
  with_reducible repeat' first
    | assumption | apply State.count_inv | apply State.raiseErr_inv | apply State.raise_inv | apply State.writeInst_inv
    | apply onUnit_inv | apply ite_inv | intro _

theorem execScrubPass_inv (s : State) (h1 : State.Inv s) : outInv (execScrubPass s) := by
  unfold execScrubPass
  dsimp only
  with_reducible repeat' first
    | assumption | apply State.setMemc_inv | apply out_next

theorem execSpadEccUncorr_inv (block : Nat) (_offset : Nat) (s : State) (h3 : State.Inv s) : outInv (execSpadEccUncorr block _offset s) := by
  unfold execSpadEccUncorr
  with_reducible repeat' first
    | assumption | apply State.raiseErr_inv | apply out_next | apply oite_inv | intro _ | split

theorem execRetireFence_inv (p : Packet) (s : State) (h2 : State.Inv s) : outInv (execRetireFence p s) := by
  unfold execRetireFence
  dsimp only
  with_reducible repeat' first
    | assumption | apply State.flushFences_inv | apply State.setSurf_inv | apply packet_inv | apply ans_fail | apply ans_done
    | apply checks_inv | intro _ | split

theorem execSurfaceCreate_inv (p : Packet) (s : State) (h2 : State.Inv s) : outInv (execSurfaceCreate p s) := by
  unfold execSurfaceCreate
  dsimp only
  with_reducible repeat' first
    | assumption | apply State.setSurf_inv | apply State.setSurface_inv | apply packet_inv | apply ans_done | apply checks_inv
    | intro _

theorem execSurfaceDestroy_inv (p : Packet) (s : State) (h2 : State.Inv s) : outInv (execSurfaceDestroy p s) := by
  unfold execSurfaceDestroy
  dsimp only
  with_reducible repeat' first
    | assumption | apply State.dropPending_inv | apply State.removeSurface_inv | apply State.updSurface_inv | apply packet_inv
    | apply foldl_inv | apply ans_fail | apply ans_done | apply checks_inv | intro _ | split

theorem execWriteBegin_inv (p : Packet) (s : State) (h2 : State.Inv s) : outInv (execWriteBegin p s) := by
  unfold execWriteBegin
  dsimp only
  with_reducible repeat' first
    | assumption | apply State.flushFences_inv | apply State.setSurface_inv | apply packet_inv | apply ans_fail
    | apply ans_done | apply checks_inv | intro _ | split

theorem execWriteEnd_inv (p : Packet) (s : State) (h2 : State.Inv s) : outInv (execWriteEnd p s) := by
  unfold execWriteEnd
  dsimp only
  with_reducible repeat' first
    | assumption | apply State.updSurface_inv | apply packet_inv | apply ans_fail | apply ans_owe | apply checks_inv | intro _
    | split

theorem execWriteWindowClosed_inv (n : Nat) (id : Nat) (s : State) (h3 : State.Inv s) : outInv (execWriteWindowClosed n id s) := by
  unfold execWriteWindowClosed
  dsimp only
  with_reducible repeat' first
    | assumption | apply State.finishOpt_inv | apply State.setSurface_inv | apply out_next | apply oite_inv | intro _ | split

theorem execSeal_inv (p : Packet) (s : State) (h2 : State.Inv s) : outInv (execSeal p s) := by
  unfold execSeal
  dsimp only
  with_reducible repeat' first
    | assumption | apply State.bindWriter_inv | apply State.setCopy_inv | apply packet_inv | apply ans_fail | apply ans_owe
    | apply checks_inv | intro _ | split

theorem execScanoutRelease_inv (n : Nat) (id : Nat) (s : State) (h3 : State.Inv s) : outInv (execScanoutRelease n id s) := by
  unfold execScanoutRelease
  dsimp only
  with_reducible repeat' first
    | assumption | apply State.flushFences_inv | apply State.raise_inv | apply State.removeSurface_inv
    | apply State.settleAllDead_inv | apply out_next | apply ite_inv | apply oite_inv | intro _ | split

theorem execLayerSet_inv (p : Packet) (s : State) (h2 : State.Inv s) : outInv (execLayerSet p s) := by
  unfold execLayerSet
  dsimp only
  with_reducible repeat' first
    | assumption | apply State.updSlot_inv | apply packet_inv | apply ans_done | apply checks_inv | intro _

theorem execLayerRelease_inv (p : Packet) (s : State) (h2 : State.Inv s) : outInv (execLayerRelease p s) := by
  unfold execLayerRelease
  dsimp only
  with_reducible repeat' first
    | assumption | apply State.updSlot_inv | apply packet_inv | apply ans_done | apply checks_inv | intro _

theorem execCommit_inv (p : Packet) (s : State) (h2 : State.Inv s) : outInv (execCommit p s) := by
  unfold execCommit
  dsimp only
  with_reducible repeat' first
    | assumption | apply State.intend_inv | apply State.replaceWaiting_inv | apply State.setBlend_inv
    | apply State.updSlot_inv | apply packet_inv | apply foldl_inv | apply ans_fail | apply ans_done | intro _ | split

theorem execMotionHint_inv (p : Packet) (s : State) (h2 : State.Inv s) : outInv (execMotionHint p s) := by
  unfold execMotionHint
  dsimp only
  with_reducible repeat' first
    | assumption | apply State.updSlot_inv | apply packet_inv | apply ans_done | apply checks_inv | intro _

theorem execCoefLoad_inv (p : Packet) (s : State) (h2 : State.Inv s) : outInv (execCoefLoad p s) := by
  unfold execCoefLoad
  dsimp only
  with_reducible repeat' first
    | assumption | apply State.intend_inv | apply State.updSlot_inv | apply packet_inv | apply ans_done | apply checks_inv
    | intro _

theorem execZfloorSet_inv (p : Packet) (s : State) (h2 : State.Inv s) : outInv (execZfloorSet p s) := by
  unfold execZfloorSet
  dsimp only
  with_reducible repeat' first
    | assumption | apply State.intend_inv | apply State.updPipe_inv | apply packet_inv | apply ans_done | apply checks_inv
    | intro _

theorem execRegionMonSet_inv (p : Packet) (s : State) (h2 : State.Inv s) : outInv (execRegionMonSet p s) := by
  unfold execRegionMonSet
  dsimp only
  with_reducible repeat' first
    | assumption | apply State.intend_inv | apply State.updMon_inv | apply packet_inv | apply ans_done | apply checks_inv
    | intro _

theorem execRegionMonFrame_inv (i : Nat) (s : State) (h2 : State.Inv s) : outInv (execRegionMonFrame i s) := by
  unfold execRegionMonFrame
  dsimp only
  with_reducible repeat' first
    | assumption | apply State.count_inv | apply State.edge_inv | apply State.monEvent_inv | apply State.monFirst_inv
    | apply State.monMatch_inv | apply State.monMismatch_inv | apply State.updMon_inv | apply onUnit_inv | apply ite_inv
    | intro _

theorem execRegionMonMissing_inv (i : Nat) (s : State) (h2 : State.Inv s) : outInv (execRegionMonMissing i s) := by
  unfold execRegionMonMissing
  with_reducible repeat' first
    | assumption | apply State.count_inv | apply State.monMismatch_inv | apply State.tickFree_inv | apply onUnit_inv
    | apply ite_inv | intro _

theorem execBandCompose_inv (faults : FetchFaults) (s : State) (h2 : State.Inv s) : outInv (execBandCompose faults s) := by
  unfold execBandCompose
  dsimp only
  with_reducible repeat' first
    | assumption | apply State.composeStrip_inv | apply State.flushFences_inv | apply State.sealFrame_inv
    | apply State.updPipe_inv | apply out_next | apply oite_inv | intro _ | split

theorem execBandWindowOpen_inv (pipe : Nat) (band : Nat) (s : State) (h3 : State.Inv s) : outInv (execBandWindowOpen pipe band s) := by
  unfold execBandWindowOpen
  dsimp only
  with_reducible repeat' first
    | assumption | apply State.updPipe_inv | apply onUnit_inv | apply ite_inv | intro _

theorem execScanoutUnderrun_inv (pipe : Nat) (line : Nat) (column : Nat) (s : State) (h4 : State.Inv s) : outInv (execScanoutUnderrun pipe line column s) := by
  unfold execScanoutUnderrun
  dsimp only
  with_reducible repeat' first
    | assumption | apply State.edge_inv | apply State.updPipe_inv | apply onUnit_inv | apply ite_inv | intro _

theorem execBandScanoutEnd_inv (pipe : Nat) (s : State) (h2 : State.Inv s) : outInv (execBandScanoutEnd pipe s) := by
  unfold execBandScanoutEnd
  dsimp only
  with_reducible repeat' first
    | assumption | apply State.count_inv | apply State.flushFences_inv | apply State.sealFrame_inv | apply State.sendLine_inv
    | apply State.tickFree_inv | apply State.updPipe_inv | apply onUnit_inv | apply foldl_inv | apply ite_inv | intro _
    | split

theorem execToneSet_inv (p : Packet) (s : State) (h2 : State.Inv s) : outInv (execToneSet p s) := by
  unfold execToneSet
  dsimp only
  with_reducible repeat' first
    | assumption | apply State.intend_inv | apply State.updStage_inv | apply packet_inv | apply ans_done | apply checks_inv
    | intro _

theorem execPanelLutSet_inv (p : Packet) (s : State) (h2 : State.Inv s) : outInv (execPanelLutSet p s) := by
  unfold execPanelLutSet
  dsimp only
  with_reducible repeat' first
    | assumption | apply State.intend_inv | apply State.tickFree_inv | apply State.updStage_inv | apply packet_inv
    | apply ans_owe | apply checks_inv | intro _

theorem execSunLoopStep_inv (k : Nat) (reading : Option Nat) (s : State) (h3 : State.Inv s) : outInv (execSunLoopStep k reading s) := by
  unfold execSunLoopStep
  dsimp only
  with_reducible repeat' first
    | assumption | apply State.clearFact_inv | apply State.putLoop_inv | apply State.setFact_inv | apply State.settle_inv
    | apply State.updStage_inv | apply onUnit_inv | apply ite_inv | intro _ | split

theorem execColourGuardStep_inv (k : Nat) (s : State) (h2 : State.Inv s) : outInv (execColourGuardStep k s) := by
  unfold execColourGuardStep
  dsimp only
  with_reducible repeat' first
    | assumption | apply State.stepLoop_inv | apply onUnit_inv | split

theorem execShaderLoad_inv (p : Packet) (s : State) (h2 : State.Inv s) : outInv (execShaderLoad p s) := by
  unfold execShaderLoad
  dsimp only
  with_reducible repeat' first
    | assumption | apply State.setGpu_inv | apply packet_inv | apply ans_fail | apply ans_done | apply checks_inv | intro _
    | split

theorem execPipelineCreate_inv (p : Packet) (s : State) (h2 : State.Inv s) : outInv (execPipelineCreate p s) := by
  unfold execPipelineCreate
  dsimp only
  with_reducible repeat' first
    | assumption | apply State.addPipeline_inv | apply State.setGpu_inv | apply packet_inv | apply ans_fail | apply ans_done
    | apply ans_owe | apply checks_inv | intro _ | split

theorem execShaderCompileDone_inv (n : Nat) (seq : Nat) (error : Nat) (stages : List (Nat × Nat)) (components : Nat) (s : State) (h6 : State.Inv s) : outInv (execShaderCompileDone n seq error stages components s) := by
  unfold execShaderCompileDone
  dsimp only
  with_reducible repeat' first
    | assumption | apply State.addPipeline_inv | apply State.cacheCode_inv | apply State.failCompile_inv
    | apply State.finish_inv | apply State.setGpu_inv | apply foldl_inv | apply out_next | apply oite_inv | intro _ | split

theorem execCompileAbandoned_inv (n : Nat) (seq : Nat) (s : State) (h3 : State.Inv s) : outInv (execCompileAbandoned n seq s) := by
  unfold execCompileAbandoned
  with_reducible repeat' first
    | assumption | apply State.failCompile_inv | apply out_next | split

theorem execPipelineDestroy_inv (p : Packet) (s : State) (h2 : State.Inv s) : outInv (execPipelineDestroy p s) := by
  unfold execPipelineDestroy
  dsimp only
  with_reducible repeat' first
    | assumption | apply State.setGpu_inv | apply State.sweepPipelines_inv | apply packet_inv | apply ans_done
    | apply checks_inv | apply ite_inv | intro _

theorem execQueueConfigDepth_inv (p : Packet) (s : State) (h2 : State.Inv s) : outInv (execQueueConfigDepth p s) := by
  unfold execQueueConfigDepth
  with_reducible repeat' first
    | assumption | apply State.updQueue_inv | apply queueConfig_inv | intro _

theorem execQueueConfigCache_inv (p : Packet) (s : State) (h2 : State.Inv s) : outInv (execQueueConfigCache p s) := by
  unfold execQueueConfigCache
  dsimp only
  with_reducible repeat' first
    | assumption | apply State.evict_inv | apply State.setGpu_inv | apply queueConfig_inv | intro _

theorem execQueueConfigEvict_inv (p : Packet) (s : State) (h2 : State.Inv s) : outInv (execQueueConfigEvict p s) := by
  unfold execQueueConfigEvict
  dsimp only
  with_reducible repeat' first
    | assumption | apply State.setGpu_inv | apply queueConfig_inv | intro _

theorem execQueueConfigLimits_inv (p : Packet) (s : State) (h2 : State.Inv s) : outInv (execQueueConfigLimits p s) := by
  unfold execQueueConfigLimits
  dsimp only
  with_reducible repeat' first
    | assumption | apply State.updQueue_inv | apply queueConfig_inv | intro _

theorem execSubmit_inv (p : Packet) (s : State) (h2 : State.Inv s) : outInv (execSubmit p s) := by
  unfold execSubmit
  dsimp only
  with_reducible repeat' first
    | assumption | apply State.enqueue_inv | apply State.updQueue_inv | apply packet_inv | apply ans_owe | apply checks_inv
    | intro _ | split

theorem execSubmitStart_inv (n : Nat) (q : Nat) (work : GpuWork) (s : State) (h4 : State.Inv s) : outInv (execSubmitStart n q work s) := by
  unfold execSubmitStart
  dsimp only
  with_reducible repeat' first
    | assumption | apply State.asJob_inv | apply State.charge_inv | apply State.cmdFault_inv | apply State.endItem_inv | apply State.startItem_inv
    | apply State.toItem_inv | apply State.updHead_inv | apply foldl_inv | apply out_next | apply ite_inv | apply oite_inv
    | intro _ | split

theorem execHopperFault_inv (n : Nat) (q : Nat) (prims : Nat) (s : State) (h4 : State.Inv s) : outInv (execHopperFault n q prims s) := by
  unfold execHopperFault
  dsimp only
  with_reducible repeat' first
    | assumption | apply State.freeClusters_inv | apply State.raise_inv | apply State.updHead_inv | apply out_next
    | apply oite_inv | intro _ | split

theorem execHopperGrantWaitExpiry_inv (n : Nat) (q : Nat) (s : State) (h3 : State.Inv s) : outInv (execHopperGrantWaitExpiry n q s) := by
  unfold execHopperGrantWaitExpiry
  with_reducible repeat' first
    | assumption | apply State.updHead_inv | apply out_next | apply oite_inv | intro _ | split

theorem execHopperGrant_inv (p : Packet) (s : State) (h2 : State.Inv s) : outInv (execHopperGrant p s) := by
  unfold execHopperGrant
  dsimp only
  with_reducible repeat' first
    | assumption | apply State.updHead_inv | apply packet_inv | apply ans_fail | apply ans_done | apply checks_inv | intro _
    | split

theorem execBinTileDone_inv (n : Nat) (q : Nat) (tile : Nat) (touched : Bool) (data : List (List Byte)) (s : State) (h6 : State.Inv s) : outInv (execBinTileDone n q tile touched data s) := by
  unfold execBinTileDone
  dsimp only
  with_reducible repeat' first
    | assumption | apply State.asJob_inv | apply State.charge_inv | apply State.processBin_inv | apply State.updHead_inv | apply out_next
    | apply oite_inv | intro _ | split

theorem execHopperFlushed_inv (n : Nat) (q : Nat) (s : State) (h3 : State.Inv s) : outInv (execHopperFlushed n q s) := by
  unfold execHopperFlushed
  dsimp only
  with_reducible repeat' first
    | assumption | apply State.asJob_inv | apply State.processBin_inv | apply State.raise_inv | apply State.sealBins_inv | apply State.updHead_inv
    | apply foldl_inv | apply out_next | apply oite_inv | intro _ | split

theorem execSubmitComplete_inv (n : Nat) (q : Nat) (work : GpuWork) (s : State) (h4 : State.Inv s) : outInv (execSubmitComplete n q work s) := by
  unfold execSubmitComplete
  dsimp only
  with_reducible repeat' first
    | assumption | apply State.asJob_inv | apply State.admitWaiting_inv | apply State.charge_inv | apply State.countMax_inv | apply State.count_inv
    | apply State.dropHead_inv | apply State.endItem_inv | apply State.finish_inv | apply State.setGpu_inv
    | apply State.toItem_inv | apply State.writeSpad_inv | apply out_next | apply ite_inv | apply oite_inv | intro _ | split

theorem execWorkgroupTimeLimit_inv (n : Nat) (q : Nat) (cluster : Nat) (s : State) (h4 : State.Inv s) : outInv (execWorkgroupTimeLimit n q cluster s) := by
  unfold execWorkgroupTimeLimit
  dsimp only
  with_reducible repeat' first
    | assumption | apply State.abortHead_inv | apply State.count_inv | apply State.gpuFault_inv | apply State.raiseErr_inv
    | apply onUnit_inv | apply ite_inv | intro _ | split

theorem execClusterOffline_inv (cluster : Nat) (token : Nat) (s : State) (h3 : State.Inv s) : outInv (execClusterOffline cluster token s) := by
  unfold execClusterOffline
  dsimp only
  with_reducible repeat' first
    | assumption | apply State.abortHead_inv | apply State.charge_inv | apply State.gpuFault_inv
    | apply State.moveReservation_inv | apply State.raiseErr_inv | apply State.setFact_inv | apply State.updCluster_inv
    | apply onUnit_inv | apply ite_inv | intro _ | split

theorem execLinkConfig_inv (p : Packet) (s : State) (h2 : State.Inv s) : outInv (execLinkConfig p s) := by
  unfold execLinkConfig
  dsimp only
  with_reducible repeat' first
    | assumption | apply State.intend_inv | apply State.linkState_inv | apply State.tickFree_inv | apply State.updLink_inv
    | apply packet_inv | apply ans_done | apply checks_inv | apply ite_inv | intro _

theorem execRouteSet_inv (p : Packet) (s : State) (h2 : State.Inv s) : outInv (execRouteSet p s) := by
  unfold execRouteSet
  dsimp only
  with_reducible repeat' first
    | assumption | apply State.finishOpt_inv | apply State.intend_inv | apply State.setDropped_inv
    | apply State.settleRoutes_inv | apply State.updLink_inv | apply packet_inv | apply ans_owe | apply checks_inv | intro _

theorem execDscAssign_inv (p : Packet) (s : State) (h2 : State.Inv s) : outInv (execDscAssign p s) := by
  unfold execDscAssign
  dsimp only
  with_reducible repeat' first
    | assumption | apply State.applyDsc_inv | apply State.intend_inv | apply State.setLinks_inv | apply packet_inv
    | apply ans_done | apply checks_inv | apply ite_inv | intro _

theorem execStreamSet_inv (p : Packet) (s : State) (h2 : State.Inv s) : outInv (execStreamSet p s) := by
  unfold execStreamSet
  dsimp only
  with_reducible repeat' first
    | assumption | apply State.intend_inv | apply State.updLink_inv | apply packet_inv | apply ans_done | apply checks_inv
    | intro _

theorem execHpdLow_inv (unit : Nat) (s : State) (h2 : State.Inv s) : outInv (execHpdLow unit s) := by
  unfold execHpdLow
  with_reducible repeat' first
    | assumption | apply State.linkDown_inv | apply State.updLink_inv | apply onUnit_inv | apply ite_inv | intro _

theorem execHpdIrq_inv (unit : Nat) (lockLost : Bool) (s : State) (h3 : State.Inv s) : outInv (execHpdIrq unit lockLost s) := by
  unfold execHpdIrq
  with_reducible repeat' first
    | assumption | apply State.updLink_inv | apply onUnit_inv | apply ite_inv | intro _

theorem execHpdRise_inv (unit : Nat) (edid : List Byte) (s : State) (h3 : State.Inv s) : outInv (execHpdRise unit edid s) := by
  unfold execHpdRise
  dsimp only
  with_reducible repeat' first
    | assumption | apply State.raise_inv | apply State.updLink_inv | apply onUnit_inv | apply ite_inv | intro _ | split

theorem execLinkTrainingDone_inv (unit : Nat) (ok : Bool) (lanes : Nat) (mbps : Nat) (s : State) (h5 : State.Inv s) : outInv (execLinkTrainingDone unit ok lanes mbps s) := by
  unfold execLinkTrainingDone
  dsimp only
  with_reducible repeat' first
    | assumption | apply State.clearFact_inv | apply State.linkState_inv | apply State.recheckLink_inv
    | apply State.setFact_inv | apply State.settle_inv | apply State.updLink_inv | apply onUnit_inv | apply ite_inv | intro _

theorem execTrainRetry_inv (unit : Nat) (s : State) (h2 : State.Inv s) : outInv (execTrainRetry unit s) := by
  unfold execTrainRetry
  with_reducible repeat' first
    | assumption | apply State.updLink_inv | apply onUnit_inv | apply ite_inv | intro _

theorem execPanelPowerConfigure_inv (p : Packet) (s : State) (h2 : State.Inv s) : outInv (execPanelPowerConfigure p s) := by
  unfold execPanelPowerConfigure
  dsimp only
  with_reducible repeat' first
    | assumption | apply State.intend_inv | apply State.updPanel_inv | apply packet_inv | apply ans_done | apply checks_inv
    | intro _

theorem execPanelPowerOn_inv (p : Packet) (s : State) (h2 : State.Inv s) : outInv (execPanelPowerOn p s) := by
  unfold execPanelPowerOn
  dsimp only
  with_reducible repeat' first
    | assumption | apply State.intend_inv | apply State.updPanel_inv | apply packet_inv | apply ans_owe | apply checks_inv
    | apply ite_inv | intro _

theorem execPanelPowerOff_inv (p : Packet) (s : State) (h2 : State.Inv s) : outInv (execPanelPowerOff p s) := by
  unfold execPanelPowerOff
  dsimp only
  with_reducible repeat' first
    | assumption | apply State.intend_inv | apply State.updPanel_inv | apply packet_inv | apply ans_owe | apply checks_inv
    | intro _

theorem execPanelSequenceStep_inv (unit : Nat) (s : State) (h2 : State.Inv s) : outInv (execPanelSequenceStep unit s) := by
  unfold execPanelSequenceStep
  dsimp only
  with_reducible repeat' first
    | assumption | apply State.panelDone_inv | apply State.updPanel_inv | apply onUnit_inv | apply ite_inv | intro _ | split

theorem execBacklightSet_inv (p : Packet) (s : State) (h2 : State.Inv s) : outInv (execBacklightSet p s) := by
  unfold execBacklightSet
  dsimp only
  with_reducible repeat' first
    | assumption | apply State.intend_inv | apply State.updPanel_inv | apply packet_inv | apply ans_done | apply checks_inv
    | intro _

theorem execStreamOpen_inv (p : Packet) (s : State) (h2 : State.Inv s) : outInv (execStreamOpen p s) := by
  unfold execStreamOpen
  dsimp only
  with_reducible repeat' first
    | assumption | apply State.updStream_inv | apply packet_inv | apply ans_done | apply checks_inv | intro _

theorem execStreamBuffers_inv (p : Packet) (s : State) (h2 : State.Inv s) : outInv (execStreamBuffers p s) := by
  unfold execStreamBuffers
  dsimp only
  with_reducible repeat' first
    | assumption | apply State.updStream_inv | apply packet_inv | apply ans_done | apply checks_inv | intro _

theorem execStreamStart_inv (k : Nat) (s : State) (h2 : State.Inv s) : outInv (execStreamStart k s) := by
  unfold execStreamStart
  with_reducible repeat' first
    | assumption | apply State.updStream_inv | apply onUnit_inv | apply ite_inv | intro _

theorem execBufferDone_inv (k : Nat) (s : State) (h2 : State.Inv s) : outInv (execBufferDone k s) := by
  unfold execBufferDone
  dsimp only
  with_reducible repeat' first
    | assumption | apply State.bufferEvent_inv | apply State.countBy_inv | apply State.tickFree_inv
    | apply State.updStream_inv | apply State.writeHost_inv | apply onUnit_inv | apply ite_inv | intro _ | split

theorem execStreamXrun_inv (k : Nat) (frames : Nat) (s : State) (h3 : State.Inv s) : outInv (execStreamXrun k frames s) := by
  unfold execStreamXrun
  dsimp only
  with_reducible repeat' first
    | assumption | apply State.count_inv | apply State.raise_inv | apply State.updStream_inv | apply onUnit_inv
    | apply ite_inv | intro _

theorem execStreamClose_inv (p : Packet) (s : State) (h2 : State.Inv s) : outInv (execStreamClose p s) := by
  unfold execStreamClose
  dsimp only
  with_reducible repeat' first
    | assumption | apply State.closeStream_inv | apply packet_inv | apply ans_done | apply checks_inv | intro _

theorem execMixRouteInput_inv (p : Packet) (s : State) (h2 : State.Inv s) : outInv (execMixRouteInput p s) := by
  unfold execMixRouteInput
  dsimp only
  with_reducible repeat' first
    | assumption | apply State.armEdge_inv | apply State.intend_inv | apply State.setAudio_inv | apply packet_inv
    | apply ans_done | apply checks_inv | intro _

theorem execMixRouteDest_inv (p : Packet) (s : State) (h2 : State.Inv s) : outInv (execMixRouteDest p s) := by
  unfold execMixRouteDest
  dsimp only
  with_reducible repeat' first
    | assumption | apply State.armEdge_inv | apply State.intend_inv | apply State.setAudio_inv | apply packet_inv
    | apply ans_done | apply checks_inv | intro _

theorem execTdmConfigPort_inv (p : Packet) (s : State) (h2 : State.Inv s) : outInv (execTdmConfigPort p s) := by
  unfold execTdmConfigPort
  with_reducible repeat' first
    | assumption | apply tdmConfig_inv

theorem execTdmConfigMixer_inv (p : Packet) (s : State) (h2 : State.Inv s) : outInv (execTdmConfigMixer p s) := by
  unfold execTdmConfigMixer
  with_reducible repeat' first
    | assumption | apply tdmConfig_inv

theorem execTdmConfigPdm_inv (p : Packet) (s : State) (h2 : State.Inv s) : outInv (execTdmConfigPdm p s) := by
  unfold execTdmConfigPdm
  with_reducible repeat' first
    | assumption | apply tdmConfig_inv

theorem execGainSet_inv (p : Packet) (s : State) (h2 : State.Inv s) : outInv (execGainSet p s) := by
  unfold execGainSet
  dsimp only
  with_reducible repeat' first
    | assumption | apply State.rampTo_inv | apply State.waitZc_inv | apply packet_inv | apply foldl_inv | apply ans_done
    | apply checks_inv | apply ite_inv | intro _

theorem execZeroCrossing_inv (kind : Nat) (a : Nat) (b : Nat) (s : State) (h4 : State.Inv s) : outInv (execZeroCrossing kind a b s) := by
  unfold execZeroCrossing
  with_reducible repeat' first
    | assumption | apply State.rampTo_inv | apply onUnit_inv | split

theorem execZcTimeout_inv (kind : Nat) (a : Nat) (b : Nat) (s : State) (h4 : State.Inv s) : outInv (execZcTimeout kind a b s) := by
  unfold execZcTimeout
  with_reducible repeat' first
    | assumption | apply State.rampTo_inv | apply onUnit_inv | split

theorem execAudxLost_inv (rateMhz : Nat) (s : State) (h2 : State.Inv s) : outInv (execAudxLost rateMhz s) := by
  unfold execAudxLost
  dsimp only
  with_reducible repeat' first
    | assumption | apply State.audioClock_inv | apply State.setAudio_inv | apply State.setFact_inv | apply onUnit_inv
    | apply ite_inv | intro _

theorem execAudxRestored_inv (rateMhz : Nat) (s : State) (h2 : State.Inv s) : outInv (execAudxRestored rateMhz s) := by
  unfold execAudxRestored
  dsimp only
  with_reducible repeat' first
    | assumption | apply State.audioClock_inv | apply State.clearFact_inv | apply State.setAudio_inv | apply State.settle_inv
    | apply onUnit_inv | apply ite_inv | intro _

theorem execAudioClip_inv (output : Nat) (samples : List Int) (s : State) (h3 : State.Inv s) : outInv (execAudioClip output samples s) := by
  unfold execAudioClip
  dsimp only
  with_reducible repeat' first
    | assumption | apply State.countBy_inv | apply State.raise_inv | apply State.setAudio_inv | apply onUnit_inv
    | apply ite_inv | intro _

theorem execLimiterStep_inv (output : Nat) (peak : Int) (us : Nat) (s : State) (h4 : State.Inv s) : outInv (execLimiterStep output peak us s) := by
  unfold execLimiterStep
  dsimp only
  with_reducible repeat' first
    | assumption | apply State.countBy_inv | apply State.countMax_inv | apply State.stepLoop_inv | apply onUnit_inv
    | apply ite_inv | intro _

theorem execAlarmSourceSet_inv (p : Packet) (s : State) (h2 : State.Inv s) : outInv (execAlarmSourceSet p s) := by
  unfold execAlarmSourceSet
  dsimp only
  with_reducible repeat' first
    | assumption | apply State.armEdge_inv | apply State.intend_inv | apply State.setAudio_inv | apply packet_inv
    | apply ans_done | apply checks_inv | intro _

theorem execAlarmFloorStep_inv (s : State) (h1 : State.Inv s) : outInv (execAlarmFloorStep s) := by
  unfold execAlarmFloorStep
  dsimp only
  with_reducible repeat' first
    | assumption | apply State.stepLoop_inv | apply onUnit_inv | split

theorem execLowlatSet_inv (p : Packet) (s : State) (h2 : State.Inv s) : outInv (execLowlatSet p s) := by
  unfold execLowlatSet
  dsimp only
  with_reducible repeat' first
    | assumption | apply State.intend_inv | apply State.setAudio_inv | apply packet_inv | apply ans_done | apply checks_inv
    | intro _

theorem execMailboxFullSet_inv (toCupper : Bool) (slot : Nat) (data : List Byte) (s : State) (h4 : State.Inv s) : outInv (execMailboxFullSet toCupper slot data s) := by
  unfold execMailboxFullSet
  dsimp only
  with_reducible repeat' first
    | assumption | apply State.edge_inv | apply State.setSec_inv | apply out_next | apply oite_inv | intro _

theorem execGatewayCall_inv (core : Nat) (slot : Nat) (entry : Nat) (inst : Nat) (data : List Byte) (cause : Option Packet) (opcode : Nat) (s : State) (h8 : State.Inv s) : outInv (execGatewayCall core slot entry inst data cause opcode s) := by
  unfold execGatewayCall
  dsimp only
  with_reducible repeat' first
    | assumption | apply State.edge_inv | apply State.finishOpt_inv | apply State.refuseCall_inv | apply State.setSec_inv
    | apply out_next | apply oite_inv | intro _

theorem execGatewayReturn_inv (slot : Nat) (data : List Byte) (s : State) (h3 : State.Inv s) : outInv (execGatewayReturn slot data s) := by
  unfold execGatewayReturn
  dsimp only
  with_reducible repeat' first
    | assumption | apply State.edge_inv | apply State.setSec_inv | apply out_next | apply oite_inv | intro _

theorem execGatewayTimeout_inv (slot : Nat) (s : State) (h2 : State.Inv s) : outInv (execGatewayTimeout slot s) := by
  unfold execGatewayTimeout
  dsimp only
  with_reducible repeat' first
    | assumption | apply State.finishOpt_inv | apply State.setSec_inv | apply out_next | apply oite_inv | intro _

theorem execStatus_inv (p : Packet) (s : State) (h2 : State.Inv s) : outInv (execStatus p s) := by
  unfold execStatus
  dsimp only
  with_reducible repeat' first
    | assumption | apply secService_inv | apply ans_done | intro _

theorem execRandom_inv (p : Packet) (s : State) (h2 : State.Inv s) : outInv (execRandom p s) := by
  unfold execRandom
  dsimp only
  with_reducible repeat' first
    | assumption | apply State.tickFree_inv | apply secService_inv | apply ans_done | intro _

theorem execAttest_inv (p : Packet) (s : State) (h2 : State.Inv s) : outInv (execAttest p s) := by
  unfold execAttest
  dsimp only
  with_reducible repeat' first
    | assumption | apply secService_inv | apply ans_done | intro _

theorem execFallbackSet_inv (p : Packet) (s : State) (h2 : State.Inv s) : outInv (execFallbackSet p s) := by
  unfold execFallbackSet
  dsimp only
  with_reducible repeat' first
    | assumption | apply State.setSec_inv | apply secService_inv | apply ans_done | intro _ | split

theorem execLayerEscalate_inv (p : Packet) (s : State) (h2 : State.Inv s) : outInv (execLayerEscalate p s) := by
  unfold execLayerEscalate
  dsimp only
  with_reducible repeat' first
    | assumption | apply State.setSec_inv | apply secService_inv | apply ans_done | intro _

theorem execPipeEscalate_inv (p : Packet) (s : State) (h2 : State.Inv s) : outInv (execPipeEscalate p s) := by
  unfold execPipeEscalate
  dsimp only
  with_reducible repeat' first
    | assumption | apply State.setSec_inv | apply secService_inv | apply ans_done | intro _

theorem execTonePattern_inv (p : Packet) (s : State) (h2 : State.Inv s) : outInv (execTonePattern p s) := by
  unfold execTonePattern
  dsimp only
  with_reducible repeat' first
    | assumption | apply State.setSec_inv | apply secService_inv | apply ans_done | intro _

theorem execAlarmTest_inv (p : Packet) (s : State) (h2 : State.Inv s) : outInv (execAlarmTest p s) := by
  unfold execAlarmTest
  dsimp only
  with_reducible repeat' first
    | assumption | apply State.assertCause_inv | apply secService_inv | apply ans_done | intro _

theorem execAlarmTestEnd_inv (s : State) (h1 : State.Inv s) : outInv (execAlarmTestEnd s) := by
  unfold execAlarmTestEnd
  with_reducible repeat' first
    | assumption | apply State.releaseCause_inv | apply out_next

theorem execMigrationKeyInstall_inv (p : Packet) (s : State) (h2 : State.Inv s) : outInv (execMigrationKeyInstall p s) := by
  unfold execMigrationKeyInstall
  dsimp only
  with_reducible repeat' first
    | assumption | apply State.setSec_inv | apply migrationKey_inv | apply ans_fail | apply ans_done | intro _ | split

theorem execMigrationKeyErase_inv (p : Packet) (s : State) (h2 : State.Inv s) : outInv (execMigrationKeyErase p s) := by
  unfold execMigrationKeyErase
  dsimp only
  with_reducible repeat' first
    | assumption | apply State.setSec_inv | apply migrationKey_inv | apply ans_done | intro _

theorem execDebugChallenge_inv (p : Packet) (s : State) (h2 : State.Inv s) : outInv (execDebugChallenge p s) := by
  unfold execDebugChallenge
  dsimp only
  with_reducible repeat' first
    | assumption | apply State.setSec_inv | apply State.tickFree_inv | apply packet_inv | apply ans_done | apply checks_inv
    | intro _

theorem execDebugResponse_inv (p : Packet) (s : State) (h2 : State.Inv s) : outInv (execDebugResponse p s) := by
  unfold execDebugResponse
  dsimp only
  with_reducible repeat' first
    | assumption | apply State.debugUnlock_inv | apply State.setSec_inv | apply packet_inv | apply ans_fail | apply ans_done
    | apply checks_inv | intro _ | split

theorem execJtagAccess_inv (op : JtagOp) (s : State) (h2 : State.Inv s) : outInv (execJtagAccess op s) := by
  unfold execJtagAccess
  dsimp only
  with_reducible repeat' first
    | assumption | apply State.setBus_inv | apply State.setDram_inv | apply State.setSec_inv | apply State.tickFree_inv
    | apply out_next | apply oite_inv | intro _ | apply Mem.write_wf | apply dramOk | split

theorem execSecViolation_inv (initiator : Nat) (inst : Nat) (write : Bool) (len : Nat) (s : State) (h5 : State.Inv s) : outInv (execSecViolation initiator inst write len s) := by
  unfold execSecViolation
  dsimp only
  with_reducible repeat' first
    | assumption | apply State.raiseErr_inv | apply State.setBus_inv | apply State.setSec_inv | apply out_next | apply ite_inv
    | intro _

theorem execTonePlay_inv (p : Packet) (s : State) (h2 : State.Inv s) : outInv (execTonePlay p s) := by
  unfold execTonePlay
  dsimp only
  with_reducible repeat' first
    | assumption | apply State.armEdge_inv | apply State.intend_inv | apply State.setAudio_inv | apply State.wdogSteps_inv
    | apply packet_inv | apply ans_fail | apply ans_done | apply checks_inv | intro _ | split

theorem execToneStop_inv (p : Packet) (s : State) (h2 : State.Inv s) : outInv (execToneStop p s) := by
  unfold execToneStop
  dsimp only
  with_reducible repeat' first
    | assumption | apply State.armEdge_inv | apply State.intend_inv | apply State.setAudio_inv | apply packet_inv
    | apply ans_done | apply checks_inv | intro _

theorem execToneEnd_inv (voice : Nat) (s : State) (h2 : State.Inv s) : outInv (execToneEnd voice s) := by
  unfold execToneEnd
  dsimp only
  with_reducible repeat' first
    | assumption | apply State.armEdge_inv | apply State.setAudio_inv | apply out_next | apply oite_inv | intro _ | split

theorem execSecureWdogKick_inv (s : State) (h1 : State.Inv s) : outInv (execSecureWdogKick s) := by
  unfold execSecureWdogKick
  dsimp only
  with_reducible repeat' first
    | assumption | apply State.setSec_inv | apply out_next | apply oite_inv | intro _

theorem execSecureWdog_inv (s : State) (h1 : State.Inv s) : outInv (execSecureWdog s) := by
  unfold execSecureWdog
  with_reducible repeat' first
    | assumption | apply State.secureLost_inv | apply out_next | apply oite_inv | intro _

theorem execCupperSramUncorr_inv (s : State) (h1 : State.Inv s) : outInv (execCupperSramUncorr s) := by
  unfold execCupperSramUncorr
  with_reducible repeat' first
    | assumption | apply State.secureLost_inv | apply out_next | apply oite_inv | intro _

theorem execCupperRestart_inv (s : State) (h1 : State.Inv s) : outInv (execCupperRestart s) := by
  unfold execCupperRestart
  dsimp only
  with_reducible repeat' first
    | assumption | apply State.restartCupper_inv | apply State.setSec_inv | apply out_next | apply oite_inv | intro _ | split

theorem execPipeTiming_inv (p : Packet) (s : State) (h2 : State.Inv s) : outInv (execPipeTiming p s) := by
  unfold execPipeTiming
  dsimp only
  with_reducible repeat' first
    | assumption | apply State.intend_inv | apply State.timingForce_inv | apply State.updPipe_inv | apply packet_inv
    | apply ans_done | apply ans_owe | apply checks_inv | intro _ | split

theorem execPipeTimingLeadOnly_inv (p : Packet) (s : State) (h2 : State.Inv s) : outInv (execPipeTimingLeadOnly p s) := by
  unfold execPipeTimingLeadOnly
  dsimp only
  with_reducible repeat' first
    | assumption | apply State.intend_inv | apply State.timingForce_inv | apply State.updPipe_inv | apply packet_inv
    | apply ans_done | apply ans_owe | apply checks_inv | intro _ | split

theorem execPipeEnable_inv (p : Packet) (s : State) (h2 : State.Inv s) : outInv (execPipeEnable p s) := by
  unfold execPipeEnable
  dsimp only
  with_reducible repeat' first
    | assumption | apply State.finishOpt_inv | apply State.intend_inv | apply State.noteGen_inv | apply State.stopPipe_inv
    | apply State.updPipe_inv
    | apply packet_inv | apply ans_done | apply ans_owe | apply checks_inv | intro _ | split

theorem execPixelPllLocked_inv (pipe : Nat) (s : State) (h2 : State.Inv s) : outInv (execPixelPllLocked pipe s) := by
  unfold execPixelPllLocked
  dsimp only
  with_reducible repeat' first
    | assumption | apply State.count_inv | apply State.retimeDeadlines_inv | apply State.updPipe_inv | apply onUnit_inv
    | apply ite_inv | intro _

theorem execLatchLine_inv (pipe : Nat) (s : State) (h2 : State.Inv s) : outInv (execLatchLine pipe s) := by
  unfold execLatchLine
  dsimp only
  with_reducible repeat' first
    | assumption | apply State.armEdge_inv | apply State.edge_inv | apply State.flushFences_inv | apply State.latchColour_inv
    | apply State.latchFallback_inv | apply State.latchLayers_inv | apply State.linksLatch_inv | apply State.missDeadlines_inv
    | apply State.settle_inv | apply State.updPipe_inv | apply onUnit_inv | apply foldl_inv | apply ite_inv | intro _

theorem execFrameStart_inv (pipe : Nat) (s : State) (h2 : State.Inv s) : outInv (execFrameStart pipe s) := by
  unfold execFrameStart
  dsimp only
  with_reducible repeat' first
    | assumption | apply State.beginFrame_inv | apply State.flushFences_inv | apply State.linksFrameDone_inv
    | apply State.steepReply_inv | apply State.stopPipe_inv | apply State.timingForce_inv | apply State.updPipe_inv
    | apply onUnit_inv | apply ite_inv | intro _ | split

theorem execLineMatchSet_inv (p : Packet) (s : State) (h2 : State.Inv s) : outInv (execLineMatchSet p s) := by
  unfold execLineMatchSet
  dsimp only
  with_reducible repeat' first
    | assumption | apply State.setPipes_inv | apply packet_inv | apply ans_done | apply checks_inv | intro _

theorem execLineMatch_inv (pipe : Nat) (line : Nat) (s : State) (h3 : State.Inv s) : outInv (execLineMatch pipe line s) := by
  unfold execLineMatch
  dsimp only
  with_reducible repeat' first
    | assumption | apply State.edge_inv | apply State.raiseAll_inv | apply onUnit_inv | apply ite_inv | intro _

theorem execVblankStart_inv (pipe : Nat) (period : Nat) (s : State) (h3 : State.Inv s) : outInv (execVblankStart pipe period s) := by
  unfold execVblankStart
  dsimp only
  with_reducible repeat' first
    | assumption | apply State.edge_inv | apply State.raiseAll_inv | apply onUnit_inv | apply ite_inv | intro _

theorem execFrameDone_inv (pipe : Nat) (s : State) (h2 : State.Inv s) : outInv (execFrameDone pipe s) := by
  unfold execFrameDone
  dsimp only
  with_reducible repeat' first
    | assumption | apply State.countBy_inv | apply State.count_inv | apply State.edge_inv | apply State.raiseAll_inv
    | apply State.safetyFrameDone_inv | apply State.updPipe_inv | apply onUnit_inv | apply ite_inv | intro _

theorem execQuietWindow_inv (pipe : Nat) (opens : Bool) (s : State) (h3 : State.Inv s) : outInv (execQuietWindow pipe opens s) := by
  unfold execQuietWindow
  dsimp only
  with_reducible repeat' first
    | assumption | apply State.setTouch_inv | apply onUnit_inv | apply ite_inv | intro _

theorem execPixHeld_inv (pipe : Nat) (s : State) (h2 : State.Inv s) : outInv (execPixHeld pipe s) := by
  unfold execPixHeld
  with_reducible repeat' first
    | assumption | apply State.pixLost_inv | apply onUnit_inv

theorem execPixRelockAttempt_inv (pipe : Nat) (locked : Bool) (s : State) (h3 : State.Inv s) : outInv (execPixRelockAttempt pipe locked s) := by
  unfold execPixRelockAttempt
  with_reducible repeat' first
    | assumption | apply State.pixAttempt_inv | apply onUnit_inv

theorem execPixOfflineRetry_inv (pipe : Nat) (locked : Bool) (s : State) (h3 : State.Inv s) : outInv (execPixOfflineRetry pipe locked s) := by
  unfold execPixOfflineRetry
  with_reducible repeat' first
    | assumption | apply State.pixRetry_inv | apply onUnit_inv

theorem execPixUnlockAtStop_inv (pipe : Nat) (s : State) (h2 : State.Inv s) : outInv (execPixUnlockAtStop pipe s) := by
  unfold execPixUnlockAtStop
  dsimp only
  with_reducible repeat' first
    | assumption | apply State.count_inv | apply State.edge_inv | apply State.stopPipe_inv | apply onUnit_inv | apply ite_inv
    | intro _

theorem execUrgencyEvaluation_inv (s : State) (h1 : State.Inv s) : outInv (execUrgencyEvaluation s) := by
  unfold execUrgencyEvaluation
  with_reducible repeat' first
    | assumption | apply State.charge_inv | apply State.evalUrgency_inv | apply out_next

theorem execSchedulingDecision_inv (s : State) (h1 : State.Inv s) : outInv (execSchedulingDecision s) := by
  unfold execSchedulingDecision
  dsimp only
  with_reducible repeat' first
    | assumption | apply State.assign_inv | apply State.charge_inv | apply State.evalUrgency_inv | apply State.request_inv
    | apply foldl_inv | apply out_next | apply ite_inv | intro _

theorem execPreemptRequest_inv (cluster : Nat) (s : State) (h2 : State.Inv s) : outInv (execPreemptRequest cluster s) := by
  unfold execPreemptRequest
  with_reducible repeat' first
    | assumption | apply State.charge_inv | apply State.request_inv | apply onUnit_inv

theorem execClusterFree_inv (cluster : Nat) (s : State) (h2 : State.Inv s) : outInv (execClusterFree cluster s) := by
  unfold execClusterFree
  dsimp only
  with_reducible repeat' first
    | assumption | apply State.charge_inv | apply State.countMax_inv | apply State.count_inv | apply State.raiseAll_inv
    | apply State.updCluster_inv | apply State.updHead_inv | apply onUnit_inv | apply ite_inv | intro _ | split

theorem execTouchPanelConfig_inv (p : Packet) (s : State) (h2 : State.Inv s) : outInv (execTouchPanelConfig p s) := by
  unfold execTouchPanelConfig
  dsimp only
  with_reducible repeat' first
    | assumption | apply State.cancelContacts_inv | apply State.intend_inv | apply State.updInst_inv | apply State.updTp_inv
    | apply packet_inv | apply foldl_inv | apply ans_done | apply checks_inv | apply ite_inv | intro _

theorem execTouchMode_inv (p : Packet) (s : State) (h2 : State.Inv s) : outInv (execTouchMode p s) := by
  unfold execTouchMode
  dsimp only
  with_reducible repeat' first
    | assumption | apply State.intend_inv | apply State.updTp_inv | apply packet_inv | apply ans_done | apply checks_inv
    | intro _

theorem execTouchReportSetup_inv (p : Packet) (s : State) (h2 : State.Inv s) : outInv (execTouchReportSetup p s) := by
  unfold execTouchReportSetup
  dsimp only
  with_reducible repeat' first
    | assumption | apply State.setArea_inv | apply packet_inv | apply ans_done | apply checks_inv | intro _

theorem execTouchReportReturn_inv (p : Packet) (s : State) (h2 : State.Inv s) : outInv (execTouchReportReturn p s) := by
  unfold execTouchReportReturn
  dsimp only
  with_reducible repeat' first
    | assumption | apply State.setArea_inv | apply State.writeReport_inv | apply packet_inv | apply ans_done
    | apply checks_inv | intro _ | split

theorem execTouchSelftest_inv (p : Packet) (s : State) (h2 : State.Inv s) : outInv (execTouchSelftest p s) := by
  unfold execTouchSelftest
  dsimp only
  with_reducible repeat' first
    | assumption | apply State.cancelContacts_inv | apply State.contactsReset_inv | apply State.setFaulty_inv
    | apply State.tickFree_inv | apply packet_inv | apply ans_done | apply checks_inv | intro _

theorem execWakeZoneSet_inv (p : Packet) (s : State) (h2 : State.Inv s) : outInv (execWakeZoneSet p s) := by
  unfold execWakeZoneSet
  dsimp only
  with_reducible repeat' first
    | assumption | apply State.intend_inv | apply State.updTp_inv | apply packet_inv | apply ans_done | apply checks_inv
    | intro _

theorem execTouchPanelStart_inv (panel : Nat) (temp : Int) (raw : List Nat) (self : List Nat) (codes : List (Nat × Nat)) (s : State) (h6 : State.Inv s) : outInv (execTouchPanelStart panel temp raw self codes s) := by
  unfold execTouchPanelStart
  dsimp only
  with_reducible repeat' first
    | assumption | apply State.contactsReset_inv | apply State.setFaulty_inv | apply State.settle_inv
    | apply State.tickFree_inv | apply State.updTp_inv | apply onUnit_inv | apply ite_inv | intro _

theorem execTouchAbsorbed_inv (panel : Nat) (s : State) (h2 : State.Inv s) : outInv (execTouchAbsorbed panel s) := by
  unfold execTouchAbsorbed
  dsimp only
  with_reducible repeat' first
    | assumption | apply State.raise_inv | apply State.updTp_inv | apply onUnit_inv | split

theorem execTouchBurst_inv (panel : Nat) (edge : Nat) (s : State) (h3 : State.Inv s) : outInv (execTouchBurst panel edge s) := by
  unfold execTouchBurst
  dsimp only
  with_reducible repeat' first
    | assumption | apply State.count_inv | apply State.updTp_inv | apply onUnit_inv | apply ite_inv | intro _

theorem execTouchFrame_inv (panel : Nat) (raw : List Nat) (self : List Nat) (s : State) (h4 : State.Inv s) : outInv (execTouchFrame panel raw self s) := by
  unfold execTouchFrame
  dsimp only
  with_reducible repeat' first
    | assumption | apply State.countBy_inv | apply State.count_inv | apply State.deliverRecs_inv | apply State.setHaptics_inv
    | apply State.settle_inv | apply State.stepLoop_inv | apply State.tickFree_inv | apply State.updTp_inv | apply onUnit_inv
    | apply ite_inv | intro _

theorem execTouchLong_inv (panel : Nat) (id : Nat) (s : State) (h3 : State.Inv s) : outInv (execTouchLong panel id s) := by
  unfold execTouchLong
  dsimp only
  with_reducible repeat' first
    | assumption | apply State.raiseAll_inv | apply State.updTp_inv | apply onUnit_inv | apply ite_inv | intro _ | split

theorem execGloveModeExit_inv (panel : Nat) (s : State) (h2 : State.Inv s) : outInv (execGloveModeExit panel s) := by
  unfold execGloveModeExit
  dsimp only
  with_reducible repeat' first
    | assumption | apply State.updTp_inv | apply onUnit_inv | apply ite_inv | intro _

theorem execWetExit_inv (panel : Nat) (s : State) (h2 : State.Inv s) : outInv (execWetExit panel s) := by
  unfold execWetExit
  with_reducible repeat' first
    | assumption | apply State.updTp_inv | apply onUnit_inv

theorem execBoostReady_inv (s : State) (h1 : State.Inv s) : outInv (execBoostReady s) := by
  unfold execBoostReady
  dsimp only
  with_reducible repeat' first
    | assumption | apply State.setHaptics_inv | apply onUnit_inv | apply ite_inv | intro _

theorem execBoostOff_inv (s : State) (h1 : State.Inv s) : outInv (execBoostOff s) := by
  unfold execBoostOff
  dsimp only
  with_reducible repeat' first
    | assumption | apply State.setHaptics_inv | apply onUnit_inv | apply ite_inv | intro _

theorem execHvFault_inv (cause : Nat) (vhv : Nat) (current : Nat) (s : State) (h4 : State.Inv s) : outInv (execHvFault cause vhv current s) := by
  unfold execHvFault
  dsimp only
  with_reducible repeat' first
    | assumption | apply State.dropAllDrives_inv | apply State.raiseErr_inv | apply State.raise_inv | apply State.setFact_inv
    | apply onUnit_inv

theorem execHvRetry_inv (ok : Bool) (vhv : Nat) (current : Nat) (s : State) (h4 : State.Inv s) : outInv (execHvRetry ok vhv current s) := by
  unfold execHvRetry
  with_reducible repeat' first
    | assumption | apply State.boost_inv | apply State.clearFact_inv | apply State.raise_inv | apply State.settle_inv
    | apply onUnit_inv | apply ite_inv | intro _

theorem execActuatorCheck_inv (p : Packet) (s : State) (h2 : State.Inv s) : outInv (execActuatorCheck p s) := by
  unfold execActuatorCheck
  dsimp only
  with_reducible repeat' first
    | assumption | apply State.runCheck_inv | apply packet_inv | apply ans_done | apply checks_inv | intro _

theorem execActuatorCharacterise_inv (p : Packet) (s : State) (h2 : State.Inv s) : outInv (execActuatorCharacterise p s) := by
  unfold execActuatorCharacterise
  dsimp only
  with_reducible repeat' first
    | assumption | apply State.runCheck_inv | apply packet_inv | apply ans_done | apply checks_inv | intro _

theorem execActuatorConfigure_inv (p : Packet) (s : State) (h2 : State.Inv s) : outInv (execActuatorConfigure p s) := by
  unfold execActuatorConfigure
  dsimp only
  with_reducible repeat' first
    | assumption | apply State.intend_inv | apply State.runCheck_inv | apply State.updChan_inv | apply packet_inv
    | apply ans_done | apply checks_inv | intro _

theorem execEffectLoad_inv (p : Packet) (s : State) (h2 : State.Inv s) : outInv (execEffectLoad p s) := by
  unfold execEffectLoad
  dsimp only
  with_reducible repeat' first
    | assumption | apply State.intend_inv | apply State.setHaptics_inv | apply packet_inv | apply ans_done | apply checks_inv
    | intro _

theorem execEffectPlay_inv (p : Packet) (s : State) (h2 : State.Inv s) : outInv (execEffectPlay p s) := by
  unfold execEffectPlay
  dsimp only
  with_reducible repeat' first
    | assumption | apply State.boost_inv | apply State.updChan_inv | apply packet_inv | apply ans_done | apply checks_inv
    | intro _

theorem execEffectStop_inv (p : Packet) (s : State) (h2 : State.Inv s) : outInv (execEffectStop p s) := by
  unfold execEffectStop
  dsimp only
  with_reducible repeat' first
    | assumption | apply State.updChan_inv | apply packet_inv | apply ans_done | apply checks_inv | intro _

theorem execEffectStart_inv (channel : Nat) (r64 : Nat) (limit : Bool) (capPf : Nat) (motion : Nat) (s : State) (h6 : State.Inv s) : outInv (execEffectStart channel r64 limit capPf motion s) := by
  unfold execEffectStart
  dsimp only
  with_reducible repeat' first
    | assumption | apply State.actuatorFact_inv | apply State.count_inv | apply State.endPlay_inv | apply State.raise_inv
    | apply State.updChan_inv | apply onUnit_inv | apply ite_inv | intro _ | split

theorem execEffectDone_inv (channel : Nat) (s : State) (h2 : State.Inv s) : outInv (execEffectDone channel s) := by
  unfold execEffectDone
  with_reducible repeat' first
    | assumption | apply State.endPlay_inv | apply onUnit_inv | split

theorem execClickRegionSet_inv (p : Packet) (s : State) (h2 : State.Inv s) : outInv (execClickRegionSet p s) := by
  unfold execClickRegionSet
  dsimp only
  with_reducible repeat' first
    | assumption | apply State.boost_inv | apply State.intend_inv | apply State.updChan_inv | apply packet_inv
    | apply ans_done | apply checks_inv | intro _

theorem execForceSample_inv (channel : Nat) (counts : Nat) (s : State) (h3 : State.Inv s) : outInv (execForceSample channel counts s) := by
  unfold execForceSample
  dsimp only
  with_reducible repeat' first
    | assumption | apply State.stepClick_inv | apply State.updChan_inv | apply onUnit_inv | apply foldl_inv | apply ite_inv
    | intro _

theorem execInstCreate_inv (p : Packet) (s : State) (h2 : State.Inv s) : outInv (execInstCreate p s) := by
  unfold execInstCreate
  dsimp only
  with_reducible repeat' first
    | assumption | apply State.applyQuotas_inv | apply State.intend_inv | apply State.setMemc_inv | apply State.updInst_inv
    | apply packet_inv | apply ans_fail | apply ans_done | apply ans_owe | intro _ | split

theorem execInstQuotaSet_inv (p : Packet) (s : State) (h2 : State.Inv s) : outInv (execInstQuotaSet p s) := by
  unfold execInstQuotaSet
  dsimp only
  with_reducible repeat' first
    | assumption | apply State.applyQuotas_inv | apply State.intend_inv | apply packet_inv | apply ans_fail | apply ans_done
    | intro _ | split

theorem execScrubDone_inv (s : State) (h1 : State.Inv s) : outInv (execScrubDone s) := by
  unfold execScrubDone
  dsimp only
  with_reducible repeat' first
    | assumption | apply State.finish_inv | apply State.setDram_inv | apply State.setMemc_inv | apply foldl_inv
    | apply out_next | apply zeroBlocks_wf | apply dramOk | intro _

theorem execQuiesceDrained_inv (n : Nat) (s : State) (h2 : State.Inv s) : outInv (execQuiesceDrained n s) := by
  unfold execQuiesceDrained
  dsimp only
  with_reducible repeat' first
    | assumption | apply State.drainWork_inv | apply State.dropPackets_inv | apply State.enterQuiesced_inv | apply onUnit_inv
    | apply ite_inv | intro _

theorem execInstQuiesce_inv (p : Packet) (s : State) (h2 : State.Inv s) : outInv (execInstQuiesce p s) := by
  unfold execInstQuiesce
  dsimp only
  with_reducible repeat' first
    | assumption | apply State.answerCancelled_inv | apply State.cancelWork_inv | apply State.convertFreeze_inv
    | apply State.dropPackets_inv | apply State.dropWaiting_inv | apply State.enterQuiesced_inv | apply State.intend_inv
    | apply State.stopIntake_inv | apply State.updInst_inv | apply packet_inv | apply ans_done | apply ans_owe
    | apply checks_inv | apply stop_inv | apply ite_inv | intro _ | split

theorem execInstBind_inv (p : Packet) (s : State) (h2 : State.Inv s) : outInv (execInstBind p s) := by
  unfold execInstBind
  dsimp only
  with_reducible repeat' first
    | assumption | apply State.intend_inv | apply State.updInst_inv | apply packet_inv | apply ans_done | apply checks_inv
    | apply stop_inv | intro _

theorem execInstReset_inv (p : Packet) (s : State) (h2 : State.Inv s) : outInv (execInstReset p s) := by
  unfold execInstReset
  dsimp only
  with_reducible repeat' first
    | assumption | apply State.beginReset_inv | apply State.intend_inv | apply State.updInst_inv | apply packet_inv
    | apply ans_owe | apply checks_inv | apply stop_inv | intro _

theorem execInstDestroy_inv (p : Packet) (s : State) (h2 : State.Inv s) : outInv (execInstDestroy p s) := by
  unfold execInstDestroy
  dsimp only
  with_reducible repeat' first
    | assumption | apply State.beginReset_inv | apply State.intend_inv | apply State.updInst_inv | apply packet_inv
    | apply ans_owe | apply checks_inv | apply stop_inv | intro _

theorem execResetScrubbed_inv (n : Nat) (s : State) (h2 : State.Inv s) : outInv (execResetScrubbed n s) := by
  unfold execResetScrubbed
  dsimp only
  with_reducible repeat' first
    | assumption | apply State.finishOpt_inv | apply State.resetFnRegs_inv | apply State.returnGrants_inv
    | apply State.scrubGrants_inv | apply State.settle_inv | apply State.updInst_inv | apply onUnit_inv | apply ite_inv
    | intro _ | split

theorem execAutoreset_inv (n : Nat) (s : State) (h2 : State.Inv s) : outInv (execAutoreset n s) := by
  unfold execAutoreset
  dsimp only
  with_reducible repeat' first
    | assumption | apply State.beginReset_inv | apply onUnit_inv | apply ite_inv | intro _

theorem execInstFreeze_inv (p : Packet) (s : State) (h2 : State.Inv s) : outInv (execInstFreeze p s) := by
  unfold execInstFreeze
  dsimp only
  with_reducible repeat' first
    | assumption | apply State.freezeHaptics_inv | apply State.intend_inv | apply State.pauseAudio_inv
    | apply State.requestClusters_inv | apply State.updInst_inv | apply packet_inv | apply ans_owe | apply checks_inv
    | apply stop_inv | intro _

theorem execFreezeSaved_inv (n : Nat) (s : State) (h2 : State.Inv s) : outInv (execFreezeSaved n s) := by
  unfold execFreezeSaved
  dsimp only
  with_reducible repeat' first
    | assumption | apply State.finishOpt_inv | apply State.settle_inv | apply State.updInst_inv | apply State.writeReplies_inv
    | apply onUnit_inv | apply ite_inv | intro _ | split

theorem execInstThaw_inv (p : Packet) (s : State) (h2 : State.Inv s) : outInv (execInstThaw p s) := by
  unfold execInstThaw
  dsimp only
  with_reducible repeat' first
    | assumption | apply State.flushFences_inv | apply State.intend_inv | apply State.pauseAudio_inv | apply State.raise_inv | apply State.thawRings_inv
    | apply State.updInst_inv | apply packet_inv | apply ans_fail | apply ans_done | apply checks_inv | apply stop_inv
    | apply ite_inv | intro _ | split

theorem execInstSave_inv (p : Packet) (s : State) (h2 : State.Inv s) : outInv (execInstSave p s) := by
  unfold execInstSave
  with_reducible apply packet_inv
  · exact h2
  · intro s h
    with_reducible apply checks_inv
    with_reducible apply stop_inv
    with_reducible apply checks_inv
    show ansInv (if _ then _ else _)
    split
    · exact trivial
    · exact State.tickFree_inv _ (State.writeHost_inv _ _ _ _ h)

theorem execInstRestore_inv (p : Packet) (s : State) (h2 : State.Inv s) : outInv (execInstRestore p s) := by
  unfold execInstRestore
  dsimp only
  with_reducible repeat' first
    | assumption | apply State.intend_inv | apply State.placeImage_inv | apply State.tickFree_inv | apply packet_inv
    | apply ans_fail | apply ans_done | apply checks_inv | intro _ | split

theorem execDrainBoundExpiry_inv (n : Nat) (undrained : List Nat) (s : State) (h3 : State.Inv s) : outInv (execDrainBoundExpiry n undrained s) := by
  unfold execDrainBoundExpiry
  dsimp only
  with_reducible repeat' first
    | assumption | apply State.discardReplies_inv | apply State.drainWork_inv | apply State.enterQuiesced_inv
    | apply State.wedge_inv | apply onUnit_inv | apply ite_inv | intro _

theorem execWedgedEngineFree_inv (unit : Nat) (s : State) (h2 : State.Inv s) : outInv (execWedgedEngineFree unit s) := by
  unfold execWedgedEngineFree
  with_reducible repeat' first
    | assumption | apply State.setCopy_inv | apply onUnit_inv | apply ite_inv | intro _

theorem execFunctionLevelReset_inv (port : Nat) (fn : Nat) (s : State) (h3 : State.Inv s) : outInv (execFunctionLevelReset port fn s) := by
  unfold execFunctionLevelReset
  dsimp only
  with_reducible repeat' first
    | assumption | apply State.fenceFn_inv | apply State.pcieReset_inv | apply State.setVfs_inv | apply onPort_inv
    | apply ite_inv | intro _

theorem execBusMasterEnableCleared_inv (port : Nat) (fn : Nat) (s : State) (h3 : State.Inv s) : outInv (execBusMasterEnableCleared port fn s) := by
  unfold execBusMasterEnableCleared
  with_reducible repeat' first
    | assumption | apply State.clearBusMaster_inv | apply onPort_inv | apply ite_inv | intro _

theorem execVfEnableCleared_inv (port : Nat) (enable : Bool) (numVfs : Nat) (s : State) (h4 : State.Inv s) : outInv (execVfEnableCleared port enable numVfs s) := by
  unfold execVfEnableCleared
  with_reducible repeat' first
    | assumption | apply State.setVfs_inv | apply onPort_inv

theorem execPerstNAsserted_inv (port : Nat) (s : State) (h2 : State.Inv s) : outInv (execPerstNAsserted port s) := by
  unfold execPerstNAsserted
  dsimp only
  with_reducible repeat' first
    | assumption | apply State.fencePort_inv | apply State.setPorts_inv | apply onPort_inv

theorem execPerstNDeasserted_inv (port : Nat) (s : State) (h2 : State.Inv s) : outInv (execPerstNDeasserted port s) := by
  unfold execPerstNDeasserted
  dsimp only
  with_reducible repeat' first
    | assumption | apply State.setPorts_inv | apply onPort_inv

theorem execHostLinkUp_inv (port : Nat) (s : State) (h2 : State.Inv s) : outInv (execHostLinkUp port s) := by
  unfold execHostLinkUp
  dsimp only
  with_reducible repeat' first
    | assumption | apply State.setPorts_inv | apply onPort_inv | apply ite_inv | intro _

theorem execHostLinkDown_inv (port : Nat) (s : State) (h2 : State.Inv s) : outInv (execHostLinkDown port s) := by
  unfold execHostLinkDown
  with_reducible repeat' first
    | assumption | apply State.fencePort_inv | apply State.retrainPort_inv | apply onPort_inv

theorem execConfigRequest_inv (port : Nat) (fn : Nat) (field : CfgField) (value : Nat) (s : State) (h5 : State.Inv s) : outInv (execConfigRequest port fn field value s) := by
  unfold execConfigRequest
  dsimp only
  with_reducible repeat' first
    | assumption | apply State.clearBusMaster_inv | apply State.flushPba_inv | apply State.setVfs_inv | apply State.updFn_inv
    | apply onPort_inv | apply ite_inv | intro _ | split

theorem execNop_inv (p : Packet) (s : State) (h2 : State.Inv s) : outInv (execNop p s) := by
  unfold execNop
  with_reducible repeat' first
    | assumption | apply packet_inv | apply ans_done | apply checks_inv | intro _

theorem execDeviceCaps_inv (p : Packet) (s : State) (h2 : State.Inv s) : outInv (execDeviceCaps p s) := by
  unfold execDeviceCaps
  with_reducible repeat' first
    | assumption | apply packet_inv | apply ans_done | apply checks_inv | intro _

theorem execLedgerRead_inv (p : Packet) (s : State) (h2 : State.Inv s) : outInv (execLedgerRead p s) := by
  unfold execLedgerRead
  with_reducible repeat' first
    | assumption | apply State.tickFree_inv | apply packet_inv | apply ans_done | apply checks_inv | intro _

theorem execEventFetch_inv (p : Packet) (s : State) (h2 : State.Inv s) : outInv (execEventFetch p s) := by
  unfold execEventFetch
  dsimp only
  with_reducible repeat' first
    | assumption | apply State.settleManager_inv | apply State.updFn_inv | apply packet_inv | apply ans_done
    | apply checks_inv | intro _

theorem execPortConfig_inv (p : Packet) (s : State) (h2 : State.Inv s) : outInv (execPortConfig p s) := by
  unfold execPortConfig
  dsimp only
  with_reducible repeat' first
    | assumption | apply State.intend_inv | apply State.setPorts_inv | apply packet_inv | apply ans_done | apply checks_inv
    | intro _

theorem execDeviceReset_inv (p : Packet) (s : State) (h2 : State.Inv s) : outInv (execDeviceReset p s) := by
  unfold execDeviceReset
  dsimp only
  with_reducible repeat' first
    | assumption | apply State.setErr_inv | apply packet_inv | apply ans_done | apply checks_inv | apply errOk | intro _
    | split

theorem execLedgerFact_inv (unit : Nat) (fact : Nat) (s : State) (h3 : State.Inv s) : outInv (execLedgerFact unit fact s) := by
  unfold execLedgerFact
  with_reducible repeat' first
    | assumption | apply State.setFact_inv | apply onUnit_inv | apply ite_inv | intro _

theorem execLedgerFactCleared_inv (unit : Nat) (s : State) (h2 : State.Inv s) : outInv (execLedgerFactCleared unit s) := by
  unfold execLedgerFactCleared
  with_reducible repeat' first
    | assumption | apply State.clearFact_inv | apply onUnit_inv

theorem execSettled_inv (unit : Nat) (s : State) (h2 : State.Inv s) : outInv (execSettled unit s) := by
  unfold execSettled
  with_reducible repeat' first
    | assumption | apply State.settle_inv | apply onUnit_inv

theorem execLedgerResync_inv (facts : List (Nat × Nat)) (s : State) (h2 : State.Inv s) : outInv (execLedgerResync facts s) := by
  unfold execLedgerResync
  with_reducible repeat' first
    | assumption | apply State.resync_inv | apply out_next

theorem execBeanSweep_inv (mismatched : List Nat) (s : State) (h2 : State.Inv s) : outInv (execBeanSweep mismatched s) := by
  unfold execBeanSweep
  with_reducible repeat' first
    | assumption | apply State.beanSweep_inv | apply out_next

theorem execD2dFrame_inv (main : Bool) (valid : Bool) (s : State) (h3 : State.Inv s) : outInv (execD2dFrame main valid s) := by
  unfold execD2dFrame
  dsimp only
  with_reducible repeat' first
    | assumption | apply State.setTouch_inv | apply onUnit_inv | apply ite_inv | intro _

theorem execD2dLinkLost_inv (main : Bool) (s : State) (h2 : State.Inv s) : outInv (execD2dLinkLost main s) := by
  unfold execD2dLinkLost
  with_reducible repeat' first
    | assumption | apply State.mainLost_inv | apply State.senseLost_inv | apply onUnit_inv | apply ite_inv | intro _

theorem execD2dLinkRetry_inv (s : State) (h1 : State.Inv s) : outInv (execD2dLinkRetry s) := by
  unfold execD2dLinkRetry
  dsimp only
  with_reducible repeat' first
    | assumption | apply State.setTouch_inv | apply onUnit_inv | apply ite_inv | intro _

theorem execD2dLinkUp_inv (s : State) (h1 : State.Inv s) : outInv (execD2dLinkUp s) := by
  unfold execD2dLinkUp
  dsimp only
  with_reducible repeat' first
    | assumption | apply State.boost_inv | apply State.clearFactIf_inv | apply State.setFirmware_inv
    | apply State.setTouch_inv | apply State.settle_inv | apply State.updTp_inv | apply onUnit_inv | apply foldl_inv
    | apply ite_inv | intro _

theorem execPllHoldover_inv (port : Nat) (s : State) (h2 : State.Inv s) : outInv (execPllHoldover port s) := by
  unfold execPllHoldover
  with_reducible repeat' first
    | assumption | apply State.setHoldover_inv | apply onPort_inv | apply ite_inv | intro _

theorem execRefclkFail_inv (failed : List (Nat × Nat)) (warmrc : Nat) (s : State) (h3 : State.Inv s) : outInv (execRefclkFail failed warmrc s) := by
  unfold execRefclkFail
  dsimp only
  with_reducible repeat' first
    | assumption | apply State.clockRef_inv | apply State.failover_inv | apply State.setRef_inv | apply State.warmrcFault_inv
    | apply foldl_inv | apply out_next | apply ite_inv | intro _ | split

theorem execRefclkHealthy_inv (port : Nat) (khz : Nat) (s : State) (h3 : State.Inv s) : outInv (execRefclkHealthy port khz s) := by
  unfold execRefclkHealthy
  with_reducible repeat' first
    | assumption | apply State.clockRef_inv | apply State.retrainPort_inv | apply State.setRef_inv | apply onPort_inv
    | apply ite_inv | intro _

theorem execRefSwitchBack_inv (port : Nat) (s : State) (h2 : State.Inv s) : outInv (execRefSwitchBack port s) := by
  unfold execRefSwitchBack
  dsimp only
  with_reducible repeat' first
    | assumption | apply State.clockRef_inv | apply State.setClocks_inv | apply State.setFact_inv
    | apply State.setHoldover_inv | apply State.settleRef_inv | apply onPort_inv | apply ite_inv | intro _

theorem execWarmrcCheck_inv (counts : Nat) (s : State) (h2 : State.Inv s) : outInv (execWarmrcCheck counts s) := by
  unfold execWarmrcCheck
  dsimp only
  with_reducible repeat' first
    | assumption | apply State.clearFact_inv | apply State.setClocks_inv | apply State.settle_inv
    | apply State.warmrcFault_inv | apply out_next | apply ite_inv | intro _

theorem execXtalLost_inv (s : State) (h1 : State.Inv s) : outInv (execXtalLost s) := by
  unfold execXtalLost
  dsimp only
  with_reducible repeat' first
    | assumption | apply State.raiseErr_inv | apply State.setClocks_inv | apply State.setFact_inv | apply out_next
    | apply ite_inv | intro _

theorem execPllUnlock_inv (domain : Nat) (s : State) (h2 : State.Inv s) : outInv (execPllUnlock domain s) := by
  unfold execPllUnlock
  dsimp only
  with_reducible repeat' first
    | assumption | apply State.clockPll_inv | apply State.domLost_inv | apply State.fabLost_inv | apply State.fencePort_inv
    | apply State.linkDown_inv | apply State.pixLost_inv | apply State.raiseErr_inv | apply State.senseStopped_inv
    | apply State.updDom_inv | apply onUnit_inv | apply ite_inv | intro _ | split

theorem execPllRelockAttempt_inv (domain : Nat) (locked : Bool) (s : State) (h3 : State.Inv s) : outInv (execPllRelockAttempt domain locked s) := by
  unfold execPllRelockAttempt
  dsimp only
  with_reducible repeat' first
    | assumption | apply State.clockPll_inv | apply State.domAttempt_inv | apply State.domRelocked_inv
    | apply State.domRetrying_inv | apply State.fabAttempt_inv | apply State.pixAttempt_inv | apply State.pixRetry_inv
    | apply State.retrainPort_inv | apply State.senseStarted_inv | apply State.updLink_inv | apply onUnit_inv | apply id_inv
    | apply ite_inv | intro _ | split

theorem execPowerState_inv (p : Packet) (s : State) (h2 : State.Inv s) : outInv (execPowerState p s) := by
  unfold execPowerState
  dsimp only
  with_reducible repeat' first
    | assumption | apply State.beginEntry_inv | apply State.intend_inv | apply State.refuseEntry_inv
    | apply State.setPower_inv | apply packet_inv | apply ans_done | apply ans_owe | apply checks_inv | intro _ | split

theorem execPowerStatePipe_inv (p : Packet) (s : State) (h2 : State.Inv s) : outInv (execPowerStatePipe p s) := by
  unfold execPowerStatePipe
  dsimp only
  with_reducible repeat' first
    | assumption | apply State.finishOpt_inv | apply State.refuse_inv | apply State.updPipe_inv | apply packet_inv
    | apply ans_done | apply ans_owe | apply checks_inv | intro _ | split

theorem execSteepAutoCheck_inv (s : State) (h1 : State.Inv s) : outInv (execSteepAutoCheck s) := by
  unfold execSteepAutoCheck
  dsimp only
  with_reducible repeat' first
    | assumption | apply State.beginEntry_inv | apply State.refuseEntry_inv | apply State.setPower_inv | apply out_next
    | apply ite_inv | intro _ | split

theorem execKeepAwake_inv (p : Packet) (s : State) (h2 : State.Inv s) : outInv (execKeepAwake p s) := by
  unfold execKeepAwake
  dsimp only
  with_reducible repeat' first
    | assumption | apply State.setPower_inv | apply packet_inv | apply ans_done | apply checks_inv | intro _

theorem execPowerConfig_inv (p : Packet) (s : State) (h2 : State.Inv s) : outInv (execPowerConfig p s) := by
  unfold execPowerConfig
  dsimp only
  with_reducible repeat' first
    | assumption | apply State.intend_inv | apply State.setPower_inv | apply packet_inv | apply ans_done | apply checks_inv
    | intro _

theorem execPowerConfigRelease_inv (p : Packet) (s : State) (h2 : State.Inv s) : outInv (execPowerConfigRelease p s) := by
  unfold execPowerConfigRelease
  dsimp only
  with_reducible repeat' first
    | assumption | apply State.setPower_inv | apply packet_inv | apply ans_done | apply checks_inv | intro _

theorem execWakeSource_inv (source : Nat) (arg : Nat) (wakeUs : Nat) (s : State) (h4 : State.Inv s) : outInv (execWakeSource source arg wakeUs s) := by
  unfold execWakeSource
  dsimp only
  with_reducible repeat' first
    | assumption | apply State.abortEntry_inv | apply State.latchWake_inv | apply State.wakeUp_inv | apply out_next
    | apply ite_inv | intro _ | split

theorem execHostWake_inv (port : Nat) (s : State) (h2 : State.Inv s) : outInv (execHostWake port s) := by
  unfold execHostWake
  with_reducible repeat' first
    | assumption | apply State.setPorts_inv | apply onPort_inv | apply ite_inv | intro _

theorem execMemLost_inv (s : State) (h1 : State.Inv s) : outInv (execMemLost s) := by
  unfold execMemLost
  dsimp only
  with_reducible repeat' first
    | assumption | apply State.memLost_inv | apply State.setMemc_inv | apply foldl_inv | apply out_next | apply ite_inv
    | intro _

theorem execShelfExit_inv (source : Nat) (arg : Nat) (powerGood : Bool) (s : State) (h4 : State.Inv s) : outInv (execShelfExit source arg powerGood s) := by
  unfold execShelfExit
  dsimp only
  with_reducible repeat' first
    | assumption | apply State.fullReset_inv | apply State.latchWake_inv | apply State.setPower_inv | apply out_next
    | apply ite_inv | intro _

theorem execPgoodTimeout_inv (s : State) (h1 : State.Inv s) : outInv (execPgoodTimeout s) := by
  unfold execPgoodTimeout
  dsimp only
  with_reducible repeat' first
    | assumption | apply State.setPower_inv | apply out_next | apply ite_inv | intro _

theorem execSteepWakeScan_inv (panel : Nat) (deltas : List Nat) (s : State) (h3 : State.Inv s) : outInv (execSteepWakeScan panel deltas s) := by
  unfold execSteepWakeScan
  dsimp only
  with_reducible repeat' first
    | assumption | apply State.raise_inv | apply State.tickFree_inv | apply State.updTp_inv | apply State.wakePipe_inv
    | apply State.wakeUp_inv | apply onUnit_inv | apply ite_inv | intro _ | split

theorem execThermalSample_inv (temps : List (Nat × Int)) (s : State) (h2 : State.Inv s) : outInv (execThermalSample temps s) := by
  unfold execThermalSample
  dsimp only
  with_reducible repeat' first
    | assumption | apply State.noteTemps_inv | apply State.setPower_inv | apply State.thermalTrip_inv
    | apply State.throttle_inv | apply out_next | apply ite_inv | intro _ | split

theorem execThermalTripRelease_inv (temp : Int) (s : State) (h2 : State.Inv s) : outInv (execThermalTripRelease temp s) := by
  unfold execThermalTripRelease
  dsimp only
  with_reducible repeat' first
    | assumption | apply State.setPower_inv | apply out_next | apply ite_inv | intro _

theorem execAdaptiveVoltageStep_inv (passMv : Nat) (level : Nat) (s : State) (h3 : State.Inv s) : outInv (execAdaptiveVoltageStep passMv level s) := by
  unfold execAdaptiveVoltageStep
  dsimp only
  with_reducible repeat' first
    | assumption | apply State.setPower_inv | apply State.stepLoop_inv | apply out_next | apply ite_inv | intro _

theorem execRefreshDerating_inv (channel : Nat) (required : Nat) (s : State) (h3 : State.Inv s) : outInv (execRefreshDerating channel required s) := by
  unfold execRefreshDerating
  dsimp only
  with_reducible repeat' first
    | assumption | apply State.stepLoop_inv | apply onUnit_inv

theorem execSupplySag_inv (cause : Nat) (vsense : Nat) (late : Bool) (fatal : Bool) (s : State) (h5 : State.Inv s) : outInv (execSupplySag cause vsense late fatal s) := by
  unfold execSupplySag
  with_reducible repeat' first
    | assumption | apply State.takeSag_inv | apply out_next

theorem execSupplyRestored_inv (s : State) (h1 : State.Inv s) : outInv (execSupplyRestored s) := by
  unfold execSupplyRestored
  dsimp only
  with_reducible repeat' first
    | assumption | apply State.fullReset_inv | apply State.setPower_inv | apply out_next | apply ite_inv | intro _

theorem execRailFall_inv (rail : Nat) (vsense : Nat) (s : State) (h3 : State.Inv s) : outInv (execRailFall rail vsense s) := by
  unfold execRailFall
  dsimp only
  with_reducible repeat' first
    | assumption | apply State.mainLost_inv | apply State.senseLost_inv | apply State.takeSag_inv | apply State.vaonLost_inv
    | apply out_next | apply ite_inv | intro _ | split

theorem execBusTimeout_inv (inst : Nat) (initiator : Nat) (unit : Nat) (write : Bool) (len : Nat) (s : State) (h6 : State.Inv s) : outInv (execBusTimeout inst initiator unit write len s) := by
  unfold execBusTimeout
  dsimp only
  with_reducible repeat' first
    | assumption | apply State.abortEntry_inv | apply State.count_inv | apply State.raiseErr_inv | apply State.setBus_inv
    | apply State.setFact_inv | apply out_next | apply ite_inv | intro _

theorem execGateRequest_inv (unit : Nat) (pending : Bool) (s : State) (h3 : State.Inv s) : outInv (execGateRequest unit pending s) := by
  unfold execGateRequest
  dsimp only
  with_reducible repeat' first
    | assumption | apply State.countHold_inv | apply State.setMemc_inv | apply onUnit_inv | apply ite_inv | intro _

theorem execRefillBegin_inv (p : Packet) (s : State) (h2 : State.Inv s) : outInv (execRefillBegin p s) := by
  unfold execRefillBegin
  dsimp only
  with_reducible repeat' first
    | assumption | apply State.setFirmware_inv | apply packet_inv | apply ans_done | apply checks_inv | intro _

theorem execRefillData_inv (p : Packet) (s : State) (h2 : State.Inv s) : outInv (execRefillData p s) := by
  unfold execRefillData
  dsimp only
  with_reducible repeat' first
    | assumption | apply State.setFirmware_inv | apply packet_inv | apply ans_fail | apply ans_done | apply checks_inv
    | intro _ | split

theorem execRefillAbort_inv (p : Packet) (s : State) (h2 : State.Inv s) : outInv (execRefillAbort p s) := by
  unfold execRefillAbort
  with_reducible repeat' first
    | assumption | apply State.dropRefill_inv | apply packet_inv | apply ans_done | apply checks_inv | intro _ | split

theorem execRefillTimeout_inv (s : State) (h1 : State.Inv s) : outInv (execRefillTimeout s) := by
  unfold execRefillTimeout
  with_reducible repeat' first
    | assumption | apply State.dropRefill_inv | apply out_next | split

theorem execRefillDeferredTaken_inv (unit : Nat) (part : Nat) (s : State) (h3 : State.Inv s) : outInv (execRefillDeferredTaken unit part s) := by
  unfold execRefillDeferredTaken
  dsimp only
  with_reducible repeat' first
    | assumption | apply State.refillState_inv | apply State.runs_inv | apply State.setFirmware_inv | apply out_next
    | apply ite_inv | intro _

theorem execRefillCommit_inv (p : Packet) (s : State) (h2 : State.Inv s) : outInv (execRefillCommit p s) := by
  unfold execRefillCommit
  dsimp only
  with_reducible repeat' first
    | assumption | apply State.commitRefill_inv | apply State.rejectCommit_inv | apply packet_inv | apply ans_fail
    | apply ans_done | apply checks_inv | intro _ | split

theorem execSlotSelect_inv (p : Packet) (s : State) (h2 : State.Inv s) : outInv (execSlotSelect p s) := by
  unfold execSlotSelect
  dsimp only
  with_reducible repeat' first
    | assumption | apply State.intend_inv | apply State.setFirmware_inv | apply packet_inv | apply ans_done | apply checks_inv
    | intro _

theorem execUsercalStore_inv (p : Packet) (s : State) (h2 : State.Inv s) : outInv (execUsercalStore p s) := by
  unfold execUsercalStore
  with_reducible repeat' first
    | assumption | apply State.putCal_inv | apply State.tickFree_inv | apply packet_inv | apply ans_done | apply checks_inv
    | intro _

theorem execUsercalErase_inv (p : Packet) (s : State) (h2 : State.Inv s) : outInv (execUsercalErase p s) := by
  unfold execUsercalErase
  with_reducible repeat' first
    | assumption | apply State.putCal_inv | apply packet_inv | apply ans_done | apply checks_inv | intro _

theorem execUsercalWrite_inv (p : Packet) (s : State) (h2 : State.Inv s) : outInv (execUsercalWrite p s) := by
  unfold execUsercalWrite
  dsimp only
  with_reducible repeat' first
    | assumption | apply State.applyTrims_inv | apply State.putCal_inv | apply State.tickFree_inv | apply packet_inv
    | apply ans_done | apply checks_inv | apply ite_inv | intro _

theorem execCalRead_inv (p : Packet) (s : State) (h2 : State.Inv s) : outInv (execCalRead p s) := by
  unfold execCalRead
  dsimp only
  with_reducible repeat' first
    | assumption | apply packet_inv | apply ans_done | apply checks_inv | intro _

theorem execRecalTouch_inv (p : Packet) (s : State) (h2 : State.Inv s) : outInv (execRecalTouch p s) := by
  unfold execRecalTouch
  dsimp only
  with_reducible repeat' first
    | assumption | apply State.putCal_inv | apply State.rebase_inv | apply State.recalDone_inv | apply State.recalPanel_inv
    | apply State.tickFree_inv | apply packet_inv | apply ans_done | apply checks_inv | apply ite_inv | intro _ | split

theorem execRecalHaptic_inv (p : Packet) (s : State) (h2 : State.Inv s) : outInv (execRecalHaptic p s) := by
  unfold execRecalHaptic
  dsimp only
  with_reducible repeat' first
    | assumption | apply State.putCal_inv | apply State.recalDone_inv | apply State.runCheck_inv | apply State.tickFree_inv
    | apply packet_inv | apply ans_done | apply checks_inv | apply ite_inv | intro _

theorem execRecalDram_inv (p : Packet) (s : State) (h2 : State.Inv s) : outInv (execRecalDram p s) := by
  unfold execRecalDram
  dsimp only
  with_reducible repeat' first
    | assumption | apply State.recalDone_inv | apply State.retrain_inv | apply State.tickFree_inv | apply packet_inv
    | apply foldl_inv | apply ans_done | apply checks_inv | intro _

theorem execRecalMic_inv (p : Packet) (s : State) (h2 : State.Inv s) : outInv (execRecalMic p s) := by
  unfold execRecalMic
  dsimp only
  with_reducible repeat' first
    | assumption | apply State.putCal_inv | apply State.recalDone_inv | apply State.setAudio_inv | apply State.tickFree_inv
    | apply packet_inv | apply ans_done | apply checks_inv | apply ite_inv | intro _

theorem execBoot_inv (healthy : Nat) (mismatch : Option Nat) (pause : Bool) (s : State) (h1 : State.Inv s) : outInv (execBoot healthy mismatch pause s) := by
  unfold execBoot
  dsimp only
  with_reducible apply out_next
  with_reducible apply ite_inv <;> intro _
  · exact State.bootLedger_inv _ h1
  with_reducible apply ite_inv <;> intro _
  · exact h1
  · have hb := State.bootStraps_inv s healthy h1
    split
    · exact State.bootAt_inv _ _ _ hb
    · have hc := State.bootOn_inv _ mismatch (State.bootCupper_inv _ (State.bootReference_inv hb ‹_›))
      exact ite_inv (fun _ => hc) (fun _ => State.bootFinish_inv _ hc)

theorem execBootNoReference_inv (mismatch : Option Nat) (s : State) (h2 : State.Inv s) : outInv (execBootNoReference mismatch s) := by
  unfold execBootNoReference
  with_reducible repeat' first
    | assumption | apply State.bootCupper_inv | apply State.bootDegraded_inv | apply State.bootFinish_inv
    | apply State.bootOn_inv | apply out_next
    | apply ite_inv | intro _

theorem execFlashSfdpTimeout_inv (healthy : Nat) (s : State) (h1 : State.Inv s) : outInv (execFlashSfdpTimeout healthy s) := by
  unfold execFlashSfdpTimeout
  dsimp only
  with_reducible apply out_next
  with_reducible apply ite_inv <;> intro _
  · exact h1
  · have hb : State.Inv (if s.boot.stage = 1 then s else s.bootStraps healthy) :=
      ite_inv (fun _ => h1) (fun _ => State.bootStraps_inv s healthy h1)
    with_reducible apply State.bootAt_inv
    split
    · exact State.bootReference_inv hb ‹_›
    · exact State.bootDegraded_inv _ hb

theorem execSupplySagAtBoot_inv (s : State) (h1 : State.Inv s) : outInv (execSupplySagAtBoot s) := by
  unfold execSupplySagAtBoot
  dsimp only
  with_reducible repeat' first
    | assumption | apply State.bootAt_inv | apply State.setPower_inv | apply State.shedLoad_inv | apply out_next
    | apply ite_inv | intro _

theorem execRecoveryStart_inv (unit : Nat) (s : State) (h2 : State.Inv s) : outInv (execRecoveryStart unit s) := by
  unfold execRecoveryStart
  with_reducible repeat' first
    | assumption | apply State.recStart_inv | apply out_next

theorem execRecoveryData_inv (data : List Byte) (s : State) (h2 : State.Inv s) : outInv (execRecoveryData data s) := by
  unfold execRecoveryData
  with_reducible repeat' first
    | assumption | apply State.recPage_inv | apply out_next

theorem execRecoveryCommit_inv (s : State) (h1 : State.Inv s) : outInv (execRecoveryCommit s) := by
  unfold execRecoveryCommit
  with_reducible repeat' first
    | assumption | apply State.recCommit_inv | apply out_next

theorem execTelemetryRead_inv (p : Packet) (s : State) (h2 : State.Inv s) : outInv (execTelemetryRead p s) := by
  unfold execTelemetryRead
  dsimp only
  with_reducible repeat' first
    | assumption | apply packet_inv | apply ans_done | apply checks_inv | intro _

theorem ackErrors_length : ∀ (n : Nat) (q : List ErrRec), (ackErrors n q).length ≤ q.length
  | 0, _ => Nat.le_refl _
  | _ + 1, [] => Nat.le_refl _
  | n + 1, r :: q => by
    unfold ackErrors
    split
    · exact Nat.le_succ_of_le (ackErrors_length n q)
    · exact Nat.le_refl _

theorem execErrorRead_inv (p : Packet) (s : State) (h1 : State.Inv s) : outInv (execErrorRead p s) := by
  unfold execErrorRead
  with_reducible apply packet_inv
  · exact h1
  · intro s h
    with_reducible apply checks_inv
    exact State.setErr_inv _ _ h (Nat.le_trans (ackErrors_length _ _) (errOk h))

theorem execBeanRead_inv (p : Packet) (s : State) (h2 : State.Inv s) : outInv (execBeanRead p s) := by
  unfold execBeanRead
  dsimp only
  with_reducible repeat' first
    | assumption | apply State.tickFree_inv | apply packet_inv | apply ans_done | apply checks_inv | intro _

theorem execBeanAudit_inv (p : Packet) (s : State) (h2 : State.Inv s) : outInv (execBeanAudit p s) := by
  unfold execBeanAudit
  dsimp only
  with_reducible repeat' first
    | assumption | apply State.beanSweep_inv | apply packet_inv | apply ans_done | apply ans_owe | apply checks_inv | intro _
    | split

theorem execFactSweep_inv (p : Packet) (s : State) (h2 : State.Inv s) : outInv (execFactSweep p s) := by
  unfold execFactSweep
  dsimp only
  with_reducible repeat' first
    | assumption | apply State.resyncOne_inv | apply State.tickFree_inv | apply packet_inv | apply ans_done | apply checks_inv
    | apply foldl_fst_inv | intro _

theorem execInject_inv (p : Packet) (s : State) (h2 : State.Inv s) : outInv (execInject p s) := by
  unfold execInject
  dsimp only
  with_reducible repeat' first
    | assumption | apply State.raiseErr_inv | apply packet_inv | apply ans_done | apply checks_inv | intro _

theorem execErrorRecord_inv (record : Option ErrArg) (s : State) (h2 : State.Inv s) : outInv (execErrorRecord record s) := by
  unfold execErrorRecord
  with_reducible repeat' first
    | assumption | apply State.handleOne_inv | apply State.raiseErr_inv | apply out_next | apply ite_inv | intro _ | split

theorem execResetNLow_inv (s : State) (h1 : State.Inv s) : outInv (execResetNLow s) := by
  unfold execResetNLow
  dsimp only
  with_reducible repeat' first
    | assumption | apply State.fullReset_inv | apply State.rehold_inv | apply State.setPower_inv | apply State.shedLoad_inv
    | apply out_next | apply ite_inv | intro _

theorem execResetNRise_inv (s : State) (h1 : State.Inv s) : outInv (execResetNRise s) := by
  unfold execResetNRise
  dsimp only
  with_reducible repeat' first
    | assumption | apply State.setPower_inv | apply out_next

theorem execFullReset_inv (s : State) (h1 : State.Inv s) : outInv (execFullReset s) := by
  unfold execFullReset
  with_reducible repeat' first
    | assumption | apply State.fullReset_inv | apply State.shedLoad_inv | apply out_next | apply ite_inv | intro _

theorem execSmbusTransaction_inv (bytes : List Byte) (s : State) (h2 : State.Inv s) : outInv (execSmbusTransaction bytes s) := by
  unfold execSmbusTransaction
  dsimp only
  with_reducible repeat' first
    | assumption | apply State.mgmtDiscard_inv | apply State.mgmtPacket_inv | apply State.setBoot_inv | apply out_next
    | apply ite_inv | intro _

theorem execMctpMessageTimeout_inv (tag : Nat) (s : State) (h2 : State.Inv s) : outInv (execMctpMessageTimeout tag s) := by
  unfold execMctpMessageTimeout
  dsimp only
  with_reducible repeat' first
    | assumption | apply State.mgmtDiscard_inv | apply State.setBoot_inv | apply out_next | apply ite_inv | intro _

theorem execMctpIbnovMessage_inv (tag : Nat) (integrity : Bool) (bytes : List Byte) (s : State) (h4 : State.Inv s) : outInv (execMctpIbnovMessage tag integrity bytes s) := by
  unfold execMctpIbnovMessage
  dsimp only
  with_reducible repeat' first
    | assumption | apply State.answerBroken_inv | apply State.count_inv | apply State.mgmtBusy_inv
    | apply State.mgmtDiscard_inv | apply State.mgmtServed_inv | apply State.takePacket_inv | apply out_next | apply ite_inv
    | intro _

theorem execBasicRegisterRead_inv (reg : Nat) (len : Nat) (s : State) (h3 : State.Inv s) : outInv (execBasicRegisterRead reg len s) := by
  unfold execBasicRegisterRead
  dsimp only
  with_reducible repeat' first
    | assumption | apply State.mgmtSend_inv | apply State.setBoot_inv | apply out_next | apply ite_inv | intro _

theorem execBasicRegisterWrite_inv (reg : Nat) (data : List Byte) (s : State) (h3 : State.Inv s) : outInv (execBasicRegisterWrite reg data s) := by
  unfold execBasicRegisterWrite
  dsimp only
  with_reducible repeat' first
    | assumption | apply State.mgmtSend_inv | apply State.recPage_inv | apply State.recWrite_inv | apply foldl_inv
    | apply out_next | apply ite_inv | intro _

theorem execSetEndpointId_inv (op : Nat) (eid : Nat) (s : State) (h3 : State.Inv s) : outInv (execSetEndpointId op eid s) := by
  unfold execSetEndpointId
  dsimp only
  with_reducible repeat' first
    | assumption | apply State.ctrl_inv | apply State.setBoot_inv | apply out_next | apply ite_inv | intro _

theorem execGetEndpointId_inv (s : State) (h1 : State.Inv s) : outInv (execGetEndpointId s) := by
  unfold execGetEndpointId
  with_reducible repeat' first
    | assumption | apply State.ctrl_inv | apply out_next

theorem execGetEndpointUuid_inv (s : State) (h1 : State.Inv s) : outInv (execGetEndpointUuid s) := by
  unfold execGetEndpointUuid
  with_reducible repeat' first
    | assumption | apply State.ctrl_inv | apply out_next

theorem execGetMctpVersionSupport_inv (msgType : Nat) (s : State) (h2 : State.Inv s) : outInv (execGetMctpVersionSupport msgType s) := by
  unfold execGetMctpVersionSupport
  with_reducible repeat' first
    | assumption | apply State.ctrl_inv | apply out_next | apply ite_inv | intro _

theorem execGetMessageTypeSupport_inv (s : State) (h1 : State.Inv s) : outInv (execGetMessageTypeSupport s) := by
  unfold execGetMessageTypeSupport
  with_reducible repeat' first
    | assumption | apply State.ctrl_inv | apply out_next

theorem execGetVendorDefinedMessageSupport_inv (selector : Nat) (s : State) (h2 : State.Inv s) : outInv (execGetVendorDefinedMessageSupport selector s) := by
  unfold execGetVendorDefinedMessageSupport
  with_reducible repeat' first
    | assumption | apply State.ctrl_inv | apply out_next | apply ite_inv | intro _

theorem execErrorUnsupportedCmd_inv (command : Nat) (s : State) (h2 : State.Inv s) : outInv (execErrorUnsupportedCmd command s) := by
  unfold execErrorUnsupportedCmd
  with_reducible repeat' first
    | assumption | apply State.ctrl_inv | apply out_next

end Sys2Proof.Machine
end

