-- ==== Sys2Proof/Machine/Bar0.lean ====
section
/-!
DEFINITION. What a host reads in BAR0 of a function (03 R100; 01 R45). The opcode table has rows for the writes and for the
accesses that do more than return a value; a plain read has none, and `State.readBar0` says what it returns (log 139).
-/

namespace Sys2Proof.Machine

open Sys2Proof

/-- STARVED: credits are used up while a submission ring holds unread bytes. -/
def State.starved (s : State) (k n : Nat) : Bool :=
  decide ((s.inst n).credits ≤ s.creditsHeld n) &&
    (List.range 4).any (fun r => decide (((s.fn k).sq.get r).size ≠ 0) && decide (((s.fn k).sq.get r).head ≠ ((s.fn k).sq.get r).tail))

/-- The registers of a submission ring, from the ring's first offset. -/
def Sq.register (q : Sq) (o : Nat) : Nat :=
  match o with
  | 0x00 => q.base
  | 0x08 => q.size
  | 0x0C => pack [(b2n q.halted, 8), (q.cause, 8), (q.badDoor, 16)]
  | 0x10 => q.head.toNat
  | 0x14 => q.lastSeq.toNat
  | _ => 0

/-- The 64 or 32 bits of the register that begins at an offset; 0 where none begins. -/
def State.bar0Register (s : State) (port fn off : Nat) : Nat :=
  let k := fnKey port fn
  let f := s.fn k
  let mgr := decide (k = s.managerFn)
  let n := s.boundTo k
  if off = 0x00 then pack [(fn, 8), (port, 4), (b2n mgr, 1), (b2n n.isSome, 1), (0, 2), (n.getD 0, 8), (0, 8),
    (Config.memberCode s.board.member, 16), (1, 8)]
  else if off = 0x08 then capsField s.board.member
  else if off = 0x10 then (match s.instOf k with
    | some i => pack [((s.inst i).state.code, 3), (b2n (s.inst i).safety, 1), (0, 4), ((s.inst i).cause, 2)]
    | none => 0)
  else if off = 0x18 then (match s.instOf k with
    | some i => (s.genOf (hInst i)).toNat
    | none => 0)
  else if off = 0x20 then (match s.instOf k with
    | some i => (s.inst i).credits
    | none => 0)
  else if off = 0x24 then (match s.instOf k with
    | some i => pack [(s.creditsHeld i, 16), (b2n (s.starved k i), 1)]
    | none => 0)
  else if 0x100 ≤ off ∧ off < 0x180 then (f.sq.get ((off - 0x100) / 0x20)).register (off % 0x20)
  else if off = 0x180 then f.rqBase
  else if off = 0x188 then f.rqSize
  else if off = 0x18C then pack [(f.rqVector, 8), (b2n f.rqNotify, 1)]
  else if off = 0x190 then f.rqTail.toNat
  else if off = 0x194 then f.rqStalls
  else if off = 0x198 then f.rqShadow
  else if off = 0x1A0 then f.eqBase
  else if off = 0x1A8 then f.eqSize
  else if off = 0x1B0 then f.eqTail.toNat
  else if off = 0x1B4 then f.eqOverflow
  else if off = 0x1B8 then f.eqShadow
  else if 0x200 ≤ off ∧ off < 0x220 ∧ off % 8 = 0 then (f.sq.get ((off - 0x200) / 8)).tail.toNat
  else if off = 0x220 then f.rqHead.toNat
  else if off = 0x228 then f.eqHead.toNat
  else if off = 0x300 then s.devTime
  else if 0x400 ≤ off ∧ off < 0x420 ∧ off % 8 = 0 then bitsOf f.evtMask (8 * (off - 0x400)) 64
  else if 0x500 ≤ off ∧ off < 0xD00 ∧ off % 8 = 0 then f.evtVec.get ((off - 0x500) / 8)
  else if 0x1000 ≤ off ∧ off < 0x1200 ∧ off % 16 = 0 then (f.msix.get ((off - 0x1000) / 16)).addr
  else if 0x1000 ≤ off ∧ off < 0x1200 ∧ off % 16 = 8 then (f.msix.get ((off - 0x1000) / 16)).data
  else if 0x1000 ≤ off ∧ off < 0x1200 ∧ off % 16 = 12 then b2n (f.msix.get ((off - 0x1000) / 16)).masked
  else if off = 0x1800 then f.pba
  else 0

/-- Offsets at which a 64-bit register begins. -/
def bar0Wide (off : Nat) : Bool :=
  [0x00, 0x08, 0x180, 0x198, 0x1A0, 0x1B8, 0x300, 0x1800].contains off ||
    (decide (0x100 ≤ off) && decide (off < 0x180) && decide (off % 0x20 = 0)) ||
    (decide (0x1000 ≤ off) && decide (off < 0x1200) && decide (off % 16 = 0)) ||
    (decide (0x400 ≤ off) && decide (off < 0x420) && decide (off % 8 = 0))

/-- The 32-bit word at an offset that is a multiple of 4. -/
def State.bar0Word (s : State) (port fn off : Nat) : Nat :=
  if off % 8 = 4 && bar0Wide (off - 4) then bitsOf (s.bar0Register port fn (off - 4)) 32 32
  else s.bar0Register port fn off % 2 ^ 32

/-- A host's naturally aligned read of 4 or 8 bytes of BAR0. A 32-bit read of the lower half of DEV_TIME fills the function's
shadow, and the next one of the upper half returns it and frees it (R45). -/
def State.readBar0 (s : State) (port fn off : Nat) (wide : Bool) : State :=
  let k := fnKey port fn
  if !s.fnExists port fn then s
  else if !s.barServed port fn then s.setBus (List.replicate (if wide then 8 else 4) 0xFF)
  else if wide then s.setBus (leBytes 4 (s.bar0Word port fn off) ++ leBytes 4 (s.bar0Word port fn (off + 4)))
  else if off = 0x300 then
    (s.updFn k (fun f => { f with shadowHi := some (s.devTime / 2 ^ 32 % 2 ^ 32) })).setBus (leBytes 4 s.devTime)
  else if off = 0x304 then
    (s.updFn k (fun f => { f with shadowHi := none })).setBus (leBytes 4 (((s.fn k).shadowHi).getD (s.devTime / 2 ^ 32)))
  else s.setBus (leBytes 4 (s.bar0Word port fn off))

end Sys2Proof.Machine
end

