-- ==== Sys2Proof/WellFormed.lean ====
section
/-!
DEFINITION. Well-formed commands: every operand lies in the range that its field, register or unit class has in the spec
(01 Unit handles; 03 R105; 00 R1), on the largest member.
-/

namespace Sys2Proof

/-- A number below a bound. -/
def below (n x : Nat) : Bool := decide (x < n)

/-- A host port, a function of a port (the PF and up to 16 VFs), an instance or 0xFF for none. -/
def portOk (p : Nat) : Bool := below 4 p
def fnOk (f : Nat) : Bool := decide (f ≤ 16)
def instOk (n : Nat) : Bool := decide (n ≤ 16) || decide (n = 0xFF)

/-- A unit handle of a defined class (R19). -/
def handleOk (h : Nat) : Bool := below (2 ^ 16) h && Member.zl8808.classDefined h

/-- At most `n` bytes. -/
def bytesOk (n : Nat) (bs : List Byte) : Bool := decide (bs.length ≤ n)

/-- A sender of packets. -/
def Source.ok : Source → Bool
  | .sq port fn ring => portOk port && fnOk fn && below 4 ring
  | .mgmt tag => below 8 tag

/-- An accepted packet: TARGET has 16 bits, the payload at most 4,076 bytes (R105). -/
def packetOk (p : Packet) : Bool :=
  decide (p.inst ≤ 16) && p.src.ok && below (2 ^ 16) p.target && decide (p.words.length ≤ 1019)

/-- Where replies are written. -/
def pathOk : Path → Bool
  | .fn port fn => portOk port && fnOk fn
  | .mgmt => true

/-- A host access of 1 to 4,096 bytes. -/
def accessOk : Access → Bool
  | .read len => decide (1 ≤ len) && decide (len ≤ 4096)
  | .write data => decide (1 ≤ data.length) && decide (data.length ≤ 4096)

/-- A packet behind a gateway call, an error record's fields, a channel that trained otherwise, a sag's cause. -/
def causeOk : Option Packet → Bool
  | some p => packetOk p
  | none => true
def recordOk : Option ErrArg → Bool
  | some a => below (2 ^ 16) a.code && below 5 a.severity && handleOk a.unit && instOk a.inst && below (2 ^ 256) a.detail
  | none => true
def channelOk : Option Nat → Bool
  | some c => decide (1 ≤ c) && below 8 c
  | none => true
def sagOk (c : Nat) : Bool := decide (1 ≤ c) && decide (c ≤ 3)

/-- Well-formed commands. -/
def Instr.wellFormed (i : Instr) : Bool :=
  match i with
  | .nop p => packetOk p
  | .deviceCaps p => packetOk p
  | .ledgerRead p => packetOk p
  | .eventFetch p => packetOk p
  | .loopSetBounds p => packetOk p
  | .loopSetPinPresent p => packetOk p
  | .loopSetPinValue p => packetOk p
  | .loopSetUnpin p => packetOk p
  | .portConfig p => packetOk p
  | .deviceReset p => packetOk p
  | .instCreate p => packetOk p
  | .instBind p => packetOk p
  | .instQuotaSet p => packetOk p
  | .instQuiesce p => packetOk p
  | .instReset p => packetOk p
  | .instFreeze p => packetOk p
  | .instSave p => packetOk p
  | .instRestore p => packetOk p
  | .instThaw p => packetOk p
  | .instDestroy p => packetOk p
  | .memMap p => packetOk p
  | .memUnmap p => packetOk p
  | .copy p => packetOk p
  | .memConfigRegions p => packetOk p
  | .memConfigNeighbourRefresh p => packetOk p
  | .memConfigScheduler p => packetOk p
  | .memConfigClassWays p => packetOk p
  | .surfaceCreate p => packetOk p
  | .surfaceDestroy p => packetOk p
  | .writeBegin p => packetOk p
  | .writeEnd p => packetOk p
  | .seal p => packetOk p
  | .retireFence p => packetOk p
  | .shaderLoad p => packetOk p
  | .pipelineCreate p => packetOk p
  | .pipelineDestroy p => packetOk p
  | .queueConfigDepth p => packetOk p
  | .queueConfigCache p => packetOk p
  | .queueConfigEvict p => packetOk p
  | .queueConfigLimits p => packetOk p
  | .submit p => packetOk p
  | .hopperGrant p => packetOk p
  | .layerSet p => packetOk p
  | .layerRelease p => packetOk p
  | .commit p => packetOk p
  | .motionHint p => packetOk p
  | .coefLoad p => packetOk p
  | .zfloorSet p => packetOk p
  | .toneSet p => packetOk p
  | .panelLutSet p => packetOk p
  | .pipeTiming p => packetOk p
  | .pipeTimingLeadOnly p => packetOk p
  | .pipeEnable p => packetOk p
  | .lineMatchSet p => packetOk p
  | .regionMonSet p => packetOk p
  | .linkConfig p => packetOk p
  | .routeSet p => packetOk p
  | .dscAssign p => packetOk p
  | .panelPowerOff p => packetOk p
  | .panelPowerOn p => packetOk p
  | .panelPowerConfigure p => packetOk p
  | .backlightSet p => packetOk p
  | .streamSet p => packetOk p
  | .touchPanelConfig p => packetOk p
  | .touchMode p => packetOk p
  | .touchReportSetup p => packetOk p
  | .touchReportReturn p => packetOk p
  | .touchSelftest p => packetOk p
  | .wakeZoneSet p => packetOk p
  | .effectLoad p => packetOk p
  | .effectPlay p => packetOk p
  | .effectStop p => packetOk p
  | .clickRegionSet p => packetOk p
  | .actuatorCheck p => packetOk p
  | .actuatorCharacterise p => packetOk p
  | .actuatorConfigure p => packetOk p
  | .streamOpen p => packetOk p
  | .streamBuffers p => packetOk p
  | .streamClose p => packetOk p
  | .gainSet p => packetOk p
  | .mixRouteInput p => packetOk p
  | .mixRouteDest p => packetOk p
  | .tdmConfigPort p => packetOk p
  | .tdmConfigMixer p => packetOk p
  | .tdmConfigPdm p => packetOk p
  | .lowlatSet p => packetOk p
  | .alarmSourceSet p => packetOk p
  | .tonePlay p => packetOk p
  | .toneStop p => packetOk p
  | .powerState p => packetOk p
  | .powerStatePipe p => packetOk p
  | .keepAwake p => packetOk p
  | .powerConfig p => packetOk p
  | .powerConfigRelease p => packetOk p
  | .telemetryRead p => packetOk p
  | .errorRead p => packetOk p
  | .beanRead p => packetOk p
  | .beanAudit p => packetOk p
  | .factSweep p => packetOk p
  | .inject p => packetOk p
  | .status p => packetOk p
  | .random p => packetOk p
  | .attest p => packetOk p
  | .fallbackSet p => packetOk p
  | .layerEscalate p => packetOk p
  | .pipeEscalate p => packetOk p
  | .tonePattern p => packetOk p
  | .alarmTest p => packetOk p
  | .migrationKeyInstall p => packetOk p
  | .migrationKeyErase p => packetOk p
  | .debugChallenge p => packetOk p
  | .debugResponse p => packetOk p
  | .refillBegin p => packetOk p
  | .refillData p => packetOk p
  | .refillCommit p => packetOk p
  | .refillAbort p => packetOk p
  | .slotSelect p => packetOk p
  | .calRead p => packetOk p
  | .usercalStore p => packetOk p
  | .usercalErase p => packetOk p
  | .usercalWrite p => packetOk p
  | .recalTouch p => packetOk p
  | .recalHaptic p => packetOk p
  | .recalDram p => packetOk p
  | .recalMic p => packetOk p
  | .sqTailDoorbell port fn ring tail => portOk port && fnOk fn && below 4 ring && below (2 ^ 32) tail
  | .sqResume port fn ring => portOk port && fnOk fn && below 4 ring
  | .ringSizeWrite port fn ring value => portOk port && fnOk fn && below 6 ring && below (2 ^ 64) value
  | .ringHeadWrite port fn _ value => portOk port && fnOk fn && below (2 ^ 64) value
  | .evtMaskWrite port fn k value => portOk port && fnOk fn && below 4 k && below (2 ^ 64) value
  | .devTimeLowRead port fn => portOk port && fnOk fn
  | .bar0BadAccess port fn _ => portOk port && fnOk fn
  | .registerWrite port fn offset value => portOk port && fnOk fn && below (2 ^ 16) offset && below (2 ^ 64) value
  | .hostBar2Access port fn addr acc => portOk port && fnOk fn && below (2 ^ 64) addr && accessOk acc
  | .hostBar4Access port fn addr acc => portOk port && fnOk fn && below (2 ^ 64) addr && accessOk acc
  | .hostAtomicop port fn bar addr _ _ _ => portOk port && fnOk fn && below 6 bar && below (2 ^ 64) addr
  | .eicSourceEdge source => below 512 source
  | .eicClaim target => below 5 target
  | .eicComplete target id => below 5 target && below 512 id
  | .eicPendWithdraw target source => below 5 target && below 512 source
  | .mailboxFullSet _ slot data => below 16 slot && bytesOk 64 data
  | .gatewayCall core slot entry inst data cause opcode => below 4 core && below 16 slot && below 64 entry && instOk inst && bytesOk 64 data && causeOk cause && below (2 ^ 16) opcode
  | .gatewayReturn slot data => below 16 slot && bytesOk 64 data
  | .gatewayTimeout slot => below 16 slot
  | .packetAccept port fn ring bytes => portOk port && fnOk fn && below 4 ring && bytesOk 4096 bytes
  | .replyWrite path => pathOk path
  | .eventWrite port fn => portOk port && fnOk fn
  | .smbusTransaction bytes => bytesOk 260 bytes
  | .mctpIbnovMessage tag _ bytes => below 8 tag && bytesOk 4096 bytes
  | .basicRegisterRead reg _ => below 256 reg
  | .basicRegisterWrite reg data => below 256 reg && bytesOk 256 data
  | .recoveryStart unit => below 8 unit
  | .recoveryData data => bytesOk 256 data
  | .recoveryCommit => true
  | .setEndpointId op eid => below 4 op && below 256 eid
  | .getEndpointId => true
  | .getEndpointUuid => true
  | .getMctpVersionSupport msgType => below 256 msgType
  | .getMessageTypeSupport => true
  | .getVendorDefinedMessageSupport selector => below 256 selector
  | .errorUnsupportedCmd command => below 256 command
  | .mctpMessageTimeout tag => below 8 tag
  | .functionLevelReset port fn => portOk port && fnOk fn
  | .busMasterEnableCleared port fn => portOk port && fnOk fn
  | .vfEnableCleared port _ numVfs => portOk port && below (2 ^ 16) numVfs
  | .perstNAsserted port => portOk port
  | .perstNDeasserted port => portOk port
  | .hostLinkUp port => portOk port
  | .hostLinkDown port => portOk port
  | .configRequest port fn _ value => portOk port && fnOk fn && below (2 ^ 64) value
  | .quiesceDrained inst => instOk inst
  | .freezeSaved inst => instOk inst
  | .resetScrubbed inst => instOk inst
  | .autoreset inst => instOk inst
  | .drainBoundExpiry inst _ => instOk inst
  | .wedgedEngineFree unit => handleOk unit
  | .ledgerFact unit fact => handleOk unit && below (2 ^ 16) fact
  | .ledgerFactCleared unit => handleOk unit
  | .settled unit => handleOk unit
  | .ledgerResync _ => true
  | .loopConstrained unit loop => handleOk unit && below 32 loop
  | .beanSweep _ => true
  | .neighbourRefresh channel _ _ => below 8 channel
  | .neighbourReseed => true
  | .requestPromoted channel _ => below 8 channel
  | .dramRetrain channel _ => below 8 channel
  | .dramEccError channel _ region inst iaddr => below 8 channel && below 4 region && instOk inst && below (2 ^ 40) iaddr
  | .scrubPass => true
  | .spadEccUncorr block offset => below 2048 block && below 4096 offset
  | .copyPacketStart inst seq => instOk inst && below (2 ^ 32) seq
  | .copyDescriptorDone engine _ => below 8 engine
  | .hostCompletionError engine _ => below 8 engine
  | .hostCompletionTimeout engine _ => below 8 engine
  | .busTimeout inst initiator unit _ _ => instOk inst && handleOk initiator && handleOk unit
  | .gateRequest unit _ => handleOk unit
  | .writeWindowClosed inst surface => instOk inst && below (2 ^ 32) surface
  | .shaderCompileDone inst seq _ _ _ => instOk inst && below (2 ^ 32) seq
  | .compileAbandoned inst seq => instOk inst && below (2 ^ 32) seq
  | .submitStart inst queue _ => instOk inst && below 4 queue
  | .schedulingDecision => true
  | .urgencyEvaluation => true
  | .preemptRequest cluster => below 16 cluster
  | .clusterFree cluster => below 16 cluster
  | .hopperFault inst queue _ => instOk inst && below 4 queue
  | .hopperGrantWaitExpiry inst queue => instOk inst && below 4 queue
  | .hopperFlushed inst queue => instOk inst && below 4 queue
  | .binTileDone inst queue _ _ _ => instOk inst && below 4 queue
  | .workgroupTimeLimit inst queue cluster => instOk inst && below 4 queue && below 16 cluster
  | .submitComplete inst queue _ => instOk inst && below 4 queue
  | .clusterOffline cluster _ => below 16 cluster
  | .frameStart pipe => below 8 pipe
  | .latchLine pipe => below 8 pipe
  | .bandWindowOpen pipe band => below 8 pipe && below 256 band
  | .bandCompose _ => true
  | .bandScanoutEnd pipe => below 8 pipe
  | .scanoutUnderrun pipe line column => below 8 pipe && below (2 ^ 16) line && below (2 ^ 16) column
  | .scanoutRelease inst surface => instOk inst && below (2 ^ 32) surface
  | .lineMatch pipe line => below 8 pipe && below (2 ^ 16) line
  | .frameDone pipe => below 8 pipe
  | .vblankStart pipe _ => below 8 pipe
  | .quietWindow pipe _ => below 8 pipe
  | .pixelPllLocked pipe => below 8 pipe
  | .pixHeld pipe => below 8 pipe
  | .pixRelockAttempt pipe _ => below 8 pipe
  | .pixOfflineRetry pipe _ => below 8 pipe
  | .pixUnlockAtStop pipe => below 8 pipe
  | .regionMonFrame monitor => below 128 monitor
  | .regionMonMissing monitor => below 128 monitor
  | .hpdLow unit => handleOk unit
  | .hpdIrq unit _ => handleOk unit
  | .hpdRise unit edid => handleOk unit && bytesOk 4096 edid
  | .linkTrainingDone unit _ lanes _ => handleOk unit && below 5 lanes
  | .trainRetry unit => handleOk unit
  | .panelSequenceStep unit => handleOk unit
  | .d2dFrame _ _ => true
  | .d2dLinkLost _ => true
  | .d2dLinkRetry => true
  | .d2dLinkUp => true
  | .touchPanelStart panel _ _ _ _ => below 4 panel
  | .touchBurst panel _ => below 4 panel
  | .touchFrame panel _ _ => below 4 panel
  | .touchLong panel id => below 4 panel && below 256 id
  | .touchAbsorbed panel => below 4 panel
  | .gloveModeExit panel => below 4 panel
  | .wetExit panel => below 4 panel
  | .steepWakeScan panel _ => below 4 panel
  | .effectStart channel _ _ _ _ => below 8 channel
  | .effectDone channel => below 8 channel
  | .boostReady => true
  | .boostOff => true
  | .hvFault cause _ _ => below 4 cause
  | .hvRetry _ _ _ => true
  | .forceSample channel _ => below 8 channel
  | .bufferDone k => below 32 k
  | .streamXrun k _ => below 32 k
  | .streamStart k => below 32 k
  | .audxLost _ => true
  | .audxRestored _ => true
  | .zcTimeout _ _ _ => true
  | .toneEnd voice => below 8 voice
  | .audioClip output _ => below 24 output
  | .limiterStep output _ _ => below 24 output
  | .alarmFloorStep => true
  | .sunLoopStep stage _ => below 8 stage
  | .colourGuardStep stage => below 8 stage
  | .refreshDerating channel _ => below 8 channel
  | .thermalSample _ => true
  | .adaptiveVoltageStep _ _ => true
  | .secureWdogKick => true
  | .secureWdog => true
  | .cupperSramUncorr => true
  | .cupperRestart => true
  | .secViolation initiator inst _ _ => handleOk initiator && instOk inst
  | .alarmTestEnd => true
  | .pllHoldover port => portOk port
  | .refclkFail _ _ => true
  | .refclkHealthy port _ => portOk port
  | .refSwitchBack port => portOk port
  | .warmrcCheck _ => true
  | .xtalLost => true
  | .pllUnlock domain => below 31 domain
  | .pllRelockAttempt domain _ => below 31 domain
  | .steepAutoCheck => true
  | .wakeSource source _ _ => below 8 source
  | .hostWake port => portOk port
  | .shelfExit source _ _ => below 8 source
  | .pgoodTimeout => true
  | .supplySag cause _ _ _ => sagOk cause
  | .supplyRestored => true
  | .railFall rail _ => below 4 rail
  | .errorRecord record => recordOk record
  | .resetNLow => true
  | .resetNRise => true
  | .fullReset => true
  | .boot healthy mismatch _ => below 16 healthy && channelOk mismatch
  | .bootNoReference mismatch => channelOk mismatch
  | .flashSfdpTimeout healthy => below 16 healthy
  | .supplySagAtBoot => true
  | .scrubDone => true
  | .refillTimeout => true
  | .refillDeferredTaken unit part => below 8 unit && handleOk part
  | .zeroCrossing _ _ _ => true
  | .memLost => true
  | .thermalTripRelease _ => true
  | .jtagAccess _ => true
  | .eicEnableWrite target source _ => below 5 target && below 512 source
  | .eicRouteWrite source target => below 512 source && below 5 target

end Sys2Proof
end

