-- ==== Sys2Proof/Tests/Slice0.lean ====
section
/-!
SUPPORT. Tests: ill-formed commands that the checks refuse, numbers of the spec's own tables and worked examples, single
steps, and for every statement with hypotheses a witness that states and operands meet them, clause by clause.
-/

namespace Sys2Proof.Tests

open Sys2Proof.Machine

set_option maxRecDepth 20000

/-- The device after its boot, with no other command executed. -/
def up : State := { State.reset with boot := { State.reset.boot with stage := 6 } }

/-- A packet of the manager from ring 0 of its function. -/
def pk (target : Nat) (ws : List Nat) : Packet :=
  { inst := 0, src := .sq 0 0 0, seq := 1, barrier := false, barrierAll := false, interim := false, notify := false,
    target := target, basegen := 0, words := ws.map w32 }

/-- A packet of instance `n` from ring 1 of function `n`. -/
def gk (n target : Nat) (ws : List Nat) : Packet := { pk target ws with inst := n, src := .sq 0 n 1 }

/-! ### Well-formedness -/

/-- A packet whose TARGET does not fit its field, an error record, and work of the Roaster that does nothing. -/
def badPacket : Packet := pk 0x10000 []
def err (code severity unit inst detail : Nat) : ErrArg :=
  { code := code, severity := severity, unit := unit, inst := inst, seq := 0, detail := detail }
def emptyWork : GpuWork := { accesses := [], descs := [], samples := [], outOfRange := 0, splits := 0 }

/-- An ill-formed packet for each of its checks (R105), and a packet at the bounds. -/
theorem test_wf_packet :
    (packetOk (gk 17 0 []) || packetOk { pk 0 [] with src := .sq 4 0 0 } || packetOk { pk 0 [] with src := .sq 0 17 0 } ||
      packetOk { pk 0 [] with src := .sq 0 0 4 } || packetOk { pk 0 [] with src := .mgmt 8 } || packetOk badPacket) = false ∧
      packetOk { pk 0xFFFF [0] with inst := 16, src := .sq 3 16 3 } = true := by decide

/-- A payload of more than 4,076 bytes (R105), and packets and accesses of more than 4,096 bytes. -/
theorem test_wf_lengths : (Instr.nop { pk 0 [] with words := List.replicate 1020 0 }).wellFormed = false ∧
    (Instr.packetAccept 0 0 0 (List.replicate 4097 0)).wellFormed = false ∧
    (Instr.mctpIbnovMessage 0 false (List.replicate 4097 0)).wellFormed = false ∧
    (Instr.hpdRise 0 (List.replicate 4097 0)).wellFormed = false ∧
    (Instr.hostBar2Access 0 0 0 (.write (List.replicate 4097 0))).wellFormed = false := by
  simp [Instr.wellFormed, packetOk, bytesOk, accessOk]

/-- Commands with one operand one past its range, part 1. -/
theorem test_wf_refused_1 : (
    [.sqTailDoorbell 4 16 3 0xffffffff, .sqTailDoorbell 3 17 3 0xffffffff, .sqTailDoorbell 3 16 4 0xffffffff,
     .sqTailDoorbell 3 16 3 0x100000000, .sqResume 4 16 3, .sqResume 3 17 3, .sqResume 3 16 4,
     .ringSizeWrite 4 16 5 0xffffffffffffffff, .ringSizeWrite 3 17 5 0xffffffffffffffff,
     .ringSizeWrite 3 16 6 0xffffffffffffffff, .ringSizeWrite 3 16 5 0x10000000000000000,
     .ringHeadWrite 4 16 false 0xffffffffffffffff, .ringHeadWrite 3 17 false 0xffffffffffffffff,
     .ringHeadWrite 3 16 false 0x10000000000000000, .evtMaskWrite 4 16 3 0xffffffffffffffff,
     .evtMaskWrite 3 17 3 0xffffffffffffffff, .evtMaskWrite 3 16 4 0xffffffffffffffff,
     .evtMaskWrite 3 16 3 0x10000000000000000, .devTimeLowRead 4 16, .devTimeLowRead 3 17, .bar0BadAccess 4 16 false,
     .bar0BadAccess 3 17 false, .registerWrite 4 16 0xffff 0xffffffffffffffff, .registerWrite 3 17 0xffff 0xffffffffffffffff,
     .registerWrite 3 16 0x10000 0xffffffffffffffff, .registerWrite 3 16 0xffff 0x10000000000000000,
     .hostBar2Access 4 16 0xffffffffffffffff (.read 4096), .hostBar2Access 3 17 0xffffffffffffffff (.read 4096),
     .hostBar2Access 3 16 0x10000000000000000 (.read 4096), .hostBar2Access 3 16 0xffffffffffffffff (.read 0),
     .hostBar2Access 3 16 0xffffffffffffffff (.read 4097), .hostBar2Access 3 16 0xffffffffffffffff (.write []),
     .hostBar4Access 4 16 0xffffffffffffffff (.read 4096), .hostBar4Access 3 17 0xffffffffffffffff (.read 4096),
     .hostBar4Access 3 16 0x10000000000000000 (.read 4096), .hostBar4Access 3 16 0xffffffffffffffff (.read 0),
     .hostBar4Access 3 16 0xffffffffffffffff (.read 4097), .hostBar4Access 3 16 0xffffffffffffffff (.write []),
     .hostAtomicop 4 16 5 0xffffffffffffffff .fetchAdd false 0, .hostAtomicop 3 17 5 0xffffffffffffffff .fetchAdd false 0,
     .hostAtomicop 3 16 6 0xffffffffffffffff .fetchAdd false 0, .hostAtomicop 3 16 5 0x10000000000000000 .fetchAdd false 0,
     .eicSourceEdge 512, .eicClaim 5, .eicComplete 5 511, .eicComplete 4 512, .eicPendWithdraw 5 511, .eicPendWithdraw 4 512,
     .mailboxFullSet false 16 (List.replicate 64 0), .mailboxFullSet false 15 (List.replicate 65 0),
     .gatewayCall 4 15 63 0xFF (List.replicate 64 0) (some (pk 0 [])) 0xffff,
     .gatewayCall 3 16 63 0xFF (List.replicate 64 0) (some (pk 0 [])) 0xffff,
     .gatewayCall 3 15 64 0xFF (List.replicate 64 0) (some (pk 0 [])) 0xffff,
     .gatewayCall 3 15 63 17 (List.replicate 64 0) (some (pk 0 [])) 0xffff,
     .gatewayCall 3 15 63 0xFE (List.replicate 64 0) (some (pk 0 [])) 0xffff,
     .gatewayCall 3 15 63 0x100 (List.replicate 64 0) (some (pk 0 [])) 0xffff,
     .gatewayCall 3 15 63 0xFF (List.replicate 65 0) (some (pk 0 [])) 0xffff,
     .gatewayCall 3 15 63 0xFF (List.replicate 64 0) (some badPacket) 0xffff,
     .gatewayCall 3 15 63 0xFF (List.replicate 64 0) (some (pk 0 [])) 0x10000, .gatewayReturn 16 (List.replicate 64 0),
     .gatewayReturn 15 (List.replicate 65 0), .gatewayTimeout 16]
    : List Instr).all (fun i => !i.wellFormed) = true := by decide

/-- Commands with one operand one past its range, part 2. -/
theorem test_wf_refused_2 : (
    [.packetAccept 4 16 3 [], .packetAccept 3 17 3 [], .packetAccept 3 16 4 [], .replyWrite (.fn 4 0), .replyWrite (.fn 0 17),
     .eventWrite 4 16, .eventWrite 3 17, .smbusTransaction (List.replicate 261 0), .mctpIbnovMessage 8 false [],
     .basicRegisterRead 256 0, .basicRegisterWrite 256 (List.replicate 256 0), .basicRegisterWrite 255 (List.replicate 257 0),
     .recoveryStart 8, .recoveryData (List.replicate 257 0), .setEndpointId 4 255, .setEndpointId 3 256,
     .getMctpVersionSupport 256, .getVendorDefinedMessageSupport 256, .errorUnsupportedCmd 256, .mctpMessageTimeout 8,
     .functionLevelReset 4 16, .functionLevelReset 3 17, .busMasterEnableCleared 4 16, .busMasterEnableCleared 3 17,
     .vfEnableCleared 4 false 0xffff, .vfEnableCleared 3 false 0x10000, .perstNAsserted 4, .perstNDeasserted 4, .hostLinkUp 4,
     .hostLinkDown 4, .configRequest 4 16 .read 0xffffffffffffffff, .configRequest 3 17 .read 0xffffffffffffffff,
     .configRequest 3 16 .read 0x10000000000000000, .quiesceDrained 17, .quiesceDrained 0xFE, .quiesceDrained 0x100,
     .freezeSaved 17, .freezeSaved 0xFE, .freezeSaved 0x100, .resetScrubbed 17, .resetScrubbed 0xFE, .resetScrubbed 0x100,
     .autoreset 17, .autoreset 0xFE, .autoreset 0x100, .drainBoundExpiry 17 [], .drainBoundExpiry 0xFE [],
     .drainBoundExpiry 0x100 [], .wedgedEngineFree 0x10000, .wedgedEngineFree 0xFF00, .ledgerFact 0x10000 0xffff,
     .ledgerFact 0xFF00 0xffff, .ledgerFact 0x0000 0x10000, .ledgerFactCleared 0x10000, .ledgerFactCleared 0xFF00,
     .settled 0x10000, .settled 0xFF00, .loopConstrained 0x10000 31, .loopConstrained 0xFF00 31, .loopConstrained 0x0000 32,
     .neighbourRefresh 8 0 0, .requestPromoted 8 0]
    : List Instr).all (fun i => !i.wellFormed) = true := by decide

/-- Commands with one operand one past its range, part 3. -/
theorem test_wf_refused_3 : (
    [.dramRetrain 8 false, .dramEccError 8 false 3 0xFF 0xffffffffff, .dramEccError 7 false 4 0xFF 0xffffffffff,
     .dramEccError 7 false 3 17 0xffffffffff, .dramEccError 7 false 3 0xFE 0xffffffffff,
     .dramEccError 7 false 3 0x100 0xffffffffff, .dramEccError 7 false 3 0xFF 0x10000000000, .spadEccUncorr 2048 4095,
     .spadEccUncorr 2047 4096, .copyPacketStart 17 0xffffffff, .copyPacketStart 0xFE 0xffffffff,
     .copyPacketStart 0x100 0xffffffff, .copyPacketStart 0xFF 0x100000000, .copyDescriptorDone 8 [], .hostCompletionError 8 0,
     .hostCompletionTimeout 8 0, .busTimeout 17 0x0000 0x0000 false 0, .busTimeout 0xFE 0x0000 0x0000 false 0,
     .busTimeout 0x100 0x0000 0x0000 false 0, .busTimeout 0xFF 0x10000 0x0000 false 0, .busTimeout 0xFF 0xFF00 0x0000 false 0,
     .busTimeout 0xFF 0x0000 0x10000 false 0, .busTimeout 0xFF 0x0000 0xFF00 false 0, .gateRequest 0x10000 false,
     .gateRequest 0xFF00 false, .writeWindowClosed 17 0xffffffff, .writeWindowClosed 0xFE 0xffffffff,
     .writeWindowClosed 0x100 0xffffffff, .writeWindowClosed 0xFF 0x100000000, .shaderCompileDone 17 0xffffffff 0 [] 0,
     .shaderCompileDone 0xFE 0xffffffff 0 [] 0, .shaderCompileDone 0x100 0xffffffff 0 [] 0,
     .shaderCompileDone 0xFF 0x100000000 0 [] 0, .compileAbandoned 17 0xffffffff, .compileAbandoned 0xFE 0xffffffff,
     .compileAbandoned 0x100 0xffffffff, .compileAbandoned 0xFF 0x100000000, .submitStart 17 3 emptyWork,
     .submitStart 0xFE 3 emptyWork, .submitStart 0x100 3 emptyWork, .submitStart 0xFF 4 emptyWork, .preemptRequest 16,
     .clusterFree 16, .hopperFault 17 3 0, .hopperFault 0xFE 3 0, .hopperFault 0x100 3 0, .hopperFault 0xFF 4 0,
     .hopperGrantWaitExpiry 17 3, .hopperGrantWaitExpiry 0xFE 3, .hopperGrantWaitExpiry 0x100 3, .hopperGrantWaitExpiry 0xFF 4,
     .hopperFlushed 17 3, .hopperFlushed 0xFE 3, .hopperFlushed 0x100 3, .hopperFlushed 0xFF 4, .binTileDone 17 3 0 false [],
     .binTileDone 0xFE 3 0 false [], .binTileDone 0x100 3 0 false [], .binTileDone 0xFF 4 0 false [],
     .workgroupTimeLimit 17 3 15, .workgroupTimeLimit 0xFE 3 15, .workgroupTimeLimit 0x100 3 15]
    : List Instr).all (fun i => !i.wellFormed) = true := by decide

/-- Commands with one operand one past its range, part 4. -/
theorem test_wf_refused_4 : (
    [.workgroupTimeLimit 0xFF 4 15, .workgroupTimeLimit 0xFF 3 16, .submitComplete 17 3 emptyWork,
     .submitComplete 0xFE 3 emptyWork, .submitComplete 0x100 3 emptyWork, .submitComplete 0xFF 4 emptyWork,
     .clusterOffline 16 0, .frameStart 8, .latchLine 8, .bandWindowOpen 8 255, .bandWindowOpen 7 256, .bandScanoutEnd 8,
     .scanoutUnderrun 8 0xffff 0xffff, .scanoutUnderrun 7 0x10000 0xffff, .scanoutUnderrun 7 0xffff 0x10000,
     .scanoutRelease 17 0xffffffff, .scanoutRelease 0xFE 0xffffffff, .scanoutRelease 0x100 0xffffffff,
     .scanoutRelease 0xFF 0x100000000, .lineMatch 8 0xffff, .lineMatch 7 0x10000, .frameDone 8, .vblankStart 8 0,
     .quietWindow 8 false, .pixelPllLocked 8, .pixHeld 8, .pixRelockAttempt 8 false, .pixOfflineRetry 8 false,
     .pixUnlockAtStop 8, .regionMonFrame 128, .regionMonMissing 128, .hpdLow 0x10000, .hpdLow 0xFF00, .hpdIrq 0x10000 false,
     .hpdIrq 0xFF00 false, .hpdRise 0x10000 [], .hpdRise 0xFF00 [], .linkTrainingDone 0x10000 false 4 0,
     .linkTrainingDone 0xFF00 false 4 0, .linkTrainingDone 0x0000 false 5 0, .trainRetry 0x10000, .trainRetry 0xFF00,
     .panelSequenceStep 0x10000, .panelSequenceStep 0xFF00, .touchPanelStart 4 0 [] [] [], .touchBurst 4 0,
     .touchFrame 4 [] [], .touchLong 4 255, .touchLong 3 256, .touchAbsorbed 4, .gloveModeExit 4, .wetExit 4,
     .steepWakeScan 4 [], .effectStart 8 0 false 0 0, .effectDone 8, .hvFault 4 0 0, .forceSample 8 0, .bufferDone 32,
     .streamXrun 32 0, .streamStart 32, .toneEnd 8, .audioClip 24 []]
    : List Instr).all (fun i => !i.wellFormed) = true := by decide

/-- Commands with one operand one past its range, part 5. -/
theorem test_wf_refused_5 : (
    [.limiterStep 24 0 0, .sunLoopStep 8 none, .colourGuardStep 8, .refreshDerating 8 0, .secViolation 0x10000 0xFF false 0,
     .secViolation 0xFF00 0xFF false 0, .secViolation 0x0000 17 false 0, .secViolation 0x0000 0xFE false 0,
     .secViolation 0x0000 0x100 false 0, .pllHoldover 4, .refclkHealthy 4 0, .refSwitchBack 4, .pllUnlock 31,
     .pllRelockAttempt 31 false, .wakeSource 8 0 0, .hostWake 4, .shelfExit 8 0 false, .supplySag 0 0 false false,
     .supplySag 4 0 false false, .railFall 4 0, .errorRecord (some (err 0x10000 0 0 0 0)), .errorRecord (some (err 0 5 0 0 0)),
     .errorRecord (some (err 0 0 0x10000 0 0)), .errorRecord (some (err 0 0 0 17 0)),
     .errorRecord (some (err 0 0 0 0 (2 ^ 256))), .boot 16 (some 7) false, .boot 15 (some 0) false, .boot 15 (some 8) false,
     .bootNoReference (some 0), .bootNoReference (some 8), .flashSfdpTimeout 16, .refillDeferredTaken 8 0x0000,
     .refillDeferredTaken 7 0x10000, .refillDeferredTaken 7 0xFF00, .eicEnableWrite 5 511 false, .eicEnableWrite 4 512 false,
     .eicRouteWrite 512 4, .eicRouteWrite 511 5]
    : List Instr).all (fun i => !i.wellFormed) = true := by decide

/-- Commands with every operand at the end of its range, part 1. -/
theorem test_wf_accepted_1 : (
    [.sqTailDoorbell 3 16 3 0xffffffff, .sqResume 3 16 3, .ringSizeWrite 3 16 5 0xffffffffffffffff,
     .ringHeadWrite 3 16 false 0xffffffffffffffff, .evtMaskWrite 3 16 3 0xffffffffffffffff, .devTimeLowRead 3 16,
     .bar0BadAccess 3 16 false, .registerWrite 3 16 0xffff 0xffffffffffffffff,
     .hostBar2Access 3 16 0xffffffffffffffff (.read 4096), .hostBar4Access 3 16 0xffffffffffffffff (.read 4096),
     .hostAtomicop 3 16 5 0xffffffffffffffff .fetchAdd false 0, .eicSourceEdge 511, .eicClaim 4, .eicComplete 4 511,
     .eicPendWithdraw 4 511, .mailboxFullSet false 15 (List.replicate 64 0),
     .gatewayCall 3 15 63 0xFF (List.replicate 64 0) (some (pk 0 [])) 0xffff, .gatewayReturn 15 (List.replicate 64 0),
     .gatewayTimeout 15, .packetAccept 3 16 3 [], .replyWrite (.fn 3 16), .eventWrite 3 16,
     .smbusTransaction (List.replicate 260 0), .mctpIbnovMessage 7 false [], .basicRegisterRead 255 0,
     .basicRegisterWrite 255 (List.replicate 256 0), .recoveryStart 7, .recoveryData (List.replicate 256 0),
     .setEndpointId 3 255, .getMctpVersionSupport 255, .getVendorDefinedMessageSupport 255, .errorUnsupportedCmd 255,
     .mctpMessageTimeout 7, .functionLevelReset 3 16, .busMasterEnableCleared 3 16, .vfEnableCleared 3 false 0xffff,
     .perstNAsserted 3, .perstNDeasserted 3, .hostLinkUp 3, .hostLinkDown 3, .configRequest 3 16 .read 0xffffffffffffffff,
     .quiesceDrained 0xFF, .freezeSaved 0xFF, .resetScrubbed 0xFF, .autoreset 0xFF, .drainBoundExpiry 0xFF [],
     .wedgedEngineFree 0x0000, .ledgerFact 0x0000 0xffff, .ledgerFactCleared 0x0000, .settled 0x0000,
     .loopConstrained 0x0000 31, .neighbourRefresh 7 0 0, .requestPromoted 7 0, .dramRetrain 7 false,
     .dramEccError 7 false 3 0xFF 0xffffffffff, .spadEccUncorr 2047 4095, .copyPacketStart 0xFF 0xffffffff,
     .copyDescriptorDone 7 [], .hostCompletionError 7 0, .hostCompletionTimeout 7 0, .busTimeout 0xFF 0x0000 0x0000 false 0,
     .gateRequest 0x0000 false]
    : List Instr).all Instr.wellFormed = true := by decide

/-- Commands with every operand at the end of its range, part 2. -/
theorem test_wf_accepted_2 : (
    [.writeWindowClosed 0xFF 0xffffffff, .shaderCompileDone 0xFF 0xffffffff 0 [] 0, .compileAbandoned 0xFF 0xffffffff,
     .submitStart 0xFF 3 emptyWork, .preemptRequest 15, .clusterFree 15, .hopperFault 0xFF 3 0, .hopperGrantWaitExpiry 0xFF 3,
     .hopperFlushed 0xFF 3, .binTileDone 0xFF 3 0 false [], .workgroupTimeLimit 0xFF 3 15, .submitComplete 0xFF 3 emptyWork,
     .clusterOffline 15 0, .frameStart 7, .latchLine 7, .bandWindowOpen 7 255, .bandScanoutEnd 7,
     .scanoutUnderrun 7 0xffff 0xffff, .scanoutRelease 0xFF 0xffffffff, .lineMatch 7 0xffff, .frameDone 7, .vblankStart 7 0,
     .quietWindow 7 false, .pixelPllLocked 7, .pixHeld 7, .pixRelockAttempt 7 false, .pixOfflineRetry 7 false,
     .pixUnlockAtStop 7, .regionMonFrame 127, .regionMonMissing 127, .hpdLow 0x0000, .hpdIrq 0x0000 false, .hpdRise 0x0000 [],
     .linkTrainingDone 0x0000 false 4 0, .trainRetry 0x0000, .panelSequenceStep 0x0000, .touchPanelStart 3 0 [] [] [],
     .touchBurst 3 0, .touchFrame 3 [] [], .touchLong 3 255, .touchAbsorbed 3, .gloveModeExit 3, .wetExit 3,
     .steepWakeScan 3 [], .effectStart 7 0 false 0 0, .effectDone 7, .hvFault 3 0 0, .forceSample 7 0, .bufferDone 31,
     .streamXrun 31 0, .streamStart 31, .toneEnd 7, .audioClip 23 [], .limiterStep 23 0 0, .sunLoopStep 7 none,
     .colourGuardStep 7, .refreshDerating 7 0, .secViolation 0x0000 0xFF false 0, .pllHoldover 3, .refclkHealthy 3 0,
     .refSwitchBack 3, .pllUnlock 30]
    : List Instr).all Instr.wellFormed = true := by decide

/-- Commands with every operand at the end of its range, part 3. -/
theorem test_wf_accepted_3 : (
    [.pllRelockAttempt 30 false, .wakeSource 7 0 0, .hostWake 3, .shelfExit 7 0 false, .supplySag 3 0 false false,
     .railFall 3 0, .errorRecord (some (err 0 0 0 0 0)), .boot 15 (some 7) false, .bootNoReference (some 7),
     .flashSfdpTimeout 15, .refillDeferredTaken 7 0x0000, .eicEnableWrite 4 511 false, .eicRouteWrite 511 4]
    : List Instr).all Instr.wellFormed = true := by decide

/-! ### Numbers of the spec's own tables and worked examples -/

/-- The nine bytes "123456789" of R121. -/
def nine : List Byte := [0x31, 0x32, 0x33, 0x34, 0x35, 0x36, 0x37, 0x38, 0x39]

/-- 03 R121: the four check values. -/
theorem test_check_values : crc32c nine = 0xE3069283 ∧ crc32 nine = 0xCBF43926 ∧ crc16 nine = 0x29B1 ∧ crc8 nine = 0xF4 := by
  decide

/-- 06, the 16 GiB console: regions of 6,144, 768 and 420 blocks, the last with ECC. -/
theorem test_region_blocks :
    [({ chmask := 0xFF, grain := 12, ecc := false, retain := false, sizeMiB := 12288 } : MemRegion),
      { chmask := 0x7E, grain := 16, ecc := false, retain := false, sizeMiB := 1536 },
      { chmask := 0x81, grain := 12, ecc := true, retain := true, sizeMiB := 960 }].map MemRegion.blocks = [6144, 768, 420] := by
  decide

/-- 13, CVT-RB2 3840 × 2160. -/
def cvt (lead : Nat) : Timing :=
  { pclk := 522667, hact := 3840, hfp := 8, hsync := 32, hbp := 40, vact := 2160, vfp := 48, vsync := 8, vbp := 6, hpos := true,
    vpos := false, lead := lead, qwMode := 0, qwGuard := 0 }

/-- 13, the latch lines for LEAD 1 to 4, 2,222 lines in all, a line of 7.5 µs and band slots of 1,966,080 bytes. -/
theorem test_latch_lines :
    [1, 2, 3, 4].map (fun n => (cvt n).latch) = [2158, 2094, 2030, 1966] ∧ (cvt 2).vtotal = 2222 ∧ (cvt 2).linesNs 1 = 7499 ∧
      bandBytes 3840 = 1966080 := by
  decide

/-- 12, the deck camera at two thirds: positions 0 to 2, their taps' places and phases. -/
theorem test_scaler_positions :
    [0, 1, 2].map (fun u => scalePos 1920 1280 u 0 0) = [262144, 1835008, 3407872] ∧
      [262144, 1835008, 3407872].map phaseOf = [(0, 16), (1, 48), (3, 16)] ∧ (tapsAt 8 0 1920 0).take 4 = [0, 0, 0, 0] := by
  decide

/-- 12 R360: each phase of bank 0 sums to 256. -/
theorem test_coefficient_sum : (bank0 8 1920 1280 16).sum = 256 ∧ (bank0 6 1080 720 48).sum = 256 := by decide

/-- 07, a 3840 × 2160 ARGB8888 surface: 60 × 34 tiles of 16 KiB, 8 bytes of side-table each. -/
def chart : Surface :=
  { iaddr := 0, width := 3840, height := 2160, format := 2, isSealed := true, gen := 8, isOpen := false, keep := false,
    writers := 0, closing := none, dead := false, silent := false, table := Tab.empty }
theorem test_surface_tiles : chart.tw = 60 ∧ chart.th = 34 ∧ chart.size = 60 * 34 * 16384 ∧ chart.tableBytes = 16320 := by decide

/-- 11, eight 4K pipes: budget rows and columns of the chart, the camera, the overlay and the panel. -/
def lay (sx sy sw sh dx dy dw dh : Nat) : LayerState :=
  { LayerState.empty with srcX := sx, srcY := sy, srcW := sw, srcH := sh, dstX := dx, dstY := dy, dstW := dw, dstH := dh }
def layers4k : List (Bool × LayerState) :=
  [(false, lay 0 0 3840 2160 0 0 3840 2160), (true, lay 0 0 1920 1080 1920 0 1920 1080), (false, lay 0 0 3840 256 0 0 3840 256),
    (false, lay 0 0 512 512 3264 1600 512 512)]
theorem test_budget_rows :
    layers4k.map (fun x => (budgetRows x.1 x.2 Hint.zero, budgetCols x.2)) = [(1, 60), (1, 30), (1, 60), (1, 8)] := by decide

/-- 08, a pipeline with REGS 40: 51 resident waves. -/
theorem test_waves : waves 40 = 51 := by decide

/-- 09 R284: a 1920 × 1200 pass has 2,280 bin tiles, MINPAGES 5 and, for 20,000 triangles with C = 8, H = 44. -/
def pass1200 : Token := { offset := 0, op := 1, words := [0, 0, 1200 * 65536 + 1920, 0] }
theorem test_pass_quantities : pass1200.binTiles = 2280 ∧ pass1200.minPages = 5 ∧ passPages pass1200 20000 8 = 44 := by decide

/-- 15, a hand on the screen: a node of B_s 30,000 at 20 °C stands at 30,180 at 5 °C with TC −400 ppm/°C. -/
theorem test_expected_base :
    expectedBase (List.replicate 8 0 ++ leBytes 2 200 ++ [0, 0] ++ leBytes 4 (2 ^ 32 - 400) ++ leBytes 2 30000) 0 0 50 = 30180 := by
  decide

/-- 15, the bursts of a touch frame: ten with NTX 40, NFREQ 8 and NACC 2, twelve with WATER, seven with NACC 1 and WATER. -/
def panel40 (nacc : Nat) (water : Bool) : TPanel :=
  { TPanel.reset with cfg := { TouchCfg.off with ntx := 40, nrx := 24, nfreq := 8, nacc := nacc }, mode := { TPanel.reset.mode with water := water } }
theorem test_bursts :
    (panel40 2 false).burstsNeeded = 10 ∧ (panel40 2 true).burstsNeeded = 12 ∧ (panel40 1 true).burstsNeeded = 7 := by decide

/-- 16, a trigger during braking: effect 12 on 220 nF at 230 Hz holds 41 tokens. -/
def effect12 : Effect :=
  { shape := 0, freq := 0, attack := 2, overdrive := 96, sustain := 6, ampl := 600, brake := 3, brakeLvl := 64 }
theorem test_haptic_tokens : tokensFor { HChan.reset with capPf := 220000, fres := 230 } effect12 256 = 41 := by decide

/-- 14, two 4K pipes over one MST link of four lanes: 10 bpc does not fit HBR3, 8 bpc does, and 10 bpc fits UHBR10. -/
def mstLink (rate bpc : Nat) : State :=
  let tx : LinkUnit := { LinkUnit.reset with
    cfg := { LinkCfg.off with lanes := 4, rate := rate, mst := true }
    stream0 := { Stream.reset with route := some 0, attr := { Attr.reset with bpc := bpc } }
    stream1 := { Stream.reset with route := some 1, attr := { Attr.reset with bpc := bpc } } }
  let s := (up.updPipe 0 (fun q => { q with timing := cvt 2 })).updPipe 1 (fun q => { q with timing := cvt 2 })
  s.updLink 0x1000 (fun _ => tx)
theorem test_link_admission :
    (mstLink 3 10).linkFitsAll 0x1000 = false ∧ (mstLink 3 8).linkFitsAll 0x1000 = true ∧ (mstLink 4 10).linkFitsAll 0x1000 = true ∧
      (mstLink 2 8).linkFitsAll 0x1000 = false := by
  decide

/-! ### One step each -/

/-- What a step leaves of one thing, where it answers a next state. -/
def after {α : Type} (c : Instr) (s : State) (f : State → α) : Option α :=
  match step (s.setPending [c]) with
  | .next t => some (f t)
  | _ => none

/-- 04, a withdrawn request: Barista core 1 with line match 209 of pipe 1 and the doorbells 101 of function 2.3. -/
def core1 (pend : List Nat) (service : Nat) (notice : Bool) : State :=
  up.setEic { up.eic with
    pend := pend.foldl (fun t k => t.set (pendKey 1 k) true) up.eic.pend
    en := (up.eic.en.set (1024 + 209) true).set (1024 + 101) true
    route := (up.eic.route.set 209 1).set 101 1
    service := up.eic.service.set 1 service
    notice := up.eic.notice.set 1 notice }

/-- Step 1: the line match pends, the line rises and NOTICE is set. -/
theorem test_eic_edge :
    after (.eicSourceEdge 209) (core1 [] 0 false) (fun t => (t.eic.pend.get (pendKey 1 209), t.eic.line 1, t.eic.notice.get 1)) =
      some (true, true, true) := by decide

/-- Step 2: the claim reads 209, puts it into service and the line falls. -/
theorem test_eic_claim :
    after (.eicClaim 1) (core1 [209] 0 true) (fun t => (leNat t.bus, t.eic.service.get 1, t.eic.line 1)) = some (209, 209, false) := by
  decide

/-- Step 4: 209 is completed, and 101 makes the line rise. -/
theorem test_eic_complete :
    after (.eicComplete 1 209) (core1 [101] 209 false) (fun t => (t.eic.service.get 1, t.eic.line 1, t.eic.notice.get 1)) =
      some (0, true, true) := by decide

/-- Step 6: after the fence withdrew 101, the claim reads 1023 and NOTICE clears. -/
theorem test_eic_spurious :
    after (.eicClaim 1) (core1 [] 0 true) (fun t => (leNat t.bus, t.eic.notice.get 1, t.eic.service.get 1)) = some (1023, false, 0) := by
  decide

/-- 03, a packet that wraps: the tail 0x3060 on a ring of 4,096 bytes with head and tail at 0x2FC0 is accepted, a tail of
4,112 bytes or off the grid of 16 is counted and ignored. -/
def ring2 : State := (up.setPorts (up.ports.set 0 { Port.reset with vfEnable := true, numVfs := 16 })).updFn (fnKey 0 2) (fun f => { f with sq := f.sq.set 2 { Sq.reset with size := 4096, head := 0x2FC0, tail := 0x2FC0 } })
theorem test_doorbell :
    [0x3060, 0x3FD0, 0x3061].map (fun tail => after (.sqTailDoorbell 0 2 2 tail) ring2 (fun t => ((t.fn (fnKey 0 2)).sq.get 2).tail)) =
      [some 0x3060, some 0x2FC0, some 0x2FC0] := by decide

/-- 05 R156: NOP answers its payload. -/
theorem test_nop :
    after (.nop (pk 0 [5, 6])) up (fun t => t.tp.replies.map (fun r => (r.status, r.result))) = some [(.ok, [5, 6])] := by decide

/-- 01 R20: a generation skips 0. -/
theorem test_generation_skips_zero : nextGen 0xFFFFFFFF = 1 ∧ nextGen 5 = 6 := by decide

/-- 03 R100: FN_CAPS of a ZL-8808, from the counts of 00 R1. -/
theorem test_fn_caps : up.bar0Word 0 0 8 = 538054920 ∧ up.bar0Word 0 0 12 = 5322818 := by decide

/-- 01 R45: after a read of the lower half of DEV_TIME, the next one of the upper half returns the shadow, a further one the
live value. -/
theorem test_dev_time_shadow :
    let s := (((up.setDevTime (5 * 2 ^ 32 + 7)).readBar0 0 0 0x300 false).setDevTime (6 * 2 ^ 32)).readBar0 0 0 0x304 false
    s.bus = [5, 0, 0, 0] ∧ (s.readBar0 0 0 0x304 false).bus = [6, 0, 0, 0] := by decide

/-! ### Witnesses -/

/-- An error record as the witnesses need it. -/
def rec (code sev unit : Nat) : ErrRec :=
  { code := code, severity := sev, escalated := false, superseded := false, prior := false, injected := false,
    handled := false, inst := 0xFF, unit := unit, count := 1, time := 0, seqno := 1, related := 0, seq := 0, detail := 0,
    offlineAt := false, downAt := false }

/-- The device with these records in its error queue. -/
def withQueue (q : List ErrRec) : State := up.setErr { up.err with queue := q }

/-- The device with this record in handling. -/
def inHand (r : ErrRec) : State := up.setErr { up.err with handling := some r }

/-- The device with another entry of the ledger. -/
def withEntry (h : Nat) (e : Entry) : State := up.setLedger (up.ledger.set h e)

/-- The device with a packet of the manager's ring already accepted and not yet answered. -/
def upNop : Packet := pk hDevice [1]

/-- That packet in progress, with this generation noted when it was applied. -/
def upApplied : Accepted := { p := upNop, opcode := 0x1004, applied := true, newgen := some 7 }

/-- States and operands that meet the hypotheses of StepRunsFrontCommand, clause by clause. -/
theorem witness_StepRunsFrontCommand :
    (∃ (c : Instr) (cs : List Instr) (s : State), s.pending = c :: cs) :=
      ⟨.settled 0, [], up.setPending [.settled 0], rfl⟩

/-- States and operands that meet the hypotheses of PacketBytesReadBack, clause by clause. -/
theorem witness_PacketBytesReadBack :
    (∃ (h : Header) (payload : List W32), h.opcode < 2 ^ 16 ∧ h.flags < 2 ^ 8 ∧ h.hdrver = 1 ∧ h.prio < 2 ^ 4 ∧ h.seq < 2 ^ 32 ∧
      h.length = 4 * payload.length ∧ h.length ≤ 4076 ∧ h.target < 2 ^ 16 ∧ h.basegen < 2 ^ 32) :=
      ⟨{ opcode := 0xFFFF, flags := 0xFF, hdrver := 1, prio := 15, seq := 2 ^ 32 - 1, length := 4, target := 0xFFFF, basegen := 2 ^ 32 - 1 },
      [0xFFFFFFFF], by decide, by decide, by decide, by decide, by decide, by decide, by decide, by decide, by decide⟩

/-- States and operands that meet the hypotheses of ResetLeavesSpecValues, clause by clause. -/
theorem witness_ResetLeavesSpecValues :
    (∃ (n : _), n ≠ 0) :=
      ⟨16, by decide⟩

/-- States and operands that meet the hypotheses of GenerationsAdvanceAndSkipZero, clause by clause. -/
theorem witness_GenerationsAdvanceAndSkipZero :
    (∃ (g : W32), g ≠ 0xFFFFFFFF) ∧
    (∃ (s : State) (h : Nat) (j : _), s.ledger.wf = true ∧ j ≠ h) ∧
    (∃ (s : State) (h : Nat), s.ledger.wf = true ∧ (s.entry h).agree = .settling) :=
  ⟨
    ⟨0xFFFFFFFE, by decide⟩,
    ⟨up, hPipe 0, hPipe 1, by decide, by decide⟩,
    ⟨withEntry (hPipe 0) { gen := 5, agree := .settling, fact := 0 }, hPipe 0, by decide, by decide⟩⟩

/-- States and operands that meet the hypotheses of FactsContradictAndClear, clause by clause. -/
theorem witness_FactsContradictAndClear :
    (∃ (s : State) (h : Nat) (f : Nat), s.present h = true ∧ f ≠ 0 ∧ s.ledger.wf = true) ∧
    (∃ (s : State) (h : Nat), s.present h = true ∧ s.ledger.wf = true ∧ (s.entry h).agree = .contradicted) ∧
    (∃ (s : State) (h : Nat), s.present h = true ∧ s.ledger.wf = true ∧ (s.entry h).agree = .settling) ∧
    (∃ (s : State) (h : Nat), s.present h = true) :=
  ⟨
    ⟨up, hPipe 7, 1, by decide, by decide, by decide⟩,
    ⟨withEntry (hPipe 0) { gen := 0xFFFFFFFF, agree := .contradicted, fact := 1 }, hPipe 0, by decide, by decide, by decide⟩,
    ⟨withEntry (hPipe 0) { gen := 5, agree := .settling, fact := 0 }, hPipe 0, by decide, by decide, by decide⟩,
    ⟨up, hPipe 0, by decide⟩⟩

/-- States and operands that meet the hypotheses of FinalReplyEchoesPacket, clause by clause. -/
theorem witness_FinalReplyEchoesPacket :
    (∃ (s : State) (p : Packet) (st : Status) (a : _) (g : _), s.tp.voided.any (samePacket p) = false ∧ st ≠ .noUnit ∧
      s.tp.accepted.find? (fun a => samePacket a.p p) = some a ∧ a.newgen = some g) ∧
    (∃ (s : State) (p : Packet) (st : Status), s.tp.voided.any (samePacket p) = false ∧ (∀ a, a ∈ s.tp.accepted → samePacket a.p p
      = true → a.newgen = none) ∧ st ≠ .noUnit) :=
  ⟨
    ⟨up.setTp { up.tp with accepted := [upApplied] }, upNop, .ok, upApplied, 7, by decide, by decide, by decide, by decide⟩,
    ⟨up, pk 0 [], .ok, by decide, by decide, by decide⟩⟩

/-- States and operands that meet the hypotheses of ErrorQueueMergesAndKeepsFirst, clause by clause. -/
theorem witness_ErrorQueueMergesAndKeepsFirst :
    (∃ (s : State) (code : Nat) (sev : Nat) (unit : Nat) (inst : Nat) (q : List ErrRec) (r : ErrRec), s.err.queue = q ++ [r] ∧ sev
      ≤ 1 ∧ r.code = code ∧ r.unit = unit ∧ r.inst = inst ∧ r.prior = false ∧ s.devTime ≤ r.time + 1000000) ∧
    (∃ (s : State) (code : Nat) (sev : Nat) (unit : Nat) (inst : Nat), (∀ r, s.err.queue.getLast? = some r → 2 ≤ sev ∨ r.code ≠
      code ∨ r.unit ≠ unit ∨ r.inst ≠ inst ∨ r.prior = true ∨ r.time + 1000000 < s.devTime) ∧ s.err.queue.length < 64) ∧
    (∃ (s : State) (code : Nat) (sev : Nat) (unit : Nat) (inst : Nat) (q : List ErrRec) (l : ErrRec), (∀ r, s.err.queue.getLast? =
      some r → 2 ≤ sev ∨ r.code ≠ code ∨ r.unit ≠ unit ∨ r.inst ≠ inst ∨ r.prior = true ∨ r.time + 1000000 < s.devTime) ∧
      s.err.queue = q ++ [l] ∧ q.length = 63) ∧
    (∃ (s : State) (code : Nat) (sev : Nat) (unit : Nat) (inst : Nat) (h : _), (∀ r, s.err.queue.getLast? = some r → 2 ≤ sev ∨
      r.code ≠ code ∨ r.unit ≠ unit ∨ r.inst ≠ inst ∨ r.prior = true ∨ r.time + 1000000 < s.devTime) ∧ s.err.handling = some h ∧
      h.unit = unit ∧ h.severity < sev) ∧
    (∃ (s : State) (code : Nat) (sev : Nat) (unit : Nat) (inst : Nat), (∀ r, s.err.queue.getLast? = some r → 2 ≤ sev ∨ r.code ≠
      code ∨ r.unit ≠ unit ∨ r.inst ≠ inst ∨ r.prior = true ∨ r.time + 1000000 < s.devTime) ∧ (∀ h, s.err.handling = some h →
      h.unit ≠ unit ∨ sev ≤ h.severity)) :=
  ⟨
    ⟨(withQueue [rec 0x1002 1 (hChannel 0)]).setDevTime 1000000, 0x1002, 1, hChannel 0, 0xFF, [], rec 0x1002 1 (hChannel 0),
      rfl, by decide, by decide, by decide, by decide, by decide, by decide⟩,
    ⟨withQueue (List.replicate 63 (rec 0x1003 4 (hChannel 0))), 0x1002, 1, hChannel 0, 0xFF,
      by intro r h; have : r = rec 0x1003 4 (hChannel 0) := Option.some.inj (h.symm.trans (by decide)); subst this; decide,
      by decide⟩,
    ⟨withQueue (List.replicate 63 (rec 0x1003 4 (hChannel 0)) ++ [rec 0x1002 2 (hChannel 0)]), 0x1002, 2, hChannel 0, 0xFF,
      List.replicate 63 (rec 0x1003 4 (hChannel 0)), rec 0x1002 2 (hChannel 0), by intro r _; exact Or.inl (by decide), rfl,
      by decide⟩,
    ⟨inHand (rec 0x1002 2 (hChannel 0)), 0x1002, 3, hChannel 0, 0xFF, rec 0x1002 2 (hChannel 0),
      by intro r _; exact Or.inl (by decide), rfl, by decide, by decide⟩,
    ⟨inHand (rec 0x1002 2 (hChannel 0)), 0x1002, 2, hChannel 0, 0xFF, by intro r _; exact Or.inl (by decide),
      by intro h e; have : h = rec 0x1002 2 (hChannel 0) := Option.some.inj (e.symm.trans rfl); subst this; decide⟩⟩

/-- States and operands that meet the hypotheses of PacketsWaitOrAreRefusedUnchanged, clause by clause. -/
theorem witness_PacketsWaitOrAreRefusedUnchanged :
    (∃ (c : Instr) (op : Op) (own : Bool) (p : Packet) (s : State), packetRow s c = some (op, own, p) ∧ s.blocked p = true) ∧
    (∃ (c : Instr) (op : Op) (own : Bool) (p : Packet) (s : State) (st : _), packetRow s c = some (op, own, p) ∧ s.blocked p =
      false ∧ s.verdict op own p = some st) :=
  ⟨
    ⟨.nop upNop, opNop, true, upNop, State.reset, rfl, by decide⟩,
    ⟨.nop (pk 0xFF00 []), opNop, true, pk 0xFF00 [], up, .badParam, rfl, by decide, by decide⟩⟩

/-- States and operands that meet the hypotheses of ChecksAnswerInOrder, clause by clause. -/
theorem witness_ChecksAnswerInOrder :
    (∃ (s : State) (p : Packet), s.boot.stage = 6 ∧ p.inst ≠ 0 ∧ s.isSafety p.inst = false ∧ p.src.ring = 0) ∧
    (∃ (s : State) (op : Op) (p : Packet), s.boot.stage = 6 ∧ p.src.ring ≠ 0 ∧ op.mark = .m ∧ p.inst ≠ 0) ∧
    (∃ (s : State) (op : Op) (p : Packet), s.boot.stage = 6 ∧ p.inst = 0 ∧ op.code / 4096 ≠ 6 ∧ op.code / 4096 ≠ 7 ∧
      s.board.member.classDefined p.target = false) ∧
    (∃ (s : State) (op : Op) (p : Packet), s.boot.stage = 6 ∧ p.inst = 0 ∧ op.code / 4096 ≠ 6 ∧ op.code / 4096 ≠ 7 ∧
      s.board.member.classDefined p.target = true ∧ s.present p.target = false) ∧
    (∃ (s : State) (op : Op) (p : Packet), s.boot.stage = 6 ∧ p.inst = 0 ∧ op.code / 4096 ≠ 6 ∧ op.code / 4096 ≠ 7 ∧ s.present
      p.target = true) ∧
    (∃ (s : State) (op : Op) (p : Packet), s.boot.stage = 6 ∧ p.inst = 0 ∧ op.code / 4096 ≠ 6 ∧ op.code / 4096 ≠ 7 ∧ s.present
      p.target = true ∧ p.basegen ≠ 0 ∧ p.basegen ≠ s.genOf p.target) ∧
    (∃ (s : State) (op : Op) (p : Packet), s.boot.stage = 6 ∧ p.inst = 0 ∧ op.code / 4096 ≠ 6 ∧ op.code / 4096 ≠ 7 ∧ s.present
      p.target = true ∧ (p.basegen = 0 ∨ p.basegen = s.genOf p.target)) :=
  ⟨
    ⟨up, { gk 16 0x0210 [] with src := .sq 0 16 0 }, by decide, by decide, by decide, by decide⟩,
    ⟨up, opDeviceReset, gk 1 0 [], by decide, by decide, by decide, by decide⟩,
    ⟨up, opNop, pk 0x1F00 [], by decide, by decide, by decide, by decide, by decide⟩,
    ⟨up, opNop, pk (hPipe 8) [], by decide, by decide, by decide, by decide, by decide, by decide⟩,
    ⟨up, opNop, pk (hPipe 7) [], by decide, by decide, by decide, by decide, by decide⟩,
    ⟨up, opNop, { pk (hPipe 7) [] with basegen := 2 }, by decide, by decide, by decide, by decide, by decide, by decide,
      by decide⟩,
    ⟨up, opNop, { pk (hPipe 7) [] with basegen := 1 }, by decide, by decide, by decide, by decide, by decide, by decide⟩⟩

/-- States and operands that meet the hypotheses of DeviceReadsComplete, clause by clause. -/
theorem witness_DeviceReadsComplete :
    (∃ (p : Packet) (s : State) (u : State), u = s.markApplied p ∧ s.takes opNop true p = true ∧ p.target = hDevice ∧ p.length ≤
      4076) ∧
    (∃ (p : Packet) (s : State) (u : State), u = s.markApplied p ∧ s.takes opNop true p = true ∧ p.target ≠ hDevice) ∧
    (∃ (p : Packet) (s : State) (u : State), u = s.markApplied p ∧ s.takes opDeviceCaps true p = true ∧ p.target = hDevice ∧
      p.length = 0) ∧
    (∃ (p : Packet) (s : State) (u : State), u = s.markApplied p ∧ s.takes opLedgerRead true p = true ∧ p.length = 4 ∧ p.fld 16 8
      24 = 0) ∧
    (∃ (p : Packet) (s : State) (u : State) (v : State) (k : Nat), u = s.markApplied p ∧ s.takes opEventFetch true p = true ∧
      p.target = hDevice ∧ p.length = 4 ∧ p.fld 16 8 24 = 0 ∧ 1 ≤ p.fld 16 0 8 ∧ p.fld 16 0 8 ≤ 64 ∧ v = u.settleManager ∧ k =
      v.managerFn ∧ (v.fn k).lost = 0) :=
  ⟨
    ⟨pk hDevice (List.replicate 1019 0), up, _, rfl, by decide, by decide, by decide⟩,
    ⟨pk (hInst 0) [], up, _, rfl, by decide, by decide⟩,
    ⟨pk hDevice [], up, _, rfl, by decide, by decide, by decide⟩,
    ⟨pk (hPipe 7) [0xFF], up, _, rfl, by decide, by decide, by decide⟩,
    ⟨pk hDevice [64], up, _, _, _, rfl, by decide, by decide, by decide, by decide, by decide, by decide, rfl, rfl, by decide⟩⟩

/-- States and operands that meet the hypotheses of PortConfigAndDeviceResetComplete, clause by clause. -/
theorem witness_PortConfigAndDeviceResetComplete :
    (∃ (p : Packet) (s : State) (u : State) (k : _), u = s.markApplied p ∧ s.takes opPortConfig true p = true ∧ p.target = 0x0100 +
      k ∧ k < 256 ∧ p.length = 4 ∧ sizeByteOk 26 32 (p.u8 16) = true ∧ sizeByteOk 26 32 (p.u8 17) = true ∧ sizeByteOk 12 20 (p.u8
      18) = true ∧ sizeByteOk 12 20 (p.u8 19) = true ∧ ((s.ports.get k).vfEnable = true → p.u8 17 = 0 ∧ p.u8 19 = 0) ∧ ((s.fn (32 *
      k)).memorySpace = true → p.u8 16 = 0 ∧ p.u8 18 = 0)) ∧
    (∃ (p : Packet) (s : State) (u : State), u = s.markApplied p ∧ s.takes opDeviceReset true p = true ∧ p.target = hDevice ∧
      p.length = 8 ∧ p.u32 16 = 0x52535430 ∧ p.fld 20 1 31 = 0 ∧ s.err.resetWanted = false) ∧
    (∃ (p : Packet) (s : State) (u : State), u = s.markApplied p ∧ s.takes opDeviceReset true p = true ∧ p.target = hDevice ∧
      p.length = 8 ∧ p.u32 16 = 0x52535430 ∧ p.fld 20 1 31 = 0 ∧ s.err.resetWanted = true) :=
  ⟨
    ⟨pk (hPort 3) [0x140C201A], up, _, 3, rfl, by decide, by decide, by decide, by decide, by decide, by decide, by decide,
      by decide, by decide, by decide⟩,
    ⟨pk hDevice [0x52535430, 1], up, _, rfl, by decide, by decide, by decide, by decide, by decide, by decide⟩,
    ⟨pk hDevice [0x52535430, 1], up.setErr { up.err with resetWanted := true }, _, rfl, by decide, by decide, by decide,
      by decide, by decide, by decide⟩⟩

/-- States and operands that meet the hypotheses of LoopCommandsComplete, clause by clause. -/
theorem witness_LoopCommandsComplete :
    (∃ (p : Packet) (s : State) (u : State) (i : Nat) (l : Loop), u = s.markApplied p ∧ i = p.u8 16 ∧ s.takes opLoopSet (s.mayLoop
      p) p = true ∧ s.loop p.target i = some l ∧ p.length = 16 ∧ p.u16 18 = 0 ∧ p.u8 17 = 0 ∧ p.u32 20 ≤ p.u32 24 ∧ p.u32 24 ≤
      loopMax p.target i ∧ loopMin p.target i ≤ p.u32 20 ∧ isLimiter p = false) ∧
    (∃ (p : Packet) (s : State) (u : State) (i : Nat) (l : Loop), u = s.markApplied p ∧ i = p.u8 16 ∧ s.takes opLoopSet (s.mayLoop
      p) p = true ∧ s.loop p.target i = some l ∧ p.length = 16 ∧ p.u16 18 = 0 ∧ p.u8 17 = 1) ∧
    (∃ (p : Packet) (s : State) (u : State) (i : Nat) (l : Loop), u = s.markApplied p ∧ i = p.u8 16 ∧ s.takes opLoopSet (s.mayLoop
      p) p = true ∧ s.loop p.target i = some l ∧ p.length = 16 ∧ p.u16 18 = 0 ∧ p.u8 17 = 2 ∧ p.u32 28 ≤ loopMax p.target i) ∧
    (∃ (p : Packet) (s : State) (u : State) (i : Nat) (l : Loop), u = s.markApplied p ∧ i = p.u8 16 ∧ s.takes opLoopSet (s.mayLoop
      p) p = true ∧ s.loop p.target i = some l ∧ p.length = 16 ∧ p.u16 18 = 0 ∧ p.u8 17 = 3) ∧
    (∃ (p : Packet) (s : State) (u : State) (i : Nat) (l : Loop) (h : _), u = s.markApplied p ∧ i = p.u8 16 ∧ s.present h = true ∧
      s.loop h i = some l ∧ l.state = .free ∧ (l.target < l.low ∨ l.high < l.target)) ∧
    (∃ (p : Packet) (s : State) (u : State) (i : Nat) (l : Loop) (h : _), u = s.markApplied p ∧ i = p.u8 16 ∧ s.present h = true ∧
      s.loop h i = some l ∧ l.state = .constrained ∧ l.low ≤ l.target ∧ l.target ≤ l.high) :=
  ⟨
    ⟨pk (hColour 7) [0x0000, 0, 65535, 0], up, _, _, Loop.mk0 16384 65535 16384, rfl, rfl, by decide, by decide, by decide,
      by decide, by decide, by decide, by decide, by decide, by decide⟩,
    ⟨pk (hColour 7) [0x0100, 0, 0, 0], up, _, _, _, rfl, rfl, by decide, rfl, by decide, by decide, by decide⟩,
    ⟨pk (hColour 7) [0x0200, 0, 0, 65535], up, _, _, _, rfl, rfl, by decide, rfl, by decide, by decide, by decide, by decide⟩,
    ⟨pk (hColour 7) [0x0300, 0, 0, 0], up, _, _, _, rfl, rfl, by decide, rfl, by decide, by decide, by decide⟩,
    ⟨pk (hColour 7) [0], up.putLoop (hColour 7) 0 { Loop.mk0 16384 65535 16384 with target := 65536 }, _, _,
      { Loop.mk0 16384 65535 16384 with target := 65536 }, hColour 7, rfl, rfl, by decide, by decide, by decide, by decide⟩,
    ⟨pk (hColour 7) [0], up.putLoop (hColour 7) 0 { Loop.mk0 16384 65535 16384 with target := 65535, state := .constrained },
      _, _, { Loop.mk0 16384 65535 16384 with target := 65535, state := .constrained }, hColour 7, rfl, rfl, by decide,
      by decide, by decide, by decide, by decide⟩⟩

/-- States and operands that meet the hypotheses of DiagnosticsComplete, clause by clause. -/
theorem witness_DiagnosticsComplete :
    (∃ (p : Packet) (s : State) (u : State) (size : _), u = s.markApplied p ∧ p.target = hDevice ∧ s.takes opTelemetryRead true p =
      true ∧ p.length = 4 ∧ (teleSize (p.u8 16)).isSome = true ∧ s.mayReadTele p.inst (p.u8 16) (p.u8 17) = true ∧ s.scopePresent
      (p.u8 16) (p.u8 17) = true ∧ teleSize (p.u8 16) = some size) ∧
    (∃ (p : Packet) (s : State) (u : State), u = s.markApplied p ∧ p.target = hDevice ∧ s.takes opErrorRead true p = true ∧
      p.length = 4 ∧ p.u16 18 = 0 ∧ p.u8 16 ≤ 63 ∧ p.u8 17 ≤ 64) ∧
    (∃ (p : Packet) (s : State) (u : State) (pool : _), u = s.markApplied p ∧ p.target = hDevice ∧ s.takes opBeanRead true p = true
      ∧ p.length = 4 ∧ p.fld 16 4 28 = 0 ∧ pool = p.fld 16 0 4 ∧ pool ≤ 9) ∧
    (∃ (p : Packet) (s : State) (u : State) (pool : _), u = s.markApplied p ∧ p.target = hDevice ∧ s.takes opBeanRead true p = true
      ∧ p.length = 4 ∧ p.fld 16 4 28 = 0 ∧ pool = p.fld 16 0 4 ∧ pool = 15) ∧
    (∃ (p : Packet) (s : State) (u : State), u = s.markApplied p ∧ p.target = hDevice ∧ s.takes opDiagRun true p = true ∧ p.length
      = 4 ∧ p.word 16 = 1 ∧ (∀ i, i < 10 → u.poolBalanced i = true)) ∧
    (∃ (p : Packet) (s : State) (u : State), u = s.markApplied p ∧ p.target = hDevice ∧ s.takes opDiagRun true p = true ∧ p.length
      = 4 ∧ p.word 16 = 2) ∧
    (∃ (p : Packet) (s : State) (u : State), u = s.markApplied p ∧ p.target = hDevice ∧ s.takes opDiagRun true p = true ∧ p.length
      = 12 ∧ p.word 16 = 3 ∧ p.u8 23 = 0 ∧ p.fld 26 3 13 = 0 ∧ (p.u8 22 ≤ 16 ∨ p.u8 22 = 0xFF) ∧ p.fld 26 0 3 ∈ errSeverities
      (p.u16 20) ∧ p.fld 26 0 3 ≠ 4) :=
  ⟨
    ⟨pk hDevice [0x00370B], up, _, _, rfl, by decide, by decide, by decide, by decide, by decide, by decide, rfl⟩,
    ⟨pk hDevice [0x403F], up, _, rfl, by decide, by decide, by decide, by decide, by decide, by decide⟩,
    ⟨pk hDevice [9], up, _, _, rfl, by decide, by decide, by decide, by decide, rfl, by decide⟩,
    ⟨pk hDevice [15], up, _, _, rfl, by decide, by decide, by decide, by decide, rfl, by decide⟩,
    ⟨pk hDevice [1], up, _, rfl, by decide, by decide, by decide, by decide, by decide⟩,
    ⟨pk hDevice [2], up, _, rfl, by decide, by decide, by decide, by decide⟩,
    ⟨pk hDevice [3, 0x00FF1004, 0x00020600], up, _, rfl, by decide, by decide, by decide, by decide, by decide, by decide,
      by decide, by decide, by decide⟩⟩

/-- States and operands that meet the hypotheses of ErrorHandlingAndResetsComplete, clause by clause. -/
theorem witness_ErrorHandlingAndResetsComplete :
    (∃ (s : State) (a : ErrArg), a.severity ∈ errSeverities a.code ∧ s.present a.unit = true) ∧
    (∃ (s : State) (r : ErrRec) (rs : List ErrRec), s.err.resetWanted = false ∧ s.err.handling = none ∧ s.err.toHandle = r :: rs) ∧
    (∃ (s : State) (r : ErrRec), s.err.resetWanted = false ∧ s.err.handling = some r ∧ s.superseded r = false) ∧
    (∃ (s : State), s.power.poured = false ∧ s.power.state ≠ .shelf ∧ s.boot.stage = 6) ∧
    (∃ (s : State), s.err.resetWanted = true ∧ s.boot.stage = 6 ∧ s.power.poured = false) :=
  ⟨
    ⟨up, { code := 0x9007, severity := 4, unit := hClock 2, inst := 0xFF, seq := 0, detail := 0 }, by decide, by decide⟩,
    ⟨up.setErr { up.err with toHandle := [rec 0x1002 1 (hChannel 0)] }, rec 0x1002 1 (hChannel 0), [], by decide, by decide,
      by decide⟩,
    ⟨inHand (rec 0x1002 1 (hChannel 0)), rec 0x1002 1 (hChannel 0), by decide, by decide, by decide⟩,
    ⟨up, by decide, by decide, by decide⟩,
    ⟨up.setErr { up.err with resetWanted := true }, by decide, by decide, by decide⟩⟩

/-- The device with VF 16 of port 3 enabled. -/
def host : State := up.setPorts (up.ports.set 3 { Port.reset with vfEnable := true, numVfs := 16 })

/-- The device with instance 16 bound to VF 16 of port 3, and otherwise as given. -/
def guest (i : Inst) : State := host.setInsts (host.insts.set 16 { i with fn := some (fnKey 3 16) })

/-- Instance 16 in a state, bound to VF 16 of port 3. -/
def inState (st : InstState) : State := guest { Inst.none with state := st }

/-- A state with other registers of VF 16 of port 3. -/
def withFn (s : State) (f : Fn) : State := s.setFns (s.fns.set (fnKey 3 16) f)

/-- Registers of a function whose rings of 4,096 bytes are set up, with submission ring 3 as given. -/
def ringFn (q : Sq) : Fn :=
  { Fn.reset with busMaster := true, rqSize := 4096, eqSize := 4096, sq := Fn.reset.sq.set 3 { q with size := 4096 } }

/-- A reply of instance 16 that waits. -/
def nopReply (src : Source) : Reply :=
  { inst := 16, src := src, opcode := 1, status := .ok, seq := 1, newgen := 1, result := [], notify := false, stalled := false }

/-- A raised event record of instance 16. -/
def evRec (code : Nat) : EvRec := { code := code, inst := 16, unit := 0, time := 0, detail := 0 }

/-- States and operands that meet the hypotheses of RingRegistersComplete, clause by clause. -/
theorem witness_RingRegistersComplete :
    (∃ (s : State) (port : Nat) (fn : Nat) (ring : Nat) (k : Nat) (q : Sq) (n : Nat) (tail : Nat), s.present (hPort port) = true ∧
      s.barServed port fn = true ∧ k = fnKey port fn ∧ q = (s.fn k).sq.get ring ∧ ring < 4 ∧ s.boundTo k = some n ∧ (s.inst
      n).state = .active ∧ (s.inst n).drain ≠ .fence ∧ tail % 16 = 0 ∧ (w32 tail - q.head).toNat ≤ q.size ∧ (w32 tail -
      q.tail).toNat ≤ q.size) ∧
    (∃ (s : State) (port : Nat) (fn : Nat) (ring : Nat) (k : Nat) (q : Sq) (n : Nat) (tail : Nat), s.present (hPort port) = true ∧
      s.barServed port fn = true ∧ k = fnKey port fn ∧ q = (s.fn k).sq.get ring ∧ ring < 4 ∧ s.boundTo k = some n ∧ (s.inst
      n).state = .bound ∧ (s.inst n).drain ≠ .fence ∧ tail % 16 = 0 ∧ (w32 tail - q.head).toNat ≤ q.size ∧ (w32 tail -
      q.tail).toNat ≤ q.size ∧ q.size ≠ 0 ∧ (s.fn k).busMaster = true ∧ (s.fn k).rqSize ≠ 0 ∧ (s.fn k).eqSize ≠ 0) ∧
    (∃ (s : State) (port : Nat) (fn : Nat) (ring : Nat) (k : Nat) (q : Sq) (n : Nat), s.present (hPort port) = true ∧ s.barServed
      port fn = true ∧ k = fnKey port fn ∧ q = (s.fn k).sq.get ring ∧ ring < 4 ∧ s.boundTo k = some n ∧ (s.inst n).state = .bound ∧
      (s.inst n).drain ≠ .fence ∧ ((s.fn k).busMaster = false ∨ (s.fn k).rqSize = 0 ∨ (s.fn k).eqSize = 0 ∨ q.size = 0)) ∧
    (∃ (s : State) (port : Nat) (fn : Nat) (ring : Nat) (k : Nat) (q : Sq), s.present (hPort port) = true ∧ s.barServed port fn =
      true ∧ k = fnKey port fn ∧ q = (s.fn k).sq.get ring ∧ ring < 4 ∧ q.halted = true ∧ (q.tail - q.head).toNat ≤ q.size) ∧
    (∃ (s : State) (port : Nat) (fn : Nat) (ring : Nat) (k : Nat) (q : Sq), s.present (hPort port) = true ∧ s.barServed port fn =
      true ∧ k = fnKey port fn ∧ q = (s.fn k).sq.get ring ∧ ring < 4 ∧ q.halted = true ∧ q.size < (q.tail - q.head).toNat) ∧
    (∃ (s : State) (port : Nat) (fn : Nat) (ring : Nat) (k : Nat) (q : Sq) (v : _), s.present (hPort port) = true ∧ s.barServed
      port fn = true ∧ k = fnKey port fn ∧ q = (s.fn k).sq.get ring ∧ v < 2 ^ 21 ∧ sizeOk v = true ∧ ring < 4 ∧ s.ringRegsOpen k
      q.halted (decide (q.size = 0)) (decide (v = 0)) = true) ∧
    (∃ (s : State) (port : Nat) (fn : Nat) (k : Nat) (v : _), s.present (hPort port) = true ∧ s.barServed port fn = true ∧ k =
      fnKey port fn ∧ v < 2 ^ 21 ∧ sizeOk v = true ∧ s.ringRegsOpen k false (decide ((s.fn k).rqSize = 0)) (decide (v = 0)) = true) ∧
    (∃ (s : State) (port : Nat) (fn : Nat) (k : Nat) (v : _), s.present (hPort port) = true ∧ s.barServed port fn = true ∧ k =
      fnKey port fn ∧ v < 2 ^ 21 ∧ sizeOk v = true ∧ s.ringRegsOpen k false (decide ((s.fn k).eqSize = 0)) (decide (v = 0)) = true) ∧
    (∃ (s : State) (port : Nat) (fn : Nat) (k : Nat) (v : _), s.present (hPort port) = true ∧ s.barServed port fn = true ∧ k =
      fnKey port fn ∧ v % 16 = 0 ∧ ((s.fn k).rqTail - w32 v).toNat ≤ ((s.fn k).rqTail - (s.fn k).rqHead).toNat) ∧
    (∃ (s : State) (port : Nat) (fn : Nat) (k : Nat) (v : _), s.present (hPort port) = true ∧ s.barServed port fn = true ∧ k =
      fnKey port fn ∧ v % 32 = 0 ∧ ((s.fn k).eqTail - w32 v).toNat ≤ ((s.fn k).eqTail - (s.fn k).eqHead).toNat) :=
  ⟨
    ⟨withFn (inState .active) (ringFn Sq.reset), 3, 16, 3, _, _, 16, 4096, by decide, by decide, rfl, rfl, by decide,
      by decide, by decide, by decide, by decide, by decide, by decide⟩,
    ⟨withFn (inState .bound) (ringFn Sq.reset), 3, 16, 3, _, _, 16, 4096, by decide, by decide, rfl, rfl, by decide, by decide,
      by decide, by decide, by decide, by decide, by decide, by decide, by decide, by decide, by decide⟩,
    ⟨inState .bound, 3, 16, 3, _, _, 16, by decide, by decide, rfl, rfl, by decide, by decide, by decide, by decide, by decide⟩,
    ⟨withFn (inState .active) (ringFn { Sq.reset with halted := true, tail := 4096 }), 3, 16, 3, _, _, by decide, by decide,
      rfl, rfl, by decide, by decide, by decide⟩,
    ⟨withFn (inState .active) (ringFn { Sq.reset with halted := true, tail := 4097 }), 3, 16, 3, _, _, by decide, by decide,
      rfl, rfl, by decide, by decide, by decide⟩,
    ⟨inState .bound, 3, 16, 3, _, _, 1048576, by decide, by decide, rfl, rfl, by decide, by decide, by decide, by decide⟩,
    ⟨inState .frozen, 3, 16, _, 4096, by decide, by decide, rfl, by decide, by decide, by decide⟩,
    ⟨host, 3, 16, _, 0, by decide, by decide, rfl, by decide, by decide, by decide⟩,
    ⟨withFn host { Fn.reset with rqTail := 0, rqHead := 0xFFFFFFF0 }, 3, 16, _, 0xFFFFFFF0, by decide, by decide, rfl,
      by decide, by decide⟩,
    ⟨withFn host { Fn.reset with eqTail := 32 }, 3, 16, _, 32, by decide, by decide, rfl, by decide, by decide⟩⟩

/-- States and operands that meet the hypotheses of RegisterAndMaskWritesComplete, clause by clause. -/
theorem witness_RegisterAndMaskWritesComplete :
    (∃ (s : State) (port : Nat) (fn : Nat) (ring : Nat) (k : Nat), s.present (hPort port) = true ∧ s.barServed port fn = true ∧ k =
      fnKey port fn ∧ ring < 4 ∧ s.ringRegsOpen k ((s.fn k).sq.get ring).halted (decide (((s.fn k).sq.get ring).size = 0)) false =
      true) ∧
    (∃ (s : State) (port : Nat) (fn : Nat) (ring : Nat) (v : Nat) (k : Nat), s.present (hPort port) = true ∧ s.barServed port fn =
      true ∧ k = fnKey port fn ∧ ring < 4 ∧ ((s.fn k).sq.get ring).halted = true ∧ v % 16 = 0) ∧
    (∃ (s : State) (port : Nat) (fn : Nat) (k : Nat), s.present (hPort port) = true ∧ s.barServed port fn = true ∧ k = fnKey port
      fn ∧ s.ringRegsOpen k false (decide ((s.fn k).rqSize = 0)) false = true) ∧
    (∃ (s : State) (port : Nat) (fn : Nat) (k : Nat), s.present (hPort port) = true ∧ s.barServed port fn = true ∧ k = fnKey port
      fn ∧ s.ringRegsOpen k false (decide ((s.fn k).eqSize = 0)) false = true) ∧
    (∃ (s : State) (port : Nat) (fn : Nat) (c : _), s.present (hPort port) = true ∧ s.barServed port fn = true ∧ c < 256) ∧
    (∃ (s : State) (port : Nat) (fn : Nat) (e : _) (part : _), s.present (hPort port) = true ∧ s.barServed port fn = true ∧ e < 32
      ∧ part < 4) ∧
    (∃ (s : State) (port : Nat) (fn : Nat) (v : Nat) (idx : _), s.present (hPort port) = true ∧ s.barServed port fn = true ∧ idx <
      4 ∧ v < 2 ^ 64 ∧ (idx = 0 → bitOf v 15 = false)) :=
  ⟨
    ⟨host, 3, 16, 3, _, by decide, by decide, rfl, by decide, by decide⟩,
    ⟨withFn (inState .active) (ringFn { Sq.reset with halted := true }), 3, 16, 3, 0xFFFFFFF0, _, by decide, by decide, rfl,
      by decide, by decide, by decide⟩,
    ⟨host, 3, 16, _, by decide, by decide, rfl, by decide⟩,
    ⟨host, 3, 16, _, by decide, by decide, rfl, by decide⟩,
    ⟨host, 3, 16, 255, by decide, by decide, by decide⟩,
    ⟨host, 3, 16, 31, 3, by decide, by decide, by decide, by decide⟩,
    ⟨host, 3, 16, 2 ^ 64 - 1, 3, by decide, by decide, by decide, by decide, by decide⟩⟩

/-- States and operands that meet the hypotheses of EventControllerCompletes, clause by clause. -/
theorem witness_EventControllerCompletes :
    (∃ (s : State) (n : _), s.sourcePresent n = true ∧ 4 ≤ n) ∧
    (∃ (n : _), 1 ≤ n ∧ n ≤ 3) ∧
    (∃ (s : State) (t : _) (n : _), t ≤ 4 ∧ s.eic.service.get t = 0 ∧ s.eic.lowest t = some n ∧ (n < 47 ∨ 63 < n)) ∧
    (∃ (s : State) (t : _), t ≤ 4 ∧ s.eic.service.get t = 0 ∧ s.eic.lowest t = none ∧ s.eic.notice.get t = false) ∧
    (∃ (s : State) (t : _), t ≤ 4 ∧ s.eic.service.get t ≠ 0) ∧
    (∃ (s : State) (t : _) (id : _), t ≤ 4 ∧ id ≠ 0 ∧ s.eic.service.get t = id) ∧
    (∃ (s : State) (t : _) (id : _), t ≤ 4 ∧ s.eic.service.get t ≠ id) ∧
    (∃ (t : _) (n : _), t ≤ 4 ∧ 4 ≤ n ∧ n ≤ 511) ∧
    (∃ (n : _), n ≤ 3) ∧
    (∃ (t : _) (n : _), t ≤ 4 ∧ 4 ≤ n ∧ n ≤ 511 ∧ fixedCupper n = false) ∧
    (∃ (n : _), fixedCupper n = true) :=
  ⟨
    ⟨up, 511, by decide, by decide⟩,
    ⟨3, by decide, by decide⟩,
    ⟨up.setEic { up.eic with pend := up.eic.pend.setAll [2] true }, 0, 2, by decide, by decide, by decide, by decide⟩,
    ⟨up, 4, by decide, by decide, by decide, by decide⟩,
    ⟨up.setEic { up.eic with service := up.eic.service.set 4 5 }, 4, by decide, by decide⟩,
    ⟨up.setEic { up.eic with service := up.eic.service.set 4 5 }, 4, 5, by decide, by decide, by decide⟩,
    ⟨up.setEic { up.eic with service := up.eic.service.set 4 5 }, 4, 6, by decide, by decide⟩,
    ⟨4, 511, by decide, by decide, by decide⟩,
    ⟨3, by decide⟩,
    ⟨4, 511, by decide, by decide, by decide, by decide⟩,
    ⟨391, by decide⟩⟩

/-- States and operands that meet the hypotheses of PacketAcceptCompletes, clause by clause. -/
theorem witness_PacketAcceptCompletes :
    (∃ (s : State) (port : Nat) (fn : Nat) (ring : Nat) (n : Nat) (bytes : List Byte) (k : Nat) (q : Sq) (h : Header), k = fnKey
      port fn ∧ q = (s.fn k).sq.get ring ∧ h = parseHeader bytes ∧ s.present (hPort port) = true ∧ s.fnExists port fn = true ∧ ring
      < 4 ∧ s.instOf k = some n ∧ (s.inst n).state = .active ∧ q.halted = false ∧ q.size ≠ 0 ∧ (s.fn k).busMaster = true ∧
      s.accepting = true ∧ s.creditsHeld n < (s.inst n).credits ∧ 16 ≤ (q.tail - q.head).toNat ∧ 16 ≤ bytes.length ∧ h.frameOk =
      false) ∧
    (∃ (s : State) (port : Nat) (fn : Nat) (ring : Nat) (n : Nat) (bytes : List Byte) (k : Nat) (q : Sq) (h : Header), k = fnKey
      port fn ∧ q = (s.fn k).sq.get ring ∧ h = parseHeader bytes ∧ s.present (hPort port) = true ∧ s.fnExists port fn = true ∧ ring
      < 4 ∧ s.instOf k = some n ∧ (s.inst n).state = .active ∧ q.halted = false ∧ q.size ≠ 0 ∧ (s.fn k).busMaster = true ∧
      s.accepting = true ∧ s.creditsHeld n < (s.inst n).credits ∧ 16 ≤ (q.tail - q.head).toNat ∧ 16 ≤ bytes.length ∧ h.frameOk =
      true ∧ (20 + h.length + 15) / 16 * 16 ≤ (q.tail - q.head).toNat ∧ 20 + h.length ≤ bytes.length ∧ trailerOk h bytes = false) ∧
    (∃ (s : State) (port : Nat) (fn : Nat) (ring : Nat) (n : Nat) (bytes : List Byte) (k : Nat) (q : Sq) (h : Header), k = fnKey
      port fn ∧ q = (s.fn k).sq.get ring ∧ h = parseHeader bytes ∧ s.present (hPort port) = true ∧ s.fnExists port fn = true ∧ ring
      < 4 ∧ s.instOf k = some n ∧ (s.inst n).state = .active ∧ q.halted = false ∧ q.size ≠ 0 ∧ (s.fn k).busMaster = true ∧
      s.accepting = true ∧ s.creditsHeld n < (s.inst n).credits ∧ 16 ≤ (q.tail - q.head).toNat ∧ 16 ≤ bytes.length ∧ h.frameOk =
      true ∧ (20 + h.length + 15) / 16 * 16 ≤ (q.tail - q.head).toNat ∧ 20 + h.length ≤ bytes.length ∧ trailerOk h bytes = true ∧
      s.acceptCheck n ring true h = none) ∧
    (∃ (s : State) (port : Nat) (fn : Nat) (ring : Nat) (n : Nat) (bytes : List Byte) (k : Nat) (q : Sq) (h : Header) (st : _), k =
      fnKey port fn ∧ q = (s.fn k).sq.get ring ∧ h = parseHeader bytes ∧ s.present (hPort port) = true ∧ s.fnExists port fn = true
      ∧ ring < 4 ∧ s.instOf k = some n ∧ (s.inst n).state = .active ∧ q.halted = false ∧ q.size ≠ 0 ∧ (s.fn k).busMaster = true ∧
      s.accepting = true ∧ s.creditsHeld n < (s.inst n).credits ∧ 16 ≤ (q.tail - q.head).toNat ∧ 16 ≤ bytes.length ∧ h.frameOk =
      true ∧ (20 + h.length + 15) / 16 * 16 ≤ (q.tail - q.head).toNat ∧ 20 + h.length ≤ bytes.length ∧ trailerOk h bytes = true ∧
      s.acceptCheck n ring true h = some st) :=
  ⟨
    ⟨withFn (inState .active) (ringFn { Sq.reset with tail := 16 }), 3, 16, 3, 16, List.replicate 16 0, _, _, _, rfl, rfl, rfl,
      by decide, by decide, by decide, by decide, by decide, by decide, by decide, by decide, by decide, by decide, by decide,
      by decide, by decide⟩,
    ⟨withFn (inState .active) (ringFn { Sq.reset with tail := 32 }), 3, 16, 3, 16,
      (packetBytes { opcode := 1, flags := 0, hdrver := 1, prio := 3, seq := 7, length := 0, target := 0, basegen := 0 } []).set 16 0x55,
      _, _, _, rfl, rfl, rfl, by decide, by decide, by decide, by decide, by decide, by decide, by decide, by decide,
      by decide, by decide, by decide, by decide, by decide, by decide, by decide, by decide⟩,
    ⟨withFn (inState .active) (ringFn { Sq.reset with tail := 32 }), 3, 16, 3, 16,
      packetBytes { opcode := 1, flags := 0, hdrver := 1, prio := 3, seq := 7, length := 0, target := 0, basegen := 0 } [], _,
      _, _, rfl, rfl, rfl, by decide, by decide, by decide, by decide, by decide, by decide, by decide, by decide, by decide,
      by decide, by decide, by decide, by decide, by decide, by decide, by decide, by decide⟩,
    ⟨withFn (inState .active) (ringFn { Sq.reset with tail := 32 }), 3, 16, 3, 16,
      packetBytes { opcode := 1, flags := 0, hdrver := 1, prio := 2, seq := 7, length := 0, target := 0, basegen := 0 } [], _,
      _, _, .badParam, rfl, rfl, rfl, by decide, by decide, by decide, by decide, by decide, by decide, by decide, by decide,
      by decide, by decide, by decide, by decide, by decide, by decide, by decide, by decide, by decide⟩⟩

/-- States and operands that meet the hypotheses of ReplyAndEventWritesComplete, clause by clause. -/
theorem witness_ReplyAndEventWritesComplete :
    (∃ (s : State) (port : Nat) (fn : Nat) (k : Nat) (n : Nat) (f : Fn) (r : Reply) (bs : List Byte), k = fnKey port fn ∧ f = s.fn
      k ∧ s.present (hPort port) = true ∧ s.instOf k = some n ∧ (s.inst n).state ≠ .frozen ∧ f.busMaster = true ∧
      s.tp.replies.find? (fun r => !r.isMgmt && decide (r.inst = n) && s.replyReady r) = some r ∧ bs = pad16 r.bytes ∧ f.rqSize ≠ 0
      ∧ (f.rqTail - f.rqHead).toNat + bs.length ≤ f.rqSize ∧ f.rqShadow = 0 ∧ f.rqNotify = false ∧ r.notify = false) ∧
    (∃ (s : State) (port : Nat) (fn : Nat) (k : Nat) (n : Nat) (f : Fn) (r : Reply) (bs : List Byte) (w : _), k = fnKey port fn ∧ f
      = s.fn k ∧ s.present (hPort port) = true ∧ s.instOf k = some n ∧ (s.inst n).state ≠ .frozen ∧ f.busMaster = true ∧
      s.tp.replies.find? (fun r => !r.isMgmt && decide (r.inst = n) && s.replyReady r) = some r ∧ bs = pad16 r.bytes ∧ f.rqSize <
      (f.rqTail - f.rqHead).toNat + bs.length ∧ s.tp.replies.find? (fun r => !r.isMgmt && decide (r.inst = n) && s.replyQueued r &&
      !r.stalled) = some w) ∧
    (∃ (s : State) (port : Nat) (fn : Nat) (k : Nat) (n : Nat) (r : Reply), k = fnKey port fn ∧ s.present (hPort port) = true ∧
      s.instOf k = some n ∧ s.tp.replies.find? (fun r => r.isMgmt && s.replyReady r) = some r) ∧
    (∃ (s : State) (port : Nat) (fn : Nat) (k : Nat) (n : Nat) (f : Fn) (r : EvRec), k = fnKey port fn ∧ f = s.fn k ∧ s.present
      (hPort port) = true ∧ s.instOf k = some n ∧ f.holding = [] ∧ f.lost = 0 ∧ s.tp.raised.find? (fun r => decide (r.inst = n)) =
      some r ∧ bitOf f.evtMask r.code = true ∧ r.code ≠ 0x0F) ∧
    (∃ (s : State) (port : Nat) (fn : Nat) (k : Nat) (n : Nat) (f : Fn) (r : EvRec), k = fnKey port fn ∧ f = s.fn k ∧ s.present
      (hPort port) = true ∧ s.instOf k = some n ∧ f.holding = [] ∧ f.lost = 0 ∧ s.tp.raised.find? (fun r => decide (r.inst = n)) =
      some r ∧ bitOf f.evtMask r.code = false ∧ f.eqSize ≠ 0 ∧ (f.eqTail - f.eqHead).toNat + 32 ≤ f.eqSize ∧ f.busMaster = true) ∧
    (∃ (s : State) (port : Nat) (fn : Nat) (k : Nat) (n : Nat) (f : Fn) (r : EvRec), k = fnKey port fn ∧ f = s.fn k ∧ s.present
      (hPort port) = true ∧ s.instOf k = some n ∧ f.holding = [] ∧ f.lost = 0 ∧ s.tp.raised.find? (fun r => decide (r.inst = n)) =
      some r ∧ bitOf f.evtMask r.code = false ∧ f.eqSize < (f.eqTail - f.eqHead).toNat + 32) :=
  ⟨
    ⟨let s := withFn (inState .active) { (ringFn Sq.reset) with rqTail := 4064 }; s.setTp { s.tp with replies := [nopReply (.sq 3 16 3)] },
      3, 16, _, 16, _, nopReply (.sq 3 16 3), _, rfl, rfl, by decide, by decide, by decide, by decide, by decide, rfl,
      by decide, by decide, by decide, by decide, by decide⟩,
    ⟨let s := withFn (inState .active) { (ringFn Sq.reset) with rqTail := 4080 }; s.setTp { s.tp with replies := [nopReply (.sq 3 16 3)] },
      3, 16, _, 16, _, nopReply (.sq 3 16 3), _, _, rfl, rfl, by decide, by decide, by decide, by decide, by decide, rfl,
      by decide, rfl⟩,
    ⟨let s := inState .active; s.setTp { s.tp with replies := [nopReply (.mgmt 1)] }, 3, 16, _, 16, nopReply (.mgmt 1), rfl,
      by decide, by decide, by decide⟩,
    ⟨let s := withFn (inState .active) { (ringFn Sq.reset) with evtMask := 2 ^ 255 }; s.setTp { s.tp with raised := [evRec 255] },
      3, 16, _, 16, _, evRec 255, rfl, rfl, by decide, by decide, by decide, by decide, by decide, by decide, by decide⟩,
    ⟨let s := withFn (inState .active) { (ringFn Sq.reset) with eqTail := 4064 }; s.setTp { s.tp with raised := [evRec 255] },
      3, 16, _, 16, _, evRec 255, rfl, rfl, by decide, by decide, by decide, by decide, by decide, by decide, by decide,
      by decide, by decide⟩,
    ⟨let s := withFn (inState .active) { (ringFn Sq.reset) with eqTail := 4065 }; s.setTp { s.tp with raised := [evRec 255] },
      3, 16, _, 16, _, evRec 255, rfl, rfl, by decide, by decide, by decide, by decide, by decide, by decide, by decide⟩⟩

/-- The device with instance 16 as given, bound to no function. -/
def lone (i : Inst) : State := host.setInsts (host.insts.set 16 i)

/-- States and operands that meet the hypotheses of QuotaPacketsComplete, clause by clause. -/
theorem witness_QuotaPacketsComplete :
    (∃ (p : Packet) (s : State) (u : State) (n : Nat) (es : List QEntry) (i : Inst) (t : State), u = s.markApplied p ∧ p.target =
      hInst n ∧ n < 256 ∧ s.takes opInstCreate true p = true ∧ 8 ≤ p.length ∧ p.u8 16 ≤ 1 ∧ p.u8 17 ≤ 200 ∧ p.u16 18 ≤ 1 ∧ p.u16 22
      = 0 ∧ parseQuota (p.u16 20) (p.wordsFrom 24) = (es, []) ∧ n ≠ 0 ∧ s.exists_ n = false ∧ i =
      { Inst.none with state := .quiesced, safety := decide (p.u8 16 = 1), drainMs := if p.u8 17 = 0 then 20 else p.u8 17, autoreset := !p.flag 18 0 }
      ∧ u.quotaForms n i (decide (p.u8 17 ≠ 0)) es = none ∧ u.quotaPools n i true es = none ∧ (p.u8 16 = 1 → s.sec.available =
      true) ∧ t = ((u.updInst n (fun _ => i)).applyQuotas n es).intend (hInst n) false 0 ∧ (t.inst n).blocks.all (fun b =>
      !t.memc.zeroing.contains b) = true) ∧
    (∃ (p : Packet) (s : State) (u : State) (n : Nat) (es : List QEntry) (i : Inst) (t : State), u = s.markApplied p ∧ p.target =
      hInst n ∧ n < 256 ∧ s.takes opInstCreate true p = true ∧ 8 ≤ p.length ∧ p.u8 16 ≤ 1 ∧ p.u8 17 ≤ 200 ∧ p.u16 18 ≤ 1 ∧ p.u16 22
      = 0 ∧ parseQuota (p.u16 20) (p.wordsFrom 24) = (es, []) ∧ n ≠ 0 ∧ s.exists_ n = false ∧ i =
      { Inst.none with state := .quiesced, safety := decide (p.u8 16 = 1), drainMs := if p.u8 17 = 0 then 20 else p.u8 17, autoreset := !p.flag 18 0 }
      ∧ u.quotaForms n i (decide (p.u8 17 ≠ 0)) es = none ∧ u.quotaPools n i true es = none ∧ (p.u8 16 = 1 → s.sec.available =
      true) ∧ t = ((u.updInst n (fun _ => i)).applyQuotas n es).intend (hInst n) false 0 ∧ (t.inst n).blocks.any (fun b =>
      t.memc.zeroing.contains b) = true) ∧
    (∃ (p : Packet) (s : State) (u : State) (n : Nat) (es : List QEntry), u = s.markApplied p ∧ p.target = hInst n ∧ n < 256 ∧
      s.takes opInstQuotaSet true p = true ∧ 4 ≤ p.length ∧ p.u16 18 = 0 ∧ parseQuota (p.u16 16) (p.wordsFrom 20) = (es, []) ∧
      (s.inst n).state ≠ .absent ∧ u.quotaForms n (s.inst n) false es = none ∧ (s.inst n).state ≠ .wedged ∧ (s.inst n).state ≠
      .quiescing ∧ (s.inst n).state ≠ .resetting ∧ u.quotaPools n (s.inst n) false es = none) ∧
    (∃ (p : Packet) (s : State) (u : State) (n : Nat) (es : List QEntry) (st : _) (res : _), u = s.markApplied p ∧ p.target = hInst
      n ∧ n < 256 ∧ s.takes opInstQuotaSet true p = true ∧ 4 ≤ p.length ∧ p.u16 18 = 0 ∧ parseQuota (p.u16 16) (p.wordsFrom 20) =
      (es, []) ∧ (s.inst n).state ≠ .absent ∧ u.quotaForms n (s.inst n) false es = some (st, res)) ∧
    (∃ (p : Packet) (s : State) (u : State) (n : Nat) (es : List QEntry) (st : _) (res : _), u = s.markApplied p ∧ p.target = hInst
      n ∧ n < 256 ∧ s.takes opInstQuotaSet true p = true ∧ 4 ≤ p.length ∧ p.u16 18 = 0 ∧ parseQuota (p.u16 16) (p.wordsFrom 20) =
      (es, []) ∧ (s.inst n).state ≠ .absent ∧ u.quotaForms n (s.inst n) false es = none ∧ (s.inst n).state ≠ .wedged ∧ u.quotaPools
      n (s.inst n) false es = some (st, res)) ∧
    (∃ (p : Packet) (s : State) (u : State) (n : Nat), u = s.markApplied p ∧ p.target = hInst n ∧ n < 256) :=
  ⟨
    ⟨pk (hInst 16) [0x0001C800, 0], up, _, 16, [], _, _, rfl, by decide, by decide, by decide, by decide, by decide, by decide,
      by decide, by decide, by decide, by decide, by decide, rfl, by decide, by decide, by decide, rfl, by decide⟩,
    ⟨pk (hInst 16) [0, 1, 0x0101, 1],
      up.setMemc { up.memc with regions := [{ chmask := 1, grain := 12, ecc := false, retain := false, sizeMiB := 2 }, .empty, .empty], zeroing := [0] },
      _, 16, [{ kind := 1, words := [1], whole := true }], _, _, rfl, by decide, by decide, by decide, by decide, by decide,
      by decide, by decide, by decide, by decide, by decide, by decide, rfl, by decide, by decide, by decide, rfl, by decide⟩,
    ⟨pk (hInst 16) [1, 0x0102, 256], inState .active, _, 16, [{ kind := 2, words := [256], whole := true }], rfl, by decide,
      by decide, by decide, by decide, by decide, by decide, by decide, by decide, by decide, by decide, by decide, by decide⟩,
    ⟨pk (hInst 16) [1, 0x0113, 0], inState .active, _, 16, [{ kind := 0x13, words := [0], whole := true }], .badParam,
      quotaResult 0 0x13 0, rfl, by decide, by decide, by decide, by decide, by decide, by decide, by decide, by decide⟩,
    ⟨pk (hInst 16) [1, 0x0101, 8065], inState .active, _, 16, [{ kind := 1, words := [8065], whole := true }], .quota,
      quotaResult 0 1 0, rfl, by decide, by decide, by decide, by decide, by decide, by decide, by decide, by decide,
      by decide, by decide⟩,
    ⟨pk (hInst 255) [], up, _, 255, rfl, by decide, by decide⟩⟩

/-- States and operands that meet the hypotheses of LifecyclePacketsComplete, clause by clause. -/
theorem witness_LifecyclePacketsComplete :
    (∃ (p : Packet) (s : State) (u : State) (n : Nat) (k : _), u = s.markApplied p ∧ p.target = hInst n ∧ n < 256 ∧ n ≠ 0 ∧ s.takes
      opInstBind true p = true ∧ p.length = 4 ∧ p.fld 16 4 4 = 0 ∧ p.u16 18 = 0 ∧ p.fld 16 0 4 < s.board.member.ports ∧ s.fnExists
      (p.fld 16 0 4) (p.u8 17) = true ∧ k = fnKey (p.fld 16 0 4) (p.u8 17) ∧ k ≠ s.managerFn ∧ s.boundTo k = none ∧ ((s.inst
      n).state = .quiesced ∨ (s.inst n).state = .frozen)) ∧
    (∃ (p : Packet) (s : State) (u : State) (n : Nat), u = s.markApplied p ∧ p.target = hInst n ∧ n < 256 ∧ n ≠ 0 ∧ s.takes
      opInstQuiesce true p = true ∧ p.length = 0 ∧ ((s.inst n).state = .bound ∨ (s.inst n).state = .active)) ∧
    (∃ (p : Packet) (s : State) (u : State) (n : Nat), u = s.markApplied p ∧ p.target = hInst n ∧ n < 256 ∧ n ≠ 0 ∧ s.takes
      opInstQuiesce true p = true ∧ p.length = 0 ∧ (s.inst n).state = .quiesced) ∧
    (∃ (p : Packet) (s : State) (u : State) (n : Nat), u = s.markApplied p ∧ p.target = hInst n ∧ n < 256 ∧ n ≠ 0 ∧ s.takes
      opInstReset true p = true ∧ p.length = 0 ∧ (s.inst n).state = .quiesced ∧ (s.inst n).fn.isSome = true) ∧
    (∃ (p : Packet) (s : State) (u : State) (n : Nat), u = s.markApplied p ∧ p.target = hInst n ∧ n < 256 ∧ n ≠ 0 ∧ s.takes
      opInstDestroy true p = true ∧ p.length = 0 ∧ (s.inst n).state = .quiesced) ∧
    (∃ (p : Packet) (s : State) (u : State) (n : Nat), u = s.markApplied p ∧ p.target = hInst n ∧ n < 256 ∧ n ≠ 0 ∧ s.takes
      opInstFreeze true p = true ∧ p.length = 0 ∧ (s.inst n).state = .active) ∧
    (∃ (p : Packet) (s : State) (u : State) (n : Nat), u = s.markApplied p ∧ p.target = hInst n ∧ n < 256 ∧ n ≠ 0 ∧ s.takes
      opInstQuiesce true p = true ∧ p.length = 0 ∧ (s.inst n).state = .wedged) ∧
    (∃ (p : Packet) (s : State) (u : State) (n : Nat), u = s.markApplied p ∧ p.target = hInst n ∧ n < 256 ∧ n ≠ 0 ∧ s.takes
      opInstQuiesce true p = true ∧ p.length = 0 ∧ (s.inst n).state = .resetting) ∧
    (∃ (p : Packet) (s : State) (u : State) (n : Nat), u = s.markApplied p ∧ p.target = hInst n ∧ n < 256 ∧ n ≠ 0 ∧ s.takes
      opInstReset true p = true ∧ p.length = 0 ∧ (s.inst n).state = .active) :=
  ⟨
    ⟨pk (hInst 16) [0x1003], lone { Inst.none with state := .quiesced }, _, 16, _, rfl, by decide, by decide, by decide,
      by decide, by decide, by decide, by decide, by decide, by decide, rfl, by decide, by decide, by decide⟩,
    ⟨pk (hInst 16) [], inState .bound, _, 16, rfl, by decide, by decide, by decide, by decide, by decide, by decide⟩,
    ⟨pk (hInst 16) [], inState .quiesced, _, 16, rfl, by decide, by decide, by decide, by decide, by decide, by decide⟩,
    ⟨pk (hInst 16) [], inState .quiesced, _, 16, rfl, by decide, by decide, by decide, by decide, by decide, by decide,
      by decide⟩,
    ⟨pk (hInst 16) [], inState .quiesced, _, 16, rfl, by decide, by decide, by decide, by decide, by decide, by decide⟩,
    ⟨pk (hInst 16) [], inState .active, _, 16, rfl, by decide, by decide, by decide, by decide, by decide, by decide⟩,
    ⟨pk (hInst 16) [], inState .wedged, _, 16, rfl, by decide, by decide, by decide, by decide, by decide, by decide⟩,
    ⟨pk (hInst 16) [], inState .resetting, _, 16, rfl, by decide, by decide, by decide, by decide, by decide, by decide⟩,
    ⟨pk (hInst 16) [], inState .active, _, 16, rfl, by decide, by decide, by decide, by decide, by decide, by decide⟩⟩

/-- States and operands that meet the hypotheses of ImagePacketsComplete, clause by clause. Hypotheses that ask something of a free value of Config are left out. -/
theorem witness_ImagePacketsComplete :
    (∃ (p : Packet) (s : State) (u : State) (n : Nat) (k : Nat) (z : Frozen), u = s.markApplied p ∧ p.target = hInst n ∧ n < 256 ∧
      n ≠ 0 ∧ s.takes opInstThaw true p = true ∧ p.length = 0 ∧ (s.inst n).state = .frozen ∧ (s.inst n).fn = some k ∧ (s.inst
      n).frozen = some z ∧ (∀ q, q < 4 → s.area n q = none)) ∧
    (∃ (p : Packet) (s : State) (u : State) (n : Nat), u = s.markApplied p ∧ p.target = hInst n ∧ n < 256 ∧ n ≠ 0 ∧ s.takes
      opInstSave true p = true ∧ p.length = 16 ∧ p.u64 16 % 64 = 0 ∧ p.fld 28 2 30 = 0 ∧ s.busMaster 0 = true ∧ (s.inst n).state =
      .frozen ∧ (p.flag 28 0 = true → s.sec.available = true ∧ s.sec.key.isSome = true)) ∧
    (∃ (p : Packet) (s : State) (u : State) (n : Nat), u = s.markApplied p ∧ p.target = hInst n ∧ n < 256 ∧ n ≠ 0 ∧ s.takes
      opInstSave true p = true ∧ p.length = 16 ∧ p.u64 16 % 64 = 0 ∧ p.fld 28 2 30 = 0 ∧ s.busMaster 0 = true ∧ (s.inst n).state =
      .frozen ∧ (p.flag 28 0 = true → s.sec.available = true ∧ s.sec.key.isSome = true)) ∧
    (∃ (p : Packet) (s : State) (u : State) (n : Nat), u = s.markApplied p ∧ p.target = hInst n ∧ n < 256 ∧ n ≠ 0 ∧ s.takes
      opInstRestore true p = true ∧ p.length = 12 ∧ p.u64 16 % 64 = 0 ∧ s.busMaster 0 = true ∧ s.exists_ n = false) :=
  ⟨
    ⟨pk (hInst 16) [],
      guest { Inst.none with state := .frozen, frozen := some { time := 0, discarded := 0, fn := some (fnKey 3 16), heads := [], lastSeqs := [], restored := false } },
      _, 16, _, _, rfl, by decide, by decide, by decide, by decide, by decide, by decide, rfl, rfl, by decide⟩,
    ⟨pk (hInst 16) [0xFFFFFFC0, 0xFFFFFFFF, 0xFFFFFFFF, 2],
      let s := inState .frozen; s.setFns (s.fns.set s.managerFn { Fn.reset with busMaster := true }), _, 16, rfl, by decide,
      by decide, by decide, by decide, by decide, by decide, by decide, by decide, by decide, by decide⟩,
    ⟨pk (hInst 16) [0xFFFFFFC0, 0xFFFFFFFF, 63, 2],
      let s := inState .frozen; s.setFns (s.fns.set s.managerFn { Fn.reset with busMaster := true }), _, 16, rfl, by decide,
      by decide, by decide, by decide, by decide, by decide, by decide, by decide, by decide, by decide⟩,
    ⟨pk (hInst 16) [0x40, 0, 128], host.setFns (host.fns.set host.managerFn { Fn.reset with busMaster := true }), _, 16, rfl,
      by decide, by decide, by decide, by decide, by decide, by decide, by decide, by decide⟩⟩

/-- States and operands that meet the hypotheses of LifecycleEventsComplete, clause by clause. -/
theorem witness_LifecycleEventsComplete :
    (∃ (s : State) (n : Nat) (i : Inst), i = s.inst n ∧ s.present (hInst n) = true ∧ n ≠ 0 ∧ i.state = .quiescing ∧ i.drain ≠
      .freeze ∧ s.clustersIdle n = true ∧ (s.drainWork n).tp.replies.any (fun r => decide (r.inst = n)) = false) ∧
    (∃ (s : State) (n : Nat) (i : Inst) (k : _), i = s.inst n ∧ s.present (hInst n) = true ∧ n ≠ 0 ∧ i.state = .quiescing ∧ i.drain
      = .freeze ∧ s.clustersIdle n = true ∧ s.copy.any (fun j => decide (j.inst = n) && !j.internal) = false ∧ i.fn = some k) ∧
    (∃ (s : State) (n : Nat) (i : Inst) (k : _), i = s.inst n ∧ s.present (hInst n) = true ∧ n ≠ 0 ∧ i.state = .resetting ∧
      i.waiting.map (·.opcode) ≠ some 0x0029 ∧ i.fn = some k) ∧
    (∃ (s : State) (n : Nat) (i : Inst), i = s.inst n ∧ s.present (hInst n) = true ∧ n ≠ 0 ∧ i.state = .resetting ∧ i.waiting.map
      (·.opcode) = some 0x0029 ∧ s.surfacesOf n = []) ∧
    (∃ (s : State) (n : Nat) (i : Inst) (k : _), i = s.inst n ∧ s.present (hInst n) = true ∧ n ≠ 0 ∧ i.state = .quiesced ∧
      i.deferred = true ∧ i.fn = some k ∧ s.fnLive k = true) ∧
    (∃ (s : State) (n : Nat) (i : Inst) (h : _), i = s.inst n ∧ s.present (hInst n) = true ∧ n ≠ 0 ∧ i.state = .quiescing ∧
      s.undrained n h = true) ∧
    (∃ (s : State) (n : Nat) (e : _), s.present (hInst n) = true ∧ n ≠ 0 ∧ s.present (hCopy e) = true ∧ e < 8) ∧
    (∃ (s : State) (n : Nat) (c : _), s.present (hInst n) = true ∧ n ≠ 0 ∧ s.present (hCluster c) = true ∧ c < 16) :=
  ⟨
    ⟨inState .quiescing, 16, _, rfl, by decide, by decide, by decide, by decide, by decide, by decide⟩,
    ⟨guest { Inst.none with state := .quiescing, drain := .freeze }, 16, _, _, rfl, by decide, by decide, by decide, by decide,
      by decide, by decide, rfl⟩,
    ⟨inState .resetting, 16, _, _, rfl, by decide, by decide, by decide, by decide, rfl⟩,
    ⟨guest { Inst.none with state := .resetting, waiting := some { opcode := 0x0029, p := pk (hInst 16) [] } }, 16, _, rfl,
      by decide, by decide, by decide, by decide, by decide⟩,
    ⟨let s := guest { Inst.none with state := .quiesced, deferred := true }; s.setPorts (s.ports.set 3 { s.ports.get 3 with perst := false, linkUp := true }),
      16, _, _, rfl, by decide, by decide, by decide, by decide, rfl, by decide⟩,
    ⟨guest { Inst.none with state := .quiescing, streams := 1 }, 16, _, hAudio, rfl, by decide, by decide, by decide,
      by decide⟩,
    ⟨inState .wedged, 16, 7, by decide, by decide, by decide, by decide⟩,
    ⟨inState .wedged, 16, 15, by decide, by decide, by decide, by decide⟩⟩

/-- A 64 KiB page of instance 16. -/
def page (va : Nat) (ro : Bool) : Page := { va := va, big := false, hostRo := ro, phys := 65536 }

/-- Instance 16 ACTIVE with DRAM blocks 0 and 1, scratchpad block 1535 and one page. -/
def owner (pg : Page) : State :=
  guest { Inst.none with state := .active, blocks := [0, 1], spadBlocks := [1535], pages := [pg] }

/-- A descriptor that fills 4 bytes. -/
def fill (spad : Bool) : CopyDesc :=
  { kind := 3, cls := 2, toHost := false, srcSpad := false, dstSpad := spad, inst := 0, length := 4, src := 0x01020304, dst := 0,
    surface := 0, tileRow := 0, tileRows := 0 }

/-- A COPY of instance 16 with these descriptors. -/
def job (e : Option Nat) (ds : List CopyDesc) : CopyJob :=
  { owed := { opcode := 0x1010, p := gk 16 (hInst 16) [] }, inst := 16, descs := ds, total := 2, isSeal := false, convert := false,
    surface := 0, engine := e }

/-- The device with this COPY in it. -/
def copying (j : CopyJob) : State := (owner (page 0 false)).setCopy [j]

/-- States and operands that meet the hypotheses of MapPacketsComplete, clause by clause. -/
theorem witness_MapPacketsComplete :
    (∃ (p : Packet) (s : State) (u : State) (n : Nat) (va : Nat), u = s.markApplied p ∧ n = p.inst ∧ p.target = hInst n ∧ rangeOk p
      = true ∧ va = p.u64 16 / 65536 ∧ s.takes opMemMap (ownHandle p) p = true ∧ p.flag 28 0 = false ∧ p.u32 24 ≤ s.freeFrames n ∧
      p.u32 24 ≤ (s.inst n).freeSmall.length ∧ (s.inst n).pages.any (fun q => overlaps q va (p.u32 24)) = false) ∧
    (∃ (p : Packet) (s : State) (u : State) (n : Nat) (va : Nat), u = s.markApplied p ∧ n = p.inst ∧ p.target = hInst n ∧ rangeOk p
      = true ∧ va = p.u64 16 / 65536 ∧ s.takes opMemMap (ownHandle p) p = true ∧ p.flag 28 0 = true ∧ p.u32 24 ≤ s.bigRoom n ∧
      (s.inst n).pages.any (fun q => overlaps q va (p.u32 24 * 32)) = false) ∧
    (∃ (p : Packet) (s : State) (u : State) (n : Nat) (va : Nat) (gone : List Page) (count : Nat), u = s.markApplied p ∧ n = p.inst
      ∧ p.target = hInst n ∧ rangeOk p = true ∧ va = p.u64 16 / 65536 ∧ s.takes opMemUnmap (ownHandle p) p = true ∧ p.flag 28 0 =
      false ∧ p.flag 28 1 = false ∧ count = p.u32 24 ∧ gone = (s.inst n).pages.filter (fun q => overlaps q va count) ∧ (∀ j, j <
      count → ∃ q, q ∈ gone ∧ q.va = va + j ∧ q.big = false) ∧ (∀ f, f ∈ s.surfacesOf n → f.2.dead = true ∨ p.u64 16 + count *
      65536 ≤ f.2.iaddr ∨ f.2.iaddr + f.2.size ≤ p.u64 16)) :=
  ⟨
    ⟨gk 16 (hInst 16) [0xFFC10000, 0xFF, 63, 0], owner (page 0 false), _, _, _, rfl, rfl, by decide, by decide, rfl, by decide,
      by decide, by decide, by decide, by decide⟩,
    ⟨gk 16 (hInst 16) [0xFFE00000, 0xFF, 1, 3], owner (page 0 false), _, _, _, rfl, rfl, by decide, by decide, rfl, by decide,
      by decide, by decide, by decide⟩,
    ⟨gk 16 (hInst 16) [0, 0, 1, 0], owner (page 0 false), _, _, _, [page 0 false], 1, rfl, rfl, by decide, by decide, rfl,
      by decide, by decide, by decide, by decide, by decide,
      by intro j hj; cases Nat.lt_one_iff.mp hj; exact ⟨page 0 false, by decide, by decide, by decide⟩, by decide⟩⟩

/-- States and operands that meet the hypotheses of CopyCommandsComplete, clause by clause. -/
theorem witness_CopyCommandsComplete :
    (∃ (p : Packet) (s : State) (u : State) (ds : List CopyDesc) (n : Nat), u = s.markApplied p ∧ n = p.inst ∧ p.target = hInst n ∧
      s.takes opCopy true p = true ∧ ds = copyDescs p ∧ 1 ≤ copyCount p ∧ copyCount p ≤ 127 ∧ p.u16 18 = 0 ∧ p.length = 4 + 32 *
      copyCount p ∧ copyReserved p = true ∧ (∀ d, d ∈ ds → d.kind ≤ 3) ∧ (∀ d, d ∈ ds → s.descOk n d = true) ∧ copyCount p ≤
      (s.inst n).descs) ∧
    (∃ (s : State) (n : Nat) (seq : Nat) (e : Nat) (j : CopyJob), s.copy.find? (fun j => decide (j.inst = n) && decide
      (j.owed.p.seq = w32 seq) && j.engine.isNone) = some j ∧ s.chooseEngine = some e ∧ s.descsHeld n + j.descs.length ≤ (s.inst
      n).descs ∧ (s.inst n).state ≠ .frozen) ∧
    (∃ (s : State) (e : Nat) (j : CopyJob) (d : CopyDesc) (ds : List CopyDesc), s.present (hCopy e) = true ∧ s.engineJob e = some j
      ∧ j.descs = d :: ds ∧ (d.usesHost = true → s.busMaster j.inst = true) ∧ j.isSeal = false ∧ d.kind ≤ 3 ∧ ds ≠ []) ∧
    (∃ (s : State) (e : Nat) (j : CopyJob) (d : CopyDesc) (ds : List CopyDesc), s.present (hCopy e) = true ∧ s.engineJob e = some j
      ∧ j.descs = d :: ds ∧ (d.usesHost = true → s.busMaster j.inst = true) ∧ j.isSeal = false ∧ d.kind ≤ 3 ∧ ds = []) ∧
    (∃ (s : State) (e : Nat) (j : CopyJob) (d : CopyDesc) (ds : List CopyDesc), s.present (hCopy e) = true ∧ s.engineJob e = some j
      ∧ j.descs = d :: ds ∧ d.usesHost = true) :=
  ⟨
    ⟨gk 16 (hInst 16) [1, 0x23, 0x10000, 0, 0, 0, 0, 0, 0], owner (page 0 false), _, _, _, rfl, rfl, by decide, by decide, rfl,
      by decide, by decide, by decide, by decide, by decide, by decide, by decide, by decide⟩,
    ⟨copying (job none (List.replicate 64 (fill false))), 16, 1, 0, job none (List.replicate 64 (fill false)), by decide,
      by decide, by decide, by decide⟩,
    ⟨copying (job (some 7) [fill false, fill true]), 7, job (some 7) [fill false, fill true], fill false, [fill true],
      by decide, by decide, by decide, by decide, by decide, by decide, by decide⟩,
    ⟨copying (job (some 7) [fill false]), 7, job (some 7) [fill false], fill false, [], by decide, by decide, by decide,
      by decide, by decide, by decide, by decide⟩,
    ⟨copying (job (some 7) [{ fill false with kind := 0 }]), 7, job (some 7) [{ fill false with kind := 0 }],
      { fill false with kind := 0 }, [], by decide, by decide, by decide, by decide⟩⟩

/-- States and operands that meet the hypotheses of CopyDescriptorsStoreOnlyTheirBytes, clause by clause. -/
theorem witness_CopyDescriptorsStoreOnlyTheirBytes :
    (∃ (s : State) (n : Nat) (d : CopyDesc) (q : _), (d.kind = 2 ∨ d.kind = 3) ∧ d.dstSpad = false ∧ (∀ i, i < d.length → physAt
      (s.inst n).pages (d.dst + i) ≠ some q)) ∧
    (∃ (s : State) (n : Nat) (d : CopyDesc) (q : _), (d.kind = 2 ∨ d.kind = 3) ∧ d.dstSpad = true ∧ (∀ i, i < d.length → spadAt
      (s.inst n).spadBlocks (d.dst + i) ≠ some q)) ∧
    (∃ (s : State) (n : Nat) (d : CopyDesc) (p : Packet) (q : _), (d.kind = 2 ∨ d.kind = 3) ∧ d.dstSpad = false ∧ (∀ i, i <
      d.length → physAt ((s.setPages n (s.jobPages n p)).inst n).pages (d.dst + i) ≠ some q)) ∧
    (∃ (s : State) (d : CopyDesc), (d.kind = 2 ∨ d.kind = 3) ∧ s.dram.wf = true) ∧
    (∃ (s : State) (n : Nat) (d : CopyDesc) (i : _) (q : _), (d.kind = 2 ∨ d.kind = 3) ∧ d.kind = 3 ∧ d.dstSpad = true ∧ s.spad.wf
      = true ∧ (s.inst n).spadBlocks.Nodup ∧ i < d.length ∧ spadAt (s.inst n).spadBlocks (d.dst + i) = some q) :=
  ⟨
    ⟨owner (page 0 false), 16, fill false, 65540, by decide, by decide, by decide⟩,
    ⟨owner (page 0 false), 16, fill true, 6287359, by decide, by decide, by decide⟩,
    ⟨owner (page 0 false), 16, fill false, gk 16 (hInst 16) [], 65540, by decide, by decide, by decide⟩,
    ⟨up, fill false, by decide, by decide⟩,
    ⟨owner (page 0 false), 16, fill true, 3, 6287363, by decide, by decide, by decide, by decide, by decide, by decide,
      by decide⟩⟩

/-- States and operands that meet the hypotheses of MemConfigCompletes, clause by clause. -/
theorem witness_MemConfigCompletes :
    (∃ (p : Packet) (s : State) (u : State) (rs : _), u = s.markApplied p ∧ s.takes opMemConfig true p = true ∧ p.fld 16 8 24 = 0 ∧
      p.u8 16 = 0 ∧ p.target = hDevice ∧ p.length = 28 ∧ rs = [regionField p 1, regionField p 2, regionField p 3] ∧ (∀ r, r ∈ rs →
      r.legal = true) ∧ (∀ r, r ∈ rs → r.sizeMiB = 0 ∨ r.chmask < 2 ^ s.board.member.channels) ∧ p.fld 20 14 18 = 0 ∧ p.fld 28 14
      18 = 0 ∧ p.fld 36 14 18 = 0 ∧ s.sharesFit rs = true ∧ s.guests = []) ∧
    (∃ (p : Packet) (s : State) (u : State), u = s.markApplied p ∧ s.takes opMemConfig true p = true ∧ p.fld 16 8 24 = 0 ∧ p.u8 16
      = 1 ∧ p.target = hDevice ∧ p.length = 8 ∧ 8 ≤ p.fld 20 0 5 ∧ p.fld 20 0 5 ≤ 16 ∧ p.fld 20 5 3 = 0 ∧ p.fld 20 9 23 = 0) ∧
    (∃ (p : Packet) (s : State) (u : State), u = s.markApplied p ∧ s.takes opMemConfig true p = true ∧ p.fld 16 8 24 = 0 ∧ p.u8 16
      = 2 ∧ p.target = hDevice ∧ p.length = 8 ∧ 1 ≤ p.u8 20 ∧ p.u8 20 ≤ 64 ∧ 4 ≤ p.u8 21 ∧ p.u8 21 ≤ 64 ∧ 16 ≤ p.u8 22 ∧ p.u8 22 ≤
      72 ∧ p.u8 23 = 0) ∧
    (∃ (p : Packet) (s : State) (u : State) (a : _) (b : _) (c : _) (d : _), u = s.markApplied p ∧ s.takes opMemConfig true p =
      true ∧ p.fld 16 8 24 = 0 ∧ p.u8 16 = 3 ∧ p.target = hSlc ∧ p.length = 16 ∧ a = p.u16 20 ∧ b = p.u16 22 ∧ c = p.u16 24 ∧ d =
      p.u16 26 ∧ a % 4 = 0 ∧ b % 4 = 0 ∧ c % 4 = 0 ∧ d % 4 = 0 ∧ p.u8 28 ≤ 2 ∧ p.u8 29 ≤ 2 ∧ p.u8 30 ≤ 2 ∧ p.u8 31 ≤ 2 ∧ popcount
      16 a + popcount 16 b + popcount 16 c + popcount 16 d = popcount 16 (a ||| b ||| c ||| d) ∧ (a ||| b ||| c ||| d) < 2 ^
      s.board.member.slcWays ∧ (∀ n, n ∈ s.guests → (s.inst n).ways &&& (a ||| b ||| c ||| d) = 0)) :=
  ⟨
    ⟨pk hDevice [0, 0x0CFF, 16128, 0, 0, 0, 0], up, _, _, rfl, by decide, by decide, by decide, by decide, by decide, rfl,
      by decide, by decide, by decide, by decide, by decide, by decide, by decide⟩,
    ⟨pk hDevice [1, 0x110], up, _, rfl, by decide, by decide, by decide, by decide, by decide, by decide, by decide, by decide,
      by decide⟩,
    ⟨pk hDevice [2, 0x00484040], up, _, rfl, by decide, by decide, by decide, by decide, by decide, by decide, by decide,
      by decide, by decide, by decide, by decide, by decide⟩,
    ⟨pk hSlc [3, 0xFFFC, 0, 0x02020202], up, _, _, _, _, _, rfl, by decide, by decide, by decide, by decide, by decide, rfl,
      rfl, rfl, rfl, by decide, by decide, by decide, by decide, by decide, by decide, by decide, by decide, by decide,
      by decide, by decide⟩⟩

/-- States and operands that meet the hypotheses of HostAccessesComplete, clause by clause. -/
theorem witness_HostAccessesComplete :
    (∃ (s : State) (port : Nat) (fn : Nat) (addr : Nat) (n : Nat) (k : Nat) (len : _), k = fnKey port fn ∧ s.present (hPort port) =
      true ∧ s.fnExists port fn = true ∧ s.boundTo k = some n ∧ addr < 2 ^ 26 - 4096 ∧ 26 ≤ (s.ports.get port).bar2Pf ∧ 26 ≤
      (s.ports.get port).bar2Vf ∧ len ≤ 4096 ∧ mappedRange (s.inst n).pages addr len = true) ∧
    (∃ (s : State) (port : Nat) (fn : Nat) (addr : Nat) (n : Nat) (k : Nat) (d : List Byte), k = fnKey port fn ∧ s.present (hPort
      port) = true ∧ s.fnExists port fn = true ∧ s.boundTo k = some n ∧ addr < 2 ^ 26 - 4096 ∧ 26 ≤ (s.ports.get port).bar2Pf ∧ 26
      ≤ (s.ports.get port).bar2Vf ∧ d.length ≤ 4096 ∧ mappedRange (s.inst n).pages addr d.length = true ∧ (∀ i, i < d.length →
      hostRoAt (s.inst n).pages (addr + i) = false)) ∧
    (∃ (s : State) (port : Nat) (fn : Nat) (addr : Nat) (n : Nat) (k : Nat) (d : List Byte), k = fnKey port fn ∧ s.present (hPort
      port) = true ∧ s.fnExists port fn = true ∧ s.boundTo k = some n ∧ addr < 2 ^ 26 - 4096 ∧ 26 ≤ (s.ports.get port).bar2Pf ∧ 26
      ≤ (s.ports.get port).bar2Vf ∧ d.length ≤ 4096 ∧ mappedRange (s.inst n).pages addr d.length = true ∧ 0 < d.length ∧ (∀ i, i <
      d.length → hostRoAt (s.inst n).pages (addr + i) = true)) ∧
    (∃ (s : State) (port : Nat) (fn : Nat) (addr : Nat) (n : Nat) (k : Nat) (len : _), k = fnKey port fn ∧ s.present (hPort port) =
      true ∧ s.fnExists port fn = true ∧ s.boundTo k = some n ∧ addr < 2 ^ 26 - 4096 ∧ 26 ≤ (s.ports.get port).bar2Pf ∧ 26 ≤
      (s.ports.get port).bar2Vf ∧ len ≤ 4096 ∧ mappedRange (s.inst n).pages addr len = false) ∧
    (∃ (s : State) (port : Nat) (fn : Nat) (addr : Nat) (n : Nat) (k : Nat) (len : _), k = fnKey port fn ∧ s.present (hPort port) =
      true ∧ s.fnExists port fn = true ∧ s.boundTo k = some n ∧ addr + len ≤ 2 ^ (s.ports.get port).bar4Pf ∧ addr + len ≤ 2 ^
      (s.ports.get port).bar4Vf ∧ addr + len ≤ 4096 * (s.inst n).spadBlocks.length) ∧
    (∃ (s : State) (port : Nat) (fn : Nat) (addr : Nat) (n : Nat) (k : Nat) (len : _), k = fnKey port fn ∧ s.present (hPort port) =
      true ∧ s.fnExists port fn = true ∧ s.boundTo k = some n ∧ addr + len ≤ 2 ^ (s.ports.get port).bar4Pf ∧ addr + len ≤ 2 ^
      (s.ports.get port).bar4Vf ∧ 4096 * (s.inst n).spadBlocks.length < addr + len) ∧
    (∃ (s : State) (port : Nat) (fn : Nat) (addr : Nat) (n : Nat) (k : Nat) (d : List Byte), k = fnKey port fn ∧ s.present (hPort
      port) = true ∧ s.fnExists port fn = true ∧ s.boundTo k = some n ∧ addr + d.length ≤ 2 ^ (s.ports.get port).bar4Pf ∧ addr +
      d.length ≤ 2 ^ (s.ports.get port).bar4Vf ∧ addr + d.length ≤ 4096 * (s.inst n).spadBlocks.length) ∧
    (∃ (s : State) (port : Nat) (fn : Nat) (addr : Nat) (n : Nat) (k : Nat) (d : List Byte), k = fnKey port fn ∧ s.present (hPort
      port) = true ∧ s.fnExists port fn = true ∧ s.boundTo k = some n ∧ addr + d.length ≤ 2 ^ (s.ports.get port).bar4Pf ∧ addr +
      d.length ≤ 2 ^ (s.ports.get port).bar4Vf ∧ 4096 * (s.inst n).spadBlocks.length < addr + d.length) ∧
    (∃ (s : State) (port : Nat) (fn : Nat) (addr : Nat) (n : Nat) (k : Nat) (wide : _) (w : _), k = fnKey port fn ∧ s.present
      (hPort port) = true ∧ s.fnExists port fn = true ∧ s.boundTo k = some n ∧ w = (if wide = true then 8 else 4) ∧ addr % w = 0 ∧
      4096 * (s.inst n).spadBlocks.length < addr + w) ∧
    (∃ (s : State) (port : Nat) (fn : Nat) (addr : Nat) (n : Nat) (k : Nat) (wide : _) (w : _), k = fnKey port fn ∧ s.present
      (hPort port) = true ∧ s.fnExists port fn = true ∧ s.boundTo k = some n ∧ w = (if wide = true then 8 else 4) ∧ addr % w = 0 ∧
      addr + w ≤ 4096 * (s.inst n).spadBlocks.length) :=
  ⟨
    ⟨owner (page 1023 false), 3, 16, 2 ^ 26 - 4097, 16, _, 4096, rfl, by decide, by decide, by decide, by decide, by decide,
      by decide, by decide, by decide⟩,
    ⟨owner (page 1023 false), 3, 16, 2 ^ 26 - 4097, 16, _, [1], rfl, by decide, by decide, by decide, by decide, by decide,
      by decide, by decide, by decide, by decide⟩,
    ⟨owner (page 1023 true), 3, 16, 2 ^ 26 - 4097, 16, _, [1], rfl, by decide, by decide, by decide, by decide, by decide,
      by decide, by decide, by decide, by decide, by decide⟩,
    ⟨owner (page 1023 false), 3, 16, 0, 16, _, 4096, rfl, by decide, by decide, by decide, by decide, by decide, by decide,
      by decide, by decide⟩,
    ⟨owner (page 1023 false), 3, 16, 4092, 16, _, 4, rfl, by decide, by decide, by decide, by decide, by decide, by decide⟩,
    ⟨owner (page 1023 false), 3, 16, 2 ^ 20 - 4, 16, _, 4, rfl, by decide, by decide, by decide, by decide, by decide,
      by decide⟩,
    ⟨owner (page 1023 false), 3, 16, 4095, 16, _, [1], rfl, by decide, by decide, by decide, by decide, by decide, by decide⟩,
    ⟨owner (page 1023 false), 3, 16, 2 ^ 20 - 1, 16, _, [1], rfl, by decide, by decide, by decide, by decide, by decide,
      by decide⟩,
    ⟨owner (page 1023 false), 3, 16, 4096, 16, _, true, _, rfl, by decide, by decide, by decide, rfl, by decide, by decide⟩,
    ⟨owner (page 1023 false), 3, 16, 4088, 16, _, true, _, rfl, by decide, by decide, by decide, rfl, by decide, by decide⟩⟩

/-- States and operands that meet the hypotheses of MemoryEventsComplete, clause by clause. -/
theorem witness_MemoryEventsComplete :
    (∃ (s : State) (c : Nat), s.present (hChannel c) = true) ∧
    (∃ (s : State) (c : Nat), s.present (hChannel c) = true) ∧
    (∃ (s : State) (c : Nat), s.present (hChannel c) = true ∧ (s.memc.channels.get c).fails = 0) ∧
    (∃ (s : State) (c : Nat), s.present (hChannel c) = true ∧ (s.memc.channels.get c).fails = 2) ∧
    (∃ (s : State) (c : Nat) (r : _), s.present (hChannel c) = true ∧ 1 ≤ r ∧ r ≤ 3 ∧ (s.memc.regions.getD (r - 1) .empty).ecc =
      true) ∧
    (∃ (b : _), 1536 ≤ b) ∧
    (∃ (s : State) (b : _) (n : _), b < 1536 ∧ s.guests.find? (fun n => (s.inst n).spadBlocks.contains b) = some n) :=
  ⟨
    ⟨up, 7, by decide⟩,
    ⟨up, 7, by decide⟩,
    ⟨up.setMemc { up.memc with channels := up.memc.channels.set 7 { fails := 0, retrains := 9 } }, 7, by decide, by decide⟩,
    ⟨up.setMemc { up.memc with channels := up.memc.channels.set 7 { fails := 2, retrains := 9 } }, 7, by decide, by decide⟩,
    ⟨up.setMemc { up.memc with regions := [.empty, .empty, { chmask := 1, grain := 16, ecc := true, retain := false, sizeMiB := 2 }] },
      7, 3, by decide, by decide, by decide, by decide⟩,
    ⟨1536, by decide⟩,
    ⟨owner (page 0 false), 1535, 16, by decide, by decide⟩⟩

/-- A surface of one tile at address 0, as WRITE_BEGIN finds it. -/
def surf0 : Surface :=
  { iaddr := 0, width := 64, height := 64, format := 0, isSealed := true, gen := 0xFFFFFFFF, isOpen := false, keep := false,
    writers := 0, closing := none, dead := false, silent := false, table := Tab.empty }

/-- Instance 16 with surface 5 as given. -/
def withSurf (f : Surface) : State := (owner (page 0 false)).setSurface 16 5 (some f)

/-- The same with surface 5 shown by slot 63 on the running pipe 7. -/
def shown (f : Surface) : State :=
  let s := withSurf f
  let s := s.updPipe 7 (fun q => { q with state := .run })
  s.setBlend { s.blend with slots := s.blend.slots.set 63 { Slot.reset with
    holder := some 16, current := { LayerState.empty with enable := true, surface := 5, pipe := 7 }, curGen := 1 } }

/-- A retire fence of instance 16 on surface 5. -/
def fence (g : W32) : Fence := { inst := 16, id := 1, surface := 5, gen := g, spad := false, offset := 0, value := 0 }

/-- States and operands that meet the hypotheses of SurfacePacketsComplete, clause by clause. -/
theorem witness_SurfacePacketsComplete :
    (∃ (p : Packet) (s : State) (u : State) (n : Nat) (f : Surface), u = s.markApplied p ∧ n = p.inst ∧ s.takes opSurfaceCreate
      (ownHandle p) p = true ∧ f =
      { iaddr := p.u64 16, width := p.u16 24, height := p.u16 26, format := p.u8 28, isSealed := !p.flag 29 0, gen := 1, isOpen := false, keep := false, writers := 0, closing := none, dead := false, silent := false, table := Tab.empty }
      ∧ p.length = 16 ∧ p.fld 29 1 7 = 0 ∧ p.u16 30 = 0 ∧ f.iaddr % 4096 = 0 ∧ 1 ≤ f.width ∧ f.width ≤ 16384 ∧ 1 ≤ f.height ∧
      f.height ≤ 16384 ∧ f.format ≤ 6 ∧ (isYuv f.format = true → f.width % 2 = 0 ∧ f.height % 2 = 0) ∧ f.iaddr + f.size ≤ 2 ^ 40 ∧
      mappedRange (s.inst n).pages f.iaddr f.size = true ∧ (s.surfacesOf n).length < 4096 ∧ s.structFits n f.tableBytes = true ∧ (∀
      g ∈ s.surfacesOf n, f.iaddr + f.size ≤ g.2.iaddr ∨ g.2.iaddr + g.2.size ≤ f.iaddr)) ∧
    (∃ (p : Packet) (s : State) (u : State) (n : Nat) (f : Surface), u = s.markApplied p ∧ n = p.inst ∧ s.surface n (p.u32 16) =
      some f ∧ s.takes opSurfaceDestroy (ownHandle p) p = true ∧ p.length = 4 ∧ f.isOpen = false ∧ s.inScanout n (p.u32 16) = true) ∧
    (∃ (p : Packet) (s : State) (u : State) (n : Nat) (f : Surface), u = s.markApplied p ∧ n = p.inst ∧ s.surface n (p.u32 16) =
      some f ∧ s.takes opSurfaceDestroy (ownHandle p) p = true ∧ p.length = 4 ∧ f.isOpen = false ∧ s.inScanout n (p.u32 16) = false
      ∧ (∀ i ∈ s.slotsOf n, (s.slot i).pending = false)) ∧
    (∃ (p : Packet) (s : State) (u : State) (n : Nat) (f : Surface), u = s.markApplied p ∧ n = p.inst ∧ s.surface n (p.u32 16) =
      some f ∧ s.takes opWriteBegin (ownHandle p) p = true ∧ p.length = 8 ∧ p.fld 20 1 31 = 0 ∧ f.isOpen = false) ∧
    (∃ (p : Packet) (s : State) (u : State) (n : Nat) (f : Surface), u = s.markApplied p ∧ n = p.inst ∧ s.surface n (p.u32 16) =
      some f ∧ s.takes opWriteEnd (ownHandle p) p = true ∧ p.length = 4 ∧ f.isOpen = true ∧ f.closing = none) ∧
    (∃ (p : Packet) (s : State) (u : State) (n : Nat) (f : Surface) (rows : _), u = s.markApplied p ∧ n = p.inst ∧ s.surface n
      (p.u32 16) = some f ∧ s.takes opSeal (ownHandle p) p = true ∧ p.length = 12 ∧ p.fld 24 2 30 = 0 ∧ (p.fld 24 0 2 = 2 ∨ p.fld
      24 0 2 = 3) ∧ rows = (if p.u16 22 = 0 then f.th - p.u16 20 else p.u16 22) ∧ p.u16 20 < f.th ∧ p.u16 20 + rows ≤ f.th ∧
      (f.isSealed = false → p.u16 20 = 0 ∧ rows = f.th ∧ s.structFits n (8 * f.tw * f.th) = true) ∧ 1 ≤ (s.inst n).descs ∧ f.isOpen
      = true ∧ f.closing = none) :=
  ⟨
    ⟨gk 16 (hInst 16) [0xC000, 0, 0x00400040, 0], owner (page 0 false), _, _, _, rfl, rfl, by decide, rfl, by decide,
      by decide, by decide, by decide, by decide, by decide, by decide, by decide, by decide, by decide, by decide, by decide,
      by decide, by decide, by decide⟩,
    ⟨gk 16 (hInst 16) [5], shown surf0, _, _, surf0, rfl, rfl, by decide, by decide, by decide, by decide, by decide⟩,
    ⟨gk 16 (hInst 16) [5], withSurf surf0, _, _, surf0, rfl, rfl, by decide, by decide, by decide, by decide, by decide,
      by decide⟩,
    ⟨gk 16 (hInst 16) [5, 1], withSurf surf0, _, _, surf0, rfl, rfl, by decide, by decide, by decide, by decide, by decide⟩,
    ⟨gk 16 (hInst 16) [5], withSurf { surf0 with isOpen := true }, _, _, { surf0 with isOpen := true }, rfl, rfl, by decide,
      by decide, by decide, by decide, by decide⟩,
    ⟨gk 16 (hInst 16) [5, 0, 3], withSurf { surf0 with isOpen := true, isSealed := false }, _, _,
      { surf0 with isOpen := true, isSealed := false }, _, rfl, rfl, by decide, by decide, by decide, by decide, by decide,
      rfl, by decide, by decide, by decide, by decide, by decide, by decide⟩⟩

/-- States and operands that meet the hypotheses of WindowsAndFencesComplete, clause by clause. -/
theorem witness_WindowsAndFencesComplete :
    (∃ (s : State) (n : Nat) (id : Nat) (f : Surface) (o : _), s.surface n id = some f ∧ f.isOpen = true ∧ f.writers = 0 ∧
      f.closing = some o) ∧
    (∃ (s : State) (n : Nat) (id : Nat) (f : Surface), s.surfAny n id = some f ∧ s.inScanout n id = false ∧ f.dead = true ∧
      f.silent = false) ∧
    (∃ (s : State) (n : Nat) (id : Nat) (f : Surface), s.surfAny n id = some f ∧ s.inScanout n id = false ∧ f.dead = true ∧
      f.silent = true) ∧
    (∃ (s : State) (n : Nat) (id : Nat) (f : Surface), s.surfAny n id = some f ∧ s.inScanout n id = false ∧ f.dead = false) ∧
    (∃ (s : State) (n : Nat) (id : Nat) (f : Surface) (p : Packet) (u : State) (g : W32), u = s.markApplied p ∧ n = p.inst ∧ id =
      p.u32 16 ∧ s.takes opRetireFence (ownHandle p) p = true ∧ s.surface n id = some f ∧ p.length = 24 ∧ p.fld 24 1 31 = 0 ∧ g =
      (if p.u32 20 = 0 then f.gen else w32 (p.u32 20)) ∧ genLater g f.gen = false ∧ (p.flag 24 0 = true → p.u32 28 % 8 = 0 ∧ p.u32
      28 + 8 ≤ 4096 * (s.inst n).spadBlocks.length) ∧ (s.surf.fences.filter (fun x => decide (x.inst = n))).length < 64) ∧
    (∃ (s : State) (e : Fence), s.fenceWaits e = true ∧ s.surf.fences = [e]) ∧
    (∃ (s : State) (e : Fence), s.fenceWaits e = false ∧ (s.inst e.inst).state ≠ .frozen ∧ s.surf.fences = [e]) :=
  ⟨
    ⟨withSurf { surf0 with isOpen := true, closing := some { opcode := 0x2004, p := gk 16 (hInst 16) [5] } }, 16, 5,
      { surf0 with isOpen := true, closing := some { opcode := 0x2004, p := gk 16 (hInst 16) [5] } },
      { opcode := 0x2004, p := gk 16 (hInst 16) [5] }, by decide, by decide, by decide, by decide⟩,
    ⟨withSurf { surf0 with dead := true }, 16, 5, { surf0 with dead := true }, by decide, by decide, by decide, by decide⟩,
    ⟨withSurf { surf0 with dead := true, silent := true }, 16, 5, { surf0 with dead := true, silent := true }, by decide,
      by decide, by decide, by decide⟩,
    ⟨withSurf surf0, 16, 5, surf0, by decide, by decide, by decide⟩,
    ⟨withSurf surf0, _, _, surf0, gk 16 (hInst 16) [5, 0xFFFFFFFF, 1, 4088, 0, 0], _, _, rfl, rfl, rfl, by decide, by decide,
      by decide, by decide, rfl, by decide, by decide, by decide⟩,
    ⟨let s := shown surf0; s.setSurf { s.surf with fences := [fence 1] }, fence 1, by decide, by decide⟩,
    ⟨let s := withSurf surf0; s.setSurf { s.surf with fences := [fence 1] }, fence 1, by decide, by decide, by decide⟩⟩

/-- A shader module of the least length. -/
def module0 : Machine.Module := { bytes := 20, sha := 0, entries := 0, removed := false }

/-- Instance 16 with shader module 9. -/
def withModule : State :=
  let s := owner (page 0 false)
  s.setGpu { s.gpu with modules := s.gpu.modules.set (idKey 16 9) (some module0) }

/-- PIPELINE_CREATE of a compute pipeline on module 9. -/
def create : Packet := gk 16 (hInst 16) [1, 9, 0, 0, 0, 0, 0, 0]

/-- The pipeline that it asks for. -/
def wanted : Pipeline := wantedPipeline create 0 0 up.gpu.backEnd []

/-- A compilation under way. -/
def compile : Compile := { owed := { opcode := 0x3002, p := create }, inst := 16, pipeline := wanted }

/-- States and operands that meet the hypotheses of ShaderCommandsComplete, clause by clause. Hypotheses that ask something of a free value of Config are left out. -/
theorem witness_ShaderCommandsComplete :
    (∃ (s : State) (n : Nat) (p : Packet) (u : State), u = s.markApplied p ∧ n = p.inst ∧ s.takes opShaderLoad (ownHandle p) p =
      true ∧ p.length = 16 ∧ p.u32 28 = 0 ∧ p.u64 16 % 4 = 0 ∧ 20 ≤ p.u32 24 ∧ p.u32 24 ≤ 4194304 ∧ p.u32 24 % 4 = 0 ∧ ((instCells
      s.gpu.modules n).filter (fun m => !m.2.removed)).length < 1024) ∧
    (∃ (s : State) (n : Nat) (p : Packet) (u : State), u = s.markApplied p ∧ n = p.inst ∧ s.takes opShaderLoad (ownHandle p) p =
      true ∧ p.length = 16 ∧ p.u32 28 = 0 ∧ p.u64 16 % 4 = 0 ∧ 20 ≤ p.u32 24 ∧ p.u32 24 ≤ 4194304 ∧ p.u32 24 % 4 = 0 ∧ 1024 ≤
      ((instCells s.gpu.modules n).filter (fun m => !m.2.removed)).length) ∧
    (∃ (s : State) (n : Nat) (p : Packet) (u : State) (m : Machine.Module) (q : Pipeline), u = s.markApplied p ∧ n = p.inst ∧
      s.takes opPipelineCreate (ownHandle p) p = true ∧ p.flag 16 0 = true ∧ p.fld 16 1 7 = 0 ∧ p.u8 17 ≤ 64 ∧ p.u16 18 = 0 ∧
      p.length = 32 + 8 * p.u8 17 ∧ p.u16 30 = 0 ∧ p.u32 44 = 0 ∧ p.u64 32 = 0 ∧ p.u32 24 = 0 ∧ ((instCells s.gpu.pipelines
      n).filter (fun m => !m.2.removed)).length < 4096 ∧ s.module_ n (p.u32 20) = some m ∧ (∃ z, q = wantedPipeline p m.sha z
      s.gpu.backEnd []) ∧ (s.gpu.cache.get n).find? (fun e => decide (e.key ∈ q.keys)) = none) ∧
    (∃ (s : State) (n : Nat) (p : Packet) (u : State) (m : Machine.Module) (q : Pipeline) (e : _), u = s.markApplied p ∧ n = p.inst
      ∧ s.takes opPipelineCreate (ownHandle p) p = true ∧ p.flag 16 0 = true ∧ p.fld 16 1 7 = 0 ∧ p.u8 17 ≤ 64 ∧ p.u16 18 = 0 ∧
      p.length = 32 + 8 * p.u8 17 ∧ p.u16 30 = 0 ∧ p.u32 44 = 0 ∧ p.u64 32 = 0 ∧ p.u32 24 = 0 ∧ ((instCells s.gpu.pipelines
      n).filter (fun m => !m.2.removed)).length < 4096 ∧ s.module_ n (p.u32 20) = some m ∧ (∃ z, q = wantedPipeline p m.sha z
      s.gpu.backEnd []) ∧ s.gpu.cache.get n = [e] ∧ q.keys = [e.key]) ∧
    (∃ (s : State) (n : Nat) (p : Packet) (u : State), u = s.markApplied p ∧ n = p.inst ∧ s.takes opPipelineDestroy (ownHandle p) p
      = true ∧ p.length = 8 ∧ p.fld 20 1 31 = 0 ∧ p.flag 20 0 = true ∧ (s.module_ n (p.u32 16)).isSome = true) ∧
    (∃ (s : State) (n : Nat) (p : Packet) (u : State), u = s.markApplied p ∧ n = p.inst ∧ s.takes opPipelineDestroy (ownHandle p) p
      = true ∧ p.length = 8 ∧ p.fld 20 1 31 = 0 ∧ p.flag 20 0 = false ∧ (s.pipeline n (p.u32 16)).isSome = true) ∧
    (∃ (s : State) (n : Nat) (seq : Nat) (c : Compile) (k : Nat), s.compiling n seq = some c ∧ k ≤ 64) ∧
    (∃ (s : State) (n : Nat) (seq : Nat) (c : Compile) (error : _), s.compiling n seq = some c ∧ error ≠ 0) ∧
    (∃ (s : State) (n : Nat) (seq : Nat) (c : Compile), s.compiling n seq = some c) :=
  ⟨
    ⟨owner (page 0 false), _, gk 16 (hInst 16) [0xFFFFFFFC, 0xFFFFFFFF, 4194304, 0], _, rfl, rfl, by decide, by decide,
      by decide, by decide, by decide, by decide, by decide, by decide⟩,
    ⟨let s := owner (page 0 false); s.setGpu { s.gpu with modules := { cells := (List.range 1024).map (fun i => (idKey 16 (i + 1), some module0)) } },
      _, gk 16 (hInst 16) [0xFFFFFFFC, 0xFFFFFFFF, 20, 0], _, rfl, rfl, by decide, by decide, by decide, by decide, by decide,
      by decide, by decide, by decide⟩,
    ⟨withModule, _, create, _, module0, wanted, rfl, rfl, by decide, by decide, by decide, by decide, by decide, by decide,
      by decide, by decide, by decide, by decide, by decide, by decide, ⟨0, rfl⟩, rfl⟩,
    ⟨let s := withModule; s.setGpu { s.gpu with cache := s.gpu.cache.set 16 [{ key := { sha := 0, entry := 0, specs := [], fields := [], backEnd := up.gpu.backEnd }, regs := 1, components := 1, size := 1, used := 0 }] },
      _, create, _, module0, wanted,
      { key := { sha := 0, entry := 0, specs := [], fields := [], backEnd := up.gpu.backEnd }, regs := 1, components := 1, size := 1, used := 0 },
      rfl, rfl, by decide, by decide, by decide, by decide, by decide, by decide, by decide, by decide, by decide, by decide,
      by decide, by decide, ⟨0, rfl⟩, rfl, rfl⟩,
    ⟨withModule, _, gk 16 (hInst 16) [9, 1], _, rfl, rfl, by decide, by decide, by decide, by decide, by decide⟩,
    ⟨let s := owner (page 0 false); s.setGpu { s.gpu with pipelines := s.gpu.pipelines.set (idKey 16 9) (some wanted) }, _,
      gk 16 (hInst 16) [9, 0], _, rfl, rfl, by decide, by decide, by decide, by decide, by decide⟩,
    ⟨let s := owner (page 0 false); s.setGpu { s.gpu with compiles := [compile] }, 16, 1, compile, 64, by decide, by decide⟩,
    ⟨let s := owner (page 0 false); s.setGpu { s.gpu with compiles := [compile] }, 16, 1, compile, 11, by decide, by decide⟩,
    ⟨let s := owner (page 0 false); s.setGpu { s.gpu with compiles := [compile] }, 16, 1, compile, by decide⟩⟩

/-- States and operands that meet the hypotheses of QueueConfigCompletes, clause by clause. -/
theorem witness_QueueConfigCompletes :
    (∃ (p : Packet) (s : State) (u : State) (q : Nat), u = s.markApplied p ∧ q = p.fld 20 0 2 ∧ s.takes opQueueConfig (ownHandle p)
      p = true ∧ p.length = 8 ∧ p.u32 16 = 0 ∧ p.fld 20 2 6 = 0 ∧ 1 ≤ p.u8 21 ∧ p.u8 21 ≤ 64 ∧ p.fld 22 0 5 ≤ 16 ∧ p.fld 22 5 11 =
      0 ∧ (q = 0 → s.general p = false)) ∧
    (∃ (p : Packet) (s : State) (u : State), u = s.markApplied p ∧ s.takes opQueueConfig (ownHandle p) p = true ∧ p.length = 8 ∧
      p.u32 16 = 1 ∧ p.u16 20 ≤ 1024 ∧ p.u16 22 = 0) ∧
    (∃ (p : Packet) (s : State) (u : State), u = s.markApplied p ∧ s.takes opQueueConfig (ownHandle p) p = true ∧ p.length = 4 ∧
      p.u32 16 = 2) ∧
    (∃ (p : Packet) (s : State) (u : State) (q : Nat), u = s.markApplied p ∧ q = p.fld 20 0 2 ∧ s.takes opQueueConfig (ownHandle p)
      p = true ∧ p.length = 16 ∧ p.u32 16 = 3 ∧ p.fld 20 2 30 = 0 ∧ (p.u32 24 = 0 ∨ (100 ≤ p.u32 24 ∧ p.u32 24 ≤ 100000)) ∧ (p.u16
      28 = 0 ∨ (50 ≤ p.u16 28 ∧ p.u16 28 ≤ 5000)) ∧ p.u16 30 = 0 ∧ (q = 0 → s.general p = false)) :=
  ⟨
    ⟨gk 16 (hInst 16) [0, 0x00104003], inState .active, _, _, rfl, rfl, by decide, by decide, by decide, by decide, by decide,
      by decide, by decide, by decide, by decide⟩,
    ⟨gk 16 (hInst 16) [1, 1024], inState .active, _, rfl, by decide, by decide, by decide, by decide, by decide⟩,
    ⟨gk 16 (hInst 16) [2], inState .active, _, rfl, by decide, by decide, by decide⟩,
    ⟨gk 16 (hInst 16) [3, 3, 100000, 50], inState .active, _, _, rfl, rfl, by decide, by decide, by decide, by decide,
      by decide, by decide, by decide, by decide⟩⟩

/-- PASS_BEGIN of a pass of 64 by 64 pixels without attachments, and a dispatch of one workgroup. -/
def passTok : Token := { offset := 0, op := 0x01, words := [0, 0, 0x00400040, 0] }
def dispatchTok : Token := { offset := 0, op := 0x18, words := [1, 1, 1] }

/-- A SUBMIT of instance 16 on queue 3, in a phase of the work item that token `t` begins. -/
def submit (t : Token) (ph : Phase) (started : Bool) : Submit :=
  { newSubmit (gk 16 (hInst 16) [0, 0, 4, 0, 0, 0, 0, 0]) 3 [t] [] 1 none with phase := ph, started := started }

/-- Instance 16 with a SUBMIT at the head of queue 3, without a cluster. -/
def queued (x : Submit) : State := (owner (page 0 false)).updQueue 16 3 (fun y => { y with submits := [x] })

/-- The same on cluster 0. -/
def running (x : Submit) : State := (queued x).updCluster 0 (fun c => { c with work := some (16, 3) })

/-- No access, no fault, no sample. -/
def noWork : GpuWork := { accesses := [], descs := [], samples := [], outOfRange := 0, splits := 0 }

/-- States and operands that meet the hypotheses of SubmitPacketsComplete, clause by clause. -/
theorem witness_SubmitPacketsComplete :
    (∃ (p : Packet) (s : State) (u : State) (n : Nat) (q : Nat), u = s.markApplied p ∧ n = p.inst ∧ s.takes opSubmit (ownHandle p)
      p = true ∧ q = p.src.ring ∧ p.length = 32 ∧ p.fld 28 4 12 = 0 ∧ p.fld 32 1 31 = 0 ∧ p.u64 16 % 4 = 0 ∧ 4 ≤ p.u32 24 ∧ p.u32
      24 ≤ 4194304 ∧ p.u32 24 % 4 = 0 ∧ p.u16 30 ≤ 5000 ∧ (p.flag 28 3 = true → s.present (hPipe (p.fld 28 0 3)) = true) ∧ (p.flag
      32 0 = true → p.u32 36 % 8 = 0 ∧ p.u32 36 + 8 ≤ 4096 * (s.inst n).spadBlocks.length) ∧ ((s.queue n q).depth ≤ (s.queue n
      q).submits.length ∨ (s.queue n q).waiting ≠ [])) ∧
    (∃ (p : Packet) (s : State) (u : State) (n : Nat) (q : Nat) (k : Walk) (off : _), u = s.markApplied p ∧ n = p.inst ∧ s.takes
      opSubmit (ownHandle p) p = true ∧ q = p.src.ring ∧ p.length = 32 ∧ p.fld 28 4 12 = 0 ∧ p.fld 32 1 31 = 0 ∧ p.u64 16 % 4 = 0 ∧
      4 ≤ p.u32 24 ∧ p.u32 24 ≤ 4194304 ∧ p.u32 24 % 4 = 0 ∧ p.u16 30 ≤ 5000 ∧ (p.flag 28 3 = true → s.present (hPipe (p.fld 28 0
      3)) = true) ∧ (p.flag 32 0 = true → p.u32 36 % 8 = 0 ∧ p.u32 36 + 8 ≤ 4096 * (s.inst n).spadBlocks.length) ∧ k = u.walkBuffer
      n false (p.u64 16) (p.u32 24) ∧ (s.queue n q).submits.length < (s.queue n q).depth ∧ (s.queue n q).waiting = [] ∧ k.failing =
      some off) ∧
    (∃ (p : Packet) (s : State) (u : State) (n : Nat) (q : Nat) (k : Walk), u = s.markApplied p ∧ n = p.inst ∧ s.takes opSubmit
      (ownHandle p) p = true ∧ q = p.src.ring ∧ p.length = 32 ∧ p.fld 28 4 12 = 0 ∧ p.fld 32 1 31 = 0 ∧ p.u64 16 % 4 = 0 ∧ 4 ≤
      p.u32 24 ∧ p.u32 24 ≤ 4194304 ∧ p.u32 24 % 4 = 0 ∧ p.u16 30 ≤ 5000 ∧ (p.flag 28 3 = true → s.present (hPipe (p.fld 28 0 3)) =
      true) ∧ (p.flag 32 0 = true → p.u32 36 % 8 = 0 ∧ p.u32 36 + 8 ≤ 4096 * (s.inst n).spadBlocks.length) ∧ k = u.walkBuffer n
      false (p.u64 16) (p.u32 24) ∧ (s.queue n q).submits.length < (s.queue n q).depth ∧ (s.queue n q).waiting = [] ∧ k.failing =
      none ∧ ((s.queue n q).saveArea = true ∨ s.structFits n 262144 = true) ∧ (∀ id ∈ bufferSurfaces k.tokens, ∃ f, s.surface n id
      = some f ∧ f.isOpen = true ∧ f.closing = none) ∧ p.flag 28 3 = false) ∧
    (∃ (p : Packet) (s : State) (u : State) (n : Nat) (q : Nat) (pages : Nat) (x : Submit), u = s.markApplied p ∧ n = p.inst ∧
      s.takes opHopperGrant (ownHandle p) p = true ∧ q = p.fld 20 0 2 ∧ pages = p.u16 24 ∧ p.length = 12 ∧ p.fld 20 2 14 = 0 ∧
      p.u16 26 = 0 ∧ 1 ≤ pages ∧ pages ≤ 4096 ∧ s.head n q = some x ∧ x.owed.p.seq.toNat = p.u32 16 ∧ x.pass = p.u16 22 ∧ x.pass <
      x.passes ∧ (x.phase = .binning ∨ x.phase = .waiting ∨ x.phase = .flushing) ∧ pages ≤ s.hopperFree n) :=
  ⟨
    ⟨gk 16 (hInst 16) [0, 0, 4, 0x13880000, 0, 0, 0, 0],
      (owner (page 0 false)).updQueue 16 1 (fun y => { y with depth := 1, submits := [submit passTok .none false] }), _, _, _,
      rfl, rfl, by decide, rfl, by decide, by decide, by decide, by decide, by decide, by decide, by decide, by decide,
      by decide, by decide, by decide⟩,
    ⟨gk 16 (hInst 16) [0, 0, 4, 0x13880000, 0, 0, 0, 0], (owner (page 0 false)).writeInst 16 0 [0x7F, 0, 0, 0], _, _, _, _, 0,
      rfl, rfl, by decide, rfl, by decide, by decide, by decide, by decide, by decide, by decide, by decide, by decide,
      by decide, by decide, rfl, by decide, by decide, by decide⟩,
    ⟨gk 16 (hInst 16) [0, 0, 4, 0x13880000, 0, 0, 0, 0], (owner (page 0 false)).writeInst 16 0 [0, 0, 0, 0], _, _, _, _, rfl,
      rfl, by decide, rfl, by decide, by decide, by decide, by decide, by decide, by decide, by decide, by decide, by decide,
      by decide, rfl, by decide, by decide, by decide, by decide, by decide, by decide⟩,
    ⟨gk 16 (hInst 16) [1, 3, 4096], (queued (submit passTok .binning true)).updInst 16 (fun i => { i with hopper := 4096 }), _,
      _, _, _, submit passTok .binning true, rfl, rfl, by decide, rfl, rfl, by decide, by decide, by decide, by decide,
      by decide, by decide, by decide, by decide, by decide, by decide, by decide⟩⟩

/-- States and operands that meet the hypotheses of SchedulingCompletes, clause by clause. -/
theorem witness_SchedulingCompletes :
    (∃ (s : State) (c : Nat) (x : _) (n : _) (q : _), x = s.cluster c ∧ (x.offline = true ∨ x.work = some (n, q))) ∧
    (∃ (s : State) (c : Nat) (x : _) (n : _) (q : _), x = s.cluster c ∧ x.offline = false ∧ x.work = none ∧ x.reserved = some n ∧
      s.pickReserved n = some (n, q)) ∧
    (∃ (s : State) (c : Nat) (t : _) (n : _) (q : _), s.present (hCluster c) = true ∧ t = s.charge ∧ (t.cluster c).work = some (n,
      q) ∧ (t.cluster c).request = none) ∧
    (∃ (s : State) (c : Nat) (n : _) (q : _) (at_ : _) (t : _) (us : _) (ph : _), s.present (hCluster c) = true ∧ (s.cluster
      c).work = some (n, q) ∧ (s.cluster c).request = some at_ ∧ t = s.charge ∧ us = (t.devTime - at_) / 1000 ∧ ph = ((t.head n
      q).map (·.phase)).getD .none ∧ us ≤ (preemptBound ph).1) :=
  ⟨
    ⟨running (submit passTok .none true), 0, _, 16, 3, rfl, by decide⟩,
    ⟨(queued (submit passTok .none true)).updCluster 0 (fun c => { c with reserved := some 16 }), 0, _, 16, 3, rfl, by decide,
      by decide, by decide, by decide⟩,
    ⟨running (submit passTok .none true), 0, _, 16, 3, by decide, rfl, by decide, by decide⟩,
    ⟨(running (submit passTok .none true)).updCluster 0 (fun c => { c with request := some 0 }), 0, 16, 3, 0, _, _, _,
      by decide, by decide, by decide, rfl, rfl, rfl, by decide⟩⟩

/-- States and operands that meet the hypotheses of SubmitEventsComplete, clause by clause. -/
theorem witness_SubmitEventsComplete :
    (∃ (s : State) (n : Nat) (q : Nat) (x : Submit) (k : _), s.head n q = some x ∧ s.canRun n q = true ∧ x.abort = 0 ∧ x.started =
      false ∧ k = (s.charge.setPages n (s.charge.jobPages n x.owed.p)).walkBuffer n true (x.owed.p.u64 16) (x.owed.p.u32 24) ∧
      k.bad = []) ∧
    (∃ (s : State) (n : Nat) (q : Nat) (x : Submit), s.head n q = some x ∧ s.canRun n q = true ∧ x.abort = 0 ∧ x.started = true ∧
      (x.phase = .immediate ∨ x.phase = .dispatch)) ∧
    (∃ (s : State) (n : Nat) (q : Nat) (x : Submit) (t : _), s.head n q = some x ∧ s.binnedPass n q = some (x, t) ∧ x.phase =
      .binning ∧ s.canRun n q = true ∧ x.noFault = false) ∧
    (∃ (s : State) (n : Nat) (q : Nat) (x : Submit), s.head n q = some x ∧ x.phase = .waiting) ∧
    (∃ (s : State) (n : Nat) (q : Nat) (x : Submit) (t : _), s.head n q = some x ∧ s.binnedPass n q = some (x, t) ∧ x.phase =
      .flushing ∧ x.passFlushes ≠ 0 ∧ x.tilesWritten = []) ∧
    (∃ (s : State) (n : Nat) (q : Nat) (x : Submit) (t : _) (tile : _), s.head n q = some x ∧ s.binnedPass n q = some (x, t) ∧
      x.phase = .rendering ∧ x.tilesDone.contains tile = false ∧ tile < t.binTiles ∧ x.tilesDone.length + 1 ≠ t.binTiles ∧ s.canRun
      n q = true) ∧
    (∃ (s : State) (n : Nat) (q : Nat) (x : Submit) (c : _), s.head n q = some x ∧ s.present (hCluster c) = true ∧ x.phase =
      .dispatch ∧ (s.cluster c).work = some (n, q)) ∧
    (∃ (s : State) (n : Nat) (q : Nat) (x : Submit) (t : _) (u : _), s.head n q = some x ∧ x.started = true ∧ x.phase = .none ∧
      x.abort ≠ 0 ∧ t = s.charge ∧ t.head n q = some x ∧ x.spad = false ∧ x.tagged = false ∧ u = (t.dropHead n q).finish x.owed
      .timeout (x.result (t.dropHead n q).devTime)) ∧
    (∃ (s : State) (n : Nat) (q : Nat) (x : Submit) (work : _) (t : _) (u : _) (v : _) (y : _) (z : _), s.head n q = some x ∧
      x.started = true ∧ (x.phase = .immediate ∨ x.phase = .dispatch) ∧ x.abort = 0 ∧ s.canRun n q = true ∧ t = s.charge.asJob n
      x.owed.p (fun s => s.endItem n q work) ∧ t.head n q = some y ∧ y.atEnd = true ∧ y.abort = 0 ∧ v = t.asJob n y.owed.p (fun s
      => State.toItem (y.tokens.length + 1) s n q) ∧ v.head n q = some z ∧ z.spad = false ∧ z.tagged = false ∧ z.abort = 0 ∧ u =
      (v.dropHead n q).finish z.owed .ok (z.result (v.dropHead n q).devTime)) ∧
    (∃ (s : State) (n : Nat) (q : Nat) (x : Submit) (c : _) (t : _), s.head n q = some x ∧ s.present (hCluster c) = true ∧
      (s.cluster c).offline = false ∧ t = s.charge ∧ (t.cluster c).work = none) :=
  ⟨
    ⟨let s := running (submit passTok .none false); s.writeInst 16 0 [0, 0, 0, 0], 16, 3, submit passTok .none false, _,
      by decide, by decide, by decide, by decide, rfl, by decide⟩,
    ⟨running (submit dispatchTok .dispatch true), 16, 3, submit dispatchTok .dispatch true, by decide, by decide, by decide,
      by decide, by decide⟩,
    ⟨running (submit passTok .binning true), 16, 3, submit passTok .binning true, passTok, by decide, by decide, by decide,
      by decide, by decide⟩,
    ⟨running (submit passTok .waiting true), 16, 3, submit passTok .waiting true, by decide, by decide⟩,
    ⟨running { submit passTok .flushing true with passFlushes := 1 }, 16, 3,
      { submit passTok .flushing true with passFlushes := 1 }, passTok, by decide, by decide, by decide, by decide, by decide⟩,
    ⟨running (submit passTok .rendering true), 16, 3, submit passTok .rendering true, passTok, 3, by decide, by decide,
      by decide, by decide, by decide, by decide, by decide⟩,
    ⟨running (submit dispatchTok .dispatch true), 16, 3, submit dispatchTok .dispatch true, 0, by decide, by decide, by decide,
      by decide⟩,
    ⟨running { submit passTok .none true with abort := 1 }, 16, 3, { submit passTok .none true with abort := 1 }, _, _,
      by decide, by decide, by decide, by decide, rfl, by decide, by decide, by decide, rfl⟩,
    ⟨running (submit dispatchTok .dispatch true), 16, 3, submit dispatchTok .dispatch true, noWork, _, _, _,
      { submit dispatchTok .dispatch true with phase := .none, pos := 1 }, _, by decide, by decide, by decide, by decide,
      by decide, rfl, by decide, by decide, by decide, rfl, rfl, by decide, by decide, by decide, rfl⟩,
    ⟨running (submit passTok .immediate true), 16, 3, _, 1, _, rfl, by decide, by decide, rfl, by decide⟩⟩

/-- COEF_LOAD of a bank that takes the first tap of each phase alone. -/
def bankLoad (bank : Nat) : List Nat :=
  bank :: ((List.replicate 64 [256, 0, 0, 0]).flatten ++ (List.replicate 64 [256, 0, 0]).flatten)

/-- Instance 16 with video slot 0, empty. -/
def heldSlot : State :=
  let s := owner (page 0 false)
  s.setBlend { s.blend with slots := s.blend.slots.set 0 { Slot.reset with holder := some 16 } }

/-- The device with the ambient light sensor of stage 7 in use, after some failed reads. -/
def sensing (failed : Nat) : State :=
  up.updStage 7 (fun c => { c with tone := { c.tone with alsEn := true }, failedReads := failed })

/-- States and operands that meet the hypotheses of LayerPacketsComplete, clause by clause. -/
theorem witness_LayerPacketsComplete :
    (∃ (p : Packet) (s : State) (u : State) (l : _), u = s.markApplied p ∧ s.takes opLayerSet (s.holdsSlot p) p = true ∧ l =
      layerOf p ∧ s.present (hPipe l.pipe) = true ∧ s.layerOk p l = true) ∧
    (∃ (p : Packet) (s : State) (u : State), u = s.markApplied p ∧ s.takes opLayerRelease (s.holdsSlot p) p = true ∧ p.length = 4 ∧
      p.fld 16 1 31 = 0) ∧
    (∃ (p : Packet) (s : State) (u : State) (is : _), u = s.markApplied p ∧ s.takes opCommit (ownHandle p) p = true ∧ is =
      commitSlots p ∧ is ≠ [] ∧ u.commitFails p = none) ∧
    (∃ (p : Packet) (s : State) (u : State) (st : _) (k : _), u = s.markApplied p ∧ s.takes opCommit (ownHandle p) p = true ∧
      u.commitFails p = some (st, k)) ∧
    (∃ (p : Packet) (s : State) (u : State) (i : Nat) (h : _) (t : _), u = s.markApplied p ∧ i = p.target % 256 ∧ s.takes
      opMotionHint (s.holdsSlot p) p = true ∧ p.length = 12 ∧ p.fld 24 4 28 = 0 ∧ h = Hint.mk (p.i16 16) (p.i16 18) (p.i16 20)
      (p.i16 22) (if p.fld 24 0 4 = 0 then 4 else p.fld 24 0 4) ∧ (s.isVideo i = true ∨ (h.scale = 0 ∧ h.angle = 0)) ∧ t =
      u.updSlot i (fun t => { t with hintNext := some h }) ∧ t.budgetOk = true) ∧
    (∃ (p : Packet) (s : State) (u : State) (i : Nat) (bank : _) (cs : _), u = s.markApplied p ∧ i = p.target % 256 ∧ s.takes
      opCoefLoad (s.holdsSlot p) p = true ∧ p.length = 1796 ∧ s.isVideo i = true ∧ p.fld 16 2 30 = 0 ∧ bank = p.fld 16 0 2 ∧ bank ≠
      0 ∧ cs = (coefWords p).map (signed 16) ∧ (coefWords p).all coefOk = true ∧ phasesOk 8 64 (cs.take 512) = true ∧ phasesOk 6 64
      (cs.drop 512) = true) ∧
    (∃ (p : Packet) (s : State) (u : State), u = s.markApplied p ∧ s.takes opZfloorSet true p = true ∧ p.target / 256 = 0x0F ∧
      p.length = 4 ∧ p.fld 16 8 24 = 0 ∧ 1 ≤ p.u8 16 ∧ (∀ j < s.board.member.slots, (s.slot j).holder = none)) :=
  ⟨
    ⟨gk 16 (hSlot 63) [15, 5, 0, 0x00010001, 0, 0x00010001, 0, 0], shown surf0, _, _, rfl, by decide, rfl, by decide,
      by decide⟩,
    ⟨gk 16 (hSlot 63) [1], shown surf0, _, rfl, by decide, by decide, by decide⟩,
    ⟨gk 16 (hInst 16) [1, 63], shown surf0, _, _, rfl, by decide, rfl, by decide, by decide⟩,
    ⟨gk 16 (hInst 16) [1, 63], owner (page 0 false), _, .denied, 0, rfl, by decide, by decide⟩,
    ⟨gk 16 (hSlot 63) [0x80007FFF, 0, 15], shown surf0, _, _, _, _, rfl, rfl, by decide, by decide, by decide, rfl, by decide,
      rfl, by decide⟩,
    ⟨gk 16 (hSlot 0) (bankLoad 3), heldSlot, _, _, _, _, rfl, rfl, by decide, by decide, by decide, by decide, rfl, by decide,
      rfl, by decide, by decide, by decide⟩,
    ⟨pk (hPipe 7) [255], up, _, rfl, by decide, by decide, by decide, by decide, by decide, by decide⟩⟩

/-- States and operands that meet the hypotheses of ColourCommandsComplete, clause by clause. -/
theorem witness_ColourCommandsComplete :
    (∃ (s : State) (p : Packet) (u : State) (t : Tone), u = s.markApplied p ∧ p.target / 256 = 0x0E ∧ t = toneOf p ∧ s.takes
      opToneSet true p = true ∧ p.length = (if p.flag 16 6 then 2068 else 20) ∧ p.fld 16 7 25 = 0 ∧ p.fld 28 3 1 = 0 ∧ p.fld 28 11
      5 = 0 ∧ p.fld 28 24 8 = 0 ∧ p.u16 34 = 0 ∧ t.outEotf ≤ 3 ∧ t.primaries ≤ 1 ∧ 80 ≤ t.sdrWhite ∧ t.sdrWhite ≤ 1000 ∧ 80 ≤
      t.blendPeak ∧ t.blendPeak ≤ 10000 ∧ 80 ≤ t.panelPeak ∧ t.panelPeak ≤ 10000 ∧ 1 ≤ t.luxScale) ∧
    (∃ (s : State) (p : Packet) (u : State) (words : List Nat), u = s.markApplied p ∧ p.target / 256 = 0x0E ∧ s.takes opPanelLutSet
      true p = true ∧ p.length = 12 ∧ p.fld 24 1 31 = 0 ∧ (p.flag 24 0 = true → words = []) ∧ (p.flag 24 0 = false → p.u64 16 % 64
      = 0 ∧ s.busMaster 0 = true ∧ words = (bytesWords (s.hostBytes s.board.mgrPortInForce (p.u64 16) 19652)).map BitVec.toNat) ∧
      (∀ w ∈ words, w < 2 ^ 30)) ∧
    (∃ (s : State) (k : Nat) (r : _) (l : _) (rs : _) (t : _), s.present (hColour k) = true ∧ (s.stage k).tone.alsEn = true ∧ rs =
      ((s.stage k).readings ++ [r % 65536]).drop ((s.stage k).readings.length + 1 - 5) ∧ rs ≠ [] ∧ (s.entry (hColour k)).agree ≠
      .contradicted ∧ t = s.updStage k (fun c => { c with readings := rs, failedReads := 0 }) ∧ t.loop (hColour k) 0 = some l) ∧
    (∃ (s : State) (k : Nat) (l : _) (t : _), s.present (hColour k) = true ∧ (s.stage k).tone.alsEn = true ∧ (s.stage
      k).failedReads = 2 ∧ t = (s.updStage k (fun c => { c with readings := (s.stage k).readings, failedReads := 3 })).setFact
      (hColour k) 1 ∧ t.loop (hColour k) 0 = some l) ∧
    (∃ (s : State) (k : Nat) (l : _), s.present (hColour k) = true ∧ s.loop (hColour k) 1 = some l) :=
  ⟨
    ⟨up, pk (hColour 7) [0x13, 0x03E80050, 0x00002710, 0, 1], _, _, rfl, by decide, rfl, by decide, by decide, by decide,
      by decide, by decide, by decide, by decide, by decide, by decide, by decide, by decide, by decide, by decide, by decide,
      by decide, by decide⟩,
    ⟨up, pk (hColour 7) [0, 0, 1], _, [], rfl, by decide, by decide, by decide, by decide, by decide, by decide, by decide⟩,
    ⟨sensing 2, 7, 65535, _, _, _, by decide, by decide, rfl, by decide, by decide, rfl, rfl⟩,
    ⟨sensing 2, 7, _, _, by decide, by decide, by decide, rfl, rfl⟩,
    ⟨up, 7, _, by decide, rfl⟩⟩

/-- The least timing that passes its checks, with LEAD at its most. -/
def timing0 : Timing :=
  { pclk := 25000, hact := 320, hfp := 1, hsync := 30, hbp := 1, vact := 240, vfp := 14, vsync := 1, vbp := 1, hpos := false,
    vpos := false, lead := 3, qwMode := 2, qwGuard := 0 }

/-- PIPE_TIMING with that timing and these words from offset 36. -/
def timingPk (w : Nat) : Packet :=
  pk (hPipe 7) [25000, 320 + 1 * 65536, 30 + 1 * 65536, 240 + 14 * 65536, 1 + 1 * 65536, w]

/-- Pipe 7 with that timing, in a state, with an intention, and otherwise as given. -/
def onPipe (st : PipeState) (intent : Nat) (f : Pipe → Pipe) : State :=
  up.updPipe 7 (fun q => f { q with timing := timing0, state := st, intent := intent })

/-- Band 0 of a frame with so many strips composed. -/
def band0 (strips : Nat) : Band :=
  { k := 0, next := false, strips := strips, words := Tab.empty, blend := Tab.empty, fetched := [], underruns := Tab.empty }

/-- Region monitor 127 with this configuration of one pixel, fed; Cupper compares or not. -/
def monitored (c : MonCfg) (cupper : Bool) : State :=
  let s := onPipe .run 2 id
  let s := s.updMon 127 (fun m => { m with cfg := c, fed := 1 })
  s.setSec { s.sec with available := cupper }

/-- Its configuration. -/
def monCfg (learn : Bool) (e : Nat) : MonCfg :=
  { enable := true, tapBlend := false, alarm := true, nexp := 0, learn := learn, limit := 1, x := 319, y := 239, w := 1, h := 1, exp := [e] }

/-- A pipe with one line of two strips, none composed. -/
def twoStrips : State := onPipe .run 2 (fun q => { q with timing := { timing0 with hact := 65, vact := 1 }, bands := [band0 0] })

/-- States and operands that meet the hypotheses of PipePacketsComplete, clause by clause. -/
theorem witness_PipePacketsComplete :
    (∃ (p : Packet) (s : State) (u : State) (k : Nat) (q : Pipe) (t : _) (v : _), u = s.markApplied p ∧ k = p.target % 256 ∧ q =
      s.pipe k ∧ s.takes opPipeTiming true p = true ∧ leadFieldsOk p = true ∧ t = timingOf p ∧ t.ok = true ∧ v = u.updPipe k (fun q
      => { q with timingNext := some t, leadOnly := false }) ∧ p.flag 36 7 = false ∧ (q.enabled = true → v.bandPoolOk = true ∧
      v.budgetOk = true) ∧ q.state = .off) ∧
    (∃ (p : Packet) (s : State) (u : State) (k : Nat) (q : Pipe) (t : _) (v : _), u = s.markApplied p ∧ k = p.target % 256 ∧ q =
      s.pipe k ∧ s.takes opPipeTiming true p = true ∧ leadFieldsOk p = true ∧ t = timingOf p ∧ t.ok = true ∧ v = u.updPipe k (fun q
      => { q with timingNext := some t, leadOnly := false }) ∧ p.flag 36 7 = false ∧ (q.enabled = true → v.bandPoolOk = true ∧
      v.budgetOk = true) ∧ (q.state = .run ∨ q.state = .blank)) ∧
    (∃ (p : Packet) (s : State) (u : State) (k : Nat) (q : Pipe) (t : _), u = s.markApplied p ∧ k = p.target % 256 ∧ q = s.pipe k ∧
      s.takes opPipeTiming true p = true ∧ leadFieldsOk p = true ∧ p.flag 36 7 = true ∧ q.timed = true ∧ t =
      { q.want with lead := (timingOf p).lead, qwMode := (timingOf p).qwMode, qwGuard := (timingOf p).qwGuard } ∧ t.latchOk = true
      ∧ q.state = .off) ∧
    (∃ (p : Packet) (s : State) (u : State) (k : Nat) (q : Pipe) (t : _), u = s.markApplied p ∧ k = p.target % 256 ∧ q = s.pipe k ∧
      s.takes opPipeTiming true p = true ∧ leadFieldsOk p = true ∧ p.flag 36 7 = true ∧ q.timed = true ∧ t =
      { q.want with lead := (timingOf p).lead, qwMode := (timingOf p).qwMode, qwGuard := (timingOf p).qwGuard } ∧ t.latchOk = true
      ∧ (q.state = .run ∨ q.state = .blank)) ∧
    (∃ (p : Packet) (s : State) (u : State) (k : Nat) (q : Pipe) (st : _), u = s.markApplied p ∧ k = p.target % 256 ∧ q = s.pipe k
      ∧ s.takes opPipeEnable true p = true ∧ isPipe p = true ∧ p.length = 4 ∧ p.fld 16 2 30 = 0 ∧ st = p.fld 16 0 2 ∧ st = q.intent
      ∧ st ≠ 3 ∧ (st = 0 ∨ q.timed = true)) ∧
    (∃ (p : Packet) (s : State) (u : State) (k : Nat) (q : Pipe) (st : _) (v : _), u = s.markApplied p ∧ k = p.target % 256 ∧ q =
      s.pipe k ∧ s.takes opPipeEnable true p = true ∧ isPipe p = true ∧ p.length = 4 ∧ p.fld 16 2 30 = 0 ∧ st = p.fld 16 0 2 ∧ v =
      u.updPipe k (fun q => { q with intent := st }) ∧ st ≠ q.intent ∧ (st = 1 ∨ st = 2) ∧ q.timed = true ∧ q.state = .off ∧
      q.enableWaiting = none ∧ v.bandPoolOk = true ∧ v.budgetOk = true ∧ (st = 1 → u.pipeMonitored k = false)) ∧
    (∃ (p : Packet) (s : State) (u : State) (k : Nat) (q : Pipe) (st : _), u = s.markApplied p ∧ k = p.target % 256 ∧ q = s.pipe k
      ∧ s.takes opPipeEnable true p = true ∧ isPipe p = true ∧ p.length = 4 ∧ p.fld 16 2 30 = 0 ∧ st = p.fld 16 0 2 ∧ st ≠ q.intent
      ∧ st = 0 ∧ q.state = .run ∧ q.enableWaiting = none ∧ u.pipeMonitored k = false) ∧
    (∃ (p : Packet) (s : State) (u : State) (k : Nat) (q : Pipe), u = s.markApplied p ∧ k = p.target % 256 ∧ q = s.pipe k ∧ s.takes
      opLineMatchSet (decide (p.inst = 0) || s.hasRegion p.inst k) p = true ∧ isPipe p = true ∧ p.length = 4 ∧ p.fld 18 4 12 = 0 ∧
      (q.timed = true → p.u16 16 < q.want.vtotal)) ∧
    (∃ (p : Packet) (s : State) (u : State) (k : Nat), u = s.markApplied p ∧ k = p.target % 256 ∧ s.takes opRegionMonSet true p =
      true ∧ p.target / 256 = 0x13 ∧ p.length = 28 ∧ p.fld 16 6 2 = 0 ∧ p.u16 18 = 0 ∧ ((monOf p).enable = true → (monOf p).fits
      (s.pipe (k / 16)).want = true) ∧ ((s.mon k).want.enable = true → (s.mon k).owner = p.inst)) :=
  ⟨
    ⟨timingPk 12, onPipe .off 0 id, _, _, _, _, _, rfl, rfl, rfl, by decide, by decide, rfl, by decide, rfl, by decide,
      by decide, by decide⟩,
    ⟨timingPk 12, onPipe .run 2 id, _, _, _, _, _, rfl, rfl, rfl, by decide, by decide, rfl, by decide, rfl, by decide,
      by decide, by decide⟩,
    ⟨timingPk 140, onPipe .off 0 id, _, _, _, _, rfl, rfl, rfl, by decide, by decide, by decide, by decide, rfl, by decide,
      by decide⟩,
    ⟨timingPk 140, onPipe .blank 1 id, _, _, _, _, rfl, rfl, rfl, by decide, by decide, by decide, by decide, rfl, by decide,
      by decide⟩,
    ⟨pk (hPipe 7) [2], onPipe .run 2 id, _, _, _, _, rfl, rfl, rfl, by decide, by decide, by decide, by decide, rfl, by decide,
      by decide, by decide⟩,
    ⟨pk (hPipe 7) [2], onPipe .off 0 id, _, _, _, _, _, rfl, rfl, rfl, by decide, by decide, by decide, by decide, rfl, rfl,
      by decide, by decide, by decide, by decide, by decide, by decide, by decide, by decide⟩,
    ⟨pk (hPipe 7) [0], onPipe .run 2 id, _, _, _, _, rfl, rfl, rfl, by decide, by decide, by decide, by decide, rfl, by decide,
      by decide, by decide, by decide, by decide⟩,
    ⟨pk (hPipe 7) [0x000F00FF], onPipe .run 2 id, _, _, _, rfl, rfl, rfl, by decide, by decide, by decide, by decide,
      by decide⟩,
    ⟨pk (hMon 127) [0xFF3F, 0x00EF013F, 0x00010001, 0, 0, 0, 0], onPipe .run 2 id, _, _, rfl, rfl, by decide, by decide,
      by decide, by decide, by decide, by decide, by decide⟩⟩

/-- States and operands that meet the hypotheses of PipeFrameEventsComplete, clause by clause. -/
theorem witness_PipeFrameEventsComplete :
    (∃ (s : State) (k : Nat) (q : Pipe), s.present (hPipe k) = true ∧ q = s.pipe k ∧ q.state = .starting ∧ q.leadIn = false ∧
      q.timing.pclk ≠ 0) ∧
    (∃ (s : State) (k : Nat) (q : Pipe), s.present (hPipe k) = true ∧ q = s.pipe k ∧ q.generating = true ∧ q.latched = false) ∧
    (∃ (s : State) (k : Nat) (q : Pipe), s.present (hPipe k) = true ∧ q = s.pipe k ∧ q.generating = true ∧ q.latched = true ∧
      q.intent = 0) ∧
    (∃ (s : State) (k : Nat) (q : Pipe), s.present (hPipe k) = true ∧ q = s.pipe k ∧ q.generating = true ∧ q.latched = true ∧
      q.intent = 2 ∧ q.steeped = false ∧ q.timingNext = none ∧ q.state = .run) ∧
    (∃ (s : State) (k : Nat) (q : Pipe) (t : _), s.present (hPipe k) = true ∧ q = s.pipe k ∧ q.generating = true ∧ q.latched = true
      ∧ q.intent ≠ 0 ∧ q.timingNext = some t ∧ q.leadOnly = false) ∧
    (∃ (s : State) (k : Nat) (q : Pipe) (line : _) (tos : _), s.present (hPipe k) = true ∧ q = s.pipe k ∧ (q.state = .run ∨ q.state
      = .blank) ∧ line < q.timing.vtotal ∧ tos = s.subscribers k (fun x => x.lineEn && decide (x.line = line)) ∧ tos ≠ []) ∧
    (∃ (s : State) (k : Nat) (q : Pipe), s.present (hPipe k) = true ∧ q = s.pipe k ∧ (q.state = .run ∨ q.state = .blank)) ∧
    (∃ (s : State) (k : Nat) (q : Pipe), s.present (hPipe k) = true ∧ q = s.pipe k ∧ q.state = .run ∧ q.frameDone = false ∧
      q.ulines = 0) ∧
    (∃ (s : State) (k : Nat) (q : Pipe), s.present (hPipe k) = true ∧ q = s.pipe k ∧ (q.state = .run ∨ q.state = .blank) ∧
      (q.timing.qwMode = 1 ∨ q.timing.qwMode = 2) ∧ 2 * q.timing.qwGuard < (q.timing.vtotal - q.timing.vact) * q.timing.htotal ∧
      s.touch.d2dUp = true ∧ s.board.member.sense = true) :=
  ⟨
    ⟨onPipe .starting 2 id, 7, _, by decide, rfl, by decide, by decide, by decide⟩,
    ⟨onPipe .run 2 id, 7, _, by decide, rfl, by decide, by decide⟩,
    ⟨onPipe .run 0 (fun q => { q with latched := true }), 7, _, by decide, rfl, by decide, by decide, by decide⟩,
    ⟨onPipe .run 2 (fun q => { q with latched := true }), 7, _, by decide, rfl, by decide, by decide, by decide, by decide,
      by decide, by decide⟩,
    ⟨onPipe .run 2 (fun q => { q with latched := true, timingNext := some timing0 }), 7, _, timing0, by decide, rfl, by decide,
      by decide, by decide, by decide, by decide⟩,
    ⟨let s := onPipe .blank 1 id; s.setPipes { s.pipes with subs := s.pipes.subs.set 7 (some { line := 255, lineEn := true, vblankEn := true, doneEn := true, underrunEn := true }) },
      7, _, 255, _, by decide, rfl, by decide, by decide, rfl, by decide⟩,
    ⟨onPipe .blank 1 id, 7, _, by decide, rfl, by decide⟩,
    ⟨onPipe .run 2 id, 7, _, by decide, rfl, by decide, by decide, by decide⟩,
    ⟨onPipe .blank 1 id, 7, _, by decide, rfl, by decide, by decide, by decide, by decide, by decide⟩⟩

/-- States and operands that meet the hypotheses of ClockLossAndMonitorsComplete, clause by clause. -/
theorem witness_ClockLossAndMonitorsComplete :
    (∃ (s : State) (k : Nat) (q : Pipe), s.present (hPipe k) = true ∧ q = s.pipe k ∧ (q.state = .run ∨ q.state = .blank) ∧ q.intent
      ≠ 0) ∧
    (∃ (s : State) (k : Nat) (q : Pipe), s.present (hPipe k) = true ∧ q = s.pipe k ∧ q.state = .held ∧ q.attempts < 2) ∧
    (∃ (s : State) (k : Nat) (q : Pipe), s.present (hPipe k) = true ∧ q = s.pipe k ∧ q.state = .held ∧ 2 ≤ q.attempts) ∧
    (∃ (s : State) (k : Nat) (q : Pipe), s.present (hPipe k) = true ∧ q = s.pipe k ∧ q.state = .offline) ∧
    (∃ (s : State) (k : Nat) (q : Pipe), s.present (hPipe k) = true ∧ q = s.pipe k ∧ (q.state = .run ∨ q.state = .blank) ∧ q.intent
      = 0) ∧
    (∃ (s : State) (k : Nat) (i : _) (m : _) (crc : _) (t : _), s.present (hPipe k) = true ∧ s.present (hMon i) = true ∧ m = s.mon
      i ∧ m.cfg.enable = true ∧ m.cfg.w * m.cfg.h ≤ m.fed ∧ crc = (m.crc ^^^ 0xFFFFFFFF#32).toNat ∧ t = (s.edge (264 + i)).updMon i
      (fun m => { m with crc := 0xFFFFFFFF, fed := 0 }) ∧ t.monitoring = false) ∧
    (∃ (s : State) (k : Nat) (i : _) (m : _) (crc : _) (t : _), s.present (hPipe k) = true ∧ s.present (hMon i) = true ∧ m = s.mon
      i ∧ m.cfg.enable = true ∧ m.cfg.w * m.cfg.h ≤ m.fed ∧ crc = (m.crc ^^^ 0xFFFFFFFF#32).toNat ∧ t = (s.edge (264 + i)).updMon i
      (fun m => { m with crc := 0xFFFFFFFF, fed := 0 }) ∧ t.monitoring = true ∧ m.cfg.learn = true) ∧
    (∃ (s : State) (k : Nat) (i : _) (m : _) (crc : _) (t : _), s.present (hPipe k) = true ∧ s.present (hMon i) = true ∧ m = s.mon
      i ∧ m.cfg.enable = true ∧ m.cfg.w * m.cfg.h ≤ m.fed ∧ crc = (m.crc ^^^ 0xFFFFFFFF#32).toNat ∧ t = (s.edge (264 + i)).updMon i
      (fun m => { m with crc := 0xFFFFFFFF, fed := 0 }) ∧ t.monitoring = true ∧ m.cfg.learn = false ∧ (m.cfg.exp.take (m.cfg.nexp +
      1)).contains crc = true) ∧
    (∃ (s : State) (k : Nat) (i : _) (m : _) (crc : _) (t : _), s.present (hPipe k) = true ∧ s.present (hMon i) = true ∧ m = s.mon
      i ∧ m.cfg.enable = true ∧ m.cfg.w * m.cfg.h ≤ m.fed ∧ crc = (m.crc ^^^ 0xFFFFFFFF#32).toNat ∧ t = (s.edge (264 + i)).updMon i
      (fun m => { m with crc := 0xFFFFFFFF, fed := 0 }) ∧ t.monitoring = true ∧ m.cfg.learn = false ∧ (m.cfg.exp.take (m.cfg.nexp +
      1)).contains crc = false) ∧
    (∃ (s : State) (k : Nat) (i : _), s.present (hPipe k) = true ∧ s.present (hMon i) = true ∧ (s.mon i).cfg.enable = true ∧
      (s.pipe (i / 16)).intent = 2 ∧ s.monitoring = true) :=
  ⟨
    ⟨onPipe .run 2 id, 7, _, by decide, rfl, by decide, by decide⟩,
    ⟨onPipe .held 2 id, 7, _, by decide, rfl, by decide, by decide⟩,
    ⟨onPipe .held 2 (fun q => { q with attempts := 2 }), 7, _, by decide, rfl, by decide, by decide⟩,
    ⟨onPipe .offline 2 id, 7, _, by decide, rfl, by decide⟩,
    ⟨onPipe .blank 0 id, 7, _, by decide, rfl, by decide, by decide⟩,
    ⟨monitored (monCfg false 0) false, 0, 127, _, _, _, by decide, by decide, rfl, by decide, by decide, rfl, rfl, by decide⟩,
    ⟨monitored (monCfg true 0) true, 0, 127, _, _, _, by decide, by decide, rfl, by decide, by decide, rfl, rfl, by decide,
      by decide⟩,
    ⟨monitored (monCfg false 0) true, 0, 127, _, _, _, by decide, by decide, rfl, by decide, by decide, rfl, rfl, by decide,
      by decide, by decide⟩,
    ⟨monitored (monCfg false 1) true, 0, 127, _, _, _, by decide, by decide, rfl, by decide, by decide, rfl, rfl, by decide,
      by decide, by decide⟩,
    ⟨monitored (monCfg false 0) true, 0, 127, by decide, by decide, by decide, by decide, by decide⟩⟩

/-- States and operands that meet the hypotheses of BandCommandsComplete, clause by clause. -/
theorem witness_BandCommandsComplete :
    (∃ (s : State) (k : Nat) (q : Pipe) (band : _), s.present (hPipe k) = true ∧ q = s.pipe k ∧ q.state = .run ∧ q.openNext = false
      ∧ q.latched = false ∧ band = q.nextBand ∧ band < q.bandCount ∧ q.bands.length < 2) ∧
    (∃ (s : State) (k : Nat) (faults : _) (pipe : _) (j : _) (b : _) (t : _) (c : _), s.present (hPipe k) = true ∧ s.nextStrip =
      some (pipe, j) ∧ (s.pipe pipe).bands[j]? = some b ∧ (t, c) = s.composeStrip pipe b faults ∧ c.strips ≠ (t.pipe
      pipe).stripCount) ∧
    (∃ (s : State) (k : Nat) (q : Pipe) (line : _) (column : _) (hit : _), s.present (hPipe k) = true ∧ q = s.pipe k ∧ q.state =
      .run ∧ line < q.timing.vact ∧ column < q.timing.hact ∧ hit = (fun b : Band => !b.next && decide (b.k = line / 64) && decide
      (b.strips ≤ column / 64) && decide (b.underruns.get line = none)) ∧ q.bands.any hit = true) ∧
    (∃ (s : State) (k : Nat) (q : Pipe) (b : _), s.present (hPipe k) = true ∧ q = s.pipe k ∧ q.bands.find? (fun b => !b.next) =
      some b ∧ q.state = .run ∧ b.strips = q.stripCount) :=
  ⟨
    ⟨onPipe .run 2 id, 7, _, _, by decide, rfl, by decide, by decide, by decide, rfl, by decide, by decide⟩,
    ⟨twoStrips, 0, [], 7, 0, band0 0, (twoStrips.composeStrip 7 (band0 0) []).1, (twoStrips.composeStrip 7 (band0 0) []).2,
      by decide, by decide, by decide, rfl, by decide⟩,
    ⟨onPipe .run 2 (fun q => { q with bands := [band0 0] }), 7, _, 63, 319, _, by decide, rfl, by decide, by decide, by decide,
      rfl, by decide⟩,
    ⟨onPipe .run 2 (fun q => { q with bands := [band0 5] }), 7, _, band0 5, by decide, rfl, by decide, by decide, by decide⟩⟩

/-- The manager's function may read host memory. -/
def mastered : State := up.setFns (up.fns.set up.managerFn { Fn.reset with busMaster := true })

/-- Transmitter 3 in another condition, with pipe 7 running. -/
def linked (f : LinkUnit → LinkUnit) : State := (onPipe .run 2 id).updLink (hDptx 3) f

/-- An enabled link configuration. -/
def link0 : LinkCfg := { LinkCfg.off with enable := true, mst := true, lanes := 4, rate := 4 }

/-- The same with its panel in a step of a sequence. -/
def sequenced (op step : Nat) : State :=
  (linked (fun l => { l with cfg := link0, up := true, stream0 := { l.stream0 with active := some 7 } })).updPanel (hDptx 3)
    (fun d => { d with seqOp := some op, step := step })

/-- States and operands that meet the hypotheses of LinkPacketsComplete, clause by clause. -/
theorem witness_LinkPacketsComplete :
    (∃ (p : Packet) (s : State) (u : State) (h : Nat), u = s.markApplied p ∧ h = p.target ∧ s.takes opLinkConfig true p = true ∧
      linkCfgOk p = true ∧ isTx h = true) ∧
    (∃ (p : Packet) (s : State) (u : State) (h : Nat) (init : List Byte), u = s.markApplied p ∧ h = p.target ∧ s.takes opLinkConfig
      true p = true ∧ linkCfgOk p = true ∧ isDsi h = true ∧ isTx h = false ∧ p.u64 20 ≠ 0 ∧ s.busMaster 0 = true ∧ init =
      s.hostBytes s.board.mgrPortInForce (p.u64 20) (p.u16 28) ∧ initListOk 257 init = true ∧ (linkCfg p init).enable = true) ∧
    (∃ (p : Packet) (s : State) (u : State) (h : Nat) (r0 : _) (r1 : _) (v : _), u = s.markApplied p ∧ h = p.target ∧ s.takes
      opRouteSet true p = true ∧ r0 = (if p.flag 16 4 then some (p.fld 16 0 4) else none) ∧ r1 = (if p.flag 16 12 then some (p.fld
      16 8 4) else none) ∧ isLink h = true ∧ p.length = 4 ∧ p.fld 16 5 3 = 0 ∧ p.fld 16 13 19 = 0 ∧ (∀ q, r0 = some q ∨ r1 = some q
      → s.present (hPipe q) = true ∧ s.feeds h r0 r1 q ≤ 2) ∧ (r1 ≠ none → isTx h = true ∧ (s.link h).cfg.mst = true) ∧ (r0 = none
      ∨ r0 ≠ r1) ∧ v = u.updLink h (fun l => (l.updStream 0 (fun t => { t with route := r0 })).updStream 1 (fun t =>
      { t with route := r1 })) ∧ v.linkFitsAll h = true ∧ (s.link h).routeWaiting = none) ∧
    (∃ (p : Packet) (s : State) (u : State), u = s.markApplied p ∧ s.takes opDscAssign true p = true ∧ p.target / 256 = 0x12 ∧
      p.length = 4 ∧ p.u8 17 = 0 ∧ p.fld 16 0 4 = 15) ∧
    (∃ (p : Packet) (s : State) (u : State) (h : Nat) (i : _) (a : _) (t : _) (wait : _) (v : _), u = s.markApplied p ∧ h =
      p.target ∧ s.takes opStreamSet (s.maySetStream p) p = true ∧ i = p.fld 16 0 1 ∧ t = (s.link h).stream i ∧ a = Attr.mk (bpcOf
      (match t.attrNext with | some a => a.bpc | none => t.attr.bpc) (p.fld 16 1 3)) (p.fld 16 4 2) (p.fld 16 6 2) (p.u16 20)
      (p.u16 22) ∧ wait = (match t.active with | some q => s.pipeRuns q | none => false) ∧ v = u.updLink h (fun l => l.updStream i
      (fun t => if wait then { t with attrNext := some a } else { t with attr := a, attrNext := none })) ∧ isLink h = true ∧
      p.length = 8 ∧ p.fld 16 1 3 ≤ 3 ∧ a.colorimetry ≤ 1 ∧ a.tf ≤ 2 ∧ p.fld 16 8 24 = 0 ∧ isTx h = true ∧ v.linkFitsAll h = true) ∧
    (∃ (p : Packet) (s : State) (u : State) (h : Nat), u = s.markApplied p ∧ h = p.target ∧ s.takes opPanelPower true p = true ∧
      isLink h = true ∧ (s.link h).panel.seqOp = none ∧ p.length = 4 ∧ p.u32 16 = 0 ∧ (s.linkPipes h).any s.pipeMonitored = false) ∧
    (∃ (p : Packet) (s : State) (u : State) (h : Nat), u = s.markApplied p ∧ h = p.target ∧ s.takes opPanelPower true p = true ∧
      isLink h = true ∧ (s.link h).panel.seqOp = none ∧ p.length = 4 ∧ p.u32 16 = 1) ∧
    (∃ (p : Packet) (s : State) (u : State) (h : Nat), u = s.markApplied p ∧ h = p.target ∧ s.takes opPanelPower true p = true ∧
      isLink h = true ∧ p.length = 16 ∧ p.u8 16 = 2 ∧ p.fld 17 5 2 = 0 ∧ p.fld 18 5 2 = 0 ∧ p.fld 19 5 1 = 0 ∧ p.fld 20 3 5 = 0 ∧
      p.u8 21 = 0 ∧ p.u16 22 ≤ 2000 ∧ p.u16 24 ≤ 2000 ∧ p.u16 26 ≤ 2000 ∧ p.u16 28 ≤ 10000 ∧ s.panelClash h (panelCfg p) = false) ∧
    (∃ (p : Packet) (s : State) (u : State) (h : Nat), u = s.markApplied p ∧ h = p.target ∧ s.takes opBacklightSet true p = true ∧
      isLink h = true ∧ p.length = 8 ∧ p.u16 18 ≤ 5000 ∧ (p.u32 20 = 0 ∨ (100 ≤ p.u32 20 ∧ p.u32 20 ≤ 50000))) :=
  ⟨
    ⟨pk (hDptx 3) [0x0004040D], up, _, _, rfl, rfl, by decide, by decide, by decide⟩,
    ⟨pk (hDsi 1) [0x0000000B, 4096, 0, 0], mastered, _, _, [], rfl, rfl, by decide, by decide, by decide, by decide, by decide,
      by decide, by decide, by decide, by decide⟩,
    ⟨pk (hDptx 3) [0x17], onPipe .run 2 id, _, _, some 7, none, _, rfl, rfl, by decide, by decide, by decide, by decide,
      by decide, by decide, by decide, by intro q hq; rcases hq with hq | hq <;> (cases hq; try decide), by decide, by decide,
      rfl, by decide, by decide⟩,
    ⟨pk (hDsc 3) [15], up, _, rfl, by decide, by decide, by decide, by decide, by decide⟩,
    ⟨pk (hDptx 3) [0x97, 0xFFFFFFFF], linked id, _, _, _, _, _, _, _, rfl, rfl, by decide, rfl, rfl, rfl, rfl, rfl, by decide,
      by decide, by decide, by decide, by decide, by decide, by decide, by decide⟩,
    ⟨pk (hDptx 3) [0], up, _, _, rfl, rfl, by decide, by decide, by decide, by decide, by decide, by decide⟩,
    ⟨pk (hDptx 3) [1], up, _, _, rfl, rfl, by decide, by decide, by decide, by decide, by decide⟩,
    ⟨pk (hDptx 3) [0xDD9E9F02, 0x07D00007, 0x07D007D0, 0xFFFF2710], up, _, _, rfl, rfl, by decide, by decide, by decide,
      by decide, by decide, by decide, by decide, by decide, by decide, by decide, by decide, by decide, by decide, by decide⟩,
    ⟨pk (hDptx 3) [0x1388FFFF, 50000], up, _, _, rfl, rfl, by decide, by decide, by decide, by decide, by decide⟩⟩

/-- States and operands that meet the hypotheses of LinkEventsComplete, clause by clause. -/
theorem witness_LinkEventsComplete :
    (∃ (s : State) (h : Nat) (l : LinkUnit) (edid : List Byte) (crc : _), s.present h = true ∧ l = s.link h ∧ isTx h = true ∧ crc =
      (crc32c edid).toNat ∧ (l.goodCrc = none ∨ l.goodCrc = some crc)) ∧
    (∃ (s : State) (h : Nat) (l : LinkUnit) (edid : List Byte) (crc : _) (g : _), s.present h = true ∧ l = s.link h ∧ isTx h = true
      ∧ crc = (crc32c edid).toNat ∧ l.goodCrc = some g ∧ g ≠ crc) ∧
    (∃ (s : State) (h : Nat) (l : LinkUnit), s.present h = true ∧ l = s.link h ∧ isTx h = true ∧ l.training = true) ∧
    (∃ (s : State) (h : Nat) (l : LinkUnit), s.present h = true ∧ l = s.link h ∧ isTx h = true ∧ l.training = true ∧ l.fails + 1 ≠
      3) ∧
    (∃ (s : State) (h : Nat) (l : LinkUnit), s.present h = true ∧ l = s.link h ∧ isTx h = true ∧ l.training = true ∧ l.fails + 1 =
      3) ∧
    (∃ (s : State) (h : Nat) (l : LinkUnit), s.present h = true ∧ l = s.link h ∧ isTx h = true ∧ l.hpd = true ∧ l.cfg.enable = true
      ∧ 3 ≤ l.fails) ∧
    (∃ (s : State) (h : Nat) (l : LinkUnit), s.present h = true ∧ l = s.link h ∧ l.panel.seqOp = some 1 ∧ l.panel.step = 0) ∧
    (∃ (s : State) (h : Nat) (l : LinkUnit), s.present h = true ∧ l = s.link h ∧ l.panel.seqOp = some 1 ∧ l.panel.step = 1) ∧
    (∃ (s : State) (h : Nat) (l : LinkUnit), s.present h = true ∧ l = s.link h ∧ l.panel.seqOp = some 1 ∧ l.panel.step = 2 ∧
      s.carries h 0 = true) ∧
    (∃ (s : State) (h : Nat) (l : LinkUnit), s.present h = true ∧ l = s.link h ∧ l.panel.seqOp = some 1 ∧ l.panel.step = 3) ∧
    (∃ (s : State) (h : Nat) (l : LinkUnit), s.present h = true ∧ l = s.link h ∧ l.panel.seqOp = some 0 ∧ l.panel.step = 1) :=
  ⟨
    ⟨up, hDptx 3, _, [], _, by decide, rfl, by decide, rfl, by decide⟩,
    ⟨linked (fun l => { l with goodCrc := some 1 }), hDptx 3, _, [], _, 1, by decide, rfl, by decide, rfl, by decide,
      by decide⟩,
    ⟨linked (fun l => { l with training := true, fails := 0 }), hDptx 3, _, by decide, rfl, by decide, by decide⟩,
    ⟨linked (fun l => { l with training := true, fails := 1 }), hDptx 3, _, by decide, rfl, by decide, by decide, by decide⟩,
    ⟨linked (fun l => { l with training := true, fails := 2 }), hDptx 3, _, by decide, rfl, by decide, by decide, by decide⟩,
    ⟨linked (fun l => { l with hpd := true, cfg := link0, fails := 3 }), hDptx 3, _, by decide, rfl, by decide, by decide,
      by decide, by decide⟩,
    ⟨sequenced 1 0, hDptx 3, _, by decide, rfl, by decide, by decide⟩,
    ⟨sequenced 1 1, hDptx 3, _, by decide, rfl, by decide, by decide⟩,
    ⟨sequenced 1 2, hDptx 3, _, by decide, rfl, by decide, by decide, by decide⟩,
    ⟨sequenced 1 3, hDptx 3, _, by decide, rfl, by decide, by decide⟩,
    ⟨sequenced 0 1, hDptx 3, _, by decide, rfl, by decide, by decide⟩⟩

/-- States and operands that meet the hypotheses of DieLinkEventsComplete, clause by clause. -/
theorem witness_DieLinkEventsComplete :
    (∃ (s : State), s.present hD2d = true ∧ s.touch.d2dUp = true) ∧
    (∃ (s : State), s.present hD2d = true ∧ s.touch.senseUp = true) ∧
    (∃ (s : State) (i : _), s.present hD2d = true ∧ i = b2n (bitOf s.firmware.prefB 4) ∧ s.touch.d2dUp = false ∧
      (s.firmware.slots.get (8 + i)).good = true) :=
  ⟨
    ⟨up, by decide, by decide⟩,
    ⟨up, by decide, by decide⟩,
    ⟨let s := up.setTouch { up.touch with d2dUp := false }; s.setFirmware { s.firmware with slots := s.firmware.slots.set 8 { FwSlot.empty with good := true } },
      _, by decide, rfl, by decide, by decide⟩⟩

/-- TOUCH_PANEL_CONFIG of panel 3 with two by two electrodes, mapped onto pipe 7. -/
def panelPk : Packet := pk (hTouch 3) [0xF002023F, 0x10001000, 0, 500 + 50 * 65536, 15, 0xFF020100]

/-- Panel 3 with those settings and otherwise as given, while the sense die runs. -/
def sensed (f : TPanel → TPanel) : State :=
  let s := onPipe .off 0 id
  let s := s.setPower { s.power with state := .brew }
  let s := s.setClocks { s.clocks with dom := s.clocks.dom.upd s.board.member.domSense (fun d => { d with state := .running }) }
  s.updTp 3 (fun t => f { t with cfg := touchCfg panelPk })

/-- Instance 16 with 16 report buffers on panel 3 and this report area. -/
def reporting (a : Option TArea) : State :=
  ((owner (page 0 false)).updInst 16 (fun i => { i with touchBufs := 0x10000000 })).setArea 16 3 a

/-- A report without records. -/
def report0 : TReport := { frame := 0, merged := 0, time := 0, flags := 0, recs := [] }

/-- A contact of panel 3. -/
def contact0 : Contact :=
  let r : CRec := CRec.mk 255 .move 0 0 0 0 0 0 0 false false false 0
  { last := r, owner := 0, down := 0, longSent := false, col := 0, row := 0 }

/-- States and operands that meet the hypotheses of TouchPacketsComplete, clause by clause. -/
theorem witness_TouchPacketsComplete :
    (∃ (p : Packet) (s : State) (u : State) (i : Nat) (f : TouchCfg), u = s.markApplied p ∧ i = p.target % 256 ∧ s.takes
      opTouchPanelConfig true p = true ∧ f = touchCfg p ∧ touchCfgOk p f = true ∧ (f.mapped = true → s.present (hPipe f.pipe) =
      true) ∧ s.touchAreaOk f = true ∧ (∀ ch ∈ f.channels, ch < s.board.member.touchChannels) ∧ (∀ j < s.board.member.touchPanels,
      j ≠ i → ∀ ch ∈ f.channels, ch ∉ (s.tp_ j).cfg.channels)) ∧
    (∃ (p : Packet) (s : State) (u : State) (m : _), u = s.markApplied p ∧ s.takes opTouchMode true p = true ∧ m = touchMode p ∧
      p.target / 256 = 0x14 ∧ p.length = 44 ∧ p.fld 16 4 4 = 0 ∧ m.glove ≤ 2 ∧ m.maxContacts ≤ 10 ∧ 50 ≤ m.thr ∧ m.thr ≤ 20000 ∧ 10
      ≤ m.hoverThr ∧ m.hoverThr ≤ 5000 ∧ 10 ≤ m.longS ∧ p.u32 24 = 0) ∧
    (∃ (p : Packet) (s : State) (u : State) (i : Nat) (n : Nat), u = s.markApplied p ∧ n = p.inst ∧ s.takes opTouchReportReturn
      (ownHandle p) p = true ∧ p.length = 16 ∧ i = p.fld 16 0 2 ∧ s.present (hTouch i) = true ∧ p.flag 16 2 = true ∧ p.fld 16 3 29
      = 0 ∧ p.u32 20 % 256 = 0 ∧ (∀ a, s.area n i = some a → a.held = 0) ∧ p.u32 20 + 256 * (s.inst n).reportBufs i ≤ 4096 *
      (s.inst n).spadBlocks.length) ∧
    (∃ (p : Packet) (s : State) (u : State) (i : Nat) (n : Nat) (a : _), u = s.markApplied p ∧ n = p.inst ∧ s.takes
      opTouchReportReturn (ownHandle p) p = true ∧ p.length = 16 ∧ i = p.fld 16 0 2 ∧ s.present (hTouch i) = true ∧ p.fld 16 2 30 =
      0 ∧ s.area n i = some a ∧ (maskBits 64 (p.u64 24)).all (bitOf a.held) = true ∧ a.pending = none) ∧
    (∃ (p : Packet) (s : State) (u : State) (i : Nat) (n : Nat) (a : _) (b : _) (r : _) (k : _), u = s.markApplied p ∧ n = p.inst ∧
      s.takes opTouchReportReturn (ownHandle p) p = true ∧ p.length = 16 ∧ i = p.fld 16 0 2 ∧ s.present (hTouch i) = true ∧ p.fld
      16 2 30 = 0 ∧ s.area n i = some a ∧ (maskBits 64 (p.u64 24)).all (bitOf a.held) = true ∧ b =
      { a with held := a.held - p.u64 24 } ∧ a.pending = some r ∧ s.freeBuf n i b = some k) ∧
    (∃ (p : Packet) (s : State) (u : State), u = s.markApplied p ∧ s.takes opTouchSelftest true p = true ∧ p.target / 256 = 0x14 ∧
      p.length = 4 ∧ p.u32 16 = 0 ∧ s.touch.d2dUp = true) ∧
    (∃ (p : Packet) (s : State) (u : State) (i : Nat), u = s.markApplied p ∧ i = p.target % 256 ∧ s.takes opWakeZoneSet true p =
      true ∧ p.target / 256 = 0x14 ∧ p.length = 48 ∧ (∀ k < 4, p.fld (16 + 12 * k) 2 6 = 0 ∧ p.fld (17 + 12 * k) 3 5 = 0 ∧ s.zoneOk
      (s.tp_ i).cfg (wakeZone p k) = true)) :=
  ⟨
    ⟨panelPk, up, _, _, _, rfl, rfl, by decide, rfl, by decide, by decide, by decide, by decide, by decide⟩,
    ⟨pk (hTouch 3) [0x00320A0E, 0xFFFF1388, 0, 0, 0, 0, 0, 0, 0, 0, 0], up, _, _, rfl, by decide, rfl, by decide, by decide,
      by decide, by decide, by decide, by decide, by decide, by decide, by decide, by decide, by decide⟩,
    ⟨gk 16 (hInst 16) [7, 0, 0, 0], reporting none, _, _, _, rfl, rfl, by decide, by decide, rfl, by decide, by decide,
      by decide, by decide,
      by intro a h; exact absurd (h.symm.trans (by decide : (reporting none).area 16 3 = none)) (by simp), by decide⟩,
    ⟨gk 16 (hInst 16) [3, 0, 0xFFFFFFFF, 0xFFFFFFFF], reporting (some { offset := 0, held := 2 ^ 64 - 1, pending := none }), _,
      _, _, { offset := 0, held := 2 ^ 64 - 1, pending := none }, rfl, rfl, by decide, by decide, rfl, by decide, by decide,
      by decide, by decide, by decide⟩,
    ⟨gk 16 (hInst 16) [3, 0, 1, 0], reporting (some { offset := 0, held := 1, pending := some report0 }), _, _, _,
      { offset := 0, held := 1, pending := some report0 }, _, report0, 0, rfl, rfl, by decide, by decide, rfl, by decide,
      by decide, by decide, by decide, rfl, by decide, by decide⟩,
    ⟨pk (hTouch 3) [0], up, _, rfl, by decide, by decide, by decide, by decide, by decide⟩,
    ⟨pk (hTouch 3) [1, 0, 0, 1, 0, 0, 1, 0, 0, 1, 0, 0], up, _, _, rfl, rfl, by decide, by decide, by decide, by decide⟩⟩

/-- States and operands that meet the hypotheses of TouchEventsComplete, clause by clause. -/
theorem witness_TouchEventsComplete :
    (∃ (s : State) (i : Nat) (t : TPanel), s.present (hTouch i) = true ∧ s.touch.panel.wf = true ∧ t = s.tp_ i ∧ s.canScan i = true
      ∧ t.state ≠ .scanning) ∧
    (∃ (s : State) (i : Nat) (t : TPanel), s.present (hTouch i) = true ∧ s.touch.panel.wf = true ∧ t = s.tp_ i ∧ t.state =
      .scanning ∧ s.canScan i = true ∧ t.bursts < t.burstsNeeded ∧ (s.usesOwnWindows i = true ∨ s.touch.window.get t.cfg.pipe =
      true)) ∧
    (∃ (s : State) (i : Nat) (t : TPanel), s.present (hTouch i) = true ∧ s.touch.panel.wf = true ∧ t = s.tp_ i ∧ t.state =
      .scanning ∧ s.canScan i = true ∧ t.burstsNeeded ≤ t.bursts) ∧
    (∃ (s : State) (i : Nat) (t : TPanel) (id : _) (c : _), s.present (hTouch i) = true ∧ s.touch.panel.wf = true ∧ t = s.tp_ i ∧
      t.contacts.find? (fun c => decide (c.last.id = id) && !c.longSent) = some c ∧ t.mode.longS ≠ 0xFFFF) ∧
    (∃ (s : State) (i : Nat) (t : TPanel) (k : _) (ks : _), s.present (hTouch i) = true ∧ s.touch.panel.wf = true ∧ t = s.tp_ i ∧
      t.absorb.filter (fun k => decide (t.raw.get k + t.mode.thr ≤ t.base.get k)) = k :: ks) ∧
    (∃ (s : State) (i : Nat) (t : TPanel), s.present (hTouch i) = true ∧ s.touch.panel.wf = true ∧ t = s.tp_ i ∧ t.glove = true ∧
      t.mode.glove = 2 ∧ (∀ c ∈ t.contacts, c.last.typ ≠ 1)) :=
  ⟨
    ⟨sensed id, 3, _, by decide, by decide, rfl, by decide, by decide⟩,
    ⟨sensed (fun t => { t with state := .scanning, bursts := 29 }), 3, _, by decide, by decide, rfl, by decide, by decide,
      by decide, by decide⟩,
    ⟨sensed (fun t => { t with state := .scanning, bursts := 30 }), 3, _, by decide, by decide, rfl, by decide, by decide,
      by decide⟩,
    ⟨sensed (fun t => { t with contacts := [contact0] }), 3, _, 255, contact0, by decide, by decide, rfl, by decide, by decide⟩,
    ⟨sensed (fun t => { t with absorb := [129], base := t.base.set 129 400 }), 3, _, 129, [], by decide, by decide, rfl,
      by decide⟩,
    ⟨sensed (fun t => { t with glove := true, mode := { t.mode with glove := 2 } }), 3, _, by decide, by decide, rfl,
      by decide, by decide, by decide⟩⟩

/-- Instance 16 with HV tokens and channel 7, otherwise as given. -/
def haptic (f : HChan → HChan) : State :=
  let s := (owner (page 0 false)).updInst 16 (fun i => { i with haptics := 128, hvTokens := 1 })
  (s.setHaptics { s.haptics with boostOn := true, boostReady := true }).updChan 7 f

/-- A play of instance 16 that is due. -/
def play0 : Play :=
  { inst := 16, effect := 127, rec_ := Effect.empty, scale := 256, event := true, tokens := 1, planned := 0, started := 0,
    running := false, braking := false, immediate := false, outcome := 1, gain64 := 64, click := none }

/-- States and operands that meet the hypotheses of HapticPacketsComplete, clause by clause. -/
theorem witness_HapticPacketsComplete :
    (∃ (p : Packet) (s : State) (u : State) (m : _) (first : _), u = s.markApplied p ∧ s.takes opEffectLoad true p = true ∧
      p.target = hBoost ∧ m = p.u8 17 ∧ first = p.fld 16 0 7 ∧ p.length = 4 + 16 * m ∧ 1 ≤ m ∧ m ≤ 128 ∧ p.fld 16 7 1 = 0 ∧ p.u16
      18 = 0 ∧ first + m ≤ 128 ∧ (∀ k < m, effectOk p k = true)) ∧
    (∃ (p : Packet) (s : State) (u : State) (i : Nat) (n : Nat) (e : _) (scale : _) (need : _), u = s.markApplied p ∧ i = p.target
      % 256 ∧ n = p.inst ∧ s.takes opEffectPlay (s.ownsChan p) p = true ∧ p.target / 256 = 0x15 ∧ p.length = 8 ∧ p.u8 17 = 0 ∧
      p.u16 22 = 0 ∧ e = s.haptics.library.get (p.fld 16 0 7) ∧ scale = (if p.u16 18 = 0 then 256 else p.u16 18) ∧ scale ≤ 256 ∧
      need = tokensFor (s.chan i) e scale ∧ s.hvHeld n + need ≤ (s.inst n).hvTokens ∧ s.bridgedAway i = false ∧ ((s.entry
      p.target).fact = 0 ∨ (s.entry p.target).fact = 3) ∧ (s.entry hBoost).fact = 0) ∧
    (∃ (p : Packet) (s : State) (u : State) (i : Nat) (n : Nat) (e : _) (scale : _) (need : _), u = s.markApplied p ∧ i = p.target
      % 256 ∧ n = p.inst ∧ s.takes opEffectPlay (s.ownsChan p) p = true ∧ p.target / 256 = 0x15 ∧ p.length = 8 ∧ p.u8 17 = 0 ∧
      p.u16 22 = 0 ∧ e = s.haptics.library.get (p.fld 16 0 7) ∧ scale = (if p.u16 18 = 0 then 256 else p.u16 18) ∧ scale ≤ 256 ∧
      need = tokensFor (s.chan i) e scale ∧ s.hvHeld n + need ≤ (s.inst n).hvTokens ∧ s.bridgedAway i = false ∧ ((s.entry
      p.target).fact = 1 ∨ (s.entry p.target).fact = 2 ∨ (s.entry hBoost).fact ≠ 0)) ∧
    (∃ (p : Packet) (s : State) (u : State) (i : Nat), u = s.markApplied p ∧ i = p.target % 256 ∧ s.takes opEffectStop (s.ownsChan
      p || decide (p.inst = 0)) p = true ∧ p.target / 256 = 0x15 ∧ p.length = 4 ∧ p.fld 16 1 31 = 0 ∧ s.bridgedAway i = false) ∧
    (∃ (p : Packet) (s : State) (u : State) (i : Nat) (n : Nat), u = s.markApplied p ∧ i = p.target % 256 ∧ n = p.inst ∧ s.takes
      opClickRegionSet (s.ownsChan p) p = true ∧ p.target / 256 = 0x15 ∧ p.length = 16 ∧ p.fld 16 4 4 = 0 ∧ p.fld 17 7 1 = 0 ∧
      p.fld 18 7 9 = 0 ∧ (s.chan i).zoned = true ∧ s.bridgedAway i = false ∧ p.flag 16 2 = false ∧ s.hvHeld n ≤ (s.inst
      n).hvTokens) ∧
    (∃ (p : Packet) (s : State) (u : State) (i : Nat) (n : Nat) (k : _) (need : _), u = s.markApplied p ∧ i = p.target % 256 ∧ n =
      p.inst ∧ s.takes opClickRegionSet (s.ownsChan p) p = true ∧ p.target / 256 = 0x15 ∧ p.length = 16 ∧ p.fld 16 4 4 = 0 ∧ p.fld
      17 7 1 = 0 ∧ p.fld 18 7 9 = 0 ∧ (s.chan i).zoned = true ∧ s.bridgedAway i = false ∧ k = p.fld 16 0 2 ∧ p.flag 16 2 = true ∧
      need = max (tokensFor (s.chan i) (s.haptics.library.get (p.fld 17 0 7)) 256) (tokensFor (s.chan i) (s.haptics.library.get
      (p.fld 18 0 7)) 256) ∧ (s.chan i).clicks.get k = none ∧ s.hvHeld n + need ≤ (s.inst n).hvTokens ∧ 100 ≤ p.u16 20 ∧ p.u16 20 ≤
      20000 ∧ p.u16 22 < p.u16 20 ∧ (s.chan i).zx ≤ p.u16 24 ∧ (s.chan i).zy ≤ p.u16 26 ∧ p.u16 24 + p.u16 28 ≤ (s.chan i).zx +
      (s.chan i).zw ∧ p.u16 26 + p.u16 30 ≤ (s.chan i).zy + (s.chan i).zh) ∧
    (∃ (p : Packet) (s : State) (u : State) (i : Nat), u = s.markApplied p ∧ i = p.target % 256 ∧ s.takes opActuatorCheck true p =
      true ∧ p.target / 256 = 0x15 ∧ s.bridgedAway i = false ∧ (s.chan i).driving = false ∧ s.touch.d2dUp = true ∧ (s.entry
      hBoost).fact ≠ 1 ∧ p.length = 4 ∧ p.u32 16 = 0) ∧
    (∃ (p : Packet) (s : State) (u : State) (i : Nat), u = s.markApplied p ∧ i = p.target % 256 ∧ s.takes opActuatorCheck true p =
      true ∧ p.target / 256 = 0x15 ∧ s.bridgedAway i = false ∧ (s.chan i).driving = false ∧ s.touch.d2dUp = true ∧ (s.entry
      hBoost).fact ≠ 1 ∧ p.length = 4 ∧ p.u32 16 = 1) ∧
    (∃ (p : Packet) (s : State) (u : State) (i : Nat), u = s.markApplied p ∧ i = p.target % 256 ∧ s.takes opActuatorCheck true p =
      true ∧ p.target / 256 = 0x15 ∧ s.bridgedAway i = false ∧ (s.chan i).driving = false ∧ s.touch.d2dUp = true ∧ (s.entry
      hBoost).fact ≠ 1 ∧ p.length = 12 ∧ p.fld 16 0 2 = 2 ∧ p.fld 16 3 5 = 0 ∧ p.fld 17 3 5 = 0 ∧ 100 ≤ p.u16 18 ∧ p.u16 18 ≤ 1200
      ∧ p.flag 16 2 = false ∧ s.present (hTouch (p.fld 17 0 2)) = true) :=
  ⟨
    ⟨pk hBoost [0x017F, 0x03E80001, 0xFFFF80FF, 0x800F04B0, 0], up, _, _, _, rfl, by decide, by decide, rfl, rfl, by decide,
      by decide, by decide, by decide, by decide, by decide, by decide⟩,
    ⟨gk 16 (hHaptic 7) [0x010000FF, 65535], haptic id, _, _, _, _, _, _, rfl, rfl, rfl, by decide, by decide, by decide,
      by decide, by decide, rfl, rfl, by decide, rfl, by decide, by decide, by decide, by decide⟩,
    ⟨gk 16 (hHaptic 7) [0x010000FF, 65535], (haptic id).setFact (hHaptic 7) 2, _, _, _, _, _, _, rfl, rfl, rfl, by decide,
      by decide, by decide, by decide, by decide, rfl, rfl, by decide, rfl, by decide, by decide, by decide⟩,
    ⟨gk 16 (hHaptic 7) [1], haptic id, _, _, rfl, rfl, by decide, by decide, by decide, by decide, by decide⟩,
    ⟨gk 16 (hHaptic 7) [3, 0, 0, 0], haptic (fun c => { c with zoned := true }), _, _, _, rfl, rfl, rfl, by decide, by decide,
      by decide, by decide, by decide, by decide, by decide, by decide, by decide, by decide⟩,
    ⟨gk 16 (hHaptic 7) [0x007F7F0F, 0x4E1F4E20, 0, 0xFFFFFFFF],
      haptic (fun c => { c with zoned := true, zw := 65535, zh := 65535 }), _, _, _, _, _, rfl, rfl, rfl, by decide, by decide,
      by decide, by decide, by decide, by decide, by decide, by decide, rfl, by decide, rfl, by decide, by decide, by decide,
      by decide, by decide, by decide, by decide, by decide, by decide⟩,
    ⟨pk (hHaptic 7) [0], up, _, _, rfl, rfl, by decide, by decide, by decide, by decide, by decide, by decide, by decide,
      by decide⟩,
    ⟨pk (hHaptic 7) [1], up, _, _, rfl, rfl, by decide, by decide, by decide, by decide, by decide, by decide, by decide,
      by decide⟩,
    ⟨pk (hHaptic 7) [0x04B00702, 0, 0], up, _, _, rfl, rfl, by decide, by decide, by decide, by decide, by decide, by decide,
      by decide, by decide, by decide, by decide, by decide, by decide, by decide, by decide⟩⟩

/-- States and operands that meet the hypotheses of HapticEventsComplete, clause by clause. -/
theorem witness_HapticEventsComplete :
    (∃ (s : State), s.present hBoost = true ∧ s.haptics.boostOn = true) ∧
    (∃ (s : State), s.present hBoost = true ∧ s.drives = []) ∧
    (∃ (s : State), s.present hBoost = true) ∧
    (∃ (s : State), s.present hBoost = true ∧ (s.entry hBoost).fact = 1) ∧
    (∃ (s : State) (i : _) (c : _) (y : _) (limit : _) (cap : _) (motion : _), s.present (hHaptic i) = true ∧ c = s.chan i ∧
      firstDue c.queued = some y ∧ s.haptics.boostReady = true ∧ s.touch.d2dUp = true ∧ y.planned ≤ s.devTime ∧ c.driving = false ∧
      y.click = none ∧ actuatorVerdict c limit cap motion = 0) ∧
    (∃ (s : State) (i : _) (c : _) (y : _) (limit : _) (cap : _) (motion : _) (v : _), s.present (hHaptic i) = true ∧ c = s.chan i
      ∧ firstDue c.queued = some y ∧ s.haptics.boostReady = true ∧ s.touch.d2dUp = true ∧ y.planned ≤ s.devTime ∧ c.driving = false
      ∧ y.click = none ∧ v = actuatorVerdict c limit cap motion ∧ v ≠ 0) ∧
    (∃ (s : State) (i : _) (c : _) (y : _), s.present (hHaptic i) = true ∧ c = s.chan i ∧ c.play = some y) ∧
    (∃ (s : State) (i : _) (c : _), s.present (hHaptic i) = true ∧ c = s.chan i ∧ c.driving = false ∧ s.touch.d2dUp = true) :=
  ⟨
    ⟨haptic id, by decide, by decide⟩,
    ⟨up, by decide, by decide⟩,
    ⟨up, by decide⟩,
    ⟨up.setFact hBoost 1, by decide, by decide⟩,
    ⟨haptic (fun c => { c with queued := [play0] }), 7, _, play0, false, 3000000, 64, by decide, rfl, by decide, by decide,
      by decide, by decide, by decide, by decide, by decide⟩,
    ⟨haptic (fun c => { c with queued := [play0] }), 7, _, play0, true, 5000000, 63, _, by decide, rfl, by decide, by decide,
      by decide, by decide, by decide, by decide, rfl, by decide⟩,
    ⟨haptic (fun c => { c with play := some play0 }), 7, _, play0, by decide, rfl, by decide⟩,
    ⟨haptic id, 7, _, by decide, rfl, by decide, by decide⟩⟩

/-- The audio subsystem in another condition; Cupper is available, and the manager has a buffer token. -/
def sounding (f : Audio → Audio) : State :=
  let s := mastered.updInst 0 (fun i => { i with tokens := 1 })
  let s := s.setSec { s.sec with available := true }
  s.setAudio (f s.audio)

/-- The same with stream 31 open, in frames of 32 bytes, otherwise as given. -/
def streaming (f : AStream → AStream) : State :=
  sounding (fun a => { a with stream := a.stream.set 31 (f { AStream.reset with isOpen := true, format := 3, channels := 8 }) })

/-- A buffer of one frame. -/
def buf0 : ABuf := { addr := 0, bytes := 32 }

/-- An input fed by a tone voice, whose output feeds a TDM slot. -/
def alarmed : State := sounding (fun a => { a with source := a.source.set 47 0x4001, dest := a.dest.set 0x3F 24 })

/-- A TDM port with its last slot in use. -/
def tdm0 : TdmPort := { TdmPort.off with enable := true, master := true, slots := 16, outSlots := 0x8000 }

/-- A voice that repeats. -/
def voice0 : Voice := { inst := 16, pattern := 4, level := 0, repeat_ := 65535 }

/-- States and operands that meet the hypotheses of AudioPacketsComplete, clause by clause. -/
theorem witness_AudioPacketsComplete :
    (∃ (p : Packet) (s : State) (u : State) (k : Nat) (n : Nat), u = s.markApplied p ∧ n = p.inst ∧ p.target = hAudio ∧ k = p.fld
      16 0 5 ∧ s.takes opStreamOpen true p = true ∧ p.length = 8 ∧ 1 ≤ p.fld 17 0 4 ∧ p.fld 17 0 4 ≤ 8 ∧ p.fld 17 4 4 = 0 ∧ p.u16
      18 = 0 ∧ (rateDomain (p.u32 20)).isSome = true ∧ s.streamHolder k = n ∧ (s.astream k).isOpen = false ∧ (s.astream k).closing
      = false) ∧
    (∃ (p : Packet) (s : State) (u : State) (k : Nat) (n : Nat) (m : _) (es : _), u = s.markApplied p ∧ n = p.inst ∧ p.target =
      hAudio ∧ k = p.fld 16 0 5 ∧ s.takes opStreamBuffers true p = true ∧ m = p.u8 17 ∧ es = (List.range m).map (bufEntry p) ∧
      p.length = 12 + 16 * m ∧ 1 ≤ m ∧ m ≤ 32 ∧ p.fld 16 5 3 = 0 ∧ p.fld 18 1 15 = 0 ∧ (∀ e ∈ es, e.addr % 4 = 0 ∧ e.bytes ≠ 0 ∧
      e.bytes % (s.astream k).frameBytes = 0) ∧ (∀ j < m, p.u32 (40 + 16 * j) = 0) ∧ s.busMaster n = true ∧ s.streamHolder k = n ∧
      (s.astream k).isOpen = true ∧ s.tokensHeld n + m ≤ (s.inst n).tokens ∧ (s.astream k).bufs.length + m ≤ 64 ∧ p.flag 18 0 =
      false) ∧
    (∃ (p : Packet) (s : State) (u : State) (k : Nat) (n : Nat) (m : _) (es : _), u = s.markApplied p ∧ n = p.inst ∧ p.target =
      hAudio ∧ k = p.fld 16 0 5 ∧ s.takes opStreamBuffers true p = true ∧ m = p.u8 17 ∧ es = (List.range m).map (bufEntry p) ∧
      p.length = 12 + 16 * m ∧ 1 ≤ m ∧ m ≤ 32 ∧ p.fld 16 5 3 = 0 ∧ p.fld 18 1 15 = 0 ∧ (∀ e ∈ es, e.addr % 4 = 0 ∧ e.bytes ≠ 0 ∧
      e.bytes % (s.astream k).frameBytes = 0) ∧ (∀ j < m, p.u32 (40 + 16 * j) = 0) ∧ s.busMaster n = true ∧ s.streamHolder k = n ∧
      (s.astream k).isOpen = true ∧ s.tokensHeld n + m ≤ (s.inst n).tokens ∧ (s.astream k).bufs.length + m ≤ 64 ∧ p.flag 18 0 =
      true ∧ s.devTime < p.u64 20) ∧
    (∃ (p : Packet) (s : State) (u : State) (k : Nat) (n : Nat), u = s.markApplied p ∧ n = p.inst ∧ p.target = hAudio ∧ k = p.fld
      16 0 5 ∧ s.takes opStreamClose true p = true ∧ p.length = 4 ∧ p.fld 16 5 27 = 0 ∧ s.streamHolder k = n ∧ (s.astream k).isOpen
      = true) ∧
    (∃ (p : Packet) (s : State) (u : State) (n : Nat), u = s.markApplied p ∧ n = p.inst ∧ p.target = hAudio ∧ s.takes opGainSet
      true p = true ∧ p.length = 8 ∧ p.fld 16 3 5 = 0 ∧ p.u8 19 = 0 ∧ p.fld 16 0 2 = 2 ∧ p.u8 17 < 48 ∧ p.u8 18 < 24 ∧ (p.i16 20 =
      muted ∨ (-9600 ≤ p.i16 20 ∧ p.i16 20 ≤ 2400)) ∧ n = 0 ∧ p.flag 16 2 = false ∧ p.u16 22 ≤ 2000) ∧
    (∃ (p : Packet) (s : State) (u : State) (n : Nat), u = s.markApplied p ∧ n = p.inst ∧ p.target = hAudio ∧ s.takes opGainSet
      true p = true ∧ p.length = 8 ∧ p.fld 16 3 5 = 0 ∧ p.u8 19 = 0 ∧ p.fld 16 0 2 = 2 ∧ p.u8 17 < 48 ∧ p.u8 18 < 24 ∧ (p.i16 20 =
      muted ∨ (-9600 ≤ p.i16 20 ∧ p.i16 20 ≤ 2400)) ∧ n = 0 ∧ p.flag 16 2 = true ∧ s.board.member.zcGain = true ∧ p.u16 22 ≤ 50) ∧
    (∃ (p : Packet) (s : State) (u : State), u = s.markApplied p ∧ p.target = hAudio ∧ s.takes opMixRoute true p = true ∧ p.length
      = 4 ∧ p.u8 16 = 0 ∧ p.fld 17 6 2 = 0 ∧ p.fld 17 0 6 < 48 ∧ sourceOk (p.u16 18) = true ∧ s.audio.marks.get (p.fld 17 0 6) =
      none) ∧
    (∃ (p : Packet) (s : State) (u : State), u = s.markApplied p ∧ p.target = hAudio ∧ s.takes opMixRoute true p = true ∧ p.length
      = 4 ∧ p.u8 16 = 1 ∧ (p.u8 17 < 24 ∨ p.u8 17 = 0xFF) ∧ destOk (p.u16 18) = true ∧ (∀ j < 24, s.audio.masked j = false) ∧
      s.audio.lowlatOn (p.u16 18) = false) ∧
    (∃ (p : Packet) (s : State) (u : State) (a : Audio), u = s.markApplied p ∧ p.target = hAudio ∧ s.takes opTdmConfig true p =
      true ∧ p.length = 12 ∧ a.lowlatOk = true ∧ a.audxOk = true ∧ p.u8 16 = 0 ∧ p.fld 17 7 1 = 0 ∧ p.fld 18 5 3 = 0 ∧ p.fld 19 7 1
      = 0 ∧ (tdmPort p).legal = true ∧ a = { s.audio with tdm := s.audio.tdm.set (p.fld 17 0 2) (tdmPort p) }) ∧
    (∃ (p : Packet) (s : State) (u : State) (a : Audio), u = s.markApplied p ∧ p.target = hAudio ∧ s.takes opTdmConfig true p =
      true ∧ p.length = 12 ∧ a.lowlatOk = true ∧ a.audxOk = true ∧ p.u8 16 = 1 ∧ p.fld 17 0 2 ≤ 2 ∧ p.fld 17 5 3 = 0 ∧ p.fld 18 2
      14 = 0 ∧ 32000 ≤ p.u32 20 ∧ p.u32 20 ≤ 96000 ∧ p.u32 24 = 0 ∧ a =
      { s.audio with mixDomain := p.fld 17 0 2, xport := p.fld 17 2 2, xsrc := p.flag 17 4, mclkOut := p.fld 18 0 2, xrate := p.u32 20, onAuda := s.audio.audxLost && decide (p.fld 17 0 2 = 2) }) ∧
    (∃ (p : Packet) (s : State) (u : State) (a : Audio), u = s.markApplied p ∧ p.target = hAudio ∧ s.takes opTdmConfig true p =
      true ∧ p.length = 12 ∧ a.lowlatOk = true ∧ a.audxOk = true ∧ p.u8 16 = 2 ∧ p.fld 17 1 7 = 0 ∧ p.u64 20 = 0 ∧ a =
      { s.audio with pdmB := p.flag 17 0, mics := p.u8 18, wind := p.u8 19 }) ∧
    (∃ (p : Packet) (s : State) (u : State) (n : Nat), u = s.markApplied p ∧ n = p.inst ∧ p.target = hAudio ∧ s.takes
      opAlarmSourceSet true p = true ∧ p.length = 8 ∧ p.fld 16 0 6 < 48 ∧ p.fld 16 7 25 = 0 ∧ p.fld 20 24 8 = 0 ∧
      s.audio.source.get (p.fld 16 0 6) / 4096 = 4 ∧ (∀ m, s.audio.marks.get (p.fld 16 0 6) = some m → m.inst = n) ∧ p.flag 16 6 =
      true ∧ (∀ j ∈ maskBits 24 (p.fld 20 0 24), s.audio.tdmDests j ≠ [])) ∧
    (∃ (p : Packet) (s : State) (u : State), u = s.markApplied p ∧ p.target = hAudio ∧ s.takes opLowlatSet true p = true ∧ p.length
      = 8 ∧ p.fld 16 3 5 = 0 ∧ p.fld 17 3 5 = 0 ∧ p.u16 22 = 0 ∧ isTdmDest (p.u16 18) = true ∧ (p.i16 20 = muted ∨ (-9600 ≤ p.i16
      20 ∧ p.i16 20 ≤ 2400)) ∧ p.flag 16 2 = false) ∧
    (∃ (p : Packet) (s : State) (u : State), u = s.markApplied p ∧ p.target = hAudio ∧ s.takes opLowlatSet true p = true ∧ p.length
      = 8 ∧ p.fld 16 3 5 = 0 ∧ p.fld 17 3 5 = 0 ∧ p.u16 22 = 0 ∧ isTdmDest (p.u16 18) = true ∧ (p.i16 20 = muted ∨ (-9600 ≤ p.i16
      20 ∧ p.i16 20 ≤ 2400)) ∧ p.flag 16 2 = true ∧ bitOf s.audio.mics (p.fld 17 0 3) = true ∧ s.audio.lowlatPort (s.audio.tdm.get
      (bitsOf (p.u16 18) 4 2)) (p.u16 18 % 16) = true ∧ (∀ j < 4, j ≠ p.fld 16 0 2 → s.audio.lowlat.get j = none)) ∧
    (∃ (p : Packet) (s : State) (u : State), u = s.markApplied p ∧ p.target = hTone ∧ s.takes opTonePlay true p = true ∧ p.length =
      8 ∧ p.fld 17 4 4 = 0 ∧ p.u16 22 = 0 ∧ s.sec.available = true ∧ p.fld 16 1 7 = 0 ∧ -6000 ≤ p.i16 18 ∧ p.i16 18 ≤ 0 ∧
      s.patternLoaded (p.fld 17 0 4) = true) ∧
    (∃ (p : Packet) (s : State) (u : State), u = s.markApplied p ∧ p.target = hTone ∧ s.takes opTonePlay true p = true ∧ p.length =
      8 ∧ p.fld 17 4 4 = 0 ∧ p.u16 22 = 0 ∧ s.sec.available = true ∧ p.flag 16 1 = true ∧ p.fld 16 2 6 = 0) :=
  ⟨
    ⟨pk hAudio [0x08FF, 192000], up, _, _, _, rfl, rfl, by decide, rfl, by decide, by decide, by decide, by decide, by decide,
      by decide, by decide, by decide, by decide, by decide⟩,
    ⟨pk hAudio [0x011F, 0, 0, 0xFFFFFFFC, 0xFFFFFFFF, 32, 0], streaming id, _, _, _, _, _, rfl, rfl, by decide, rfl, by decide,
      rfl, rfl, by decide, by decide, by decide, by decide, by decide, by decide, by decide, by decide, by decide, by decide,
      by decide, by decide, by decide⟩,
    ⟨pk hAudio [0x0001011F, 0xFFFFFFFF, 0xFFFFFFFF, 0xFFFFFFFC, 0xFFFFFFFF, 32, 0], streaming id, _, _, _, _, _, rfl, rfl,
      by decide, rfl, by decide, rfl, rfl, by decide, by decide, by decide, by decide, by decide, by decide, by decide,
      by decide, by decide, by decide, by decide, by decide, by decide, by decide⟩,
    ⟨pk hAudio [31], streaming id, _, _, _, rfl, rfl, by decide, rfl, by decide, by decide, by decide, by decide, by decide⟩,
    ⟨pk hAudio [0x00172F02, 0x07D00960], up, _, _, rfl, rfl, by decide, by decide, by decide, by decide, by decide, by decide,
      by decide, by decide, by decide, by decide, by decide, by decide⟩,
    ⟨pk hAudio [0x00172F06, 0x00328000], up, _, _, rfl, rfl, by decide, by decide, by decide, by decide, by decide, by decide,
      by decide, by decide, by decide, by decide, by decide, by decide, by decide⟩,
    ⟨pk hAudio [0x40012F00], up, _, rfl, by decide, by decide, by decide, by decide, by decide, by decide, by decide,
      by decide⟩,
    ⟨pk hAudio [0x003FFF01], up, _, rfl, by decide, by decide, by decide, by decide, by decide, by decide, by decide,
      by decide⟩,
    ⟨pk hAudio [0x00100F00, 48000, 0xFFFFFFFF], up, _, _, rfl, by decide, by decide, by decide, by decide, by decide,
      by decide, by decide, by decide, by decide, by decide, rfl⟩,
    ⟨pk hAudio [0x00030E01, 96000, 0], up, _, _, rfl, by decide, by decide, by decide, by decide, by decide, by decide,
      by decide, by decide, by decide, by decide, by decide, by decide, rfl⟩,
    ⟨pk hAudio [0xFFFF0102, 0, 0], up, _, _, rfl, by decide, by decide, by decide, by decide, by decide, by decide, by decide,
      by decide, rfl⟩,
    ⟨pk hAudio [0x6F, 0x00800000], alarmed, _, _, rfl, rfl, by decide, by decide, by decide, by decide, by decide, by decide,
      by decide, by intro m h; exact absurd (h.symm.trans (by decide : alarmed.audio.marks.get 47 = none)) (by simp),
      by decide, by decide⟩,
    ⟨pk hAudio [0x003F0003, 2400], up, _, rfl, by decide, by decide, by decide, by decide, by decide, by decide, by decide,
      by decide, by decide⟩,
    ⟨pk hAudio [0x003F0707, 0x8000], sounding (fun a => { a with mics := 128, tdm := a.tdm.set 3 tdm0 }), _, rfl, by decide,
      by decide, by decide, by decide, by decide, by decide, by decide, by decide, by decide, by decide, by decide, by decide⟩,
    ⟨pk hTone [0x0401, 65535], sounding id, _, rfl, by decide, by decide, by decide, by decide, by decide, by decide,
      by decide, by decide, by decide, by decide⟩,
    ⟨pk hTone [3, 0], sounding id, _, rfl, by decide, by decide, by decide, by decide, by decide, by decide, by decide,
      by decide⟩⟩

/-- States and operands that meet the hypotheses of AudioEventsComplete, clause by clause. -/
theorem witness_AudioEventsComplete :
    (∃ (s : State) (k : _) (b : _) (bs : _), s.present hAudio = true ∧ (s.astream k).bufs = b :: bs ∧ (s.astream k).started = true
      ∧ (s.astream k).paused = false ∧ (s.astream k).capture = false) ∧
    (∃ (s : State) (k : _), s.present hAudio = true ∧ (s.astream k).started = true ∧ (s.astream k).dry = true ∧ (s.astream k).bufs
      ≠ []) ∧
    (∃ (s : State) (k : _), s.present hAudio = true ∧ (s.astream k).startAt ≠ none) ∧
    (∃ (s : State), s.present hAudio = true ∧ s.audio.audxLost = false ∧ s.audio.mixDomain ≠ 2) ∧
    (∃ (s : State), s.present hAudio = true ∧ s.audio.audxLost = true ∧ s.audio.onAuda = false) ∧
    (∃ (s : State) (kind : _) (a : _) (b : _) (g : _), s.present hAudio = true ∧ (s.audio.gain.get (gainKey kind a b)).zcTarget =
      some g) ∧
    (∃ (s : State) (o : _) (xs : List Int), s.present hAudio = true ∧ o < 24 ∧ s.audio.clipped.get o + (xs.filter clips).length =
      0) ∧
    (∃ (s : State) (o : Nat) (us : Nat) (need : Nat) (target : Nat) (peak : Int) (l : Loop) (t : State), s.present hAudio = true ∧
      o < 24 ∧ need = (peak + s.audio.ceiling.get o).toNat ∧ target = min 600 (max need (s.loopOut hAudio o - 200 * us / (1000 *
      max 1 (s.audio.releaseMs.get o)))) ∧ s.loop hAudio o = some l ∧ t = s.stepLoop hAudio o target (if l.wanted target <
      peak.toNat then some (min 600 peak.toNat) else none) ∧ t.loopOut hAudio o = 0) ∧
    (∃ (s : State) (o : Nat) (us : Nat) (need : Nat) (target : Nat) (peak : Int) (l : Loop) (t : State), s.present hAudio = true ∧
      o < 24 ∧ need = (peak + s.audio.ceiling.get o).toNat ∧ target = min 600 (max need (s.loopOut hAudio o - 200 * us / (1000 *
      max 1 (s.audio.releaseMs.get o)))) ∧ s.loop hAudio o = some l ∧ t = s.stepLoop hAudio o target (if l.wanted target <
      peak.toNat then some (min 600 peak.toNat) else none) ∧ 0 < t.loopOut hAudio o) ∧
    (∃ (s : State) (l : _), s.present hAudio = true ∧ s.loop hAudio 24 = some l ∧ s.audio.paths = []) ∧
    (∃ (s : State) (v : _) (x : _), s.present hAudio = true ∧ s.audio.voices.get v = some x ∧ x.repeat_ ≠ 0) :=
  ⟨
    ⟨streaming (fun t => { t with bufs := [buf0], started := true }), 31, buf0, [], by decide, by decide, by decide, by decide,
      by decide⟩,
    ⟨streaming (fun t => { t with bufs := [buf0], started := true, dry := true }), 31, by decide, by decide, by decide,
      by decide⟩,
    ⟨streaming (fun t => { t with startAt := some 0 }), 31, by decide, by decide⟩,
    ⟨up, by decide, by decide, by decide⟩,
    ⟨sounding (fun a => { a with audxLost := true }), by decide, by decide, by decide⟩,
    ⟨sounding (fun a => { a with gain := a.gain.set (gainKey 2 47 23) { Gain.reset with zcTarget := some (-32768) } }), 2, 47,
      23, -32768, by decide, by decide⟩,
    ⟨up, 23, [], by decide, by decide, by decide⟩,
    ⟨up, 23, 0, _, _, -10, _, _, by decide, by decide, rfl, rfl, rfl, rfl, by decide⟩,
    ⟨up, 23, 0, _, _, 600, _, _, by decide, by decide, rfl, rfl, rfl, rfl, by decide⟩,
    ⟨up, _, by decide, rfl, by decide⟩,
    ⟨sounding (fun a => { a with voices := a.voices.set 1 (some voice0) }), 1, voice0, by decide, by decide, by decide⟩⟩

/-- The device in a power state, without RAIL_EN or with it, its RTC alarm set. -/
def powered (st : PState) (rail : Bool) : State :=
  up.setPower { up.power with state := st, railOn := rail, rtcAlarm := some 0 }

/-- A COPY whose descriptor still runs. -/
def busyCopy : State := copying (job (some 7) [fill false])

/-- States and operands that meet the hypotheses of PowerStatesComplete, clause by clause. -/
theorem witness_PowerStatesComplete :
    (∃ (s : State) (p : _) (u : _), u = s.markApplied p ∧ s.takes opPowerState (decide (p.inst = 0)) p = true ∧ p.target = hPower ∧
      powerFieldsOk p = true ∧ p.fld 16 0 2 = 0) ∧
    (∃ (s : State) (p : _) (u : _) (t : _) (z : _) (v : _), u = s.markApplied p ∧ s.takes opPowerState (decide (p.inst = 0)) p =
      true ∧ p.target = hPower ∧ powerFieldsOk p = true ∧ t = askedState p ∧ t ≠ .brew ∧ s.entryRefusal t (p.flag 16 2) = none ∧ z
      = u.intend hPower false p.inst ∧ v = z.setPower
      { z.power with periodMs := if t = .steep then (if p.u16 18 = 0 then 100 else p.u16 18) else z.power.periodMs } ∧
      v.runningCopy = none) ∧
    (∃ (s : State) (p : _) (u : _) (t : _) (z : _) (v : _), u = s.markApplied p ∧ s.takes opPowerState (decide (p.inst = 0)) p =
      true ∧ p.target = hPower ∧ powerFieldsOk p = true ∧ t = askedState p ∧ t ≠ .brew ∧ s.entryRefusal t (p.flag 16 2) = none ∧ z
      = u.intend hPower false p.inst ∧ v = z.setPower
      { z.power with periodMs := if t = .steep then (if p.u16 18 = 0 then 100 else p.u16 18) else z.power.periodMs } ∧
      v.runningCopy ≠ none) ∧
    (∃ (s : State) (p : _) (u : _) (k : _) (q : _), u = s.markApplied p ∧ k = p.target % 256 ∧ q = s.pipe k ∧ s.takes opPowerState
      (decide (p.inst = 0) || s.ownsDisplay p.inst k) p = true ∧ isPipe p = true ∧ powerFieldsOk p = true ∧ p.fld 16 0 2 = 1 ∧
      s.pipeMonitored k = false ∧ q.state = .run) ∧
    (∃ (s : State) (p : _) (u : _) (k : _) (q : _), u = s.markApplied p ∧ k = p.target % 256 ∧ q = s.pipe k ∧ s.takes opPowerState
      (decide (p.inst = 0) || s.ownsDisplay p.inst k) p = true ∧ isPipe p = true ∧ powerFieldsOk p = true ∧ p.fld 16 0 2 = 1 ∧
      s.pipeMonitored k = false ∧ q.state ≠ .run) ∧
    (∃ (s : State) (p : _) (u : _) (k : _) (q : _), u = s.markApplied p ∧ k = p.target % 256 ∧ q = s.pipe k ∧ s.takes opPowerState
      (decide (p.inst = 0) || s.ownsDisplay p.inst k) p = true ∧ isPipe p = true ∧ powerFieldsOk p = true ∧ p.fld 16 0 2 = 0 ∧
      q.state = .blank ∧ q.intent = 2) ∧
    (∃ (s : State) (p : _) (u : _) (k : _) (q : _), u = s.markApplied p ∧ k = p.target % 256 ∧ q = s.pipe k ∧ s.takes opPowerState
      (decide (p.inst = 0) || s.ownsDisplay p.inst k) p = true ∧ isPipe p = true ∧ powerFieldsOk p = true ∧ p.fld 16 0 2 = 0 ∧
      (q.state ≠ .blank ∨ q.intent ≠ 2)) ∧
    (∃ (s : State) (p : _) (u : _) (m : _), u = s.markApplied p ∧ m = s.power.keepAwake ∧ s.takes opKeepAwake (ownHandle p) p =
      true ∧ p.length = 4 ∧ p.fld 16 1 31 = 0 ∧ p.flag 16 0 = true ∧ bitOf m p.inst = false) ∧
    (∃ (s : State) (p : _) (u : _) (m : _), u = s.markApplied p ∧ m = s.power.keepAwake ∧ s.takes opKeepAwake (ownHandle p) p =
      true ∧ p.length = 4 ∧ p.fld 16 1 31 = 0 ∧ p.flag 16 0 = false ∧ bitOf m p.inst = true) ∧
    (∃ (s : State) (p : _) (u : _) (m : _), u = s.markApplied p ∧ m = s.power.keepAwake ∧ s.takes opKeepAwake (ownHandle p) p =
      true ∧ p.length = 4 ∧ p.fld 16 1 31 = 0 ∧ p.flag 16 0 = bitOf m p.inst) ∧
    (∃ (s : State) (p : _) (u : _), u = s.markApplied p ∧ s.takes opPowerConfig true p = true ∧ p.target = hPower ∧ p.length = 8 ∧
      p.u8 16 = 0 ∧ p.fld 17 7 1 = 0 ∧ p.u8 18 ≤ 50 ∧ (p.u8 19 = 0 ∨ (85 ≤ p.u8 19 ∧ p.u8 19 ≤ 110)) ∧ p.fld 20 10 6 = 0 ∧ p.u8 23
      = 0) ∧
    (∃ (s : State) (p : _) (u : _), u = s.markApplied p ∧ s.takes opPowerConfig true p = true ∧ p.target = hPower ∧ p.length = 4 ∧
      p.u8 16 = 2 ∧ p.fld 17 4 4 = 0 ∧ p.u16 18 = 0) ∧
    (∃ (s : State), (∃ k, k < s.board.member.pipes ∧ (s.pipe k).intent ≠ 0) ∧ (∀ k, k < s.board.member.pipes → (s.pipe k).intent ≠
      0 → (s.pipe k).steeped = true) ∧ s.accepting = true ∧ s.boot.stage = 6 ∧ s.power.cfg.autoSteep = true ∧ s.entryRefusal .steep
      false = none) ∧
    (∃ (s : State) (source : _) (arg : _), s.power.entry = none ∧ (s.power.state = .steep ∨ s.power.state = .warm) ∧
      s.power.sag.sagMark = false ∧ wakes s.power.state source = true ∧ s.sourceReady source arg s.power.rtcAlarm.isSome = true) ∧
    (∃ (s : State) (port : _), s.present (hPort port) = true ∧ bitOf s.power.wakeLow port = false ∧ (s.power.entry ≠ none ∨
      s.power.state = .steep ∨ s.power.state = .warm)) ∧
    (∃ (s : State) (source : _) (arg : _), s.power.state = .shelf ∧ s.power.railOn = false ∧ (source = 2 ∨ source = 3) ∧
      s.sourceReady source arg s.power.rtcAlarm.isSome = true) ∧
    (∃ (s : State), s.power.state = .shelf ∧ s.power.railOn = true) :=
  ⟨
    ⟨up, pk hPower [0, 0], _, rfl, by decide, by decide, by decide, by decide⟩,
    ⟨up, pk hPower [0x03E80001, 0xFFFFFFFF], _, _, _, _, rfl, by decide, by decide, by decide, rfl, by decide, by decide, rfl,
      rfl, by decide⟩,
    ⟨busyCopy, pk hPower [3, 0], _, _, _, _, rfl, by decide, by decide, by decide, rfl, by decide, by decide, rfl, rfl,
      by decide⟩,
    ⟨onPipe .run 2 id, pk (hPipe 7) [1, 0], _, _, _, rfl, rfl, rfl, by decide, by decide, by decide, by decide, by decide,
      by decide⟩,
    ⟨up, pk (hPipe 7) [1, 0], _, _, _, rfl, rfl, rfl, by decide, by decide, by decide, by decide, by decide, by decide⟩,
    ⟨onPipe .blank 2 id, pk (hPipe 7) [0, 0], _, _, _, rfl, rfl, rfl, by decide, by decide, by decide, by decide, by decide,
      by decide⟩,
    ⟨onPipe .blank 1 id, pk (hPipe 7) [0, 0], _, _, _, rfl, rfl, rfl, by decide, by decide, by decide, by decide, by decide⟩,
    ⟨owner (page 0 false), gk 16 (hInst 16) [1], _, _, rfl, rfl, by decide, by decide, by decide, by decide, by decide⟩,
    ⟨let s := owner (page 0 false); s.setPower { s.power with keepAwake := 2 ^ 16 }, gk 16 (hInst 16) [0], _, _, rfl, rfl,
      by decide, by decide, by decide, by decide, by decide⟩,
    ⟨owner (page 0 false), gk 16 (hInst 16) [0], _, _, rfl, rfl, by decide, by decide, by decide, by decide⟩,
    ⟨up, pk hPower [0x6E327F00, 0x00FF03FF], _, rfl, by decide, by decide, by decide, by decide, by decide, by decide,
      by decide, by decide, by decide⟩,
    ⟨up, pk hPower [0x0F02], _, rfl, by decide, by decide, by decide, by decide, by decide, by decide⟩,
    ⟨let s := onPipe .blank 2 (fun q => { q with steeped := true }); s.setPower { s.power with cfg := { s.power.cfg with autoSteep := true } },
      ⟨7, by decide, by decide⟩, by decide, by decide, by decide, by decide, by decide⟩,
    ⟨powered .warm false, 3, 0, by decide, by decide, by decide, by decide, by decide⟩,
    ⟨powered .warm false, 3, by decide, by decide, by decide⟩,
    ⟨powered .shelf false, 3, 0, by decide, by decide, by decide, by decide⟩,
    ⟨powered .shelf true, by decide, by decide⟩⟩

/-- The device with port 0 healthy, port 1 too or not, and this reference selected. -/
def clocked (one : Bool) (selected : Nat) (degraded : Bool) : State :=
  let c := up.clocks
  let refs := (c.refs.set 0 { healthy := true, since := 0 }).set 1 { healthy := one, since := 0 }
  up.setClocks { c with refs := refs, selected := selected, degraded := degraded }

/-- The throttle level at 9, for a millisecond at 120 C. -/
def hotState : State :=
  let s := up.putLoop hPower 0 { Loop.mk0 0 9 9 with target := 9 }
  s.setPower { s.power with hotMs := 1 }

/-- Panel 3 in Steep with a force zone that is armed. -/
def zoned : State :=
  let s := sensed (fun t => { t with
    zones := [{ kind := 3, hch := 7, threshold := 0, x := 0, y := 0, w := 0, h := 0 }],
    runs := [{ above := 0, below := 2, armed := true }] })
  s.setPower { s.power with state := .steep }

/-- States and operands that meet the hypotheses of ClocksAndSupplyComplete, clause by clause. -/
theorem witness_ClocksAndSupplyComplete :
    (∃ (s : State) (port : _), s.present (hPort port) = true ∧ s.clocks.selected = port) ∧
    (∃ (s : State) (port : _), s.present (hPort port) = true ∧ s.refOk port = false ∧ s.clocks.suspended = false) ∧
    (∃ (s : State) (port : _), s.present (hPort port) = true ∧ s.refOk port = true ∧ s.clocks.degraded = false ∧ s.refRank port <
      s.refRank s.clocks.selected) ∧
    (∃ (s : State) (port : _), s.present (hPort port) = true ∧ s.refOk port = true ∧ s.clocks.degraded = true ∧ s.refOrder.head? =
      some port) ∧
    (∃ (s : State) (port : _) (warmrc : _), s.clocks.suspended = false ∧ s.refOk port = true ∧ warmrcShortBad warmrc = false ∧ port
      ≠ s.clocks.selected) ∧
    (∃ (s : State) (port : _) (warmrc : _) (r : _) (q : _), s.clocks.suspended = false ∧ s.refOk port = true ∧ warmrcShortBad
      warmrc = false ∧ r = s.setRef port false ∧ port = s.clocks.selected ∧ r.refOrder.find? r.refOk = some q) ∧
    (∃ (s : State) (port : _) (warmrc : _) (r : _), s.clocks.suspended = false ∧ s.refOk port = true ∧ warmrcShortBad warmrc =
      false ∧ r = s.setRef port false ∧ port = s.clocks.selected ∧ r.refOrder.find? r.refOk = none) ∧
    (∃ (s : State) (counts : _), (100 * counts < 97 * 15625 ∨ 103 * 15625 < 100 * counts) ∧ s.clocks.suspended = false) ∧
    (∃ (s : State) (counts : _), 97 * 15625 ≤ 100 * counts ∧ 100 * counts ≤ 103 * 15625 ∧ s.clocks.suspended = true) ∧
    (∃ (s : State), s.clocks.xtalLost = false) ∧
    (∃ (s : State) (d : _), s.present (hClock d) = true ∧ (s.dom d).state = .running ∧ domKind s.board.member d = .engine) ∧
    (∃ (s : State) (d : _), s.present (hClock d) = true ∧ (s.dom d).state = .running ∧ domKind s.board.member d = .memc) ∧
    (∃ (s : State) (d : _), s.present (hClock d) = true ∧ (s.dom d).state = .running ∧ domKind s.board.member d = .sense) ∧
    (∃ (s : State) (d : _) (p : _), s.present (hClock d) = true ∧ (s.dom d).state = .running ∧ domKind s.board.member d = .host p) ∧
    (∃ (s : State) (d : _) (h : _), s.present (hClock d) = true ∧ (s.dom d).state = .running ∧ domKind s.board.member d = .link h) ∧
    (∃ (s : State) (d : _), s.present (hClock d) = true ∧ domKind s.board.member d = .engine ∧ (s.dom d).state = .bypass ∧ 1 ≤
      ((s.domAttempt d).dom d).relocks) ∧
    (∃ (s : State) (temps : List (Nat × Int)) (hot : _) (n : _), n = s.noteTemps temps ∧ hottest temps = some hot ∧ n.awake = true
      ∧ n.boot.stage = 6 ∧ (¬ (1200 ≤ hot.2 ∧ (n.throttle hot).loopOut hPower 0 = 9))) ∧
    (∃ (s : State) (temps : List (Nat × Int)) (hot : _) (n : _) (t : _), n = s.noteTemps temps ∧ hottest temps = some hot ∧ n.awake
      = true ∧ n.boot.stage = 6 ∧ t = n.throttle hot ∧ 1200 ≤ hot.2 ∧ t.loopOut hPower 0 = 9 ∧ t.power.hotMs ≠ 0) ∧
    (∃ (s : State) (temp : _), s.power.tripped = true ∧ temp ≤ 1000 ∧ s.boot.stage ≠ 6) ∧
    (∃ (s : State), s.power.cfg.pmicEn = true ∧ s.awake = true) ∧
    (∃ (s : State) (c : _) (required : _) (l : _), s.present (hChannel c) = true ∧ s.loop (hChannel c) 0 = some l ∧ l.low ≤
      required ∧ l.pin = none) ∧
    (∃ (s : State) (panel : _) (deltas : List Nat) (t : _) (rs : _) (u : _), s.present (hTouch panel) = true ∧ t = s.tp_ panel ∧
      s.power.state = .steep ∧ s.touch.senseUp = true ∧ rs = scanZones t.zones t.runs deltas ∧ u = s.updTp panel (fun t =>
      { t with runs := rs.map (·.1) }) ∧ (∀ r ∈ rs, r.2 = false)) ∧
    (∃ (s : State) (panel : _) (deltas : _) (t : _) (rs : _) (u : _) (k : _), s.present (hTouch panel) = true ∧ t = s.tp_ panel ∧
      s.power.state = .steep ∧ s.touch.senseUp = true ∧ rs = scanZones t.zones t.runs deltas ∧ u = s.updTp panel (fun t =>
      { t with runs := rs.map (·.1) }) ∧ (List.range rs.length).find? (fun k => (rs.map (·.2)).getD k false) = some k ∧
      (t.cfg.mapped && (s.pipe t.cfg.pipe).steeped) = false) ∧
    (∃ (s : State), s.power.poured = false ∧ s.power.state ≠ .brew) ∧
    (∃ (s : State), s.power.poured = false ∧ s.power.state = .brew ∧ s.boot.stage = 6) ∧
    (∃ (s : State) (r : _), s.power.poured = true ∧ s.power.sag.sagRecord = some r) ∧
    (∃ (inst : _) (initiator : _), initiator / 256 ≠ 0x01 ∧ isCore initiator = false ∧ inst ≠ 0xFF) ∧
    (∃ (s : State) (unit : _), s.present unit = true ∧ (s.sec.holds = false ∨ heldUnit unit = false)) :=
  ⟨
    ⟨up, _, by decide, rfl⟩,
    ⟨up, 3, by decide, by decide, by decide⟩,
    ⟨clocked false 1 false, 0, by decide, by decide, by decide, by decide⟩,
    ⟨clocked false 0xF true, _, by decide, by decide, by decide, rfl⟩,
    ⟨clocked true 0 false, 1, 1421, by decide, by decide, by decide, by decide⟩,
    ⟨clocked true 0 false, 0, 1421, _, 1, by decide, by decide, by decide, rfl, by decide, by decide⟩,
    ⟨clocked false 0 false, 0, 1508, _, by decide, by decide, by decide, rfl, by decide, by decide⟩,
    ⟨up, 15156, by decide, by decide⟩,
    ⟨up.setClocks { up.clocks with suspended := true }, 15157, by decide, by decide, by decide⟩,
    ⟨up, by decide⟩,
    ⟨up, 10, by decide, by decide, by decide⟩,
    ⟨up, 8, by decide, by decide, by decide⟩,
    ⟨up, 16, by decide, by decide, by decide⟩,
    ⟨up, 15, 3, by decide, by decide, by decide⟩,
    ⟨up, 30, hDsi 1, by decide, by decide, by decide⟩,
    ⟨up.updDom 10 (fun x => { x with state := .bypass }), 10, by decide, by decide, by decide, by decide⟩,
    ⟨up, [(12, 1200)], (12, 1200), _, rfl, by decide, by decide, by decide, by decide⟩,
    ⟨hotState, [(12, 1200)], (12, 1200), _, _, rfl, by decide, by decide, by decide, rfl, by decide, by decide, by decide⟩,
    ⟨State.reset.setPower { State.reset.power with tripped := true }, 1000, by decide, by decide, by decide⟩,
    ⟨up.setPower { up.power with cfg := { up.power.cfg with pmicEn := true } }, by decide, by decide⟩,
    ⟨up, 7, 488, _, by decide, rfl, by decide, by decide⟩,
    ⟨zoned, 3, [], _, _, _, by decide, rfl, by decide, by decide, rfl, rfl, by decide⟩,
    ⟨zoned, 3, [1], _, _, _, 0, by decide, rfl, by decide, by decide, rfl, rfl, by decide, by decide⟩,
    ⟨powered .steep false, by decide, by decide⟩,
    ⟨up, by decide, by decide, by decide⟩,
    ⟨up.setPower { up.power with poured := true, sag := { up.power.sag with sagRecord := some (up.pour 1 0 false false) } },
      up.pour 1 0 false false, by decide, by decide⟩,
    ⟨16, 0, by decide, by decide, by decide⟩,
    ⟨up, hPipe 7, by decide, by decide⟩⟩

/-- The secure world in another condition, with Cupper available. -/
def cupper (f : Sec → Sec) : State := up.setSec (f { up.sec with available := true })

/-- A SAFETY instance 16 that holds slot 63. -/
def safety : State :=
  let s := (shown surf0).updInst 16 (fun i => { i with safety := true })
  s.setSec { s.sec with available := true }

/-- A challenge of this moment. -/
def challenge0 : Challenge := { nonce := [], request := 7, time := 0 }

/-- A full mailbox slot whose call awaits its return. -/
def owedBox : Mbox := { Mbox.empty with owed := true }

/-- States and operands that meet the hypotheses of SecureWorldCompletes, clause by clause. Hypotheses that ask something of a free value of Config are left out. -/
theorem witness_SecureWorldCompletes :
    (∃ (s : State) (p : Packet) (u : State), u = s.markApplied p ∧ p.target = hCupper ∧ s.takes opSecService true p = true ∧
      p.length = 4 ∧ p.u32 16 = 1) ∧
    (∃ (s : State) (p : Packet) (u : State), u = s.markApplied p ∧ p.target = hCupper ∧ s.sec.available = true ∧ s.takes
      opSecService true p = true ∧ p.length = 8 ∧ p.u32 16 = 2 ∧ 1 ≤ p.fld 20 0 9 ∧ p.fld 20 0 9 ≤ 256 ∧ p.fld 20 9 23 = 0) ∧
    (∃ (s : State) (p : Packet) (u : State), u = s.markApplied p ∧ p.target = hCupper ∧ s.sec.available = true ∧ s.takes
      opSecService true p = true ∧ p.length = 52 ∧ p.u32 16 = 3) ∧
    (∃ (s : State) (p : Packet) (u : State) (i : Nat), u = s.markApplied p ∧ p.target = hCupper ∧ s.sec.available = true ∧ s.takes
      opSecService (s.isSafety p.inst && decide ((s.slot i).holder = some p.inst)) p = true ∧ i = p.fld 20 0 6 ∧ p.length = 16 ∧
      p.u32 16 = 0x10 ∧ p.fld 20 7 25 = 0 ∧ p.flag 20 6 = true) ∧
    (∃ (s : State) (p : Packet) (u : State) (i : Nat), u = s.markApplied p ∧ p.target = hCupper ∧ s.sec.available = true ∧ s.takes
      opSecService (s.isSafety p.inst && decide ((s.slot i).holder = some p.inst)) p = true ∧ i = p.fld 20 0 6 ∧ p.length = 16 ∧
      p.u32 16 = 0x10 ∧ p.fld 20 7 25 = 0 ∧ p.flag 20 6 = false ∧ p.u64 24 % 64 = 0 ∧ mappedRange (s.inst p.inst).pages (p.u64 24)
      16384 = true) ∧
    (∃ (s : State) (p : Packet) (u : State) (i : Nat), u = s.markApplied p ∧ p.target = hCupper ∧ s.sec.available = true ∧ s.takes
      opSecService (decide (p.inst = 0) || (s.isSafety p.inst && decide ((s.slot i).holder = some p.inst))) p = true ∧ i = p.fld 20
      0 6 ∧ p.length = 8 ∧ p.u32 16 = 0x11 ∧ p.fld 20 6 2 = 0 ∧ p.u16 22 = 0 ∧ s.unitOk (hSlot i) = true) ∧
    (∃ (s : State) (p : Packet) (u : State) (i : Nat), u = s.markApplied p ∧ p.target = hCupper ∧ s.sec.available = true ∧ s.takes
      opSecService (decide (p.inst = 0) || (s.isSafety p.inst && s.hasRegion p.inst i)) p = true ∧ i = p.fld 20 0 3 ∧ p.length = 8
      ∧ p.u32 16 = 0x12 ∧ p.fld 20 3 5 = 0 ∧ p.u16 22 = 0 ∧ s.unitOk (hPipe i) = true) ∧
    (∃ (s : State) (p : Packet) (u : State) (i : Nat) (n : _), u = s.markApplied p ∧ p.target = hCupper ∧ s.sec.available = true ∧
      s.takes opSecService (decide (p.inst = 0) || s.isSafety p.inst) p = true ∧ i = p.fld 20 0 4 ∧ n = p.fld 21 0 5 ∧ p.length = 8
      + 4 * n ∧ p.u32 16 = 0x13 ∧ 5 ≤ i ∧ p.fld 20 4 4 = 0 ∧ 1 ≤ n ∧ n ≤ 16 ∧ p.fld 21 5 3 = 0 ∧ p.u16 22 = 0 ∧ (p.wordsFrom
      24).all segmentOk = true) ∧
    (∃ (s : State) (p : Packet) (u : State), u = s.markApplied p ∧ p.target = hCupper ∧ s.sec.available = true ∧ s.takes
      opSecService (decide (p.inst = 0)) p = true ∧ p.length = 8 ∧ p.u32 16 = 0x20 ∧ 1 ≤ p.u16 20 ∧ p.u16 20 ≤ 10000 ∧ p.u16 22 =
      0) ∧
    (∃ (s : State) (p : Packet) (u : State), u = s.markApplied p ∧ p.target = hCupper ∧ s.sec.available = true ∧ s.takes
      opMigrationKey true p = true ∧ p.length = 44 ∧ s.sec.keyFused = true ∧ p.u32 16 = 0) ∧
    (∃ (s : State) (p : Packet) (u : State), u = s.markApplied p ∧ p.target = hCupper ∧ s.sec.available = true ∧ s.takes
      opMigrationKey true p = true ∧ p.length = 44 ∧ s.sec.keyFused = true ∧ p.u32 16 = 1) ∧
    (∃ (s : State) (p : Packet) (u : State), u = s.markApplied p ∧ p.target = hCupper ∧ s.sec.available = true ∧ s.takes
      opDebugChallenge true p = true ∧ p.length = 4 ∧ p.fld 16 4 28 = 0 ∧ s.sec.debugFails < 8) ∧
    (∃ (s : State) (p : Packet) (u : State) (c : _), u = s.markApplied p ∧ p.target = hCupper ∧ s.sec.available = true ∧ s.takes
      opDebugResponse true p = true ∧ p.length = 192 ∧ s.sec.debugFails < 8 ∧ s.sec.challenge = some c ∧ s.devTime ≤ c.time +
      60000000000 ∧ (bitOf c.request 3 && s.armed) = false) ∧
    (∃ (s : State) (slot : _), slot < 16 ∧ s.sec.available = true ∧ (s.sec.toCupper.get slot).full = false) ∧
    (∃ (s : State) (slot : _), slot < 16 ∧ (s.sec.toBarista.get slot).full = false) ∧
    (∃ (s : State) (slot : _), slot < 16 ∧ (s.sec.toBarista.get slot).full = true) ∧
    (∃ (s : State) (slot : _) (entry : _) (data : List Byte), s.sec.available = true ∧ slot < 16 ∧ entry < 64 ∧ (s.sec.toCupper.get
      slot).full = false ∧ (s.sec.toCupper.get slot).owed = false ∧ data.length ≤ entryArgs entry) ∧
    (∃ (s : State) (slot : _), s.sec.available = true ∧ (s.sec.toCupper.get slot).owed = true ∧ (s.sec.toBarista.get slot).full =
      false) ∧
    (∃ (s : State), s.sec.available = true ∧ s.sec.halted = false) ∧
    (∃ (s : State) (slot : _) (m : _), m = s.sec.toCupper.get slot ∧ m.owed = true) ∧
    (∃ (s : State) (slot : _), s.sec.available = false ∧ s.sec.wdogFatal = false ∧ (s.sec.unavail = 1 ∨ s.sec.unavail = 3) ∧
      s.imageIn 1 = some slot) ∧
    (∃ (s : State), bitOf s.sec.debug 1 = true) ∧
    (∃ (s : State), bitOf s.sec.debug 1 = true) ∧
    (∃ (s : State), bitOf s.sec.debug 1 = false) :=
  ⟨
    ⟨up, pk hCupper [1], _, rfl, by decide, by decide, by decide, by decide⟩,
    ⟨cupper id, pk hCupper [2, 256], _, rfl, by decide, by decide, by decide, by decide, by decide, by decide, by decide,
      by decide⟩,
    ⟨cupper id, pk hCupper ([3] ++ List.replicate 12 0), _, rfl, by decide, by decide, by decide, by decide, by decide⟩,
    ⟨safety, gk 16 hCupper [0x10, 127, 0, 0], _, _, rfl, by decide, by decide, by decide, rfl, by decide, by decide, by decide,
      by decide⟩,
    ⟨safety, gk 16 hCupper [0x10, 63, 0, 0], _, _, rfl, by decide, by decide, by decide, rfl, by decide, by decide, by decide,
      by decide, by decide, by decide⟩,
    ⟨cupper id, pk hCupper [0x11, 0xFF3F], _, _, rfl, by decide, by decide, by decide, rfl, by decide, by decide, by decide,
      by decide, by decide⟩,
    ⟨cupper id, pk hCupper [0x12, 0xFF07], _, _, rfl, by decide, by decide, by decide, rfl, by decide, by decide, by decide,
      by decide, by decide⟩,
    ⟨cupper id, pk hCupper ([0x13, 0x100F] ++ List.replicate 16 (8000 + 10 * 65536)), _, _, _, rfl, by decide, by decide,
      by decide, rfl, rfl, by decide, by decide, by decide, by decide, by decide, by decide, by decide, by decide, by decide⟩,
    ⟨cupper id, pk hCupper [0x20, 10000], _, rfl, by decide, by decide, by decide, by decide, by decide, by decide, by decide,
      by decide⟩,
    ⟨cupper (fun x => { x with keyFused := true }), pk hCupper (List.replicate 11 0), _, rfl, by decide, by decide, by decide,
      by decide, by decide, by decide⟩,
    ⟨cupper (fun x => { x with keyFused := true }), pk hCupper (1 :: List.replicate 10 0), _, rfl, by decide, by decide,
      by decide, by decide, by decide, by decide⟩,
    ⟨cupper (fun x => { x with debugFails := 7 }), pk hCupper [15], _, rfl, by decide, by decide, by decide, by decide,
      by decide, by decide⟩,
    ⟨cupper (fun x => { x with challenge := some challenge0 }), pk hCupper (List.replicate 48 0), _, challenge0, rfl,
      by decide, by decide, by decide, by decide, by decide, by decide, by decide, by decide⟩,
    ⟨cupper id, 15, by decide, by decide, by decide⟩,
    ⟨up, 15, by decide, by decide⟩,
    ⟨cupper (fun x => { x with toBarista := x.toBarista.set 15 { Mbox.empty with full := true } }), 15, by decide, by decide⟩,
    ⟨cupper id, 15, 63, [], by decide, by decide, by decide, by decide, by decide, Nat.zero_le _⟩,
    ⟨cupper (fun x => { x with toCupper := x.toCupper.set 15 owedBox }), 15, by decide, by decide, by decide⟩,
    ⟨cupper id, by decide, by decide⟩,
    ⟨cupper (fun x => { x with toCupper := x.toCupper.set 15 owedBox }), 15, _, rfl, by decide⟩,
    ⟨up.setSec { up.sec with unavail := 3 }, 0, by decide, by decide, by decide, by decide⟩,
    ⟨cupper (fun x => { x with fuseDebug := 2 }), by decide⟩,
    ⟨cupper (fun x => { x with fuseDebug := 2 }), by decide⟩,
    ⟨up, by decide⟩⟩

/-- A Refill of unit 1 with an image of a header alone. -/
def refill0 (data : List Byte) : Refill := { unit := 1, live := false, flash := true, length := 272, data := data }

/-- The firmware in another condition, with Cupper available. -/
def flashed (f : Firmware → Firmware) : State := let s := cupper id; s.setFirmware (f s.firmware)

/-- States and operands that meet the hypotheses of RefillAndCalibrationComplete, clause by clause. Hypotheses that ask something of a free value of Config are left out. -/
theorem witness_RefillAndCalibrationComplete :
    (∃ (s : State) (p : Packet) (u : State), u = s.markApplied p ∧ p.target = hDevice ∧ s.takes opRefillBegin true p = true ∧
      p.length = 8 ∧ p.fld 16 10 22 = 0 ∧ 1 ≤ p.u8 16 ∧ p.u8 16 ≤ 7 ∧ (p.flag 16 8 = true ∨ p.flag 16 9 = true) ∧ refillLengthOk
      (p.u32 20) = true ∧ (p.u8 16 = 4 → s.board.member.sense = true) ∧ s.firmware.refill = none) ∧
    (∃ (s : State) (p : Packet) (u : State) (r : _) (d : _), u = s.markApplied p ∧ p.target = hDevice ∧ s.takes opRefillData true p
      = true ∧ s.firmware.refill = some r ∧ d = p.bytesFrom 20 ∧ 8 ≤ p.length ∧ p.length ≤ 4076 ∧ p.u32 16 = r.data.length ∧
      r.data.length + d.length ≤ r.length) ∧
    (∃ (s : State) (p : Packet) (u : State) (r : _) (d : _), u = s.markApplied p ∧ p.target = hDevice ∧ s.takes opRefillCommit true
      p = true ∧ s.firmware.refill = some r ∧ p.length = 4 ∧ p.fld 16 1 31 = 0 ∧ r.data.length = r.length ∧ d = r.data ∧
      s.sec.available = true ∧ 272 + imgBodyLen d = r.length ∧ (r.live = true → Config.formatsMatch r.unit (imgBody d) = true)) ∧
    (∃ (s : State) (p : Packet) (u : State), u = s.markApplied p ∧ p.target = hDevice ∧ s.takes opRefillAbort true p = true ∧
      p.length = 0 ∧ u.committing = true) ∧
    (∃ (s : State) (p : Packet) (u : State) (r : _), u = s.markApplied p ∧ p.target = hDevice ∧ s.takes opRefillAbort true p = true
      ∧ p.length = 0 ∧ u.committing = false ∧ s.firmware.refill = some r) ∧
    (∃ (s : State) (p : Packet) (u : State), u = s.markApplied p ∧ p.target = hDevice ∧ s.takes opRefillAbort true p = true ∧
      p.length = 0 ∧ u.committing = false ∧ s.firmware.refill = none) ∧
    (∃ (s : State) (p : Packet) (u : State) (unit : _) (i : _) (x : _), u = s.markApplied p ∧ p.target = hDevice ∧ s.takes
      opSlotSelect true p = true ∧ unit = p.u8 16 ∧ i = p.fld 17 0 1 ∧ x = s.firmware.slots.get (2 * unit + i) ∧ p.length = 4 ∧
      p.fld 16 9 23 = 0 ∧ 1 ≤ unit ∧ unit ≤ 7 ∧ (unit = 4 → s.board.member.sense = true) ∧ s.sec.available = true ∧ x.good = true ∧
      s.firmware.counter.get unit ≤ x.secVer) ∧
    (∃ (s : State) (p : Packet) (u : State), u = s.markApplied p ∧ p.target = hDevice ∧ s.takes opCalRead true p = true ∧ p.length
      = 4 ∧ p.u16 18 = 0 ∧ s.calIndexOk (p.u8 16) (p.u8 17) = true ∧ s.calFitted (p.u8 16) (p.u8 17) = true) ∧
    (∃ (s : State) (p : Packet) (u : State), u = s.markApplied p ∧ s.takes opUsercalWrite true p = true ∧ calKind p.target ≠ 0 ∧
      p.length = 4 ∧ p.u32 16 = 0) ∧
    (∃ (s : State) (p : Packet) (u : State), u = s.markApplied p ∧ s.takes opUsercalWrite true p = true ∧ calKind p.target ≠ 0 ∧
      p.length = 4 ∧ p.u32 16 = 1) ∧
    (∃ (s : State) (p : Packet) (u : State), u = s.markApplied p ∧ s.takes opUsercalWrite true p = true ∧ calKind p.target ≠ 0 ∧
      p.length = 12 ∧ p.u32 16 = 2 ∧ s.busMaster 0 = true ∧ calKind p.target ≠ 3) ∧
    (∃ (s : State) (p : Packet) (u : State) (i : _) (c : _), u = s.markApplied p ∧ i = p.target % 256 ∧ c = (s.tp_ i).cfg ∧
      p.target / 256 = 0x14 ∧ p.length = 12 ∧ p.fld 16 1 31 = 0 ∧ p.u16 24 = 0 ∧ s.takes opRecalTouch (decide (p.inst = 0) ||
      (!p.flag 16 0 && s.ownsTouchRect p.inst i 0 0 c.width c.height)) p = true ∧ s.touch.d2dUp = true ∧ s.touch.senseUp = true ∧
      (s.tp_ i).state = .scanning ∧ p.flag 16 0 = false) ∧
    (∃ (s : State) (p : Packet) (u : State) (i : _) (c : _), u = s.markApplied p ∧ i = p.target % 256 ∧ c = (s.tp_ i).cfg ∧
      p.target / 256 = 0x14 ∧ p.length = 12 ∧ p.fld 16 1 31 = 0 ∧ p.u16 24 = 0 ∧ s.takes opRecalTouch (decide (p.inst = 0) ||
      (!p.flag 16 0 && s.ownsTouchRect p.inst i 0 0 c.width c.height)) p = true ∧ s.touch.d2dUp = true ∧ s.touch.senseUp = true ∧
      (s.tp_ i).state ≠ .scanning) ∧
    (∃ (s : State) (p : Packet) (u : State) (i : _), u = s.markApplied p ∧ i = p.target % 256 ∧ s.takes opRecalHaptic true p = true
      ∧ p.target / 256 = 0x15 ∧ p.length = 4 ∧ p.fld 16 1 31 = 0 ∧ s.bridgedAway i = false ∧ (s.chan i).driving = false ∧
      s.touch.d2dUp = true ∧ (s.entry hBoost).fact ≠ 1) ∧
    (∃ (s : State) (p : Packet) (u : State) (i : _), u = s.markApplied p ∧ i = p.target % 256 ∧ s.takes opRecalHaptic true p = true
      ∧ p.target / 256 = 0x15 ∧ p.length = 4 ∧ p.fld 16 1 31 = 0 ∧ s.bridgedAway i = false ∧ (s.chan i).driving = false ∧
      s.touch.d2dUp = true ∧ (s.entry hBoost).fact ≠ 1 ∧ p.flag 16 0 = false) ∧
    (∃ (s : State) (p : Packet) (u : State), u = s.markApplied p ∧ s.takes opRecalDram true p = true ∧ p.length = 0 ∧ (p.target =
      hDevice ∨ p.target / 256 = 0x06)) ∧
    (∃ (s : State) (p : Packet) (u : State) (ref : _) (trims : _) (t : _), u = s.markApplied p ∧ s.takes opRecalMic true p = true ∧
      p.target = hAudio ∧ p.length = 4 ∧ p.fld 16 17 15 = 0 ∧ ref = p.fld 16 8 3 ∧ 1 ≤ p.fld 16 11 5 ∧ p.fld 16 11 5 ≤ 10 ∧ bitOf
      s.audio.mics ref = true ∧ p.flag 16 16 = false ∧ (∀ k ∈ maskBits 8 (p.u8 16), bitOf s.audio.mics k = true) ∧ (∀ i, i <
      s.board.member.haptics → (s.chan i).driving = false) ∧ s.touch.d2dUp = true ∧ (s.entry hBoost).fact ≠ 1 ∧ trims = (maskBits 8
      (p.u8 16)).foldl (fun t k => t.set k (if k = ref then s.audio.trims.get k else clampI (-600) 600 (signed 16 (Config.measure
      s.freeCtr hAudio (16 + k))))) s.audio.trims ∧ t = (u.setAudio { u.audio with trims := trims }).tickFree) ∧
    (∃ (s : State) (r : _), s.firmware.refill = some r) ∧
    (∃ (s : State) (unit : _) (part : _) (left : _), s.firmware.parts.contains (unit, part) = true ∧ left = s.firmware.parts.erase
      (unit, part) ∧ left.any (fun x => decide (x.1 = unit)) = true) ∧
    (∃ (s : State) (unit : _) (part : _) (left : _), s.firmware.parts.contains (unit, part) = true ∧ left = s.firmware.parts.erase
      (unit, part) ∧ left.any (fun x => decide (x.1 = unit)) = false) :=
  ⟨
    ⟨up, pk hDevice [0x0307, 2 ^ 24], _, rfl, by decide, by decide, by decide, by decide, by decide, by decide, by decide,
      by decide, by decide, by decide⟩,
    ⟨flashed (fun f => { f with refill := some (refill0 (List.replicate 268 0)) }), pk hDevice [268, 0], _,
      refill0 (List.replicate 268 0), _, rfl, by decide, by decide, by decide, rfl, by decide, by decide, by decide, by decide⟩,
    ⟨flashed (fun f => { f with refill := some (refill0 (List.replicate 272 0)) }), pk hDevice [1], _,
      refill0 (List.replicate 272 0), _, rfl, by decide, by decide, by decide, by decide, by decide, by decide, rfl, by decide,
      by decide, by decide⟩,
    ⟨up.setTp { up.tp with replies := [{ nopReply (.sq 0 0 0) with opcode := 0xC003 }] }, pk hDevice [], _, rfl, by decide,
      by decide, by decide, by decide⟩,
    ⟨flashed (fun f => { f with refill := some (refill0 []) }), pk hDevice [], _, refill0 [], rfl, by decide, by decide,
      by decide, by decide, by decide⟩,
    ⟨up, pk hDevice [], _, rfl, by decide, by decide, by decide, by decide, by decide⟩,
    ⟨flashed id, pk hDevice [7], _, _, _, _, rfl, by decide, by decide, rfl, rfl, rfl, by decide, by decide, by decide,
      by decide, by decide, by decide, by decide, by decide⟩,
    ⟨up, pk hDevice [0x0305], _, rfl, by decide, by decide, by decide, by decide, by decide, by decide⟩,
    ⟨up, pk (hTouch 3) [0], _, rfl, by decide, by decide, by decide, by decide⟩,
    ⟨up, pk (hAudio) [1], _, rfl, by decide, by decide, by decide, by decide⟩,
    ⟨mastered, pk (hHaptic 7) [2, 0, 0], _, rfl, by decide, by decide, by decide, by decide, by decide, by decide⟩,
    ⟨sensed (fun t => { t with state := .scanning }), pk (hTouch 3) [0, 0, 0], _, _, _, rfl, rfl, rfl, by decide, by decide,
      by decide, by decide, by decide, by decide, by decide, by decide, by decide⟩,
    ⟨sensed id, pk (hTouch 3) [1, 0, 0], _, _, _, rfl, rfl, rfl, by decide, by decide, by decide, by decide, by decide,
      by decide, by decide, by decide⟩,
    ⟨up, pk (hHaptic 7) [1], _, _, rfl, rfl, by decide, by decide, by decide, by decide, by decide, by decide, by decide,
      by decide⟩,
    ⟨up, pk (hHaptic 7) [0], _, _, rfl, rfl, by decide, by decide, by decide, by decide, by decide, by decide, by decide,
      by decide, by decide⟩,
    ⟨up, pk (hChannel 7) [], _, rfl, by decide, by decide, by decide⟩,
    ⟨sounding (fun a => { a with mics := 255 }), pk hAudio [22527], _, _, _, _, rfl, by decide, by decide, by decide,
      by decide, rfl, by decide, by decide, by decide, by decide, by decide, by decide, by decide, by decide, rfl, rfl⟩,
    ⟨flashed (fun f => { f with refill := some (refill0 []) }), refill0 [], by decide⟩,
    ⟨flashed (fun f => { f with parts := [(6, hChannel 0), (6, hChannel 7)] }), 6, hChannel 7, _, by decide, rfl, by decide⟩,
    ⟨flashed (fun f => { f with parts := [(6, hChannel 7)] }), 6, hChannel 7, _, by decide, rfl, by decide⟩⟩

/-- A management packet that carries a whole GET_ENDPOINT_ID request, or the first packet of it. -/
def smbus (last : Bool) : List Byte :=
  let b : List Byte := [0xD0, 0x0F, 0x07, 0x21, 0x01, 0, 0x10, if last then 0xC8 else 0x88, 0x00, 0x80]
  b ++ [crc8 b]

/-- The same with two bytes gone, so that its PEC fails. -/
def smbusBad : List Byte := (smbus true).take 9

/-- A whole NOP with its trailer, and one whose trailer is wrong. -/
def ibnov (good : Bool) : List Byte :=
  let b := packetBytes { opcode := 1, flags := 0, hdrver := 1, prio := 2, seq := 7, length := 0, target := 0, basegen := 0 } []
  if good then b else b.set 16 0x55

/-- A boot that has stopped for an image, after so many bytes of another. -/
def recovering (offset n : Nat) : State :=
  up.setBoot { up.boot with stage := 14, fail := 3, recOffset := offset, recData := List.replicate n 0 }

/-- States and operands that meet the hypotheses of ManagementPortCompletes, clause by clause. Hypotheses that ask something of a free value of Config are left out. -/
theorem witness_ManagementPortCompletes :
    (∃ (s : State) (bytes : List Byte), s.power.state ≠ .shelf ∧ 9 ≤ bytes.length ∧ (bytes.getD 0 0).toNat = 2 * (0x68 +
      s.board.smbaddr) ∧ crc8 (bytes.take (bytes.length - 1)) ≠ bytes.getD (bytes.length - 1) 0) ∧
    (∃ (s : State) (bytes : List Byte) (flags : _), s.power.state ≠ .shelf ∧ flags = (bytes.getD 7 0).toNat ∧ 9 ≤ bytes.length ∧
      (bytes.getD 0 0).toNat = 2 * (0x68 + s.board.smbaddr) ∧ crc8 (bytes.take (bytes.length - 1)) = bytes.getD (bytes.length - 1)
      0 ∧ (bytes.getD 1 0).toNat = 0x0F ∧ (bytes.getD 2 0).toNat + 4 = bytes.length ∧ (bytes.getD 5 0).toNat = s.boot.eid.getD 0 ∧
      bitOf flags 7 = true ∧ bitOf flags 6 = false) ∧
    (∃ (s : State) (bytes : List Byte) (flags : _) (body : _), s.power.state ≠ .shelf ∧ flags = (bytes.getD 7 0).toNat ∧ 9 ≤
      bytes.length ∧ (bytes.getD 0 0).toNat = 2 * (0x68 + s.board.smbaddr) ∧ crc8 (bytes.take (bytes.length - 1)) = bytes.getD
      (bytes.length - 1) 0 ∧ (bytes.getD 1 0).toNat = 0x0F ∧ (bytes.getD 2 0).toNat + 4 = bytes.length ∧ (bytes.getD 5 0).toNat =
      s.boot.eid.getD 0 ∧ bitOf flags 7 = true ∧ body = (bytes.take (bytes.length - 1)).drop 8 ∧ bitOf flags 6 = true ∧ mgmtTypeOk
      body = true) ∧
    (∃ (s : State) (tag : _), s.power.state ≠ .shelf ∧ s.boot.asm.any (fun m => decide (m.1 = tag)) = true) ∧
    (∃ (s : State) (tag : _) (bytes : List Byte) (h : _) (t : _), s.power.state ≠ .shelf ∧ h = parseHeader bytes ∧ t = s.mgmtServed
      tag ∧ s.accepting = true ∧ t.mgmtInFlight < 4 ∧ t.creditsHeld 0 < (t.inst 0).credits ∧ 16 ≤ bytes.length ∧ h.frameOk = true ∧
      bytes.length = 20 + h.length ∧ trailerOk h bytes = true) ∧
    (∃ (s : State) (tag : _) (bytes : List Byte) (h : _) (t : _), s.power.state ≠ .shelf ∧ h = parseHeader bytes ∧ t = s.mgmtServed
      tag ∧ s.accepting = true ∧ t.mgmtInFlight < 4 ∧ t.creditsHeld 0 < (t.inst 0).credits ∧ 16 ≤ bytes.length ∧ h.frameOk = true ∧
      bytes.length = 20 + h.length ∧ trailerOk h bytes = false) ∧
    (∃ (s : State) (reg : _) (len : _), s.power.state ≠ .shelf ∧ basicReadOk reg len = false) ∧
    (∃ (s : State) (reg : _) (len : _), s.power.state ≠ .shelf ∧ basicReadOk reg len = true ∧ reg + len ≤ 0x28) ∧
    (∃ (s : State) (reg : _) (data : List Byte), s.power.state ≠ .shelf ∧ s.boot.stage = 14 ∧ 0x30 ≤ reg ∧ reg ≤ 0x13C ∧
      data.length = 4) ∧
    (∃ (s : State) (eid : _), s.power.state ≠ .shelf ∧ 8 ≤ eid ∧ eid < 255) ∧
    (∃ (s : State), s.power.state ≠ .shelf) ∧
    (∃ (s : State), s.power.state ≠ .shelf) ∧
    (∃ (s : State) (data : List Byte), s.power.state ≠ .shelf ∧ s.boot.stage = 14 ∧ s.boot.recResult ≠ 3 ∧ data.length = 256 ∧
      s.boot.recOffset = s.boot.recData.length) ∧
    (∃ (s : State) (data : List Byte), s.power.state ≠ .shelf ∧ s.boot.stage = 14 ∧ s.boot.recResult ≠ 3 ∧ data.length = 256 ∧
      s.boot.recOffset ≠ s.boot.recData.length) ∧
    (∃ (s : State) (u : _), s.power.state ≠ .shelf ∧ s.boot.stage = 14 ∧ s.boot.recResult ≠ 3 ∧ u = s.failedUnit) ∧
    (∃ (s : State) (u : _) (d : _) (ok : _), s.power.state ≠ .shelf ∧ s.boot.stage = 14 ∧ s.boot.recResult ≠ 3 ∧ u = s.failedUnit ∧
      d = s.boot.recData ∧ ok = (headerOk u (s.firmware.counter.get u) d && decide (272 + imgBodyLen d ≤ d.length) && bodyOk d) ∧
      ok = false) :=
  ⟨
    ⟨up, smbusBad, by decide, by decide, by decide, by decide⟩,
    ⟨up, smbus false, _, by decide, rfl, by decide, by decide, by decide, by decide, by decide, by decide, by decide,
      by decide⟩,
    ⟨up, smbus true, _, _, by decide, rfl, by decide, by decide, by decide, by decide, by decide, by decide, by decide, rfl,
      by decide, by decide⟩,
    ⟨up.setBoot { up.boot with asm := [(7, [])] }, 7, by decide, by decide⟩,
    ⟨up, 7, ibnov true, _, _, by decide, rfl, rfl, by decide, by decide, by decide, by decide, by decide, by decide, by decide⟩,
    ⟨up, 7, ibnov false, _, _, by decide, rfl, rfl, by decide, by decide, by decide, by decide, by decide, by decide,
      by decide⟩,
    ⟨up, 0x3C, 8, by decide, by decide⟩,
    ⟨up, 0x24, 4, by decide, by decide, by decide⟩,
    ⟨recovering 0 0, 0x13C, [0, 0, 0, 0], by decide, by decide, by decide, by decide, by decide⟩,
    ⟨up, 254, by decide, by decide, by decide⟩,
    ⟨up, by decide⟩,
    ⟨up, by decide⟩,
    ⟨recovering 256 256, List.replicate 256 0, by decide, by decide, by decide, by decide, by decide⟩,
    ⟨recovering 0 256, List.replicate 256 0, by decide, by decide, by decide, by decide, by decide⟩,
    ⟨recovering 0 0, _, by decide, by decide, by decide, rfl⟩,
    ⟨recovering 0 0, _, _, _, by decide, by decide, by decide, rfl, rfl, rfl, by decide⟩⟩

/-- The device before its boot, in a step of it. -/
def booting (stage : Nat) : State := State.reset.setBoot { State.reset.boot with stage := stage }

/-- States and operands that meet the hypotheses of PortsAndBootComplete, clause by clause. -/
theorem witness_PortsAndBootComplete :
    (∃ (s : State) (port : _) (fn : _), s.present (hPort port) = true ∧ s.fnExists port fn = true ∧ fn ≠ 0) ∧
    (∃ (s : State) (port : _) (fn : _) (k : _), s.present (hPort port) = true ∧ s.fnExists port fn = true ∧ k = fnKey port fn ∧
      (s.fn k).busMaster = true) ∧
    (∃ (s : State) (port : _) (fn : _) (v : _) (on : _), s.present (hPort port) = true ∧ s.fnExists port fn = true ∧ 4 ≤
      s.boot.stage ∧ on = bitOf v 0 ∧ on = true) ∧
    (∃ (s : State) (port : _) (fn : _), s.present (hPort port) = true ∧ s.fnExists port fn = true ∧ 4 ≤ s.boot.stage ∧ fn = 0) ∧
    (∃ (s : State) (port : _), s.present (hPort port) = true) ∧
    (∃ (s : State) (port : _), s.present (hPort port) = true) ∧
    (∃ (s : State) (port : _), s.present (hPort port) = true ∧ (s.ports.get port).training = true ∧ (s.ports.get port).perst =
      false) ∧
    (∃ (s : State), s.boot.stage = 4) ∧
    (∃ (s : State) (healthy : _) (t : _) (u : _), s.mayBoot = true ∧ t = s.bootStraps healthy ∧ t.bootReference = some u) ∧
    (∃ (s : State) (healthy : _) (t : _), s.mayBoot = true ∧ t = s.bootStraps healthy ∧ t.bootReference = none) ∧
    (∃ (s : State), s.mayBoot = true ∧ s.boot.stage = 1 ∧ s.refOrder.find? s.refOk = none) ∧
    (∃ (s : State) (healthy : _) (t : _) (u : _), s.mayBoot = true ∧ s.boot.stage = 0 ∧ t = s.bootStraps healthy ∧ t.bootReference
      = some u) ∧
    (∃ (s : State) (healthy : _) (t : _), s.mayBoot = true ∧ s.boot.stage = 0 ∧ t = s.bootStraps healthy ∧ t.bootReference = none) ∧
    (∃ (s : State), (s.boot.stage ≤ 1 ∨ s.boot.stage = 4)) :=
  ⟨
    ⟨host, 3, 16, by decide, by decide, by decide⟩,
    ⟨withFn host { Fn.reset with busMaster := true }, 3, 16, _, by decide, by decide, rfl, by decide⟩,
    ⟨host, 3, 16, 1, _, by decide, by decide, by decide, rfl, by decide⟩,
    ⟨host, 3, 0, by decide, by decide, by decide, by decide⟩,
    ⟨up, 3, by decide⟩,
    ⟨up, 3, by decide⟩,
    ⟨host.setPorts (host.ports.set 3 { Port.reset with training := true, perst := false }), 3, by decide, by decide, by decide⟩,
    ⟨booting 4, by decide⟩,
    ⟨booting 0, 8, _, _, by decide, rfl, rfl⟩,
    ⟨booting 0, 0, _, by decide, rfl, by decide⟩,
    ⟨booting 1, by decide, by decide, by decide⟩,
    ⟨booting 0, 8, _, _, by decide, by decide, rfl, rfl⟩,
    ⟨booting 0, 0, _, by decide, by decide, rfl, by decide⟩,
    ⟨booting 1, by decide⟩⟩

theorem reset_inv : State.reset.Inv :=
  ⟨by decide, by decide, fun _ => by change Entry.reset.gen ≠ 0; decide, Nat.zero_le _⟩

/-- States and operands that meet the hypotheses of EveryStepKeepsInvariant, clause by clause. -/
theorem witness_EveryStepKeepsInvariant :
    (∃ (s : State) (t : State), s.Inv ∧ step s = .next t) :=
      ⟨State.reset, State.reset.idle, reset_inv, rfl⟩

end Sys2Proof.Tests
end

section
/-!
PROOFS. The ledger: how a generation advances, what a write, a new intention and a settling do to the entries, and that
a full reset empties the ledger (01 R20 to R28).
-/

namespace Sys2Proof.Machine

open Sys2Proof

/-! ### Generations -/

/-- A generation below all ones advances by one (R20). -/
theorem nextGen_of_ne_max {g : W32} (hg : g ≠ 0xFFFFFFFF) : nextGen g = g + 1 := by
  have hne : g + 1 ≠ 0 := by bv_omega
  rw [nextGen, if_neg hne]

/-! ### Entries -/

/-- The entry written reads back. -/
theorem State.entry_setEntry_same {s : State} (hw : s.ledger.wf = true) (h : Nat) (e : Entry) :
    (s.setEntry h e).entry h = e := by
  simp [State.entry, State.setEntry, Tab.get_set_same hw]

/-- A new intention: one advance, the same fact, CONTRADICTED kept (R22, R28). -/
theorem State.entry_intend_same {s : State} (hw : s.ledger.wf = true) (h : Nat) (b : Bool) (n : Nat) :
    (s.intend h b n).entry h =
      { gen := nextGen (s.genOf h),
        agree := if (s.entry h).agree = .contradicted then .contradicted else if b then .settling else .agreed,
        fact := (s.entry h).fact } := by
  rw [State.entry, State.intend_ledger, Tab.get_set_same hw]

/-- A new intention touches no other entry. -/
theorem State.entry_intend_other (s : State) {h j : Nat} (hj : j ≠ h) (b : Bool) (n : Nat) :
    (s.intend h b n).entry j = s.entry j := by
  rw [State.entry, State.intend_ledger, Tab.get_set_other hj, State.entry]

/-- A SETTLING entry becomes AGREED, and nothing else of it changes (R21, R22). -/
theorem State.entry_settle_of_settling {s : State} {h : Nat} (hw : s.ledger.wf = true)
    (hs : (s.entry h).agree = .settling) : (s.settle h).entry h = { s.entry h with agree := .agreed } := by
  simp [State.settle, hs, State.entry_setEntry_same hw]

/-- An entry that is not SETTLING has nothing to settle. -/
theorem State.settle_of_not_settling {s : State} {h : Nat} (hs : (s.entry h).agree ≠ .settling) : s.settle h = s := by
  simp [State.settle, hs]

/-- Reaching the intention does not advance the generation (R22). -/
theorem State.genOf_settle {s : State} (hw : s.ledger.wf = true) (h : Nat) : (s.settle h).genOf h = s.genOf h := by
  by_cases hs : (s.entry h).agree = .settling
  · simp [State.genOf, State.entry_settle_of_settling hw hs]
  · rw [State.settle_of_not_settling hs]

/-! ### The full reset -/

/-- What every step of a fold keeps, the fold keeps. -/
theorem foldl_keeps {α β : Type} (view : State → β) {f : State → α → State} (hf : ∀ s a, view (f s a) = view s)
    (l : List α) (s : State) : view (l.foldl f s) = view s := by
  induction l generalizing s with
  | nil => rfl
  | cons a l ih => exact (ih (f s a)).trans (hf s a)

/-- The display configuration that is kept holds no ledger entry. -/
theorem State.retainDisplay_ledger (s old : State) (keep : Bool) : (s.retainDisplay old keep).ledger = s.ledger := by
  cases keep with
  | false => simp [State.retainDisplay, State.updLink, foldl_keeps State.ledger]
  | true => simp [State.retainDisplay, State.updStage, State.updLink, foldl_keeps State.ledger]

/-- A full reset leaves every entry at its default. -/
theorem State.fullReset_ledger (s : State) (cause : Nat) : (s.fullReset cause).ledger = Tab.empty :=
  State.retainDisplay_ledger _ _ _

/-- The generation is 1 after a full reset (R20). -/
theorem State.genOf_fullReset (s : State) (cause h : Nat) : (s.fullReset cause).genOf h = 1 := by
  rw [State.genOf, State.entry, State.fullReset_ledger, Tab.get_empty, Entry.reset]

/-- Settles O6: each clause is one of the ledger's rules above. -/
theorem generationsAdvanceAndSkipZero : Obligations.GenerationsAdvanceAndSkipZero := by
  refine ⟨fun g => ⟨nextGen_ne_zero g, nextGen_of_ne_max⟩, by decide, State.genOf_fullReset, ?intend, ?settle⟩
  case intend =>
    intro s h n b hw
    have he := State.entry_intend_same hw h b n
    exact ⟨congrArg Entry.gen he, by rw [he], by rw [he], fun j hj => State.entry_intend_other s hj b n⟩
  case settle =>
    intro s h hw
    exact ⟨State.genOf_settle hw h, fun hs => congrArg Entry.agree (State.entry_settle_of_settling hw hs)⟩

end Sys2Proof.Machine
end

section
/-!
PROOFS. The registers of BAR0 that have a row of their own: what each write does on a port that is there and a function
whose BAR0 is served (03 R97, R101 to R103, R109; 02 R59; 04 R145; 01 R45).
-/

namespace Sys2Proof.Machine

open Sys2Proof

/-- A row on a port that the member has goes on with the row's own state. -/
theorem onPort_present {s t : State} {port : Nat} (hp : s.present (hPort port) = true) : onPort s port t = .next t :=
  onUnit_present hp

/-- The tail that a doorbell names is a good one for the ring (R97). -/
def Sq.goodTail (q : Sq) (tail : Nat) : Prop :=
  tail % 16 = 0 ∧ (w32 tail - q.head).toNat ≤ q.size ∧ (w32 tail - q.tail).toNat ≤ q.size

/-- The function has what its first doorbell must find on the ring, for a BOUND guest to become ACTIVE (R59). -/
def Fn.mayActivate (f : Fn) (ring : Nat) : Prop :=
  f.busMaster = true ∧ f.rqSize ≠ 0 ∧ f.eqSize ≠ 0 ∧ (f.sq.get ring).size ≠ 0

section Bar0
variable {s : State} {port fn ring : Nat} (hp : s.present (hPort port) = true) (hb : s.barServed port fn = true)
include hp hb

/-! ### Doorbells (R97, R59) -/

section Doorbell
variable {n tail : Nat} (hr : ring < 4) (hn : s.boundTo (fnKey port fn) = some n) (hd : (s.inst n).drain ≠ .fence)
include hr hn hd

/-- A good doorbell of an ACTIVE guest moves the tail and raises the function's source. -/
theorem execSqTailDoorbell_active (hs : (s.inst n).state = .active)
    (ht : ((s.fn (fnKey port fn)).sq.get ring).goodTail tail) :
    execSqTailDoorbell port fn ring tail s =
      .next ((s.updSq (fnKey port fn) ring (fun q => { q with tail := w32 tail })).edge (64 + 17 * port + fn)) := by
  obtain ⟨hal, hhead, htail⟩ := ht
  simp [execSqTailDoorbell, onPort_present hp, hb, hr.not_ge, hn, hd, hs, hal, hhead.not_gt, htail.not_gt,
    -BitVec.toNat_sub]

/-- A good doorbell of a BOUND guest whose function has the settings makes it ACTIVE. -/
theorem execSqTailDoorbell_activates (hs : (s.inst n).state = .bound)
    (ht : ((s.fn (fnKey port fn)).sq.get ring).goodTail tail) (hf : (s.fn (fnKey port fn)).mayActivate ring) :
    execSqTailDoorbell port fn ring tail s =
      .next (((s.updInst n (fun i => { i with state := .active })).updSq (fnKey port fn) ring
        (fun q => { q with tail := w32 tail })).edge (64 + 17 * port + fn)) := by
  obtain ⟨hal, hhead, htail⟩ := ht
  obtain ⟨hbm, hrq, heq, hsz⟩ := hf
  simp [execSqTailDoorbell, onPort_present hp, hb, hr.not_ge, hn, hd, hs, hal, hhead.not_gt, htail.not_gt, hbm, hrq,
    heq, hsz, -BitVec.toNat_sub]

/-- A doorbell of a BOUND guest whose function lacks a setting is ignored and counted, whatever tail it names. -/
theorem execSqTailDoorbell_withoutSettings (hs : (s.inst n).state = .bound)
    (hf : ¬ (s.fn (fnKey port fn)).mayActivate ring) :
    execSqTailDoorbell port fn ring tail s = .next (s.badDoorbell (fnKey port fn) ring) := by
  have hready : ((s.fn (fnKey port fn)).busMaster && decide ((s.fn (fnKey port fn)).rqSize ≠ 0) &&
      decide ((s.fn (fnKey port fn)).eqSize ≠ 0) && decide (((s.fn (fnKey port fn)).sq.get ring).size ≠ 0)) = false := by
    rw [← Bool.not_eq_true]
    simpa only [Fn.mayActivate, Bool.and_eq_true, decide_eq_true_eq, and_assoc] using hf
  simp only [execSqTailDoorbell, onPort_present hp, hb, hn, hs, hready]
  simp [hr.not_ge, hd]

end Doorbell

/-! ### Resumes, sizes and heads (R101 to R103, R109) -/

/-- A halted ring whose bytes lie within its size resumes. -/
theorem execSqResume_halted (hr : ring < 4) (hh : ((s.fn (fnKey port fn)).sq.get ring).halted = true)
    (hu : (((s.fn (fnKey port fn)).sq.get ring).tail - ((s.fn (fnKey port fn)).sq.get ring).head).toNat ≤
      ((s.fn (fnKey port fn)).sq.get ring).size) :
    execSqResume port fn ring s =
      .next (s.updSq (fnKey port fn) ring (fun q => { q with halted := false, cause := 0 })) := by
  simp [execSqResume, onPort_present hp, hb, hr.not_ge, hh, hu.not_gt, -BitVec.toNat_sub]

/-- A resume that finds the head beyond the tail is ignored and counted. -/
theorem execSqResume_beyond (hr : ring < 4) (hh : ((s.fn (fnKey port fn)).sq.get ring).halted = true)
    (hu : ((s.fn (fnKey port fn)).sq.get ring).size <
      (((s.fn (fnKey port fn)).sq.get ring).tail - ((s.fn (fnKey port fn)).sq.get ring).head).toNat) :
    execSqResume port fn ring s = .next (s.fnCount (fnKey port fn) 27) := by
  simp [execSqResume, onPort_present hp, hb, hr.not_ge, hh, hu, -BitVec.toNat_sub]

section Size
variable {v : Nat} (hv : v < 2 ^ 21) (hz : sizeOk v = true)
include hv hz

/-- A submission ring that is open to it takes a size, latches its base and becomes empty. -/
theorem execRingSizeWrite_submission (hr : ring < 4)
    (ho : s.ringRegsOpen (fnKey port fn) ((s.fn (fnKey port fn)).sq.get ring).halted
      (decide (((s.fn (fnKey port fn)).sq.get ring).size = 0)) (decide (v = 0)) = true) :
    execRingSizeWrite port fn ring v s = .next (s.updSq (fnKey port fn) ring
      (fun q => { q with size := v, latched := q.base, head := 0, tail := 0 })) := by
  have hr5 : ¬ 5 < ring := by omega
  have hmod : v % 2 ^ 21 = v := Nat.mod_eq_of_lt hv
  simp [execRingSizeWrite, onPort_present hp, hb, -Nat.reducePow, hmod, hz, hr, hr5, ho]

/-- The reply ring likewise. -/
theorem execRingSizeWrite_reply
    (ho : s.ringRegsOpen (fnKey port fn) false (decide ((s.fn (fnKey port fn)).rqSize = 0)) (decide (v = 0)) = true) :
    execRingSizeWrite port fn 4 v s = .next (s.updFn (fnKey port fn)
      (fun f => { f with rqSize := v, rqLatched := f.rqBase, rqHead := 0, rqTail := 0 })) := by
  have hmod : v % 2 ^ 21 = v := Nat.mod_eq_of_lt hv
  simp [execRingSizeWrite, onPort_present hp, hb, -Nat.reducePow, hmod, hz, ho]

/-- The event ring likewise; then held records go out to it (R142). -/
theorem execRingSizeWrite_event
    (ho : s.ringRegsOpen (fnKey port fn) false (decide ((s.fn (fnKey port fn)).eqSize = 0)) (decide (v = 0)) = true) :
    execRingSizeWrite port fn 5 v s = .next (State.drainHolding 65 (s.updFn (fnKey port fn)
      (fun f => { f with eqSize := v, eqLatched := f.eqBase, eqHead := 0, eqTail := 0 })) (fnKey port fn)) := by
  have hmod : v % 2 ^ 21 = v := Nat.mod_eq_of_lt hv
  simp [execRingSizeWrite, onPort_present hp, hb, -Nat.reducePow, hmod, hz, ho]

end Size

/-- An aligned head of the reply ring that is not past the device's tail is taken. -/
theorem execRingHeadWrite_reply {v : Nat} (ha : v % 16 = 0)
    (hu : ((s.fn (fnKey port fn)).rqTail - w32 v).toNat ≤
      ((s.fn (fnKey port fn)).rqTail - (s.fn (fnKey port fn)).rqHead).toNat) :
    execRingHeadWrite port fn false v s = .next (s.updFn (fnKey port fn) (fun f => { f with rqHead := w32 v })) := by
  simp [execRingHeadWrite, onPort_present hp, hb, ha, hu.not_gt, -BitVec.toNat_sub]

/-- Such a head of the event ring is taken, and held records go out (R142). -/
theorem execRingHeadWrite_event {v : Nat} (ha : v % 32 = 0)
    (hu : ((s.fn (fnKey port fn)).eqTail - w32 v).toNat ≤
      ((s.fn (fnKey port fn)).eqTail - (s.fn (fnKey port fn)).eqHead).toNat) :
    execRingHeadWrite port fn true v s = .next (State.drainHolding 65
      (s.updFn (fnKey port fn) (fun f => { f with eqHead := w32 v })) (fnKey port fn)) := by
  simp [execRingHeadWrite, onPort_present hp, hb, ha, hu.not_gt, -BitVec.toNat_sub]

/-! ### DEV_TIME and bad accesses (R45, R100) -/

/-- A read of the lower half of DEV_TIME puts the upper half in the function's shadow. -/
theorem execDevTimeLowRead_served : execDevTimeLowRead port fn s = .next ((s.updFn (fnKey port fn) (fun f => { f with
    shadowHi := some (s.devTime / 2 ^ 32 % 2 ^ 32) })).setBus (leBytes 4 s.devTime)) := by
  simp [execDevTimeLowRead, onPort_present hp, hb]

/-- A bad access is counted, and one that reads returns all ones. -/
theorem execBar0BadAccess_served (write : Bool) : execBar0BadAccess port fn write s =
    .next (if write then s.fnCount (fnKey port fn) 26
      else (s.fnCount (fnKey port fn) 26).setBus (List.replicate 8 0xFF)) := by
  have he : s.fnExists port fn = true := by
    rw [State.barServed, Bool.and_eq_true] at hb
    exact hb.1
  simp [execBar0BadAccess, onPort_present hp, he, hb]

end Bar0

/-- Settles O17: each clause is the rule of its register above. -/
theorem ringRegistersComplete : Obligations.RingRegistersComplete := by
  rintro s port fn ring _ _ hp hb rfl rfl
  refine ⟨?active, ?activates, ?withoutSettings, execSqResume_halted hp hb, execSqResume_beyond hp hb, ?size,
    fun v => execRingHeadWrite_reply hp hb, fun v => execRingHeadWrite_event hp hb, execDevTimeLowRead_served hp hb,
    execBar0BadAccess_served hp hb true, execBar0BadAccess_served hp hb false⟩
  case active =>
    intro n tail hr hn hs hd hal hhead htail
    exact execSqTailDoorbell_active hp hb hr hn hd hs ⟨hal, hhead, htail⟩
  case activates =>
    intro n tail hr hn hs hd hal hhead htail hsz hbm hrq heq
    exact execSqTailDoorbell_activates hp hb hr hn hd hs ⟨hal, hhead, htail⟩ ⟨hbm, hrq, heq, hsz⟩
  case withoutSettings =>
    intro n tail hr hn hs hd hlacks
    refine execSqTailDoorbell_withoutSettings hp hb hr hn hd hs ?_
    rintro ⟨hbm, hrq, heq, hsz⟩
    simp [hbm, hrq, heq, hsz] at hlacks
  case size =>
    intro v hv hz
    exact ⟨execRingSizeWrite_submission hp hb hv hz, execRingSizeWrite_reply hp hb hv hz,
      execRingSizeWrite_event hp hb hv hz⟩

end Sys2Proof.Machine
end

section
/-!
PROOFS. What a host's accesses through BAR2 and BAR4 and its AtomicOps do on a function with a guest bound (02 R79, R80;
06 R190, R202 to R204).
-/

namespace Sys2Proof.Machine

open Sys2Proof

/-- What an access of a host does to mapped memory: its bytes are returned, or stored but for HOST_RO pages (R79, R190). -/
def State.bar2Hit (s : State) (n addr : Nat) : Access → State
  | .read len => s.setBus (s.readInst n addr len)
  | .write d => s.hostWrite n addr d

/-- What an access of a host does within a scratchpad grant (R80). -/
def State.bar4Hit (s : State) (n addr : Nat) : Access → State
  | .read len => s.setBus (readSpad s.spad (s.inst n).spadBlocks addr len)
  | .write d => s.writeSpad n addr d

/-- What an AtomicOp leaves at its operand's place (R202). -/
def atomicStored (w : Nat) (old : List Byte) (operand : Nat) : AtomicOp → List Byte
  | .fetchAdd => leBytes w (leNat old + operand)
  | _ => leBytes w operand

/-- What lies within a BAR of the PF's size and within one of a VF's size lies within the function's BAR. -/
theorem le_barSize {fn pf vf a : Nat} (hpf : a ≤ 2 ^ pf) (hvf : a ≤ 2 ^ vf) : a ≤ 2 ^ (if fn = 0 then pf else vf) := by
  split
  · exact hpf
  · exact hvf

section HostAccess
variable {s : State} {port fn addr n : Nat}

/-- An access that hits nothing is reported to the bound guest; a read of it returns all ones (R79). -/
theorem State.hostMiss_bound (hn : s.boundTo (fnKey port fn) = some n) (source : Nat) (write atomic : Bool)
    (bytes : Nat) : s.hostMiss (fnKey port fn) addr source write atomic bytes =
      if write then s.addrFault n (hInst n) addr source write atomic bytes 0
      else (s.addrFault n (hInst n) addr source write atomic bytes 0).setBus (List.replicate bytes 0xFF) := by
  simp [State.hostMiss, hn]

/-- The grant that BAR4 of a function shows is that of its bound guest (R80). -/
theorem State.spadGrant_bound (hn : s.boundTo (fnKey port fn) = some n) :
    s.spadGrant (fnKey port fn) = 4096 * (s.inst n).spadBlocks.length := by
  simp [State.spadGrant, hn]

variable (hp : s.present (hPort port) = true)
include hp

/-- CAS completes with Unsupported Request and changes nothing (R203). -/
theorem execHostAtomicop_cas (bar operand : Nat) (wide : Bool) :
    execHostAtomicop port fn bar addr .cas wide operand s = .next s := by
  simp [execHostAtomicop, onPort_present hp]

variable (he : s.fnExists port fn = true) (hn : s.boundTo (fnKey port fn) = some n)
include he hn

/-! ### BAR2 (R79, R190) -/

section Bar2
variable {acc : Access} (hpf : addr + accLen acc ≤ 2 ^ (s.ports.get port).bar2Pf)
  (hvf : addr + accLen acc ≤ 2 ^ (s.ports.get port).bar2Vf)
include hpf hvf

/-- An access to mapped memory is served. -/
theorem execHostBar2Access_mapped (hm : mappedRange (s.inst n).pages addr (accLen acc) = true) :
    execHostBar2Access port fn addr acc s = .next (s.bar2Hit n addr acc) := by
  have hin := Nat.not_lt.mpr (le_barSize (fn := fn) hpf hvf)
  simp only [execHostBar2Access, onPort_present hp, he, hn, hm, hin]
  cases acc <;> rfl

/-- An access to memory that is not mapped hits nothing. -/
theorem execHostBar2Access_unmapped (hm : mappedRange (s.inst n).pages addr (accLen acc) = false) :
    execHostBar2Access port fn addr acc s =
      .next (s.hostMiss (fnKey port fn) addr 2 (accWrite acc) false (accLen acc)) := by
  have hin := Nat.not_lt.mpr (le_barSize (fn := fn) hpf hvf)
  simp only [execHostBar2Access, onPort_present hp, he, hn, hm, hin]
  rfl

end Bar2

/-! ### BAR4 (R80, R204) -/

section Bar4
variable {acc : Access} (hpf : addr + accLen acc ≤ 2 ^ (s.ports.get port).bar4Pf)
  (hvf : addr + accLen acc ≤ 2 ^ (s.ports.get port).bar4Vf)
include hpf hvf

/-- An access within the grant is served. -/
theorem execHostBar4Access_granted (hg : addr + accLen acc ≤ 4096 * (s.inst n).spadBlocks.length) :
    execHostBar4Access port fn addr acc s = .next (s.bar4Hit n addr acc) := by
  have hin := Nat.not_lt.mpr (le_barSize (fn := fn) hpf hvf)
  simp only [execHostBar4Access, onPort_present hp, he, hn, hin, State.spadGrant_bound hn, Nat.not_lt.mpr hg]
  cases acc <;> rfl

/-- An access beyond the grant hits nothing. -/
theorem execHostBar4Access_beyond (hg : 4096 * (s.inst n).spadBlocks.length < addr + accLen acc) :
    execHostBar4Access port fn addr acc s =
      .next (s.hostMiss (fnKey port fn) addr 4 (accWrite acc) false (accLen acc)) := by
  have hin := Nat.not_lt.mpr (le_barSize (fn := fn) hpf hvf)
  simp only [execHostBar4Access, onPort_present hp, he, hin, State.spadGrant_bound hn, hg]
  rfl

end Bar4

/-! ### FetchAdd and Swap on BAR4 (R202, R203) -/

section Atomic
variable {op : AtomicOp} {wide : Bool} {w : Nat} (hop : op ≠ .cas) (hw : w = if wide = true then 8 else 4)
  (ha : addr % w = 0)
include hop hw ha

/-- Within the grant the operand's place takes the new value, and the value before is returned. -/
theorem execHostAtomicop_granted (v : Nat) {old : List Byte}
    (hold : old = readSpad s.spad (s.inst n).spadBlocks addr w)
    (hg : addr + w ≤ 4096 * (s.inst n).spadBlocks.length) :
    execHostAtomicop port fn 4 addr op wide v s =
      .next ((s.writeSpad n addr (atomicStored w old v op)).setBus old) := by
  subst hold
  simp only [execHostAtomicop, ← hw, onPort_present hp, he, hn, hop, ha, State.spadGrant_bound hn, Nat.not_lt.mpr hg]
  cases op <;> rfl

/-- Beyond the grant it hits nothing. -/
theorem execHostAtomicop_beyond (v : Nat) (hg : 4096 * (s.inst n).spadBlocks.length < addr + w) :
    execHostAtomicop port fn 4 addr op wide v s = .next (s.hostMiss (fnKey port fn) addr 4 false true w) := by
  simp [execHostAtomicop, ← hw, onPort_present hp, he, hop, ha, State.spadGrant_bound hn, hg]

end Atomic

end HostAccess

/-- Settles O30: each clause is one of the rules of BAR2, BAR4 and the AtomicOps above. -/
theorem hostAccessesComplete : Obligations.HostAccessesComplete := by
  rintro s port fn addr n _ rfl hp he hn
  have miss := @State.hostMiss_bound s port fn addr n hn
  refine ⟨?bar2, ?bar4Read, ?bar4Write, ?atomicBeyond, ?atomicGranted⟩
  case bar2 =>
    intro haddr hpf hvf
    have inBar : ∀ {len b : Nat}, len ≤ 4096 → 26 ≤ b → addr + len ≤ 2 ^ b := fun hlen hb =>
      le_trans (by omega) (Nat.pow_le_pow_right (n := 2) (by decide) hb)
    refine ⟨?read, ?write, ?unmapped⟩
    case read =>
      intro len hlen hm
      exact execHostBar2Access_mapped (acc := .read len) hp he hn (inBar hlen hpf) (inBar hlen hvf) hm
    case write =>
      intro d hlen hm
      have hit : exec (.hostBar2Access port fn addr (.write d)) s = .next (s.hostWrite n addr d) :=
        execHostBar2Access_mapped (acc := .write d) hp he hn (inBar hlen hpf) (inBar hlen hvf) hm
      exact ⟨fun hrw => hit.trans (congrArg _ (State.hostWrite_writable hrw)),
        fun hpos hro => hit.trans (congrArg _ (State.hostWrite_discarded hpos hro))⟩
    case unmapped =>
      intro len hlen hm
      exact (execHostBar2Access_unmapped (acc := .read len) hp he hn (inBar hlen hpf) (inBar hlen hvf) hm).trans
        (congrArg _ (miss 2 false false len))
  case bar4Read =>
    intro len hpf hvf
    exact ⟨execHostBar4Access_granted (acc := .read len) hp he hn hpf hvf,
      fun hg => (execHostBar4Access_beyond (acc := .read len) hp he hn hpf hvf hg).trans
        (congrArg _ (miss 4 false false len))⟩
  case bar4Write =>
    intro d hpf hvf
    exact ⟨execHostBar4Access_granted (acc := .write d) hp he hn hpf hvf,
      fun hg => (execHostBar4Access_beyond (acc := .write d) hp he hn hpf hvf hg).trans
        (congrArg _ (miss 4 true false d.length))⟩
  case atomicBeyond =>
    intro wide w v hw ha hg
    have beyond : ∀ op, op ≠ .cas → exec (.hostAtomicop port fn 4 addr op wide v) s =
        .next ((s.addrFault n (hInst n) addr 4 false true w 0).setBus (List.replicate w 0xFF)) := fun op hop =>
      (execHostAtomicop_beyond hp he hn hop hw ha v hg).trans (congrArg _ (miss 4 false true w))
    exact ⟨beyond .fetchAdd (by decide), beyond .swap (by decide)⟩
  case atomicGranted =>
    intro wide w v old hw ha hg hold
    exact ⟨execHostAtomicop_granted hp he hn (op := .fetchAdd) (by decide) hw ha v hold hg,
      execHostAtomicop_granted hp he hn (op := .swap) (by decide) hw ha v hold hg,
      execHostAtomicop_cas hp 4 v wide⟩

end Sys2Proof.Machine
end

section
/-!
PROOFS. The acceptance of a packet from a submission ring: what the device must find before it takes one, and what
becomes of a packet that fails step 1 or 2 of R107 and of one that passes both (03 R96, R107, R109, R117).
-/

namespace Sys2Proof.Machine

open Sys2Proof

/-- The bytes between the head and the tail of a submission ring (R96). -/
def State.sqUnread (s : State) (k ring : Nat) : Nat :=
  (((s.fn k).sq.get ring).tail - ((s.fn k).sq.get ring).head).toNat

/-- The ring's function serves instance `n`, and the device takes packets from the ring: the instance is ACTIVE and below
its credit limit, the ring runs, and at least a header lies before its tail (R96, R116, R117). -/
structure State.IntakeOpen (s : State) (port fn ring n : Nat) : Prop where
  fnExists : s.fnExists port fn = true
  ring_lt : ring < 4
  serves : s.instOf (fnKey port fn) = some n
  active : (s.inst n).state = .active
  running : ((s.fn (fnKey port fn)).sq.get ring).halted = false
  sized : ((s.fn (fnKey port fn)).sq.get ring).size ≠ 0
  busMaster : (s.fn (fnKey port fn)).busMaster = true
  accepting : s.accepting = true
  credit : s.creditsHeld n < (s.inst n).credits
  header : 16 ≤ s.sqUnread (fnKey port fn) ring

/-- The bytes that a packet takes up in its ring: header, payload and trailer, rounded up to 16 (R95). -/
def Header.ringBytes (h : Header) : Nat := (20 + h.length + 15) / 16 * 16

/-- The ring stops, for the cause given (R109). -/
def State.haltSq (s : State) (k ring cause : Nat) : State :=
  s.updSq k ring (fun q => { q with halted := true, cause := cause })

/-- The head moves past a packet that passed steps 1 and 2, its SEQ is noted, and its ring counts it (R96, R106). -/
def State.passPacket (s : State) (k n ring : Nat) (h : Header) : State :=
  (s.updSq k ring (fun q => { q with head := q.head + w32 h.ringBytes, lastSeq := w32 h.seq })).count 0 n ring

/-- A packet that steps 3 to 5 let pass waits with its credit for the ledger. -/
theorem State.takePacket_none (s : State) (p : Packet) (opcode : Nat) : s.takePacket p opcode none =
    s.setTp { s.tp with accepted := s.tp.accepted ++ [{ p := p, opcode := opcode, applied := false, newgen := none }] } :=
  rfl

/-- A packet that one of steps 3 to 5 refuses takes its credit and is answered at once. -/
theorem State.takePacket_some (s : State) (p : Packet) (opcode : Nat) (st : Status) : s.takePacket p opcode (some st) =
    (s.setTp { s.tp with accepted := s.tp.accepted ++
      [{ p := p, opcode := opcode, applied := true, newgen := none }] }).answer opcode p st [] :=
  rfl

section Accept
variable {s : State} {port fn ring n : Nat} {bytes : List Byte} {h : Header} {p : Packet}
  (hh : h = parseHeader bytes) (hpk : p = toPacket n (.sq port fn ring) h bytes) (hp : s.present (hPort port) = true)
  (ho : s.IntakeOpen port fn ring n) (hb : 16 ≤ bytes.length)
include hh hpk hp ho hb

/-- What the device does with the header that it reads from an open ring: steps 1 and 2 of R107 around the wait for the
whole packet, then steps 3 to 5 (R96, R109). -/
theorem execPacketAccept_open : execPacketAccept port fn ring bytes s = .next
    (if !h.frameOk then (s.answerBroken h.opcode p .badParam).haltSq (fnKey port fn) ring 2
    else if decide (s.sqUnread (fnKey port fn) ring < h.ringBytes) || decide (bytes.length < 20 + h.length) then s
    else if !trailerOk h bytes then (s.answerBroken h.opcode p .badCrc).haltSq (fnKey port fn) ring 1
    else (s.passPacket (fnKey port fn) n ring h).takePacket p h.opcode (s.acceptCheck n ring true h)) := by
  subst hh hpk
  have hheader := ho.header.not_gt
  rw [State.sqUnread] at hheader
  simp only [execPacketAccept, onPort_present hp, ho.fnExists, ho.ring_lt.not_ge, ho.serves, ho.active, ho.running,
    ho.sized, ho.busMaster, ho.accepting, ho.credit.not_ge, hheader, hb.not_gt]
  rfl

/-- A header that fails step 1 is answered as soon as its 16 bytes are there, and the ring halts. -/
theorem execPacketAccept_badFrame (hf : h.frameOk = false) : execPacketAccept port fn ring bytes s =
    .next ((s.answerBroken h.opcode p .badParam).haltSq (fnKey port fn) ring 2) := by
  simp [execPacketAccept_open hh hpk hp ho hb, hf]

/-- A whole packet is judged by its trailer: one that fails step 2 is answered and halts the ring, one that passes leaves
the ring and meets steps 3 to 5. -/
theorem execPacketAccept_whole (hf : h.frameOk = true) (ht : h.ringBytes ≤ s.sqUnread (fnKey port fn) ring)
    (hl : 20 + h.length ≤ bytes.length) : execPacketAccept port fn ring bytes s = .next
      (if !trailerOk h bytes then (s.answerBroken h.opcode p .badCrc).haltSq (fnKey port fn) ring 1
      else (s.passPacket (fnKey port fn) n ring h).takePacket p h.opcode (s.acceptCheck n ring true h)) := by
  simp [execPacketAccept_open hh hpk hp ho hb, hf, ht.not_gt, hl.not_gt]

end Accept

/-- Settles O20: a bad frame; then a whole packet, with a bad trailer, and with a good one by the verdict of steps 3 to 5. -/
theorem packetAcceptCompletes : Obligations.PacketAcceptCompletes := by
  rintro s port fn ring n bytes _ _ h p rfl rfl hh hpk hp he hr hn ha hrun hz hm hacc hc hav hb
  have ho : s.IntakeOpen port fn ring n := ⟨he, hr, hn, ha, hrun, hz, hm, hacc, hc, hav⟩
  refine ⟨execPacketAccept_badFrame hh hpk hp ho hb, fun hf ht hl => ?whole⟩
  case whole =>
    have whole := execPacketAccept_whole hh hpk hp ho hb hf ht hl
    refine ⟨?badTrailer, ?goodTrailer⟩
    case badTrailer =>
      intro hcrc
      rw [hcrc] at whole
      exact whole
    case goodTrailer =>
      rintro hcrc _ rfl
      rw [hcrc] at whole
      refine ⟨fun hpass => ?pass, fun st hrefuse => ?refuse⟩
      case pass => rwa [hpass, State.takePacket_none] at whole
      case refuse => rwa [hrefuse, State.takePacket_some] at whole

end Sys2Proof.Machine
end

section
/-!
PROOFS. The reading packets of group 0x0: what NOP, DEVICE_CAPS, LEDGER_READ and EVENT_FETCH answer once the checks of
R107 let them pass (05 R156 to R161).
-/

namespace Sys2Proof.Machine

open Sys2Proof

/-! ### What the RESULTs hold -/

/-- The capability report is 132 bytes (R157). -/
theorem State.length_capsReport (s : State) (n : Nat) : (s.capsReport n).length = 33 := by
  simp [State.capsReport, w64]

/-- The RESULT of LEDGER_READ begins with the entry's generation (R160). -/
theorem State.head?_ledgerResult (s : State) (h loop : Nat) : (s.ledgerResult h loop).head? = some (s.genOf h) := rfl

/-- The ledger reads the same whether or not a packet is marked as applied. -/
@[simp] theorem State.ledgerResult_markApplied (s : State) (p : Packet) (h loop : Nat) :
    (s.markApplied p).ledgerResult h loop = s.ledgerResult h loop := rfl

/-! ### The rows -/

section Reads
variable {s : State} {p : Packet}

/-- NOP returns its payload (R156). -/
theorem execNop_onDevice (ht : s.takes opNop true p = true) (hd : p.target = hDevice) (hl : p.length ≤ 4076) :
    execNop p s = .next ((s.markApplied p).answer 0x0001 p .ok p.words) := by
  rw [execNop, packet_taken ht, checks_pass (by simp [hd, hl])]
  rfl

/-- NOP is refused on any other unit. -/
theorem execNop_elsewhere (ht : s.takes opNop true p = true) (hd : p.target ≠ hDevice) :
    execNop p s = .next ((s.markApplied p).answer 0x0001 p .badParam []) := by
  rw [execNop, packet_taken ht, checks_stop (by simp [hd])]
  rfl

/-- DEVICE_CAPS returns the report as its sender sees it (R157 to R159). -/
theorem execDeviceCaps_onDevice (ht : s.takes opDeviceCaps true p = true) (hd : p.target = hDevice)
    (hl : p.length = 0) :
    execDeviceCaps p s = .next ((s.markApplied p).answer 0x0002 p .ok ((s.markApplied p).capsReport p.inst)) := by
  rw [execDeviceCaps, packet_taken ht, checks_pass (by simp [hd, hl])]
  rfl

/-- LEDGER_READ returns the entry of its TARGET, and the next free values differ (R160). -/
theorem execLedgerRead_wellFormed (ht : s.takes opLedgerRead true p = true) (hl : p.length = 4)
    (hz : p.fld 16 8 24 = 0) : execLedgerRead p s =
      .next ((s.markApplied p).tickFree.answer 0x0003 p .ok (s.ledgerResult p.target (p.u8 16))) := by
  rw [execLedgerRead, packet_taken ht, checks_pass (by simp [hl, hz]), State.ledgerResult_markApplied]
  rfl

/-- With no event lost, EVENT_FETCH takes up to MAX of the oldest records that the manager's function holds, and tells
how many stay behind (R161). -/
theorem execEventFetch_noneLost (ht : s.takes opEventFetch true p = true) (hd : p.target = hDevice)
    (hl : p.length = 4) (hz : p.fld 16 8 24 = 0) (hmin : 1 ≤ p.fld 16 0 8) (hmax : p.fld 16 0 8 ≤ 64)
    {v : State} {held got : List EvRec} (hv : v = (s.markApplied p).settleManager)
    (hheld : held = (v.fn v.managerFn).holding) (hlost : (v.fn v.managerFn).lost = 0)
    (hgot : got = held.take (p.fld 16 0 8)) :
    execEventFetch p s = .next ((v.updFn v.managerFn (fun f => { f with
        holding := f.holding.drop (p.fld 16 0 8) })).answer 0x0004 p .ok
      (w32 (pack [(got.length, 8), (held.length - got.length, 8)]) :: got.flatMap (fun r => bytesWords r.bytes))) := by
  subst hv hheld hgot
  rw [execEventFetch, packet_taken ht, checks_pass (by simp [hd, hl, hz, hmin, hmax])]
  simp [hlost, opEventFetch]

end Reads

/-- Settles O12: each clause is the rule of its packet above. -/
theorem deviceReadsComplete : Obligations.DeviceReadsComplete := by
  rintro p s _ rfl
  refine ⟨execNop_onDevice, execNop_elsewhere, ?deviceCaps, ?ledgerRead, ?eventFetch⟩
  case deviceCaps =>
    intro ht hd hl
    exact ⟨execDeviceCaps_onDevice ht hd hl, State.length_capsReport _ _⟩
  case ledgerRead =>
    intro ht hl hz
    exact ⟨execLedgerRead_wellFormed ht hl hz, State.head?_ledgerResult _ _ _⟩
  case eventFetch =>
    rintro ht hd hl hz hmin hmax v _ held got hv rfl hheld hlost hgot
    exact execEventFetch_noneLost ht hd hl hz hmin hmax hv hheld hlost hgot

end Sys2Proof.Machine
end

section
/-!
PROOFS. The surface packets: a surface created over mapped storage, its write windows and their generations, WRITE_END and
SEAL, which wait, and what SURFACE_DESTROY does in and out of scan-out (07 R210 to R215, R220, R224, R232).
-/

namespace Sys2Proof.Machine

open Sys2Proof

/-! ### What a packet's mark leaves alone -/

section Mark
variable (s : State) (p : Packet) (n id : Nat)

@[simp] theorem State.surface_markApplied : (s.markApplied p).surface n id = s.surface n id := rfl
@[simp] theorem State.surfacesOf_markApplied : (s.markApplied p).surfacesOf n = s.surfacesOf n := rfl
@[simp] theorem State.inScanout_markApplied : (s.markApplied p).inScanout n id = s.inScanout n id := rfl
@[simp] theorem State.structFits_markApplied (bytes : Nat) :
    (s.markApplied p).structFits n bytes = s.structFits n bytes := rfl
@[simp] theorem State.slotsOf_markApplied : (s.markApplied p).slotsOf n = s.slotsOf n := rfl
@[simp] theorem State.slot_markApplied (i : Nat) : (s.markApplied p).slot i = s.slot i := rfl
@[simp] theorem State.inst_markApplied : (s.markApplied p).inst n = s.inst n := rfl

end Mark

/-! ### SURFACE_CREATE (R210, R211) -/

/-- The surface that a SURFACE_CREATE describes, as it stands when it is created: CLOSED, with generation 1 (R210). -/
def newSurface (p : Packet) : Surface :=
  { iaddr := p.u64 16, width := p.u16 24, height := p.u16 26, format := p.u8 28, isSealed := !p.flag 29 0, gen := 1,
    isOpen := false, keep := false, writers := 0, closing := none, dead := false, silent := false, table := Tab.empty }

/-- Two surfaces share no byte of storage. -/
def Surface.apart (f g : Surface) : Prop := f.iaddr + f.size ≤ g.iaddr ∨ g.iaddr + g.size ≤ f.iaddr

/-- The parameters of a new surface are in range, and its storage is mapped (R207, R210, R211). -/
structure State.Placeable (s : State) (n : Nat) (f : Surface) : Prop where
  aligned : f.iaddr % 4096 = 0
  width_pos : 1 ≤ f.width
  width_le : f.width ≤ 16384
  height_pos : 1 ≤ f.height
  height_le : f.height ≤ 16384
  format_le : f.format ≤ 6
  even_of_yuv : isYuv f.format = true → f.width % 2 = 0 ∧ f.height % 2 = 0
  inSpace : f.iaddr + f.size ≤ 2 ^ 40
  mapped : mappedRange (s.inst n).pages f.iaddr f.size = true

/-- The instance has room for a new surface: an ID, the side-table's bytes and storage of its own (R211). -/
structure State.HasRoom (s : State) (n : Nat) (f : Surface) : Prop where
  few : (s.surfacesOf n).length < 4096
  tableFits : s.structFits n f.tableBytes = true
  apart : ∀ g ∈ s.surfacesOf n, f.apart g.2

/-- The test of R211 for storage that overlaps finds nothing where every surface lies apart. -/
theorem overlaps_none {f : Surface} {all : List (Nat × Surface)} (h : ∀ g ∈ all, f.apart g.2) :
    (!all.any fun g => decide (g.2.iaddr < f.iaddr + f.size) && decide (f.iaddr < g.2.iaddr + g.2.size)) = true := by
  simp only [Bool.not_eq_true', List.any_eq_false, Bool.and_eq_true, decide_eq_true_eq]
  intro g hg hmeet
  obtain hbelow | habove := h g hg
  · omega
  · omega

/-- SURFACE_CREATE gives a placeable surface that there is room for the next ID. -/
theorem execSurfaceCreate_placed {s : State} {p : Packet} (ht : s.takes opSurfaceCreate (ownHandle p) p = true)
    (hl : p.length = 16) (hz : p.fld 29 1 7 = 0) (hz' : p.u16 30 = 0) (hp : s.Placeable p.inst (newSurface p))
    (hr : s.HasRoom p.inst (newSurface p)) {id : Nat} (hid : id = s.surf.nextId.get p.inst) :
    execSurfaceCreate p s = .next ((((s.markApplied p).setSurf { s.surf with
        nextId := s.surf.nextId.set p.inst (id + 1) }).setSurface p.inst id (some (newSurface p))).answer 0x2001 p .ok
      ([w32 id, w32 (tileBytes (newSurface p).format), w32 (newSurface p).rowBytes, w32 (newSurface p).tableBytes] ++
        w64 (newSurface p).size ++ [0, 0])) := by
  subst hid
  obtain ⟨hal, hw, hw', hh, hh', hf, hyuv, hsp, hm⟩ := hp
  rw [execSurfaceCreate, packet_taken ht, ← newSurface]
  have hchroma := (Bool.eq_false_or_eq_true (isYuv (newSurface p).format)).symm.imp_right hyuv
  rw [checks_pass (by simp [hl, hz, hz', hal, hw, hw', hh, hh', hf, hchroma, hsp, hm, -Nat.reducePow]),
    checks_pass (by simp [hr.few]), checks_pass (by simp [hr.tableFits]),
    State.surfacesOf_markApplied, checks_pass (overlaps_none hr.apart)]
  rfl

/-! ### The packets that name a surface -/

/-- A surface as WRITE_BEGIN opens it: under the next generation, and at the wrap with an empty side-table and without
KEEP (R213, R214). -/
def Surface.opened (f : Surface) (keep : Bool) : Surface :=
  { f with gen := nextGen f.gen, isOpen := true, keep := keep && decide (nextGen f.gen ≠ 1),
           table := if nextGen f.gen = 1 then Tab.empty else f.table }

/-- The work that a SEAL of so many tile rows of a surface brings to the copy engines: one descriptor over the rows, which
makes an UNSEALED surface SEALED (R220, R224). -/
def sealJob (p : Packet) (f : Surface) (rows : Nat) : CopyJob :=
  { owed := { opcode := 0x2005, p := p }
    inst := p.inst
    descs := [{ kind := 6, cls := p.fld 24 0 2, toHost := false, srcSpad := false, dstSpad := false, inst := 0, length := 0,
                src := 0, dst := 0, surface := p.u32 16, tileRow := p.u16 20, tileRows := rows }]
    total := 1
    isSeal := true
    convert := !f.isSealed
    surface := p.u32 16
    engine := none }

section Named
variable {s : State} {p : Packet} {f : Surface} (hs : s.surface p.inst (p.u32 16) = some f)
include hs

/-- WRITE_BEGIN opens a closed surface, also one in scan-out, and says whether it is (R213, R214). -/
theorem execWriteBegin_closed (ht : s.takes opWriteBegin (ownHandle p) p = true) (hl : p.length = 8)
    (hz : p.fld 20 1 31 = 0) (ho : f.isOpen = false) :
    execWriteBegin p s = .next ((((s.markApplied p).setSurface p.inst (p.u32 16)
      (some (f.opened (p.flag 20 0)))).flushFences).answer 0x2003 p .ok
        [nextGen f.gen, w32 (if s.inScanout p.inst (p.u32 16) then 1 else 0)]) := by
  rw [execWriteBegin, packet_taken ht]
  simp only [State.surface_markApplied, State.inScanout_markApplied, hs]
  rw [checks_pass (by simp [hl, hz]), checks_pass (by simp [ho])]
  simp [Surface.opened, b2n, opWriteBegin]

/-- WRITE_END of an open window is owed until the window's writers have finished (R215). -/
theorem execWriteEnd_open (ht : s.takes opWriteEnd (ownHandle p) p = true) (hl : p.length = 4) (ho : f.isOpen = true)
    (hc : f.closing = none) :
    execWriteEnd p s = .next (((s.markApplied p).updSurface p.inst (p.u32 16) (fun f => { f with
      closing := some { opcode := 0x2004, p := p } })).interim 0x2004 p) := by
  rw [execWriteEnd, packet_taken ht]
  simp only [State.surface_markApplied, hs]
  rw [checks_pass (by simp [hl]), checks_pass (by simp [ho, hc])]
  rfl

/-- SURFACE_DESTROY of a closed surface that is in scan-out marks it, and its storage stays pinned (R232). -/
theorem execSurfaceDestroy_shown (ht : s.takes opSurfaceDestroy (ownHandle p) p = true) (hl : p.length = 4)
    (ho : f.isOpen = false) (hv : s.inScanout p.inst (p.u32 16) = true) :
    execSurfaceDestroy p s = .next (((s.markApplied p).updSurface p.inst (p.u32 16) (fun f => { f with
      dead := true })).answer 0x2002 p .pinned []) := by
  rw [execSurfaceDestroy, packet_taken ht]
  simp only [State.surface_markApplied, hs]
  rw [checks_pass (by simp [hl]), checks_pass (by simp [ho]), State.inScanout_markApplied, if_pos hv]
  rfl

/-- SURFACE_DESTROY of a closed surface out of scan-out removes it, where no slot has a pending state (R214, R329). -/
theorem execSurfaceDestroy_hidden (ht : s.takes opSurfaceDestroy (ownHandle p) p = true) (hl : p.length = 4)
    (ho : f.isOpen = false) (hv : s.inScanout p.inst (p.u32 16) = false)
    (hq : ∀ i ∈ s.slotsOf p.inst, (s.slot i).pending = false) :
    execSurfaceDestroy p s = .next (((s.markApplied p).removeSurface p.inst (p.u32 16)).answer 0x2002 p .ok []) := by
  have hnone : ((s.markApplied p).slotsOf p.inst).filter (fun i => ((s.markApplied p).slot i).pending &&
      decide (((s.markApplied p).slot i).intended.surface = p.u32 16) && ((s.markApplied p).slot i).intended.enable) =
      [] := by
    rw [List.filter_eq_nil_iff]
    intro i hi
    simp [hq i hi]
  rw [execSurfaceDestroy, packet_taken ht]
  simp only [State.surface_markApplied, hs, hnone]
  rw [checks_pass (by simp [hl]), checks_pass (by simp [ho]), State.inScanout_markApplied, if_neg (by simp [hv])]
  rfl

/-- SEAL of tile rows of an open window joins the copy engines as a writer of the window; on an UNSEALED surface it takes
the whole of it and converts it (R215, R220, R224). -/
theorem execSeal_open (ht : s.takes opSeal (ownHandle p) p = true) (hl : p.length = 12) (hz : p.fld 24 2 30 = 0)
    (hcls : p.fld 24 0 2 = 2 ∨ p.fld 24 0 2 = 3) {rows : Nat}
    (hrows : rows = if p.u16 22 = 0 then f.th - p.u16 20 else p.u16 22) (hrow : p.u16 20 < f.th)
    (hend : p.u16 20 + rows ≤ f.th)
    (hwhole : f.isSealed = false → p.u16 20 = 0 ∧ rows = f.th ∧ s.structFits p.inst (8 * f.tw * f.th) = true)
    (hd : 1 ≤ (s.inst p.inst).descs) (ho : f.isOpen = true) (hc : f.closing = none) :
    execSeal p s = .next ((((s.markApplied p).setCopy (s.copy ++ [sealJob p f rows])).bindWriter p.inst
      (p.u32 16)).interim 0x2005 p) := by
  have hkind := (Bool.eq_false_or_eq_true f.isSealed).imp_right hwhole
  have hcover : f.isSealed = true ∨ p.u16 20 = 0 ∧ rows = f.th :=
    hkind.imp_right fun ⟨hfirst, hall, _⟩ => ⟨hfirst, hall⟩
  have htable : f.isSealed = true ∨ s.structFits p.inst (8 * f.tw * f.th) = true :=
    hkind.imp_right fun ⟨_, _, hfits⟩ => hfits
  rw [execSeal, packet_taken ht]
  simp only [State.surface_markApplied, hs, ← hrows]
  rw [checks_pass (by simp [hl, hz, hcls, hrow, hend, hcover]), checks_pass (by simp [hd, htable]),
    checks_pass (by simp [ho, hc])]
  rfl

end Named

/-- Settles O32: each clause is the rule of its packet above. -/
theorem surfacePacketsComplete : Obligations.SurfacePacketsComplete := by
  rintro p s _ _ rfl rfl
  refine ⟨?create, fun f hs => ⟨fun ht hl ho => ⟨execSurfaceDestroy_shown hs ht hl ho,
    execSurfaceDestroy_hidden hs ht hl ho⟩, execWriteBegin_closed hs, execWriteEnd_open hs, ?sealRows⟩⟩
  case create =>
    rintro _ ht rfl hl hz hz' hal hw hw' hh hh' hf hyuv hsp hm hfew hfits hapart
    exact execSurfaceCreate_placed ht hl hz hz' ⟨hal, hw, hw', hh, hh', hf, hyuv, hsp, hm⟩ ⟨hfew, hfits, hapart⟩ rfl
  case sealRows =>
    intro ht hl hz hcls rows hrows hrow hend hwhole hd ho hc
    exact execSeal_open hs ht hl hz hcls hrows hrow hend hwhole hd ho hc

end Sys2Proof.Machine
end

section
/-!
PROOFS. The haptic packets: the effect library, plays and the units that cannot play, EFFECT_STOP, click regions and their
tokens, and the three operations of ACTUATOR_CHECK (16 R454, R456, R458 to R460, R465).
-/

namespace Sys2Proof.Machine

open Sys2Proof

/-! ### What a packet's mark leaves alone -/

section Mark
variable (s : State) (p : Packet)

@[simp] theorem State.chan_markApplied (i : Nat) : (s.markApplied p).chan i = s.chan i := rfl
@[simp] theorem State.bridgedAway_markApplied (i : Nat) : (s.markApplied p).bridgedAway i = s.bridgedAway i := rfl
@[simp] theorem State.hvHeld_markApplied (n : Nat) : (s.markApplied p).hvHeld n = s.hvHeld n := rfl
@[simp] theorem State.present_markApplied (h : Nat) : (s.markApplied p).present h = s.present h := rfl
@[simp] theorem State.checkGates_markApplied (q : Packet) : (s.markApplied p).checkGates q = s.checkGates q := rfl

end Mark

section Haptics
variable {s : State} {p : Packet}

/-! ### The effect library (R456) -/

/-- EFFECT_LOAD of records that are all in range stores every one of them. -/
theorem execEffectLoad_inRange (ht : s.takes opEffectLoad true p = true) (hb : p.target = hBoost)
    (hl : p.length = 4 + 16 * p.u8 17) (hmin : 1 ≤ p.u8 17) (hmax : p.u8 17 ≤ 128) (hz : p.fld 16 7 1 = 0)
    (hz' : p.u16 18 = 0) (hfirst : p.fld 16 0 7 + p.u8 17 ≤ 128) (hrec : ∀ k < p.u8 17, effectOk p k = true) :
    execEffectLoad p s = .next ((((s.markApplied p).setHaptics { s.haptics with
      library := (List.range (p.u8 17)).foldl (fun l k => l.set (p.fld 16 0 7 + k) (effectRec p k))
        s.haptics.library }).intend hBoost false 0).answer 0x7001 p .ok []) := by
  have hall : (List.range (p.u8 17)).all (effectOk p) = true := by simpa using hrec
  rw [execEffectLoad, packet_taken ht, checks_pass (by simp [hb, hl, hmin, hmax, hz, hz', hfirst, hall])]
  rfl

/-! ### Playing and stopping (R458 to R460) -/

/-- The SCALE at which an EFFECT_PLAY plays: 0 stands for 256 (R458). -/
def playScale (p : Packet) : Nat := if p.u16 18 = 0 then 256 else p.u16 18

/-- The effect of the library that an EFFECT_PLAY names. -/
def State.namedEffect (s : State) (p : Packet) : Effect := s.haptics.library.get (p.fld 16 0 7)

/-- The tokens that an EFFECT_PLAY takes on its channel (R459). -/
def State.playNeed (s : State) (p : Packet) : Nat :=
  tokensFor (s.chan (p.target % 256)) (s.namedEffect p) (playScale p)

/-- The play that an EFFECT_PLAY plans, 150 us and the delay from now (R458). -/
def State.plannedPlay (s : State) (p : Packet) : Play :=
  { inst := p.inst, effect := p.fld 16 0 7, rec_ := s.namedEffect p, scale := playScale p, event := p.flag 16 7,
    tokens := s.playNeed p, planned := s.devTime + 150000 + 1000 * p.u16 20, started := 0, running := false,
    braking := false, immediate := false, outcome := 1, gain64 := (s.namedEffect p).overdrive, click := none }

/-- An EFFECT_PLAY has its fields in range, the tokens it needs, and a channel that no bridge has taken (R454, R458,
R459). -/
structure State.Playable (s : State) (p : Packet) : Prop where
  haptic : p.target / 256 = 0x15
  length_eq : p.length = 8
  reserved : p.u8 17 = 0
  reserved' : p.u16 22 = 0
  scale_le : playScale p ≤ 256
  tokens : s.hvHeld p.inst + s.playNeed p ≤ (s.inst p.inst).hvTokens
  unbridged : s.bridgedAway (p.target % 256) = false

/-- What is left of a playable EFFECT_PLAY is the test of R460 on the channel's fact and the boost's. -/
theorem execEffectPlay_playable (ht : s.takes opEffectPlay (s.ownsChan p) p = true) (hp : s.Playable p) :
    execEffectPlay p s = .next (Ans.close (s.markApplied p) opEffectPlay p
      (checks [(decide ((s.entry p.target).fact = 0 ∨ (s.entry p.target).fact = 3) && decide ((s.entry hBoost).fact = 0),
          .offline)]
        (.done ((s.markApplied p).updChan (p.target % 256) (fun c => { c with
          queued := c.queued ++ [s.plannedPlay p] })).boost .ok []))) := by
  obtain ⟨hc, hl, hz, hz', hs, hq, hb⟩ := hp
  rw [execEffectPlay, packet_taken ht, ← playScale,
    checks_pass (by simp [hc, hl, hz, hz', hs]), checks_pass (by exact decide_eq_true hq), checks_pass (by simp [hb])]
  rfl

/-- A play on a sound or a stalled channel waits for its planned start, while the boost is sound (R458, R460). -/
theorem execEffectPlay_sound (ht : s.takes opEffectPlay (s.ownsChan p) p = true) (hp : s.Playable p)
    (hf : (s.entry p.target).fact = 0 ∨ (s.entry p.target).fact = 3) (hv : (s.entry hBoost).fact = 0) :
    execEffectPlay p s = .next ((((s.markApplied p).updChan (p.target % 256) (fun c => { c with
      queued := c.queued ++ [s.plannedPlay p] })).boost).answer 0x7002 p .ok []) := by
  rw [execEffectPlay_playable ht hp, checks_pass (by simp [hf, hv])]
  rfl

/-- A play on a missing or shorted actuator, or under a fault of the boost, is answered ST_OFFLINE (R460). -/
theorem execEffectPlay_offline (ht : s.takes opEffectPlay (s.ownsChan p) p = true) (hp : s.Playable p)
    (hf : (s.entry p.target).fact = 1 ∨ (s.entry p.target).fact = 2 ∨ (s.entry hBoost).fact ≠ 0) :
    execEffectPlay p s = .next ((s.markApplied p).answer 0x7002 p .offline []) := by
  have hfail : (decide ((s.entry p.target).fact = 0 ∨ (s.entry p.target).fact = 3) &&
      decide ((s.entry hBoost).fact = 0)) = false := by
    obtain hmissing | hshorted | hboost := hf
    · simp [hmissing]
    · simp [hshorted]
    · simp [hboost]
  rw [execEffectPlay_playable ht hp, checks_stop hfail]
  rfl

/-- EFFECT_STOP lets the running effect brake, or end, with the OUTCOME stopped (R458). -/
theorem execEffectStop_unbridged (ht : s.takes opEffectStop (s.ownsChan p || decide (p.inst = 0)) p = true)
    (hc : p.target / 256 = 0x15) (hl : p.length = 4) (hz : p.fld 16 1 31 = 0)
    (hb : s.bridgedAway (p.target % 256) = false) :
    execEffectStop p s = .next (((s.markApplied p).updChan (p.target % 256) (fun c => { c with
      play := c.play.map (fun y => if y.running then { y with
        braking := true
        immediate := p.flag 16 0
        outcome := 3 } else y) })).answer 0x7003 p .ok []) := by
  rw [execEffectStop, packet_taken ht, checks_pass (by simp [hc, hl, hz]), checks_pass (by simp [hb])]
  rfl

/-! ### Click regions (R465) -/

/-- The tokens that arming a region reserves: those of the larger of its two effects at SCALE 256 (R459, R465). -/
def State.armNeed (s : State) (p : Packet) : Nat :=
  max (tokensFor (s.chan (p.target % 256)) (s.haptics.library.get (p.fld 17 0 7)) 256)
    (tokensFor (s.chan (p.target % 256)) (s.haptics.library.get (p.fld 18 0 7)) 256)

/-- The region that a CLICK_REGION_SET arms (R465). -/
def State.armedClick (s : State) (p : Packet) : Click :=
  { inst := p.inst, release := p.flag 16 3, effect := p.fld 17 0 7, relEffect := p.fld 18 0 7, on := p.u16 20,
    off := p.u16 22, x := p.u16 24, y := p.u16 26, w := p.u16 28, h := p.u16 30, tokens := s.armNeed p, pressed := false,
    contact := none }

/-- The region's thresholds are in range, and it lies in the zone of its channel (R465). -/
structure Click.Fits (r : Click) (c : HChan) : Prop where
  on_ge : 100 ≤ r.on
  on_le : r.on ≤ 20000
  off_lt : r.off < r.on
  left : c.zx ≤ r.x
  top : c.zy ≤ r.y
  right : r.x + r.w ≤ c.zx + c.zw
  bottom : r.y + r.h ≤ c.zy + c.zh

/-- A CLICK_REGION_SET names a zoned channel that no bridge has taken, and its reserved bits are clear (R454, R465). -/
structure State.ClickFormed (s : State) (p : Packet) : Prop where
  haptic : p.target / 256 = 0x15
  length_eq : p.length = 16
  reserved : p.fld 16 4 4 = 0
  reserved' : p.fld 17 7 1 = 0
  reserved'' : p.fld 18 7 9 = 0
  zoned : (s.chan (p.target % 256)).zoned = true
  unbridged : s.bridgedAway (p.target % 256) = false

/-- Disarming a region frees its place. -/
theorem execClickRegionSet_disarm (ht : s.takes opClickRegionSet (s.ownsChan p) p = true) (hp : s.ClickFormed p)
    (ha : p.flag 16 2 = false) (hq : s.hvHeld p.inst ≤ (s.inst p.inst).hvTokens) :
    execClickRegionSet p s = .next (((((s.markApplied p).updChan (p.target % 256) (fun c => { c with
      clicks := c.clicks.set (p.fld 16 0 2) none })).intend p.target false p.inst).boost).answer 0x7004 p .ok []) := by
  obtain ⟨hc, hl, hz, hz', hz'', hzoned, hb⟩ := hp
  rw [execClickRegionSet, packet_taken ht]
  simp only [ha, Bool.false_eq_true, if_false]
  rw [checks_pass (by simp [hc, hl, hz, hz', hz'', hzoned]),
    checks_pass (by simpa using Nat.le_add_right_of_le hq), checks_pass (by simp [hb])]
  rfl

/-- Arming a free region reserves its tokens. -/
theorem execClickRegionSet_arm (ht : s.takes opClickRegionSet (s.ownsChan p) p = true) (hp : s.ClickFormed p)
    (ha : p.flag 16 2 = true) (hfit : (s.armedClick p).Fits (s.chan (p.target % 256)))
    (hfree : (s.chan (p.target % 256)).clicks.get (p.fld 16 0 2) = none)
    (hq : s.hvHeld p.inst + s.armNeed p ≤ (s.inst p.inst).hvTokens) :
    execClickRegionSet p s = .next (((((s.markApplied p).updChan (p.target % 256) (fun c => { c with
      clicks := c.clicks.set (p.fld 16 0 2) (some (s.armedClick p)) })).intend p.target false p.inst).boost).answer 0x7004
        p .ok []) := by
  obtain ⟨hc, hl, hz, hz', hz'', hzoned, hb⟩ := hp
  obtain ⟨hon, hon', hoff, hx, hy, hw, hh⟩ := hfit
  simp only [State.armedClick] at hon hon' hoff hx hy hw hh
  rw [execClickRegionSet, packet_taken ht]
  simp only [ha, if_true, State.chan_markApplied, hfree]
  rw [checks_pass (by simp [hc, hl, hz, hz', hz'', hzoned, hon, hon', hoff, hx, hy, hw, hh]),
    checks_pass (by exact decide_eq_true hq), checks_pass (by simp [hb])]
  rfl

/-! ### Checks of actuators (R454) -/

/-- A channel can be checked: no bridge has taken it, it does not drive, and the sense die and the boost serve it
(R454). -/
structure State.Checkable (s : State) (p : Packet) : Prop where
  unbridged : s.bridgedAway (p.target % 256) = false
  still : (s.chan (p.target % 256)).driving = false
  linked : s.touch.d2dUp = true
  boosted : (s.entry hBoost).fact ≠ 1

/-- A checkable channel passes what every check tests first. -/
theorem checks_checkGates (hk : s.Checkable p) (k : Ans) : checks (s.checkGates p) k = k := by
  obtain ⟨hb, hd, hl, hv⟩ := hk
  rw [State.checkGates, checks_pass (by simp [hb]), checks_pass (by simp [hd]), checks_pass (by simp [hl, hv]), checks_nil]

section Checked
variable (ht : s.takes opActuatorCheck true p = true) (hc : p.target / 256 = 0x15) (hk : s.Checkable p)
include ht hc hk

/-- OP 0 answers what it measures. -/
theorem execActuatorCheck_checkable (hl : p.length = 4) (hop : p.u32 16 = 0) :
    execActuatorCheck p s = .next (((s.markApplied p).runCheck (p.target % 256) false).answer 0x7005 p .ok
      (s.checkResult (p.target % 256) false)) := by
  rw [execActuatorCheck, packet_taken ht, State.checkGates_markApplied, checks_pass (by simp [hc, hl, hop]),
    checks_checkGates hk]
  rfl

/-- OP 1 answers what it measures, and the characterisation takes effect. -/
theorem execActuatorCharacterise_checkable (hl : p.length = 4) (hop : p.u32 16 = 1) :
    execActuatorCharacterise p s = .next (((s.markApplied p).runCheck (p.target % 256) true).answer 0x7005 p .ok
      (s.checkResult (p.target % 256) true)) := by
  rw [execActuatorCharacterise, packet_taken ht, State.checkGates_markApplied, checks_pass (by simp [hc, hl, hop]),
    checks_checkGates hk]
  rfl

/-- OP 2 without a bridge stores the configuration, then characterises. -/
theorem execActuatorConfigure_unbridged (hl : p.length = 12) (hop : p.fld 16 0 2 = 2) (hz : p.fld 16 3 5 = 0)
    (hz' : p.fld 17 3 5 = 0) (hmin : 100 ≤ p.u16 18) (hmax : p.u16 18 ≤ 1200) (hbr : p.flag 16 2 = false)
    (hpanel : s.present (hTouch (p.fld 17 0 2)) = true) :
    execActuatorConfigure p s = .next (((((s.markApplied p).updChan (p.target % 256) (fun c => { c with
      bridge := false
      panel := p.fld 17 0 2
      zoned := p.flag 17 2
      vmax := p.u16 18
      zx := p.u16 20
      zy := p.u16 22
      zw := p.u16 24
      zh := p.u16 26 })).intend p.target false 0).runCheck (p.target % 256) true).answer 0x7005 p .ok
        (s.checkResult (p.target % 256) true)) := by
  rw [execActuatorConfigure, packet_taken ht, State.checkGates_markApplied,
    checks_pass (by simp [hc, hl, hop, hz, hz', hmin, hmax, hbr]), checks_pass (by simp [hpanel]), checks_checkGates hk, hbr]
  rfl

end Checked

end Haptics

/-- Settles O50: each clause is the rule of its packet above. -/
theorem hapticPacketsComplete : Obligations.HapticPacketsComplete := by
  rintro p s _ _ _ rfl rfl rfl
  refine ⟨?load, ?play, execEffectStop_unbridged, ?click, ?check⟩
  case load =>
    rintro ht hb _ _ rfl rfl hl hmin hmax hz hz' hfirst hrec
    exact execEffectLoad_inRange ht hb hl hmin hmax hz hz' hfirst hrec
  case play =>
    rintro ht hc hl hz hz' _ _ _ rfl rfl hs rfl hq hb
    have hp : s.Playable p := ⟨hc, hl, hz, hz', hs, hq, hb⟩
    exact ⟨execEffectPlay_sound ht hp, execEffectPlay_offline ht hp⟩
  case click =>
    rintro ht hc hl hz hz' hz'' hzoned hb _ rfl
    have hp : s.ClickFormed p := ⟨hc, hl, hz, hz', hz'', hzoned, hb⟩
    refine ⟨execClickRegionSet_disarm ht hp, ?arm⟩
    rintro ha _ rfl hfree hq hon hon' hoff hx hy hw hh
    exact execClickRegionSet_arm ht hp ha ⟨hon, hon', hoff, hx, hy, hw, hh⟩ hfree hq
  case check =>
    intro ht hc hb hd hl hv
    have hk : s.Checkable p := ⟨hb, hd, hl, hv⟩
    exact ⟨execActuatorCheck_checkable ht hc hk, execActuatorCharacterise_checkable ht hc hk,
      execActuatorConfigure_unbridged ht hc hk⟩

end Sys2Proof.Machine
end

section
/-!
PROOFS. The power control unit: orders to the device and to a pipe, keep-awake holds, settings, the automatic Steep, what
wakes the device from Steep and Warm, the way out of Shelf, and the blocks that Warm lost (20 R553 to R567, R654; 06 R186).
-/

namespace Sys2Proof.Machine

open Sys2Proof

/-! ### What a packet's mark leaves alone -/

section Mark
variable (s : State) (p : Packet)

@[simp] theorem State.entryRefusal_markApplied (t : PState) (force : Bool) :
    (s.markApplied p).entryRefusal t force = s.entryRefusal t force := rfl
@[simp] theorem State.pipeMonitored_markApplied (k : Nat) : (s.markApplied p).pipeMonitored k = s.pipeMonitored k := rfl

end Mark

/-! ### Orders to the device (R555, R557, R559) -/

/-- The state in which the entry that a packet orders begins: the intention is written, and for Steep the scan period. -/
def State.orderEntry (s : State) (p : Packet) : State :=
  (s.intend hPower false p.inst).setPower { (s.intend hPower false p.inst).power with
    periodMs := if askedState p = .steep then (if p.u16 18 = 0 then 100 else p.u16 18)
      else (s.intend hPower false p.inst).power.periodMs }

/-- The entry that a packet orders, with the reply that it owes. -/
def orderedEntry (p : Packet) (owed : Option Owed) : PEntry :=
  { target := askedState p, auto := false, sender := p.inst, owed := owed, started := false, alarm := p.u32 20 }

section Device
variable {s : State} {p : Packet} (ht : s.takes opPowerState (decide (p.inst = 0)) p = true) (hd : p.target = hPower)
  (hf : powerFieldsOk p = true)
include ht hd hf

/-- An order to Brew writes the intention. -/
theorem execPowerState_brew (hs : p.fld 16 0 2 = 0) :
    execPowerState p s = .next (((s.markApplied p).intend hPower false p.inst).answer 0x9001 p .ok []) := by
  have hb : askedState p = .brew := by simp [askedState, hs]
  rw [execPowerState, packet_taken ht, checks_pass (by simp [hd, hf]), if_pos hb]
  rfl

section Enters
variable (hb : askedState p ≠ .brew) (hr : s.entryRefusal (askedState p) (p.flag 16 2) = none)
include hb hr

/-- An order that nothing refuses begins its entry; the reply is owed while a copy descriptor runs (R559). -/
theorem execPowerState_enters : execPowerState p s = .next (Ans.close (s.markApplied p) opPowerState p
    (if ((s.markApplied p).orderEntry p).runningCopy.isNone then
      .done (((s.markApplied p).orderEntry p).beginEntry (orderedEntry p none)) .ok []
    else .owe (((s.markApplied p).orderEntry p).beginEntry (orderedEntry p (some { opcode := 0x9001, p := p }))))) := by
  rw [execPowerState, packet_taken ht, checks_pass (by simp [hd, hf]), if_neg hb, State.entryRefusal_markApplied, hr]
  rfl

/-- Where no descriptor runs, the reply goes out as the entry starts. -/
theorem execPowerState_enters_idle (hc : ((s.markApplied p).orderEntry p).runningCopy = none) :
    execPowerState p s = .next ((((s.markApplied p).orderEntry p).beginEntry (orderedEntry p none)).answer 0x9001 p .ok
      []) := by
  rw [execPowerState_enters ht hd hf hb hr, if_pos (by simp [hc])]
  rfl

/-- Where one runs, the entry holds the reply that is owed. -/
theorem execPowerState_enters_copying (hc : ((s.markApplied p).orderEntry p).runningCopy ≠ none) :
    execPowerState p s = .next ((((s.markApplied p).orderEntry p).beginEntry
      (orderedEntry p (some { opcode := 0x9001, p := p }))).interim 0x9001 p) := by
  rw [execPowerState_enters ht hd hf hb hr, if_neg (by simpa using hc)]
  rfl

end Enters

end Device

/-! ### Orders to a pipe (R555, R556) -/

/-- The pipe is steeped or not from now on, and an order that still waited for its frame is cancelled. -/
def State.steepPipe (s : State) (k : Nat) (on : Bool) : State :=
  (s.finishOpt (s.pipe k).steepWaiting .cancelled []).updPipe k (fun q => { q with
    steeped := on
    steepWaiting := none })

/-- The order of a packet waits for the pipe's first blank, or first composed, frame. -/
def State.awaitFrame (s : State) (p : Packet) (k : Nat) : State :=
  s.updPipe k (fun q => { q with steepWaiting := some { opcode := 0x9001, p := p } })

section Pipe
variable {s : State} {p : Packet}
  (ht : s.takes opPowerState (decide (p.inst = 0) || s.ownsDisplay p.inst (p.target % 256)) p = true)
  (hp : isPipe p = true) (hf : powerFieldsOk p = true)
include ht hp hf

section Steep
variable (hs : p.fld 16 0 2 = 1) (hm : s.pipeMonitored (p.target % 256) = false)
include hs hm

/-- STATE 1 steeps a pipe that no enabled monitor watches; the reply to the order waits for the blank frame of one that
runs. -/
theorem execPowerStatePipe_steep : execPowerStatePipe p s = .next (Ans.close (s.markApplied p) opPowerState p
    (if (s.pipe (p.target % 256)).state = .run then
      .owe (((s.markApplied p).steepPipe (p.target % 256) true).awaitFrame p (p.target % 256))
    else .done ((s.markApplied p).steepPipe (p.target % 256) true) .ok [])) := by
  rw [execPowerStatePipe, packet_taken ht, checks_pass (by simp [hp, hf, hs]), if_neg (by simp [hm])]
  simp only [hs]
  rfl

/-- A running pipe goes on to its blank frame. -/
theorem execPowerStatePipe_steep_running (hq : (s.pipe (p.target % 256)).state = .run) :
    execPowerStatePipe p s = .next ((((s.markApplied p).steepPipe (p.target % 256) true).awaitFrame p
      (p.target % 256)).interim 0x9001 p) := by
  rw [execPowerStatePipe_steep ht hp hf hs hm, if_pos hq]
  rfl

/-- A pipe that does not run is steeped at once. -/
theorem execPowerStatePipe_steep_notRunning (hq : (s.pipe (p.target % 256)).state ≠ .run) :
    execPowerStatePipe p s = .next (((s.markApplied p).steepPipe (p.target % 256) true).answer 0x9001 p .ok []) := by
  rw [execPowerStatePipe_steep ht hp hf hs hm, if_neg hq]
  rfl

end Steep

section Wake
variable (hs : p.fld 16 0 2 = 0)
include hs

/-- STATE 0 gives a pipe back to its intention; the reply to the order waits for the composed frame of a blank one that is
to run. -/
theorem execPowerStatePipe_wake : execPowerStatePipe p s = .next (Ans.close (s.markApplied p) opPowerState p
    (if decide ((s.pipe (p.target % 256)).state = .blank) && decide ((s.pipe (p.target % 256)).intent = 2) then
      .owe (((s.markApplied p).steepPipe (p.target % 256) false).awaitFrame p (p.target % 256))
    else .done ((s.markApplied p).steepPipe (p.target % 256) false) .ok [])) := by
  rw [execPowerStatePipe, packet_taken ht, checks_pass (by simp [hp, hf, hs]), if_neg (by simp [hs])]
  simp only [hs]
  rfl

/-- A blank pipe that is to run goes on to its composed frame. -/
theorem execPowerStatePipe_wake_toRun (hq : (s.pipe (p.target % 256)).state = .blank)
    (hi : (s.pipe (p.target % 256)).intent = 2) :
    execPowerStatePipe p s = .next ((((s.markApplied p).steepPipe (p.target % 256) false).awaitFrame p
      (p.target % 256)).interim 0x9001 p) := by
  rw [execPowerStatePipe_wake ht hp hf hs, if_pos (by simp [hq, hi])]
  rfl

/-- Any other pipe has no frame to wait for. -/
theorem execPowerStatePipe_wake_toRest
    (hq : (s.pipe (p.target % 256)).state ≠ .blank ∨ (s.pipe (p.target % 256)).intent ≠ 2) :
    execPowerStatePipe p s = .next (((s.markApplied p).steepPipe (p.target % 256) false).answer 0x9001 p .ok []) := by
  rw [execPowerStatePipe_wake ht hp hf hs, if_neg (by simpa [Decidable.imp_iff_not_or] using hq)]
  rfl

end Wake

end Pipe

/-! ### KEEP_AWAKE (R558) -/

/-- The mask of holds after an instance has set its hold to `on`. -/
def withHold (m n : Nat) (on : Bool) : Nat :=
  if on && !bitOf m n then m + 2 ^ n else if !on && bitOf m n then m - 2 ^ n else m

/-- A new hold sets its bit. -/
theorem withHold_taken {m n : Nat} (h : bitOf m n = false) : withHold m n true = m + 2 ^ n := by simp [withHold, h]

/-- A hold given up clears its bit. -/
theorem withHold_released {m n : Nat} (h : bitOf m n = true) : withHold m n false = m - 2 ^ n := by simp [withHold, h]

/-- Asking for what stands changes no hold. -/
theorem withHold_kept (m n : Nat) : withHold m n (bitOf m n) = m := by simp [withHold]

/-- KEEP_AWAKE sets its sender's hold. -/
theorem execKeepAwake_wellFormed {s : State} {p : Packet} (ht : s.takes opKeepAwake (ownHandle p) p = true)
    (hl : p.length = 4) (hz : p.fld 16 1 31 = 0) : execKeepAwake p s =
      .next (((s.markApplied p).setPower { (s.markApplied p).power with
        keepAwake := withHold s.power.keepAwake p.inst (p.flag 16 0) }).answer 0x9002 p .ok []) := by
  rw [execKeepAwake, packet_taken ht, checks_pass (by simp [hl, hz])]
  rfl

/-! ### POWER_CONFIG (R567, R575) -/

/-- The settings that a POWER_CONFIG of OP 0 carries. -/
def newPowerCfg (p : Packet) : PowerCfg :=
  { railGpio := p.fld 17 0 2, railPol := p.flag 17 2, pgoodGpio := p.fld 17 3 2, pgoodPol := p.flag 17 5,
    autoSteep := p.flag 17 6, vsenseThr := p.u8 18, tTarget := if p.u8 19 = 0 then 105 else p.u8 19,
    pmicBus := p.fld 20 0 2, pmicEn := p.flag 20 2, pmicAddr := p.fld 20 3 7, pmicReg := p.u8 22 }

section Config
variable {s : State} {p : Packet} (ht : s.takes opPowerConfig true p = true) (hd : p.target = hPower)
include ht hd

/-- OP 0 with its fields in range takes the settings. -/
theorem execPowerConfig_inRange (hl : p.length = 8) (hop : p.u8 16 = 0) (hz : p.fld 17 7 1 = 0) (hv : p.u8 18 ≤ 50)
    (htemp : p.u8 19 = 0 ∨ (85 ≤ p.u8 19 ∧ p.u8 19 ≤ 110)) (hz' : p.fld 20 10 6 = 0) (hz'' : p.u8 23 = 0) :
    execPowerConfig p s = .next ((((s.markApplied p).setPower { (s.markApplied p).power with
      cfg := newPowerCfg p }).intend hPower false p.inst).answer 0x9003 p .ok []) := by
  rw [execPowerConfig, packet_taken ht, checks_pass (by simp [hd, hl, hop, hz, hv, htemp, hz', hz''])]
  rfl

/-- OP 2 erases the last-pour slots that it names. -/
theorem execPowerConfigRelease_inRange (hl : p.length = 4) (hop : p.u8 16 = 2) (hz : p.fld 17 4 4 = 0)
    (hz' : p.u16 18 = 0) :
    execPowerConfigRelease p s = .next (((s.markApplied p).setPower { (s.markApplied p).power with
      sag := { (s.markApplied p).power.sag with
        pours := (s.markApplied p).power.sag.pours.setAll (maskBits 4 (p.fld 17 0 4)) none } }).answer 0x9003 p .ok
          []) := by
  rw [execPowerConfigRelease, packet_taken ht, checks_pass (by simp [hd, hl, hop, hz, hz'])]
  rfl

end Config

/-! ### The automatic Steep (R557) -/

/-- With every enabled pipe steeped, and one enabled, a check that nothing refuses begins the entry, at a period of
100 ms. -/
theorem execSteepAutoCheck_passes {s : State} (hon : ∃ k, k < s.board.member.pipes ∧ (s.pipe k).intent ≠ 0)
    (hall : ∀ k, k < s.board.member.pipes → (s.pipe k).intent ≠ 0 → (s.pipe k).steeped = true)
    (ha : s.accepting = true) (hb : s.boot.stage = 6) (hc : s.power.cfg.autoSteep = true)
    (hr : s.entryRefusal .steep false = none) :
    execSteepAutoCheck s = .next ((s.setPower { s.power with periodMs := 100 }).beginEntry
      { target := .steep, auto := true, sender := 0, owed := none, started := false, alarm := 0 }) := by
  have hsome : (s.pipeList.filter fun k => decide ((s.pipe k).intent ≠ 0)).isEmpty = false := by
    obtain ⟨k, hk, hi⟩ := hon
    have hmem : k ∈ s.pipeList.filter fun k => decide ((s.pipe k).intent ≠ 0) := by simp [State.pipeList, hk, hi]
    exact List.isEmpty_eq_false_iff_exists_mem.mpr ⟨k, hmem⟩
  have hsteeped : (s.pipeList.filter fun k => decide ((s.pipe k).intent ≠ 0)).all (fun k => (s.pipe k).steeped) = true := by
    simpa [State.pipeList, or_iff_not_imp_left] using hall
  simp only [execSteepAutoCheck, ha, hc, hsome, hsteeped, hb, hr]
  rfl

/-! ### The exit from Steep and Warm (R553, R560, R565) -/

/-- The device is back in Brew, the blocks that Warm dropped are zero, and Cupper takes its holds. -/
def State.restored (s : State) (lost : List Nat) : State :=
  let v := s.setPower { s.power with state := .brew, steepAuto := false }
  ((v.setDram (zeroBlocks v.dram lost)).setMemc { v.memc with lost := lost }).setSec { v.sec with
    holds := v.sec.available }

/-- Every pipe that is meant to be on starts again, as from OFF (R378). -/
def State.restartPipes (s : State) : State :=
  s.pipeList.foldl (fun s k => if (s.pipe k).intent ≠ 0 then s.updPipe k (fun q => { q with
    state := .starting
    bandSlots := true
    restartZero := true
    attempts := 0 }) else s) s

/-- Every enabled link with a sink trains again. -/
def State.retrainLinks (s : State) : State :=
  s.linkUnits.foldl (fun s h => s.updLink h (fun u => { u with training := u.cfg.enable && (u.hpd || isDsi h) })) s

/-- Without a sag mark, the exit runs its steps in their order. -/
theorem State.wakeUp_unmarked {s : State} (hm : s.power.sag.sagMark = false) (source arg us : Nat) :
    s.wakeUp source arg us = ((((((s.latchWake s.power.state source arg us).restored
      (if s.power.state = .warm then s.warmLost else [])).restartPipes).retrainLinks).callHosts source).resume).powerChanged
        .brew s.power.state false source arg us := by
  rw [State.wakeUp, if_neg (by simp [hm])]
  rfl

/-- A source that serves the state, and is there, starts the exit. -/
theorem execWakeSource_exits {s : State} {source arg : Nat} (he : s.power.entry = none)
    (hs : s.power.state = .steep ∨ s.power.state = .warm) (hw : wakes s.power.state source = true)
    (hr : s.sourceReady source arg s.power.rtcAlarm.isSome = true) (us : Nat) :
    execWakeSource source arg us s = .next (s.wakeUp source arg us) := by
  have hdeep : (decide (s.power.state = .steep) || decide (s.power.state = .warm)) = true := by simpa using hs
  simp only [execWakeSource, he, hdeep, hw, hr]
  rfl

/-- A host wake is kept while the device sleeps or goes to sleep, where the device itself does not drive the pin. -/
theorem execHostWake_asleep {s : State} {port : Nat} (hp : s.present (hPort port) = true)
    (hl : bitOf s.power.wakeLow port = false)
    (hs : s.power.entry ≠ none ∨ s.power.state = .steep ∨ s.power.state = .warm) :
    execHostWake port s = .next (s.setPorts (s.ports.upd port (fun q => { q with hostWake := true }))) := by
  have hasleep : (s.power.entry.isSome || decide (s.power.state = .steep) || decide (s.power.state = .warm)) = true := by
    simpa [Option.isSome_iff_ne_none, or_assoc] using hs
  rw [execHostWake, onPort_present hp, if_pos hasleep, if_neg (by simp [hl])]

/-! ### The exit from Shelf (R563, R654) -/

/-- A WAKE pin and the RTC alarm are what wakes the device from Shelf (R564). -/
theorem wakes_shelf {source : Nat} (h : source = 2 ∨ source = 3) : wakes .shelf source = true := by
  simpa [wakes] using h

/-- A source that is there enables the rails; power-good ends Shelf with a full reset. -/
theorem execShelfExit_wakes {s : State} {source arg : Nat} (hs : s.power.state = .shelf) (ho : s.power.railOn = false)
    (hw : source = 2 ∨ source = 3) (hr : s.sourceReady source arg s.power.rtcAlarm.isSome = true) (good : Bool) :
    execShelfExit source arg good s = .next
      (if good then ((s.latchWake .shelf source arg 0).setPower { (s.latchWake .shelf source arg 0).power with
        state := .brew }).fullReset 2
      else s.setPower { s.power with railOn := true, railWake := (source, arg) }) := by
  rw [execShelfExit, if_neg (by simp [hs]), if_neg (by simp [wakes_shelf hw, hr])]
  simp only [ho]
  rfl

/-- Without power-good the rails go off again, and the device stays in Shelf. -/
theorem execPgoodTimeout_waiting {s : State} (hs : s.power.state = .shelf) (ho : s.power.railOn = true) :
    execPgoodTimeout s = .next (s.setPower { s.power with railOn := false }) := by
  simp [execPgoodTimeout, hs, ho]

/-! ### The blocks that Warm lost (06 R186) -/

/-- How many of some blocks lie in a region. -/
def State.countIn (s : State) (blocks : List Nat) (r : Nat) : Nat :=
  (blocks.filter (fun b => decide (blockRegion s.memc.regions b = r))).length

/-- A region is told with the number of its affected blocks, where it has any. -/
def State.tellLost (s : State) (r blocks : Nat) : State := if blocks = 0 then s else s.memLost r blocks

/-- MEM_LOST tells the regions one after another, each by the regions as they are then. -/
theorem execMemLost_foldl (s : State) : execMemLost s = .next
    ([1, 2, 3].foldl (fun v r => v.tellLost r (v.countIn s.memc.lost r)) (s.setMemc { s.memc with lost := [] })) := rfl

/-- Telling a region moves no block to another. -/
theorem State.countIn_tellLost (s : State) (q n : Nat) : (s.tellLost q n).countIn = s.countIn := by
  have hmemc : (s.tellLost q n).memc = s.memc := by
    rw [State.tellLost]
    split
    · rfl
    · simp [State.memLost]
  funext blocks r
  rw [State.countIn, hmemc, ← State.countIn]

/-- So each region is told with the count that stands as MEM_LOST begins. -/
theorem execMemLost_tells (s : State) : execMemLost s = .next ((((s.setMemc { s.memc with lost := [] }).tellLost 1
    (s.countIn s.memc.lost 1)).tellLost 2 (s.countIn s.memc.lost 2)).tellLost 3 (s.countIn s.memc.lost 3)) := by
  simp only [execMemLost_foldl, List.foldl_cons, List.foldl_nil, State.countIn_tellLost]
  rfl

/-- Settles O54: each clause is one of the rules of the power control unit above. -/
theorem powerStatesComplete : Obligations.PowerStatesComplete := by
  intro s
  refine ⟨?device, ?pipe, ?keepAwake, ?config, execSteepAutoCheck_passes, ?exit, fun port => execHostWake_asleep, ?shelf,
    execPgoodTimeout_waiting, ?lost⟩
  case device =>
    rintro p _ rfl ht hd hf
    refine ⟨execPowerState_brew ht hd hf, ?enters⟩
    case enters =>
      rintro _ _ _ rfl hb hr rfl rfl
      exact ⟨execPowerState_enters_idle ht hd hf hb hr, execPowerState_enters_copying ht hd hf hb hr⟩
  case pipe =>
    rintro p _ _ _ _ rfl rfl rfl ht hp hf rfl
    refine ⟨?steep, ?wake⟩
    case steep =>
      rintro hs hm _ rfl
      exact ⟨execPowerStatePipe_steep_running ht hp hf hs hm, execPowerStatePipe_steep_notRunning ht hp hf hs hm⟩
    case wake =>
      rintro hs _ rfl
      exact ⟨execPowerStatePipe_wake_toRun ht hp hf hs, execPowerStatePipe_wake_toRest ht hp hf hs⟩
  case keepAwake =>
    rintro p _ _ rfl rfl ht hl hz
    have hexec := execKeepAwake_wellFormed ht hl hz
    refine ⟨fun hon hm => ?taken, fun hoff hm => ?released, fun hsame => ?kept⟩
    case taken => rwa [hon, withHold_taken hm] at hexec
    case released => rwa [hoff, withHold_released hm] at hexec
    case kept => rwa [hsame, withHold_kept] at hexec
  case config =>
    rintro p _ rfl ht hd
    exact ⟨execPowerConfig_inRange ht hd, execPowerConfigRelease_inRange ht hd⟩
  case exit =>
    rintro source arg us he hs hm hw hr _ _ _ _ _ _ rfl rfl rfl rfl rfl rfl
    exact (execWakeSource_exits he hs hw hr us).trans (congrArg _ (State.wakeUp_unmarked hm source arg us))
  case shelf =>
    rintro source arg hs ho hw hr _ rfl
    exact ⟨execShelfExit_wakes hs ho hw hr true, execShelfExit_wakes hs ho hw hr false⟩
  case lost =>
    intro n t hn ht
    have hcount : n = s.countIn s.memc.lost := funext hn
    have htell : t = fun r v => v.tellLost r (n r) := funext₂ ht
    subst htell hcount
    exact execMemLost_tells s

end Sys2Proof.Machine
end

section
/-!
PROOFS. The error queue: when a record merges with the newest one, where a record of its own is stored, what is lost when
the queue is full, and which handling it pre-empts (21 R582, R584, R589).
-/

namespace Sys2Proof.Machine

open Sys2Proof

/-! ### Merging (R582) -/

section Raise
variable {s : State} {code sev unit inst : Nat}

/-- A record merges with the newest one where it is a NOTE or CORR, and like it, and within 1 ms, and that one is not
PRIOR. -/
theorem State.errMerges_concat {q : List ErrRec} {r : ErrRec} (hq : s.err.queue = q ++ [r]) :
    s.errMerges code sev unit inst = true ↔ sev ≤ 1 ∧ r.code = code ∧ r.unit = unit ∧ r.inst = inst ∧ r.prior = false ∧
      s.devTime ≤ r.time + 1000000 := by
  simp [State.errMerges, hq, and_assoc]

/-- A record stays one of its own where the newest one, if there is any, fails one of the conditions. -/
theorem State.errMerges_eq_false_of_newest_differs
    (hd : ∀ r, s.err.queue.getLast? = some r → 2 ≤ sev ∨ r.code ≠ code ∨ r.unit ≠ unit ∨ r.inst ≠ inst ∨ r.prior = true ∨
      r.time + 1000000 < s.devTime) : s.errMerges code sev unit inst = false := by
  rcases List.eq_nil_or_concat s.err.queue with hq | ⟨q, r, hq⟩
  · simp [State.errMerges, hq]
  · have hr := hd r (by simp [hq])
    rw [Bool.eq_false_iff, ne_eq, State.errMerges_concat (hq.trans List.concat_eq_append)]
    rintro ⟨hsev, hcode, hunit, hinst, hprior, htime⟩
    simp only [hcode, hunit, hinst, hprior, ne_eq, not_true_eq_false, Bool.false_eq_true, false_or] at hr
    omega

/-- A merged record adds one to the newest record's COUNT, and that is its whole handling. -/
theorem State.raiseErr_err_of_merges {q : List ErrRec} {r : ErrRec} (hq : s.err.queue = q ++ [r])
    (hm : s.errMerges code sev unit inst = true) (seq det : Nat) (b : Bool) :
    (s.raiseErr code sev unit inst seq det b).err =
      { s.err with queue := q ++ [{ r with count := satInc 16 r.count }] } := by
  rw [State.raiseErr, if_pos hm]
  simp [State.setErr, hq]

end Raise

/-! ### A record of its own

It is stored in the queue, its firmware copy goes where it is handled, and a FATAL one wants the full reset. -/

/-- The queue is full, its newest record is FATAL, and one of this severity does not replace it (R589). -/
def Err.keepsNewest (e : Err) (sev : Nat) : Bool :=
  decide (64 ≤ e.queue.length) && (match e.queue.getLast? with
    | some l => decide (l.severity = 4)
    | none => false) && decide (sev ≠ 4)

/-- The queue takes a record: it joins while there is room, else it replaces the newest one, and one record is lost
(R589). -/
def Err.store (e : Err) (r : ErrRec) : Err :=
  let full := decide (64 ≤ e.queue.length)
  { e with
    queue := if !full then e.queue ++ [r] else if e.keepsNewest r.severity then e.queue else e.queue.dropLast ++ [r]
    nextSeqno := (e.nextSeqno + 1) % 2 ^ 32
    lost := if full then e.lost + 1 else e.lost
    lostTotal := if full then satInc 32 e.lostTotal else e.lostTotal }

/-- A record's firmware copy pre-empts the handling under way, or waits for its turn (R583, R584). -/
def Err.dispatch (e : Err) (preempts : Bool) (r : ErrRec) : Err :=
  if preempts then { e with handling := some r, preempted := e.handling.toList ++ e.preempted }
  else { e with toHandle := e.toHandle ++ [r] }

/-- A FATAL record that a fault made wants the full reset, once booted, unless one is wanted already (R586, R600). -/
def State.wantReset (s : State) (e : Err) (r : ErrRec) : Err :=
  if r.severity = 4 ∧ r.injected = false ∧ s.err.resetWanted = false ∧ s.boot.stage = 6 then
    { e with resetWanted := true, causeSeqno := r.seqno, resetCause := if r.code = 0xB003 then 6 else 5 }
  else e

section Rules
variable {e : Err} {r : ErrRec}

/-- With room, the record joins the queue, and none is lost. -/
theorem Err.store_room (hl : e.queue.length < 64) :
    (e.store r).queue = e.queue ++ [r] ∧ (e.store r).lost = e.lost := by
  simp [Err.store, Nat.not_le.mpr hl]

/-- With 64 records, one is lost: the 64th, unless that is FATAL and the record is not. -/
theorem Err.store_full {q : List ErrRec} {l : ErrRec} (hq : e.queue = q ++ [l]) (hl : q.length = 63) :
    (e.store r).lost = e.lost + 1 ∧
      (e.store r).queue = if l.severity = 4 ∧ r.severity ≠ 4 then q ++ [l] else q ++ [r] := by
  simp [Err.store, Err.keepsNewest, hq, hl]

@[simp] theorem Err.store_handling : (e.store r).handling = e.handling := rfl
@[simp] theorem Err.store_preempted : (e.store r).preempted = e.preempted := rfl
@[simp] theorem Err.store_toHandle : (e.store r).toHandle = e.toHandle := rfl

@[simp] theorem Err.dispatch_queue (b : Bool) : (e.dispatch b r).queue = e.queue := by cases b <;> rfl
@[simp] theorem Err.dispatch_lost (b : Bool) : (e.dispatch b r).lost = e.lost := by cases b <;> rfl

/-- The pre-empted handling is the first to resume. -/
theorem Err.dispatch_preempts {h : ErrRec} (hh : e.handling = some h) :
    (e.dispatch true r).handling = some r ∧ (e.dispatch true r).preempted = h :: e.preempted := by
  simp [Err.dispatch, hh]

/-- A waiting record leaves the handling under way alone, and is the last in turn. -/
theorem Err.dispatch_waits :
    (e.dispatch false r).handling = e.handling ∧ (e.dispatch false r).toHandle = e.toHandle ++ [r] := ⟨rfl, rfl⟩

/-- Wanting the full reset touches neither the queue nor the handlings. -/
@[simp] theorem State.wantReset_frame (s : State) : (s.wantReset e r).queue = e.queue ∧ (s.wantReset e r).lost = e.lost ∧
    (s.wantReset e r).handling = e.handling ∧ (s.wantReset e r).preempted = e.preempted ∧
    (s.wantReset e r).toHandle = e.toHandle := by
  rw [State.wantReset]
  split <;> simp

end Rules

/-- A higher severity on the unit in handling escalates. -/
theorem State.errEscalates_of_higher {s : State} {h : ErrRec} {sev unit : Nat} (hh : s.err.handling = some h)
    (hu : h.unit = unit) (hs : h.severity < sev) : s.errEscalates sev unit = true := by
  simp [State.errEscalates, hh, hu, hs]

/-- On another unit, at no higher severity, or with nothing in handling, a record does not escalate. -/
theorem State.errEscalates_eq_false {s : State} {sev unit : Nat}
    (hn : ∀ h, s.err.handling = some h → h.unit ≠ unit ∨ sev ≤ h.severity) : s.errEscalates sev unit = false := by
  cases hh : s.err.handling with
  | none => simp [State.errEscalates, hh]
  | some h => simpa [State.errEscalates, hh, ← imp_iff_not_or] using hn h hh

section Own
variable {s : State} {code sev unit inst : Nat}

/-- A record that does not merge is stored, dispatched, and may want the full reset. -/
theorem State.raiseErr_err_of_not_merges {r : ErrRec} {seq det : Nat} {b : Bool}
    (hm : s.errMerges code sev unit inst = false) (hr : r = s.errRecord code sev unit inst seq det b) :
    (s.raiseErr code sev unit inst seq det b).err =
      s.wantReset ((s.err.store r).dispatch (s.errEscalates sev unit) r) r := by
  rw [State.raiseErr, if_neg (by simp [hm]), hr]
  rfl

end Own

/-- Settles O9: a record either merges (R582), or it is one of its own, which the queue takes (R589) and whose firmware
copy pre-empts or waits (R584). -/
theorem errorQueueMergesAndKeepsFirst : Obligations.ErrorQueueMergesAndKeepsFirst := by
  intro s code sev unit inst seq det
  refine ⟨?merges, ?own⟩
  case merges =>
    intro q r hq hsev hcode hunit hinst hprior htime
    exact State.raiseErr_err_of_merges hq
      ((State.errMerges_concat hq).mpr ⟨hsev, hcode, hunit, hinst, hprior, htime⟩) seq det false
  case own =>
    intro hd r e
    have he : e = s.wantReset ((s.err.store r).dispatch (s.errEscalates sev unit) r) r :=
      State.raiseErr_err_of_not_merges (State.errMerges_eq_false_of_newest_differs hd) rfl
    refine ⟨⟨rfl, rfl, rfl, rfl, rfl, rfl, rfl, rfl, rfl, rfl, rfl⟩, ?room, ?full, ?preempts, ?waits⟩
    case room =>
      intro hl
      simpa [he] using Err.store_room (r := r) hl
    case full =>
      intro q l hq hl
      have hsev : r.severity = sev := rfl
      simpa [he, hsev] using Err.store_full (r := r) hq hl
    case preempts =>
      intro h hh hu hs
      have hesc := State.errEscalates_of_higher hh hu hs
      have hrel : r.related = h.seqno := by simp [r, State.errRecord, hesc, hh]
      exact ⟨hesc, hrel, by simpa [he, hesc] using Err.dispatch_preempts (e := s.err.store r) (r := r) hh⟩
    case waits =>
      intro hn
      have hesc := State.errEscalates_eq_false hn
      simpa [he, hesc] using Err.dispatch_waits (e := s.err.store r) (r := r)

end Sys2Proof.Machine
end

section
/-!
PROOFS. Refill and calibration: a Refill from its opening to its commit or its end, the slots, user calibration, CAL_READ,
recalibration while running, and the parts that take a deferred image (22 R614 to R618, R621 to R625).
-/

namespace Sys2Proof.Machine

open Sys2Proof

/-! ### What a packet's mark leaves alone -/

section Mark
variable (s : State) (p : Packet)

@[simp] theorem State.romVerifies_markApplied (unit : Nat) : (s.markApplied p).romVerifies unit = s.romVerifies unit := rfl
@[simp] theorem State.calIndexOk_markApplied (item index : Nat) :
    (s.markApplied p).calIndexOk item index = s.calIndexOk item index := rfl
@[simp] theorem State.calFitted_markApplied (item index : Nat) :
    (s.markApplied p).calFitted item index = s.calFitted item index := rfl
@[simp] theorem State.busMaster_markApplied (n : Nat) : (s.markApplied p).busMaster n = s.busMaster n := rfl
@[simp] theorem State.hostBytes_markApplied (port a n : Nat) :
    (s.markApplied p).hostBytes port a n = s.hostBytes port a n := rfl
@[simp] theorem State.panel_markApplied (i : Nat) : (s.markApplied p).tp_ i = s.tp_ i := rfl
@[simp] theorem State.micGates_markApplied : (s.markApplied p).micGates = s.micGates := rfl

end Mark

/-! ### The open Refill (R614 to R617) -/

/-- The Refill that a REFILL_BEGIN opens. -/
def newRefill (p : Packet) : Refill :=
  { unit := p.u8 16, live := p.flag 16 8, flash := p.flag 16 9, length := p.u32 20, data := [] }

/-- A REFILL_BEGIN has its fields in range: a unit, at least one place for the image, and a length (R614). -/
structure RefillFormed (p : Packet) : Prop where
  length_eq : p.length = 8
  reserved : p.fld 16 10 22 = 0
  unit_ge : 1 ≤ p.u8 16
  unit_le : p.u8 16 ≤ 7
  placed : p.flag 16 8 = true ∨ p.flag 16 9 = true
  imageLength : refillLengthOk (p.u32 20) = true

/-- The open Refill holds a whole image that passes every check of a commit (R513, R514, R617). -/
structure State.Committable (s : State) (r : Refill) : Prop where
  filled : r.data.length = r.length
  header : headerOk r.unit (s.firmware.counter.get r.unit) r.data = true
  bodyLength : 272 + imgBodyLen r.data = r.length
  body : bodyOk r.data = true
  formats : r.live = true → Config.formatsMatch r.unit (imgBody r.data) = true

/-- While secure services are there, the boot ROM verifies no image. -/
theorem State.romVerifies_of_available {s : State} (h : s.sec.available = true) (unit : Nat) :
    s.romVerifies unit = false := by simp [State.romVerifies, h]

/-- Unit 4, the sense die's controller, needs a sense die; every other unit is fitted (R614, R618). -/
theorem unitFitted {s : State} {unit : Nat} (h : unit = 4 → s.board.member.sense = true) :
    (decide (unit ≠ 4) || s.board.member.sense) = true := by simpa [Decidable.imp_iff_not_or] using h

section Device
variable {s : State} {p : Packet} (hd : p.target = hDevice)
include hd

/-- REFILL_BEGIN opens a Refill while none is open, for a unit that is fitted. -/
theorem execRefillBegin_free (ht : s.takes opRefillBegin true p = true) (hp : RefillFormed p)
    (hsense : p.u8 16 = 4 → s.board.member.sense = true) (hfree : s.firmware.refill = none) :
    execRefillBegin p s = .next (((s.markApplied p).setFirmware { (s.markApplied p).firmware with
      refill := some (newRefill p) }).answer 0xC001 p .ok []) := by
  obtain ⟨hl, hz, hmin, hmax, hplace, hlen⟩ := hp
  rw [execRefillBegin, packet_taken ht, checks_pass (by simp [hd, hl, hz, hmin, hmax, hplace, hlen]),
    checks_pass (by exact unitFitted hsense), checks_pass (by simp [hfree])]
  rfl

/-- REFILL_DATA at the end of what the open Refill holds, and within its length, is appended (R615). -/
theorem execRefillData_inOrder (ht : s.takes opRefillData true p = true) {r : Refill} (hr : s.firmware.refill = some r)
    (hmin : 8 ≤ p.length) (hmax : p.length ≤ 4076) (hoff : p.u32 16 = r.data.length)
    (hfit : r.data.length + (p.bytesFrom 20).length ≤ r.length) :
    execRefillData p s = .next (((s.markApplied p).setFirmware { (s.markApplied p).firmware with
      refill := some { r with data := r.data ++ p.bytesFrom 20 } }).answer 0xC002 p .ok []) := by
  rw [execRefillData, packet_taken ht]
  simp only [State.markApplied_frame, hr]
  rw [checks_pass (by simp [hd, hmin, hmax, hoff, hfit])]
  rfl

/-- REFILL_COMMIT of an image that passes every check takes the commit's steps (R617). -/
theorem execRefillCommit_committable (ht : s.takes opRefillCommit true p = true) {r : Refill}
    (hr : s.firmware.refill = some r) (hl : p.length = 4) (hz : p.fld 16 1 31 = 0) (hs : s.sec.available = true)
    (hc : s.Committable r) :
    execRefillCommit p s = .next (((s.markApplied p).commitRefill r (p.flag 16 0) p.inst).1.answer 0xC003 p
      ((s.markApplied p).commitRefill r (p.flag 16 0) p.inst).2 []) := by
  obtain ⟨hfilled, hheader, hbody, hhash, hformats⟩ := hc
  rw [execRefillCommit, packet_taken ht]
  simp only [State.markApplied_frame, hr, State.romVerifies_markApplied, State.romVerifies_of_available hs]
  rw [checks_pass (by simp [hd, hl, hz, hfilled]), checks_pass (by simp), checks_pass (by simp [hs]), checks_nil,
    if_neg (by simp [hheader, hbody]), if_neg (by simpa using hformats), if_neg (by simp [hhash])]
  rfl

section Abort
variable (ht : s.takes opRefillAbort true p = true) (hl : p.length = 0)
include ht hl

/-- Until the final reply of a REFILL_COMMIT, REFILL_ABORT is answered ST_BUSY (R616). -/
theorem execRefillAbort_committing (hc : (s.markApplied p).committing = true) :
    execRefillAbort p s = .next ((s.markApplied p).answer 0xC004 p .busy []) := by
  rw [execRefillAbort, packet_taken ht, checks_pass (by simp [hd, hl]), checks_stop (by simp [hc])]
  rfl

variable (hc : (s.markApplied p).committing = false)
include hc

/-- REFILL_ABORT discards the open Refill (R616). -/
theorem execRefillAbort_open {r : Refill} (hr : s.firmware.refill = some r) :
    execRefillAbort p s = .next (((s.markApplied p).dropRefill r 3).answer 0xC004 p .ok []) := by
  rw [execRefillAbort, packet_taken ht, checks_pass (by simp [hd, hl]), checks_pass (by simp [hc])]
  simp only [State.markApplied_frame, hr]
  rfl

/-- With no Refill open, REFILL_ABORT changes nothing (R616). -/
theorem execRefillAbort_none (hr : s.firmware.refill = none) :
    execRefillAbort p s = .next ((s.markApplied p).answer 0xC004 p .ok []) := by
  rw [execRefillAbort, packet_taken ht, checks_pass (by simp [hd, hl]), checks_pass (by simp [hc])]
  simp only [State.markApplied_frame, hr]
  rfl

end Abort

/-! ### SLOT_SELECT and CAL_READ (R618, R624) -/

/-- SLOT_SELECT of a slot whose image is good, and not below its unit's security counter, selects it (R618). -/
theorem execSlotSelect_good (ht : s.takes opSlotSelect true p = true) (hl : p.length = 4) (hz : p.fld 16 9 23 = 0)
    (hmin : 1 ≤ p.u8 16) (hmax : p.u8 16 ≤ 7) (hsense : p.u8 16 = 4 → s.board.member.sense = true)
    (hs : s.sec.available = true) (hgood : (s.firmware.slots.get (2 * p.u8 16 + p.fld 17 0 1)).good = true)
    (hver : s.firmware.counter.get (p.u8 16) ≤ (s.firmware.slots.get (2 * p.u8 16 + p.fld 17 0 1)).secVer) :
    execSlotSelect p s = .next ((((s.markApplied p).setFirmware { (s.markApplied p).firmware with
      selected := (s.markApplied p).firmware.selected.set (p.u8 16) (some (p.fld 17 0 1))
      prefSeq := ((s.markApplied p).firmware.prefSeq + 1) % 2 ^ 32 }).intend hDevice false p.inst).answer 0xC005 p .ok
        []) := by
  rw [execSlotSelect, packet_taken ht, checks_pass (by simp [hd, hl, hz, hmin, hmax]),
    checks_pass (by exact unitFitted hsense), checks_pass (by simp [hs]), checks_pass (by simp [hgood, hver])]
  rfl

/-- CAL_READ answers an item of a fitted unit (R624). -/
theorem execCalRead_fitted (ht : s.takes opCalRead true p = true) (hl : p.length = 4) (hz : p.u16 18 = 0)
    (hi : s.calIndexOk (p.u8 16) (p.u8 17) = true) (hf : s.calFitted (p.u8 16) (p.u8 17) = true) :
    execCalRead p s = .next ((s.markApplied p).answer 0xC006 p .ok (s.calResult (p.u8 16) (p.u8 17))) := by
  rw [execCalRead, packet_taken ht, checks_pass (by simp [hd, hl, hz, hi]), checks_pass (by simp [hf])]
  rfl

end Device

/-! ### User calibration (R621 to R623) -/

/-- The record that a USERCAL_WRITE of OP 2 names in host memory, as long as its LENGTH says. -/
def State.hostRecord (s : State) (p : Packet) : List Byte :=
  s.hostBytes s.board.mgrPortInForce (p.u64 20) (leNat (s.hostBytes s.board.mgrPortInForce (p.u64 20 + 2) 2))

section UserCal
variable {s : State} {p : Packet} (ht : s.takes opUsercalWrite true p = true) (hk : calKind p.target ≠ 0)
include ht hk

/-- OP 0 stores the calibration in use. -/
theorem execUsercalStore_stores (hl : p.length = 4) (hop : p.u32 16 = 0) :
    execUsercalStore p s = .next ((((s.markApplied p).putCal p.target (s.calRecord p.target)).tickFree).answer 0xC007 p .ok
      []) := by
  rw [execUsercalStore, packet_taken ht, checks_pass (by simp [hk, hl, hop])]
  rfl

/-- OP 1 erases the unit's record. -/
theorem execUsercalErase_erases (hl : p.length = 4) (hop : p.u32 16 = 1) :
    execUsercalErase p s = .next (((s.markApplied p).putCal p.target []).answer 0xC007 p .ok []) := by
  rw [execUsercalErase, packet_taken ht, checks_pass (by simp [hk, hl, hop])]
  rfl

/-- OP 2 stores a good record of the unit itself; only the microphones' applies at once. -/
theorem execUsercalWrite_stores (hl : p.length = 12) (hop : p.u32 16 = 2) (hm : s.busMaster 0 = true)
    (hok : calOk (s.hostRecord p) = true) (hkind : leNat ((s.hostRecord p).take 1) = calKind p.target)
    (hindex : leNat (((s.hostRecord p).drop 1).take 1) = p.target % 256) (hmic : calKind p.target ≠ 3) :
    execUsercalWrite p s = .next (((s.markApplied p).putCal p.target (s.hostRecord p)).tickFree.answer 0xC007 p .ok []) := by
  rw [State.hostRecord] at hok hkind hindex
  rw [execUsercalWrite, packet_taken ht]
  simp only [State.markApplied_frame, State.hostBytes_markApplied, State.busMaster_markApplied]
  rw [checks_pass (by simpa [hk, hl, hop, hm, hok, hkind] using hindex), checks_nil, if_neg hmic]
  rfl

end UserCal

/-! ### Recalibration while running (R625) -/

section Touch
variable {s : State} {p : Packet} (hc : p.target / 256 = 0x14) (hl : p.length = 12) (hz : p.fld 16 1 31 = 0)
  (hw : p.u16 24 = 0)
  (ht : s.takes opRecalTouch (decide (p.inst = 0) || (!p.flag 16 0 && s.ownsTouchRect p.inst (p.target % 256) 0 0
    (s.tp_ (p.target % 256)).cfg.width (s.tp_ (p.target % 256)).cfg.height)) p = true)
  (hlink : s.touch.d2dUp = true) (hsense : s.touch.senseUp = true)
include hc hl hz hw ht hlink hsense

/-- RECAL_TOUCH of a whole panel that scans takes its baselines anew. -/
theorem execRecalTouch_scanning (hs : (s.tp_ (p.target % 256)).state = .scanning) (hstore : p.flag 16 0 = false) :
    execRecalTouch p s = .next ((((s.markApplied p).recalPanel (p.target % 256)).recalDone p p.target 0
      (s.tp_ (p.target % 256)).cfg.nodes.length).answer 0xC008 p .ok []) := by
  simp only [execRecalTouch, hw, decide_true, if_true]
  rw [packet_taken ht, checks_pass (by simp [hc, hl, hz]), checks_pass (by simp [hlink, hsense]), checks_nil,
    if_neg (by simp [hs])]
  simp only [hstore, Bool.false_eq_true, if_false, Ans.close_done, opRecalTouch]

/-- On a panel that does not scan, the recalibration fails (log 121). -/
theorem execRecalTouch_notScanning (hs : (s.tp_ (p.target % 256)).state ≠ .scanning) :
    execRecalTouch p s = .next (((s.markApplied p).recalDone p p.target 2 0).answer 0xC008 p .ok []) := by
  simp only [execRecalTouch, hw, decide_true, if_true]
  rw [packet_taken ht, checks_pass (by simp [hc, hl, hz]), checks_pass (by simp [hlink, hsense]), checks_nil,
    if_pos (by simpa using hs)]
  rfl

end Touch

section Haptic
variable {s : State} {p : Packet} (ht : s.takes opRecalHaptic true p = true) (hc : p.target / 256 = 0x15)
  (hl : p.length = 4) (hz : p.fld 16 1 31 = 0) (hk : s.Checkable p)
include ht hc hl hz hk

/-- RECAL_HAPTIC of a checkable channel fails where the verdict is not good. -/
theorem execRecalHaptic_bad (hv : s.checkVerdict (p.target % 256) ≠ 0) :
    execRecalHaptic p s = .next ((((s.markApplied p).runCheck (p.target % 256) true).recalDone p p.target 2 0).answer 0xC009
      p .ok []) := by
  have hbad : decide ((s.markApplied p).checkVerdict (p.target % 256) = 0) = false := decide_eq_false hv
  rw [execRecalHaptic, packet_taken ht, State.checkGates_markApplied, checks_pass (by simp [hc, hl, hz]),
    checks_checkGates hk]
  simp only [hbad]
  rfl

/-- With a good verdict the characterisation takes effect; a packet that does not store changes no record. -/
theorem execRecalHaptic_good (hv : s.checkVerdict (p.target % 256) = 0) (hstore : p.flag 16 0 = false) :
    execRecalHaptic p s = .next ((((s.markApplied p).runCheck (p.target % 256) true).recalDone p p.target 0 0).answer 0xC009
      p .ok []) := by
  have hgood : decide ((s.markApplied p).checkVerdict (p.target % 256) = 0) = true := decide_eq_true hv
  rw [execRecalHaptic, packet_taken ht, State.checkGates_markApplied, checks_pass (by simp [hc, hl, hz]),
    checks_checkGates hk]
  simp only [hgood, hstore]
  rfl

end Haptic

/-- The channels that a RECAL_DRAM retrains: those of the device, or one. -/
def State.recalChannels (s : State) (p : Packet) : List Nat :=
  if p.target = hDevice then List.range s.board.member.channels else [p.target % 256]

/-- A channel's retrain converges (measured, log 35). -/
def State.converges (s : State) (c : Nat) : Bool := decide (Config.measure s.freeCtr (hChannel c) 10 % 2 = 0)

/-- RECAL_DRAM retrains its channels in turn, and fails where one does not converge. -/
theorem execRecalDram_retrains {s : State} {p : Packet} (ht : s.takes opRecalDram true p = true) (hl : p.length = 0)
    (hc : p.target = hDevice ∨ p.target / 256 = 0x06) :
    execRecalDram p s = .next ((((s.recalChannels p).foldl (fun t c => t.retrain c (s.converges c))
      (s.markApplied p).tickFree).recalDone p p.target (if (s.recalChannels p).all s.converges then 0 else 2) 0).answer
        0xC00A p .ok []) := by
  rw [execRecalDram, packet_taken ht, checks_pass (by simp [hc, hl])]
  rfl

/-- The trims after a RECAL_MIC: the reference keeps its own, the others match it within ±600 (measured, log 35). -/
def State.matchedTrims (s : State) (p : Packet) : Tab (0 : Int) :=
  (maskBits 8 (p.u8 16)).foldl (fun t k => t.set k (if k = p.fld 16 8 3 then s.audio.trims.get k
    else clampI (-600) 600 (signed 16 (Config.measure s.freeCtr hAudio (16 + k))))) s.audio.trims

/-- The state in which the trims of a RECAL_MIC apply. -/
def State.trimmed (s : State) (p : Packet) : State :=
  ((s.markApplied p).setAudio { (s.markApplied p).audio with trims := s.matchedTrims p }).tickFree

/-- A RECAL_MIC has its fields in range, and the microphones that it names are there (R625). -/
structure State.MicFormed (s : State) (p : Packet) : Prop where
  audio : p.target = hAudio
  length_eq : p.length = 4
  reserved : p.fld 16 17 15 = 0
  secs_ge : 1 ≤ p.fld 16 11 5
  secs_le : p.fld 16 11 5 ≤ 10
  reference : bitOf s.audio.mics (p.fld 16 8 3) = true
  named : ∀ k ∈ maskBits 8 (p.u8 16), bitOf s.audio.mics k = true

/-- With every actuator still, and the sense die and the boost there, RECAL_MIC passes its gates (R454, R625). -/
theorem checks_micGates {s : State} (hstill : ∀ i, i < s.board.member.haptics → (s.chan i).driving = false)
    (hlink : s.touch.d2dUp = true) (hv : (s.entry hBoost).fact ≠ 1) (k : Ans) : checks s.micGates k = k := by
  rw [State.micGates, checks_pass (by simpa using hstill), checks_pass (by simp [hlink, hv]), checks_nil]

/-- RECAL_MIC that does not store trims the microphones, and tells the first one's trim. -/
theorem execRecalMic_trims {s : State} {p : Packet} (ht : s.takes opRecalMic true p = true) (hp : s.MicFormed p)
    (hstore : p.flag 16 16 = false) (hgates : ∀ k, checks s.micGates k = k) :
    execRecalMic p s = .next (((s.trimmed p).recalDone p p.target 0 (match (maskBits 8 (p.u8 16)).head? with
      | some k => ofSigned 32 ((s.trimmed p).audio.trims.get k)
      | none => 0)).answer 0xC00B p .ok []) := by
  obtain ⟨ha, hl, hz, hmin, hmax, href, hnamed⟩ := hp
  have hall : (maskBits 8 (p.u8 16)).all (bitOf s.audio.mics) = true := by simpa using hnamed
  rw [execRecalMic, packet_taken ht, State.micGates_markApplied,
    checks_pass (by simp [ha, hl, hz, hmin, hmax, href, hall]), hgates]
  simp only [hstore]
  rfl

/-! ### What comes without a packet (R615, R620) -/

/-- An open Refill that hears nothing for 10 s is discarded. -/
theorem execRefillTimeout_open {s : State} {r : Refill} (hr : s.firmware.refill = some r) :
    execRefillTimeout s = .next (s.dropRefill r 3) := by
  rw [execRefillTimeout, hr]

section Deferred
variable {s : State} {unit part : Nat} (hc : s.firmware.parts.contains (unit, part) = true)
include hc

/-- A part that takes its image is not the last while one of its unit is left. -/
theorem execRefillDeferredTaken_more
    (hmore : (s.firmware.parts.erase (unit, part)).any (fun x => decide (x.1 = unit)) = true) :
    execRefillDeferredTaken unit part s =
      .next (s.setFirmware { s.firmware with parts := s.firmware.parts.erase (unit, part) }) := by
  simp only [execRefillDeferredTaken, hc, hmore]
  rfl

/-- After the last part the unit runs the image, and the manager is told. -/
theorem execRefillDeferredTaken_last
    (hlast : (s.firmware.parts.erase (unit, part)).any (fun x => decide (x.1 = unit)) = false) {v : Nat}
    (hv : v = (s.firmware.deferred.get unit).getD 0) {t : State}
    (ht : t = (s.setFirmware { s.firmware with parts := s.firmware.parts.erase (unit, part) }).runs unit v) :
    execRefillDeferredTaken unit part s = .next ((t.setFirmware { t.firmware with
      deferred := s.firmware.deferred.set unit none }).refillState unit 4 v false false true) := by
  subst hv ht
  simp only [execRefillDeferredTaken, hc, hlast]
  rfl

end Deferred

/-- Settles O57: each clause is one of the rules above. -/
theorem refillAndCalibrationComplete : Obligations.RefillAndCalibrationComplete := by
  intro s
  refine ⟨?packets, fun r => execRefillTimeout_open, ?deferred⟩
  case packets =>
    rintro p _ rfl
    refine ⟨fun hd => ⟨?opens, ?fills, ?commits, execRefillAbort_committing hd, ?aborts, ?selects, execCalRead_fitted hd⟩,
      fun ht hk => ⟨execUsercalStore_stores ht hk, execUsercalErase_erases ht hk, ?writes⟩, ?touch, ?haptic, ?dram, ?mic⟩
    case opens =>
      intro ht hl hz hmin hmax hplace hlen
      exact execRefillBegin_free hd ht ⟨hl, hz, hmin, hmax, hplace, hlen⟩
    case fills =>
      rintro r _ ht hr rfl
      exact execRefillData_inOrder hd ht hr
    case commits =>
      rintro r _ _ ht hr hl hz hfilled rfl hs hheader hbody hhash hformats rfl
      exact execRefillCommit_committable hd ht hr hl hz hs ⟨hfilled, hheader, hbody, hhash, hformats⟩
    case aborts =>
      intro ht hl hc
      exact ⟨fun r => execRefillAbort_open hd ht hl hc, execRefillAbort_none hd ht hl hc⟩
    case selects =>
      rintro _ _ _ ht rfl rfl rfl
      exact execSlotSelect_good hd ht
    case writes =>
      rintro _ hl hop hm rfl
      exact execUsercalWrite_stores ht hk hl hop hm
    case touch =>
      rintro _ _ rfl rfl hc hl hz hw ht hlink hsense
      exact ⟨execRecalTouch_scanning hc hl hz hw ht hlink hsense,
        execRecalTouch_notScanning hc hl hz hw ht hlink hsense⟩
    case haptic =>
      rintro _ rfl ht hc hl hz hb hdrive hlink hv
      have hk : s.Checkable p := ⟨hb, hdrive, hlink, hv⟩
      exact ⟨execRecalHaptic_bad ht hc hl hz hk, execRecalHaptic_good ht hc hl hz hk⟩
    case dram =>
      rintro _ _ ht hl hc rfl rfl
      exact execRecalDram_retrains ht hl hc
    case mic =>
      rintro _ _ _ ht ha hl hz rfl hmin hmax href hstore hnamed hstill hlink hv rfl rfl
      exact execRecalMic_trims ht ⟨ha, hl, hz, hmin, hmax, href, hnamed⟩ hstore (checks_micGates hstill hlink hv)
  case deferred =>
    rintro unit part _ hc rfl
    exact ⟨execRefillDeferredTaken_more hc, fun v t hlast hv => execRefillDeferredTaken_last hc hlast hv⟩

end Sys2Proof.Machine
end

section
/-!
PROOFS. What a host port does to its functions (resets, fences, PERST_N, the link, configuration writes: 02 R46, R47, R81
to R85), and how a boot runs, waits, halts and starts again (23 R629 to R637).
-/

namespace Sys2Proof.Machine

open Sys2Proof

/-! ### Functions of a port (R46, R47, R81 to R85, R637) -/

/-- What a served configuration write makes of a function (R46, R47, R637); a read changes nothing. -/
def State.configured (s : State) (port fn value : Nat) : CfgField → State
  | .read => s
  | .busMaster =>
    if bitOf value 0 then s.updFn (fnKey port fn) (fun f => { f with busMaster := true })
    else s.clearBusMaster (fnKey port fn)
  | .memorySpace => s.updFn (fnKey port fn) (fun f => { f with memorySpace := bitOf value 0 })
  | .vfEnable => if fn = 0 then s.setVfs port (bitOf value 0) (s.ports.get port).numVfs else s
  | .numVfs => if fn = 0 then s.setVfs port (s.ports.get port).vfEnable value else s
  | .completionTimeout => s.updFn (fnKey port fn) (fun f => { f with cplTimeout := value % 32 })
  | .msixEnable => (s.updFn (fnKey port fn) (fun f => { f with msixEnable := bitOf value 0 })).flushPba (fnKey port fn)
  | .functionMask => (s.updFn (fnKey port fn) (fun f => { f with fnMask := bitOf value 0 })).flushPba (fnKey port fn)

section Port
variable {s : State} {port : Nat} (hp : s.present (hPort port) = true)
include hp

section Function
variable {fn : Nat} (he : s.fnExists port fn = true)
include he

/-- A reset fences the function and resets its configuration space; that of a PF also takes its VFs away (R81, R83). -/
theorem execFunctionLevelReset_existing : execFunctionLevelReset port fn s = .next
    (if fn = 0 then ((s.fenceFn (fnKey port fn) 2).pcieReset (fnKey port fn)).setVfs port false 0
      else (s.fenceFn (fnKey port fn) 2).pcieReset (fnKey port fn)) := by
  rw [execFunctionLevelReset, onPort_present hp, if_neg (by simp [he])]

/-- Bus Master Enable that was set clears behind a fence (R81). -/
theorem execBusMasterEnableCleared_set (hb : (s.fn (fnKey port fn)).busMaster = true) :
    execBusMasterEnableCleared port fn s = .next
      ((s.fenceFn (fnKey port fn) 3).updFn (fnKey port fn) (fun f => { f with busMaster := false })) := by
  rw [execBusMasterEnableCleared, onPort_present hp, if_pos he, State.clearBusMaster, if_pos hb]

/-- From STAGE 4 on configuration space is served (R637). -/
theorem execConfigRequest_served (hs : 4 ≤ s.boot.stage) (field : CfgField) (value : Nat) :
    execConfigRequest port fn field value s = .next (s.configured port fn value field) := by
  have hserved : ¬ (decide (s.boot.stage < 4) || !s.fnExists port fn) = true := by simp [he, hs]
  simp only [execConfigRequest, onPort_present hp, if_neg hserved]
  cases field <;> rfl

end Function

/-! ### PERST_N and the link (R85, R543, R636) -/

/-- A training port whose PERST_N is high comes up. -/
theorem execHostLinkUp_training (ht : (s.ports.get port).training = true) (hn : (s.ports.get port).perst = false) :
    execHostLinkUp port s = .next (s.setPorts (s.ports.set port { s.ports.get port with
      training := false
      linkUp := true
      fcDone := true })) := by
  rw [execHostLinkUp, onPort_present hp, if_pos (by simp [ht, hn])]

end Port

/-! ### The boot (R629 to R637) -/

section Boot
variable {s : State}

/-- A boot that stands in STAGE 4 goes on to its end (log 123). -/
theorem execBoot_inStage4 (hs : s.boot.stage = 4) (healthy : Nat) (mismatch : Option Nat) (pause : Bool) :
    execBoot healthy mismatch pause s = .next s.bootLedger := by
  rw [execBoot, if_pos hs]

/-- A supply sag before the device is ready sheds the load and starts the boot again from step 1 (R635). -/
theorem execSupplySagAtBoot_booting (hs : s.boot.stage ≤ 1 ∨ s.boot.stage = 4) :
    execSupplySagAtBoot s = .next ((s.shedLoad.setPower { s.shedLoad.power with
      sag := { s.shedLoad.power.sag with sagMark := true }
      wake := { s.shedLoad.power.wake with
        vreg := false
        osc := false
        memRdy := false
        logic := false } }).bootAt 0 0) := by
  have hbooting : ¬ (decide (1 < s.boot.stage) && decide (s.boot.stage ≠ 4)) = true := by
    simp only [Bool.and_eq_true, decide_eq_true_eq]
    omega
  rw [execSupplySagAtBoot, if_neg hbooting]

/-- A device that may boot has not come past step 2. -/
theorem State.stage_le_one_of_mayBoot (hb : s.mayBoot = true) : s.boot.stage ≤ 1 := by
  rw [State.mayBoot, Bool.and_eq_true, decide_eq_true_eq] at hb
  exact hb.2

variable (hb : s.mayBoot = true)
include hb

section Straps
variable {healthy : Nat}

/-- With a healthy reference the boot runs its steps, to STAGE 4 or to its end (R631). -/
theorem execBoot_withReference {u : State} (hr : (s.bootStraps healthy).bootReference = some u)
    (mismatch : Option Nat) (pause : Bool) :
    execBoot healthy mismatch pause s = .next
      (if pause then u.bootCupper.bootOn mismatch else (u.bootCupper.bootOn mismatch).bootFinish) := by
  have hstage := State.stage_le_one_of_mayBoot hb
  rw [execBoot, if_neg (by omega), if_neg (by simp [hb])]
  simp only [hr]

/-- Without one it waits at step 2 (R632). -/
theorem execBoot_withoutReference (hr : (s.bootStraps healthy).bootReference = none) (mismatch : Option Nat)
    (pause : Bool) : execBoot healthy mismatch pause s = .next ((s.bootStraps healthy).bootAt 1 0) := by
  have hstage := State.stage_le_one_of_mayBoot hb
  rw [execBoot, if_neg (by omega), if_neg (by simp [hb])]
  simp only [hr]

/-- A flash that does not answer halts the boot at step 3, with its reference or in degraded mode (R632, R633). -/
theorem execFlashSfdpTimeout_halts (hs : s.boot.stage = 0) : execFlashSfdpTimeout healthy s = .next
    (((s.bootStraps healthy).bootReference.getD (s.bootStraps healthy).bootDegraded).bootAt 15 5) := by
  rw [execFlashSfdpTimeout, if_neg (by simp [hb]), if_neg (by simp [hs])]
  dsimp only
  cases (s.bootStraps healthy).bootReference <;> rfl

end Straps

/-- A boot that still waits for a reference goes on in degraded mode (R632). -/
theorem execBootNoReference_waiting (hs : s.boot.stage = 1) (hr : s.refOrder.find? s.refOk = none)
    (mismatch : Option Nat) :
    execBootNoReference mismatch s = .next (s.bootDegraded.bootCupper.bootOn mismatch).bootFinish := by
  rw [execBootNoReference, if_neg (by simp [hb, hs, hr])]

end Boot

/-- Settles O59: each clause is one of the rules above; VF_ENABLE_CLEARED, PERST_N and the loss of a link have no
condition but the port. -/
theorem portsAndBootComplete : Obligations.PortsAndBootComplete := by
  intro s
  refine ⟨?port, fun healthy mismatch pause hs => execBoot_inStage4 hs healthy mismatch pause, ?boot, ?sag⟩
  case port =>
    intro port hp
    refine ⟨?function, fun _ _ => onPort_present hp, ?perst, onPort_present hp, execHostLinkUp_training hp,
      onPort_present hp⟩
    case function =>
      rintro fn _ he rfl
      have reset := execFunctionLevelReset_existing hp he
      refine ⟨fun hvf => ?vf, fun hpf => ?pf, execBusMasterEnableCleared_set hp he, ?config⟩
      case vf => rwa [if_neg hvf] at reset
      case pf => rwa [if_pos hpf] at reset
      case config =>
        rintro hs v _ rfl
        have served := fun field => execConfigRequest_served hp he hs field v
        exact ⟨served .read, fun hon => (served .busMaster).trans (congrArg _ (if_pos hon)), served .memorySpace,
          fun hpf => (served .numVfs).trans (congrArg _ (if_pos hpf)), served .completionTimeout, served .msixEnable,
          served .functionMask⟩
    case perst =>
      rintro _ rfl
      exact onPort_present hp
  case boot =>
    intro hb
    refine ⟨?run, fun mismatch hs hr => execBootNoReference_waiting hb hs hr mismatch, ?flash⟩
    case run =>
      rintro healthy mismatch _ rfl
      exact ⟨fun u hr => ⟨execBoot_withReference hb hr mismatch true, execBoot_withReference hb hr mismatch false⟩,
        fun pause hr => execBoot_withoutReference hb hr mismatch pause⟩
    case flash =>
      rintro healthy _ hs rfl
      have halts := execFlashSfdpTimeout_halts (healthy := healthy) hb hs
      refine ⟨fun u hr => ?withReference, fun hr => ?withoutReference⟩
      case withReference => rwa [hr, Option.getD_some] at halts
      case withoutReference => rwa [hr, Option.getD_none] at halts
  case sag =>
    rintro _ hs rfl
    exact execSupplySagAtBoot_booting hs

end Sys2Proof.Machine
end

section
/-!
PROOFS. Packets as bytes: little-endian numbers and words read back, and so do a packet's header, its payload and its trailer
(03 R105, R107, R125).
-/

namespace Sys2Proof

/-! ### Little-endian numbers and words -/

@[simp] theorem length_leBytes (k n : Nat) : (leBytes k n).length = k := by
  induction k generalizing n with
  | zero => rfl
  | succ k ih => simp [leBytes, ih]

/-- A number that fits in `k` bytes reads back from them. -/
theorem leNat_leBytes {k n : Nat} (hn : n < 256 ^ k) : leNat (leBytes k n) = n := by
  induction k generalizing n with
  | zero => simpa [leBytes, leNat, eq_comm] using hn
  | succ k ih =>
    have hrest : n / 256 < 256 ^ k := by rwa [Nat.div_lt_iff_lt_mul (by decide), ← Nat.pow_succ]
    have hbyte : (BitVec.ofNat 8 n).toNat = n % 256 := BitVec.toNat_ofNat n 8
    rw [leBytes, leNat, ih hrest, hbyte]
    omega

@[simp] theorem length_wordBytes (ws : List W32) : (wordBytes ws).length = 4 * ws.length := by
  induction ws with
  | nil => rfl
  | cons w ws ih => simp [wordBytes, ih]; omega

/-- Words read back from their bytes. -/
@[simp] theorem bytesWords_wordBytes (ws : List W32) : bytesWords (wordBytes ws) = ws := by
  induction ws with
  | nil => rfl
  | cons w ws ih =>
    have hword : leNat (leBytes 4 w.toNat) = w.toNat := leNat_leBytes w.isLt
    change w32 (leNat (leBytes 4 w.toNat)) :: bytesWords (wordBytes ws) = w :: ws
    rw [hword, ih, w32, BitVec.ofNat_toNat, BitVec.setWidth_eq]

namespace Machine

/-! ### Headers and packets -/

/-- The fields of a header fit in their places (R105). -/
structure Header.Fits (h : Header) : Prop where
  opcode : h.opcode < 256 ^ 2
  flags : h.flags < 256 ^ 1
  hdrver : h.hdrver < 16
  prio : h.prio < 16
  seq : h.seq < 256 ^ 4
  length : h.length < 256 ^ 2
  target : h.target < 256 ^ 2
  basegen : h.basegen < 256 ^ 4

@[simp] theorem length_headerBytes (h : Header) : (headerBytes h).length = 16 := by simp [headerBytes]

/-- A header whose fields fit reads back from its bytes, whatever follows them. -/
theorem parseHeader_headerBytes {h : Header} (hf : h.Fits) (rest : List Byte) :
    parseHeader (headerBytes h ++ rest) = h := by
  obtain ⟨hopcode, hflags, hhdrver, hprio, hseq, hlength, htarget, hbasegen⟩ := hf
  have hnibbles : h.hdrver % 16 + 16 * h.prio < 256 ^ 1 := by omega
  have hfields : parseHeader (headerBytes h ++ rest) =
      { opcode := leNat (leBytes 2 h.opcode), flags := leNat (leBytes 1 h.flags)
        hdrver := leNat (leBytes 1 (h.hdrver % 16 + 16 * h.prio)) % 16
        prio := leNat (leBytes 1 (h.hdrver % 16 + 16 * h.prio)) / 16
        seq := leNat (leBytes 4 h.seq), length := leNat (leBytes 2 h.length), target := leNat (leBytes 2 h.target)
        basegen := leNat (leBytes 4 h.basegen) } := rfl
  rw [hfields, leNat_leBytes hopcode, leNat_leBytes hflags, leNat_leBytes hnibbles, leNat_leBytes hseq,
    leNat_leBytes hlength, leNat_leBytes htarget, leNat_leBytes hbasegen]
  have hver : (h.hdrver % 16 + 16 * h.prio) % 16 = h.hdrver := by omega
  have hpri : (h.hdrver % 16 + 16 * h.prio) / 16 = h.prio := by omega
  rw [hver, hpri]

section Packet
variable {h : Header} {payload : List W32} (hl : h.length = 4 * payload.length)
include hl

/-- The bytes before the trailer. -/
theorem take_packetBytes : (packetBytes h payload).take (16 + h.length) = headerBytes h ++ wordBytes payload :=
  List.take_left' (by simp [hl])

/-- The trailer. -/
theorem drop_packetBytes : (packetBytes h payload).drop (16 + h.length) =
    leBytes 4 (crc32c (headerBytes h ++ wordBytes payload)).toNat :=
  List.drop_left' (by simp [hl])

/-- The payload lies between the header and the trailer. -/
theorem payload_packetBytes : ((packetBytes h payload).drop 16).take h.length = wordBytes payload := by
  rw [packetBytes, List.append_assoc, List.drop_left' (length_headerBytes h), List.take_left' (by simp [hl])]

/-- A packet takes 20 bytes and its payload. -/
theorem length_packetBytes : (packetBytes h payload).length = 20 + h.length := by
  simp [packetBytes, hl]
  omega

/-- The trailer that the writer computes passes step 2. -/
theorem trailerOk_packetBytes : trailerOk h (packetBytes h payload) = true := by
  rw [trailerOk, take_packetBytes hl, drop_packetBytes hl, List.take_of_length_le (by simp), leNat_leBytes (BitVec.isLt _)]
  exact decide_eq_true rfl

end Packet

/-- Settles O3: header, trailer and payload lie one after the other in the bytes. -/
theorem packetBytesReadBack : Obligations.PacketBytesReadBack := by
  intro h payload n src hopcode hflags hhdrver hprio hseq hl hmax htarget hbasegen
  have hread : parseHeader (packetBytes h payload) = h := by
    rw [packetBytes, List.append_assoc]
    exact parseHeader_headerBytes ⟨hopcode, hflags, by omega, hprio, hseq, by omega, htarget, hbasegen⟩ _
  refine ⟨hread, ?frame, length_packetBytes hl, trailerOk_packetBytes hl, ?packet⟩
  case frame =>
    have hwords : h.length % 4 = 0 := by omega
    simp [Header.frameOk, hhdrver, hmax, hwords]
  case packet => rw [hread, toPacket, payload_packetBytes hl, bytesWords_wordBytes]

end Machine

end Sys2Proof
end

section
/-!
PROOFS. What holds of every step: it takes the front command, it goes on, and it keeps the invariant, which holds at reset
(00 R2; 01 R20; 21 R588, R589).
-/

namespace Sys2Proof.Machine

open Sys2Proof

/-- Settles O1: the step reads the queue, and nothing else, to choose what it runs. -/
theorem stepRunsFrontCommand : Obligations.StepRunsFrontCommand := by
  intro c cs s hq
  rw [step, hq]

/-! ### Every row goes on (00 R2) -/

/-- A row that answers a next state goes on. -/
theorem goesOn_next {s t : State} : s.goesOn (.next t) := .inl ⟨t, rfl⟩

/-- A branch goes on where both sides do. -/
theorem goesOn_ite {s : State} {c : Prop} [Decidable c] {a b : Host.Outcome State Fault Refusal} (ha : s.goesOn a)
    (hb : s.goesOn b) : s.goesOn (if c then a else b) := by
  split
  · exact ha
  · exact hb

/-- REPLY_WRITE names a port on its ring path alone. -/
theorem execReplyWrite_goesOn (path : Path) (s : State) : s.goesOn (execReplyWrite path s) := by
  cases path with
  | fn port f => exact onUnit_goesOn _ _ _
  | mgmt =>
    rw [execReplyWrite]
    split <;> exact goesOn_next

/-- EVENT_WRITE stops only for the port that it names. -/
theorem execEventWrite_goesOn (port fn : Nat) (s : State) : s.goesOn (execEventWrite port fn s) := by
  unfold execEventWrite
  split
  · exact .inr ⟨hPort port, by simp_all, rfl⟩
  · dsimp only
    split
    · exact goesOn_next
    · split <;> exact goesOn_next

/-- Every row goes on: one on a unit stops only where the member lacks the unit; one that looks at the state first goes on in
each of its branches; every other one, a packet among them, answers a next state outright. -/
theorem exec_goesOn (c : Instr) (s : State) : s.goesOn (exec c s) := by
  cases c with
  | replyWrite path => exact execReplyWrite_goesOn path s
  | eventWrite port fn => exact execEventWrite_goesOn port fn s
  | sqTailDoorbell | sqResume | ringSizeWrite | ringHeadWrite | devTimeLowRead | bar0BadAccess | registerWrite
  | hostBar2Access | hostBar4Access | hostAtomicop | packetAccept | functionLevelReset | busMasterEnableCleared
  | vfEnableCleared | perstNAsserted | perstNDeasserted | hostLinkUp | hostLinkDown | configRequest | quiesceDrained
  | freezeSaved | resetScrubbed | autoreset | drainBoundExpiry | wedgedEngineFree | ledgerFact | ledgerFactCleared
  | settled | loopConstrained | neighbourRefresh | requestPromoted | dramRetrain | dramEccError | copyDescriptorDone
  | hostCompletionError | hostCompletionTimeout | gateRequest | preemptRequest | clusterFree | workgroupTimeLimit
  | clusterOffline | frameStart | latchLine | bandWindowOpen | bandScanoutEnd | scanoutUnderrun | lineMatch
  | frameDone | vblankStart | quietWindow | pixelPllLocked | pixHeld | pixRelockAttempt | pixOfflineRetry
  | pixUnlockAtStop | regionMonFrame | regionMonMissing | hpdLow | hpdIrq | hpdRise | linkTrainingDone | trainRetry
  | panelSequenceStep | d2dFrame | d2dLinkLost | d2dLinkRetry | d2dLinkUp | touchPanelStart | touchBurst | touchFrame
  | touchLong | touchAbsorbed | gloveModeExit | wetExit | steepWakeScan | effectStart | effectDone | boostReady
  | boostOff | hvFault | hvRetry | forceSample | sunLoopStep | colourGuardStep | refreshDerating | pllHoldover
  | refclkHealthy | refSwitchBack | pllUnlock | pllRelockAttempt | hostWake =>
    exact onUnit_goesOn _ _ _
  | evtMaskWrite | eicClaim | eicComplete | mailboxFullSet | gatewayCall | gatewayReturn | gatewayTimeout
  | spadEccUncorr | copyPacketStart | writeWindowClosed | shaderCompileDone | compileAbandoned | submitStart
  | hopperFault | hopperGrantWaitExpiry | hopperFlushed | binTileDone | submitComplete | bandCompose | scanoutRelease
  | toneEnd | secureWdogKick | secureWdog | cupperSramUncorr | cupperRestart | jtagAccess | eicEnableWrite
  | eicRouteWrite =>
    simp only [exec, execEvtMaskWrite, execEicClaim, execEicComplete, execMailboxFullSet, execGatewayCall, execGatewayReturn,
      execGatewayTimeout, execSpadEccUncorr, execCopyPacketStart, execWriteWindowClosed, execShaderCompileDone,
      execCompileAbandoned, execSubmitStart, execHopperFault, execHopperGrantWaitExpiry, execHopperFlushed, execBinTileDone,
      execSubmitComplete, execBandCompose, execScanoutRelease, execToneEnd, execSecureWdogKick, execSecureWdog,
      execCupperSramUncorr, execCupperRestart, execJtagAccess, execEicEnableWrite, execEicRouteWrite]
    repeat' first
      | exact goesOn_next
      | apply goesOn_ite
      | split
  | _ => exact goesOn_next

/-- Settles O2: an idle step goes on, and so does every row. -/
theorem everyStepGoesOn : Obligations.EveryStepGoesOn := by
  intro s
  unfold step
  split
  · exact goesOn_next
  · exact exec_goesOn _ _

/-! ### Every step keeps the invariant -/

/-- Every row keeps the invariant. -/
theorem exec_inv : ∀ (c : Instr) (s : State), s.Inv → outInv (exec c s) := by
  intro c s h
  exact match c with
  | .nop p => execNop_inv p s h
  | .deviceCaps p => execDeviceCaps_inv p s h
  | .ledgerRead p => execLedgerRead_inv p s h
  | .eventFetch p => execEventFetch_inv p s h
  | .loopSetBounds p => execLoopSetBounds_inv p s h
  | .loopSetPinPresent p => execLoopSetPinPresent_inv p s h
  | .loopSetPinValue p => execLoopSetPinValue_inv p s h
  | .loopSetUnpin p => execLoopSetUnpin_inv p s h
  | .portConfig p => execPortConfig_inv p s h
  | .deviceReset p => execDeviceReset_inv p s h
  | .instCreate p => execInstCreate_inv p s h
  | .instBind p => execInstBind_inv p s h
  | .instQuotaSet p => execInstQuotaSet_inv p s h
  | .instQuiesce p => execInstQuiesce_inv p s h
  | .instReset p => execInstReset_inv p s h
  | .instFreeze p => execInstFreeze_inv p s h
  | .instSave p => execInstSave_inv p s h
  | .instRestore p => execInstRestore_inv p s h
  | .instThaw p => execInstThaw_inv p s h
  | .instDestroy p => execInstDestroy_inv p s h
  | .memMap p => execMemMap_inv p s h
  | .memUnmap p => execMemUnmap_inv p s h
  | .copy p => execCopy_inv p s h
  | .memConfigRegions p => execMemConfigRegions_inv p s h
  | .memConfigNeighbourRefresh p => execMemConfigNeighbourRefresh_inv p s h
  | .memConfigScheduler p => execMemConfigScheduler_inv p s h
  | .memConfigClassWays p => execMemConfigClassWays_inv p s h
  | .surfaceCreate p => execSurfaceCreate_inv p s h
  | .surfaceDestroy p => execSurfaceDestroy_inv p s h
  | .writeBegin p => execWriteBegin_inv p s h
  | .writeEnd p => execWriteEnd_inv p s h
  | .seal p => execSeal_inv p s h
  | .retireFence p => execRetireFence_inv p s h
  | .shaderLoad p => execShaderLoad_inv p s h
  | .pipelineCreate p => execPipelineCreate_inv p s h
  | .pipelineDestroy p => execPipelineDestroy_inv p s h
  | .queueConfigDepth p => execQueueConfigDepth_inv p s h
  | .queueConfigCache p => execQueueConfigCache_inv p s h
  | .queueConfigEvict p => execQueueConfigEvict_inv p s h
  | .queueConfigLimits p => execQueueConfigLimits_inv p s h
  | .submit p => execSubmit_inv p s h
  | .hopperGrant p => execHopperGrant_inv p s h
  | .layerSet p => execLayerSet_inv p s h
  | .layerRelease p => execLayerRelease_inv p s h
  | .commit p => execCommit_inv p s h
  | .motionHint p => execMotionHint_inv p s h
  | .coefLoad p => execCoefLoad_inv p s h
  | .zfloorSet p => execZfloorSet_inv p s h
  | .toneSet p => execToneSet_inv p s h
  | .panelLutSet p => execPanelLutSet_inv p s h
  | .pipeTiming p => execPipeTiming_inv p s h
  | .pipeTimingLeadOnly p => execPipeTimingLeadOnly_inv p s h
  | .pipeEnable p => execPipeEnable_inv p s h
  | .lineMatchSet p => execLineMatchSet_inv p s h
  | .regionMonSet p => execRegionMonSet_inv p s h
  | .linkConfig p => execLinkConfig_inv p s h
  | .routeSet p => execRouteSet_inv p s h
  | .dscAssign p => execDscAssign_inv p s h
  | .panelPowerOff p => execPanelPowerOff_inv p s h
  | .panelPowerOn p => execPanelPowerOn_inv p s h
  | .panelPowerConfigure p => execPanelPowerConfigure_inv p s h
  | .backlightSet p => execBacklightSet_inv p s h
  | .streamSet p => execStreamSet_inv p s h
  | .touchPanelConfig p => execTouchPanelConfig_inv p s h
  | .touchMode p => execTouchMode_inv p s h
  | .touchReportSetup p => execTouchReportSetup_inv p s h
  | .touchReportReturn p => execTouchReportReturn_inv p s h
  | .touchSelftest p => execTouchSelftest_inv p s h
  | .wakeZoneSet p => execWakeZoneSet_inv p s h
  | .effectLoad p => execEffectLoad_inv p s h
  | .effectPlay p => execEffectPlay_inv p s h
  | .effectStop p => execEffectStop_inv p s h
  | .clickRegionSet p => execClickRegionSet_inv p s h
  | .actuatorCheck p => execActuatorCheck_inv p s h
  | .actuatorCharacterise p => execActuatorCharacterise_inv p s h
  | .actuatorConfigure p => execActuatorConfigure_inv p s h
  | .streamOpen p => execStreamOpen_inv p s h
  | .streamBuffers p => execStreamBuffers_inv p s h
  | .streamClose p => execStreamClose_inv p s h
  | .gainSet p => execGainSet_inv p s h
  | .mixRouteInput p => execMixRouteInput_inv p s h
  | .mixRouteDest p => execMixRouteDest_inv p s h
  | .tdmConfigPort p => execTdmConfigPort_inv p s h
  | .tdmConfigMixer p => execTdmConfigMixer_inv p s h
  | .tdmConfigPdm p => execTdmConfigPdm_inv p s h
  | .lowlatSet p => execLowlatSet_inv p s h
  | .alarmSourceSet p => execAlarmSourceSet_inv p s h
  | .tonePlay p => execTonePlay_inv p s h
  | .toneStop p => execToneStop_inv p s h
  | .powerState p => execPowerState_inv p s h
  | .powerStatePipe p => execPowerStatePipe_inv p s h
  | .keepAwake p => execKeepAwake_inv p s h
  | .powerConfig p => execPowerConfig_inv p s h
  | .powerConfigRelease p => execPowerConfigRelease_inv p s h
  | .telemetryRead p => execTelemetryRead_inv p s h
  | .errorRead p => execErrorRead_inv p s h
  | .beanRead p => execBeanRead_inv p s h
  | .beanAudit p => execBeanAudit_inv p s h
  | .factSweep p => execFactSweep_inv p s h
  | .inject p => execInject_inv p s h
  | .status p => execStatus_inv p s h
  | .random p => execRandom_inv p s h
  | .attest p => execAttest_inv p s h
  | .fallbackSet p => execFallbackSet_inv p s h
  | .layerEscalate p => execLayerEscalate_inv p s h
  | .pipeEscalate p => execPipeEscalate_inv p s h
  | .tonePattern p => execTonePattern_inv p s h
  | .alarmTest p => execAlarmTest_inv p s h
  | .migrationKeyInstall p => execMigrationKeyInstall_inv p s h
  | .migrationKeyErase p => execMigrationKeyErase_inv p s h
  | .debugChallenge p => execDebugChallenge_inv p s h
  | .debugResponse p => execDebugResponse_inv p s h
  | .refillBegin p => execRefillBegin_inv p s h
  | .refillData p => execRefillData_inv p s h
  | .refillCommit p => execRefillCommit_inv p s h
  | .refillAbort p => execRefillAbort_inv p s h
  | .slotSelect p => execSlotSelect_inv p s h
  | .calRead p => execCalRead_inv p s h
  | .usercalStore p => execUsercalStore_inv p s h
  | .usercalErase p => execUsercalErase_inv p s h
  | .usercalWrite p => execUsercalWrite_inv p s h
  | .recalTouch p => execRecalTouch_inv p s h
  | .recalHaptic p => execRecalHaptic_inv p s h
  | .recalDram p => execRecalDram_inv p s h
  | .recalMic p => execRecalMic_inv p s h
  | .sqTailDoorbell port fn ring tail => execSqTailDoorbell_inv port fn ring tail s h
  | .sqResume port fn ring => execSqResume_inv port fn ring s h
  | .ringSizeWrite port fn ring value => execRingSizeWrite_inv port fn ring value s h
  | .ringHeadWrite port fn event value => execRingHeadWrite_inv port fn event value s h
  | .evtMaskWrite port fn k value => execEvtMaskWrite_inv port fn k value s h
  | .devTimeLowRead port fn => execDevTimeLowRead_inv port fn s h
  | .bar0BadAccess port fn write => execBar0BadAccess_inv port fn write s h
  | .registerWrite port fn offset value => execRegisterWrite_inv port fn offset value s h
  | .hostBar2Access port fn addr acc => execHostBar2Access_inv port fn addr acc s h
  | .hostBar4Access port fn addr acc => execHostBar4Access_inv port fn addr acc s h
  | .hostAtomicop port fn bar addr op wide operand => execHostAtomicop_inv port fn bar addr op wide operand s h
  | .eicSourceEdge source => execEicSourceEdge_inv source s h
  | .eicClaim target => execEicClaim_inv target s h
  | .eicComplete target id => execEicComplete_inv target id s h
  | .eicPendWithdraw target source => execEicPendWithdraw_inv target source s h
  | .mailboxFullSet toCupper slot data => execMailboxFullSet_inv toCupper slot data s h
  | .gatewayCall core slot entry inst data cause opcode => execGatewayCall_inv core slot entry inst data cause opcode s h
  | .gatewayReturn slot data => execGatewayReturn_inv slot data s h
  | .gatewayTimeout slot => execGatewayTimeout_inv slot s h
  | .packetAccept port fn ring bytes => execPacketAccept_inv port fn ring bytes s h
  | .replyWrite path => execReplyWrite_inv path s h
  | .eventWrite port fn => execEventWrite_inv port fn s h
  | .smbusTransaction bytes => execSmbusTransaction_inv bytes s h
  | .mctpIbnovMessage tag integrity bytes => execMctpIbnovMessage_inv tag integrity bytes s h
  | .basicRegisterRead reg len => execBasicRegisterRead_inv reg len s h
  | .basicRegisterWrite reg data => execBasicRegisterWrite_inv reg data s h
  | .recoveryStart unit => execRecoveryStart_inv unit s h
  | .recoveryData data => execRecoveryData_inv data s h
  | .recoveryCommit => execRecoveryCommit_inv s h
  | .setEndpointId op eid => execSetEndpointId_inv op eid s h
  | .getEndpointId => execGetEndpointId_inv s h
  | .getEndpointUuid => execGetEndpointUuid_inv s h
  | .getMctpVersionSupport msgType => execGetMctpVersionSupport_inv msgType s h
  | .getMessageTypeSupport => execGetMessageTypeSupport_inv s h
  | .getVendorDefinedMessageSupport selector => execGetVendorDefinedMessageSupport_inv selector s h
  | .errorUnsupportedCmd command => execErrorUnsupportedCmd_inv command s h
  | .mctpMessageTimeout tag => execMctpMessageTimeout_inv tag s h
  | .functionLevelReset port fn => execFunctionLevelReset_inv port fn s h
  | .busMasterEnableCleared port fn => execBusMasterEnableCleared_inv port fn s h
  | .vfEnableCleared port enable numVfs => execVfEnableCleared_inv port enable numVfs s h
  | .perstNAsserted port => execPerstNAsserted_inv port s h
  | .perstNDeasserted port => execPerstNDeasserted_inv port s h
  | .hostLinkUp port => execHostLinkUp_inv port s h
  | .hostLinkDown port => execHostLinkDown_inv port s h
  | .configRequest port fn field value => execConfigRequest_inv port fn field value s h
  | .quiesceDrained inst => execQuiesceDrained_inv inst s h
  | .freezeSaved inst => execFreezeSaved_inv inst s h
  | .resetScrubbed inst => execResetScrubbed_inv inst s h
  | .autoreset inst => execAutoreset_inv inst s h
  | .drainBoundExpiry inst undrained => execDrainBoundExpiry_inv inst undrained s h
  | .wedgedEngineFree unit => execWedgedEngineFree_inv unit s h
  | .ledgerFact unit fact => execLedgerFact_inv unit fact s h
  | .ledgerFactCleared unit => execLedgerFactCleared_inv unit s h
  | .settled unit => execSettled_inv unit s h
  | .ledgerResync facts => execLedgerResync_inv facts s h
  | .loopConstrained unit loop => execLoopConstrained_inv unit loop s h
  | .beanSweep mismatched => execBeanSweep_inv mismatched s h
  | .neighbourRefresh channel bank row => execNeighbourRefresh_inv channel bank row s h
  | .neighbourReseed => execNeighbourReseed_inv s h
  | .requestPromoted channel request => execRequestPromoted_inv channel request s h
  | .dramRetrain channel converged => execDramRetrain_inv channel converged s h
  | .dramEccError channel double region inst iaddr => execDramEccError_inv channel double region inst iaddr s h
  | .scrubPass => execScrubPass_inv s h
  | .spadEccUncorr block offset => execSpadEccUncorr_inv block offset s h
  | .copyPacketStart inst seq => execCopyPacketStart_inv inst seq s h
  | .copyDescriptorDone engine hostData => execCopyDescriptorDone_inv engine hostData s h
  | .hostCompletionError engine moved => execHostCompletionError_inv engine moved s h
  | .hostCompletionTimeout engine moved => execHostCompletionTimeout_inv engine moved s h
  | .busTimeout inst initiator unit write len => execBusTimeout_inv inst initiator unit write len s h
  | .gateRequest unit pending => execGateRequest_inv unit pending s h
  | .writeWindowClosed inst surface => execWriteWindowClosed_inv inst surface s h
  | .shaderCompileDone inst seq error stages components => execShaderCompileDone_inv inst seq error stages components s h
  | .compileAbandoned inst seq => execCompileAbandoned_inv inst seq s h
  | .submitStart inst queue work => execSubmitStart_inv inst queue work s h
  | .schedulingDecision => execSchedulingDecision_inv s h
  | .urgencyEvaluation => execUrgencyEvaluation_inv s h
  | .preemptRequest cluster => execPreemptRequest_inv cluster s h
  | .clusterFree cluster => execClusterFree_inv cluster s h
  | .hopperFault inst queue prims => execHopperFault_inv inst queue prims s h
  | .hopperGrantWaitExpiry inst queue => execHopperGrantWaitExpiry_inv inst queue s h
  | .hopperFlushed inst queue => execHopperFlushed_inv inst queue s h
  | .binTileDone inst queue tile touched data => execBinTileDone_inv inst queue tile touched data s h
  | .workgroupTimeLimit inst queue cluster => execWorkgroupTimeLimit_inv inst queue cluster s h
  | .submitComplete inst queue work => execSubmitComplete_inv inst queue work s h
  | .clusterOffline cluster token => execClusterOffline_inv cluster token s h
  | .frameStart pipe => execFrameStart_inv pipe s h
  | .latchLine pipe => execLatchLine_inv pipe s h
  | .bandWindowOpen pipe band => execBandWindowOpen_inv pipe band s h
  | .bandCompose faults => execBandCompose_inv faults s h
  | .bandScanoutEnd pipe => execBandScanoutEnd_inv pipe s h
  | .scanoutUnderrun pipe line column => execScanoutUnderrun_inv pipe line column s h
  | .scanoutRelease inst surface => execScanoutRelease_inv inst surface s h
  | .lineMatch pipe line => execLineMatch_inv pipe line s h
  | .frameDone pipe => execFrameDone_inv pipe s h
  | .vblankStart pipe period => execVblankStart_inv pipe period s h
  | .quietWindow pipe opens => execQuietWindow_inv pipe opens s h
  | .pixelPllLocked pipe => execPixelPllLocked_inv pipe s h
  | .pixHeld pipe => execPixHeld_inv pipe s h
  | .pixRelockAttempt pipe locked => execPixRelockAttempt_inv pipe locked s h
  | .pixOfflineRetry pipe locked => execPixOfflineRetry_inv pipe locked s h
  | .pixUnlockAtStop pipe => execPixUnlockAtStop_inv pipe s h
  | .regionMonFrame monitor => execRegionMonFrame_inv monitor s h
  | .regionMonMissing monitor => execRegionMonMissing_inv monitor s h
  | .hpdLow unit => execHpdLow_inv unit s h
  | .hpdIrq unit lockLost => execHpdIrq_inv unit lockLost s h
  | .hpdRise unit edid => execHpdRise_inv unit edid s h
  | .linkTrainingDone unit ok lanes mbps => execLinkTrainingDone_inv unit ok lanes mbps s h
  | .trainRetry unit => execTrainRetry_inv unit s h
  | .panelSequenceStep unit => execPanelSequenceStep_inv unit s h
  | .d2dFrame main valid => execD2dFrame_inv main valid s h
  | .d2dLinkLost main => execD2dLinkLost_inv main s h
  | .d2dLinkRetry => execD2dLinkRetry_inv s h
  | .d2dLinkUp => execD2dLinkUp_inv s h
  | .touchPanelStart panel temp raw self codes => execTouchPanelStart_inv panel temp raw self codes s h
  | .touchBurst panel edge => execTouchBurst_inv panel edge s h
  | .touchFrame panel raw self => execTouchFrame_inv panel raw self s h
  | .touchLong panel id => execTouchLong_inv panel id s h
  | .touchAbsorbed panel => execTouchAbsorbed_inv panel s h
  | .gloveModeExit panel => execGloveModeExit_inv panel s h
  | .wetExit panel => execWetExit_inv panel s h
  | .steepWakeScan panel deltas => execSteepWakeScan_inv panel deltas s h
  | .effectStart channel r64 limit capPf motion => execEffectStart_inv channel r64 limit capPf motion s h
  | .effectDone channel => execEffectDone_inv channel s h
  | .boostReady => execBoostReady_inv s h
  | .boostOff => execBoostOff_inv s h
  | .hvFault cause vhv current => execHvFault_inv cause vhv current s h
  | .hvRetry ok vhv current => execHvRetry_inv ok vhv current s h
  | .forceSample channel counts => execForceSample_inv channel counts s h
  | .bufferDone k => execBufferDone_inv k s h
  | .streamXrun k frames => execStreamXrun_inv k frames s h
  | .streamStart k => execStreamStart_inv k s h
  | .audxLost rateMhz => execAudxLost_inv rateMhz s h
  | .audxRestored rateMhz => execAudxRestored_inv rateMhz s h
  | .zcTimeout kind a b => execZcTimeout_inv kind a b s h
  | .toneEnd voice => execToneEnd_inv voice s h
  | .audioClip output samples => execAudioClip_inv output samples s h
  | .limiterStep output peak us => execLimiterStep_inv output peak us s h
  | .alarmFloorStep => execAlarmFloorStep_inv s h
  | .sunLoopStep stage reading => execSunLoopStep_inv stage reading s h
  | .colourGuardStep stage => execColourGuardStep_inv stage s h
  | .refreshDerating channel required => execRefreshDerating_inv channel required s h
  | .thermalSample temps => execThermalSample_inv temps s h
  | .adaptiveVoltageStep passMv level => execAdaptiveVoltageStep_inv passMv level s h
  | .secureWdogKick => execSecureWdogKick_inv s h
  | .secureWdog => execSecureWdog_inv s h
  | .cupperSramUncorr => execCupperSramUncorr_inv s h
  | .cupperRestart => execCupperRestart_inv s h
  | .secViolation initiator inst write len => execSecViolation_inv initiator inst write len s h
  | .alarmTestEnd => execAlarmTestEnd_inv s h
  | .pllHoldover port => execPllHoldover_inv port s h
  | .refclkFail failed warmrc => execRefclkFail_inv failed warmrc s h
  | .refclkHealthy port khz => execRefclkHealthy_inv port khz s h
  | .refSwitchBack port => execRefSwitchBack_inv port s h
  | .warmrcCheck counts => execWarmrcCheck_inv counts s h
  | .xtalLost => execXtalLost_inv s h
  | .pllUnlock domain => execPllUnlock_inv domain s h
  | .pllRelockAttempt domain locked => execPllRelockAttempt_inv domain locked s h
  | .steepAutoCheck => execSteepAutoCheck_inv s h
  | .wakeSource source arg wakeUs => execWakeSource_inv source arg wakeUs s h
  | .hostWake port => execHostWake_inv port s h
  | .shelfExit source arg powerGood => execShelfExit_inv source arg powerGood s h
  | .pgoodTimeout => execPgoodTimeout_inv s h
  | .supplySag cause vsense late fatal => execSupplySag_inv cause vsense late fatal s h
  | .supplyRestored => execSupplyRestored_inv s h
  | .railFall rail vsense => execRailFall_inv rail vsense s h
  | .errorRecord record => execErrorRecord_inv record s h
  | .resetNLow => execResetNLow_inv s h
  | .resetNRise => execResetNRise_inv s h
  | .fullReset => execFullReset_inv s h
  | .boot healthy mismatch pause => execBoot_inv healthy mismatch pause s h
  | .bootNoReference mismatch => execBootNoReference_inv mismatch s h
  | .flashSfdpTimeout healthy => execFlashSfdpTimeout_inv healthy s h
  | .supplySagAtBoot => execSupplySagAtBoot_inv s h
  | .scrubDone => execScrubDone_inv s h
  | .refillTimeout => execRefillTimeout_inv s h
  | .refillDeferredTaken unit part => execRefillDeferredTaken_inv unit part s h
  | .zeroCrossing kind a b => execZeroCrossing_inv kind a b s h
  | .memLost => execMemLost_inv s h
  | .thermalTripRelease temp => execThermalTripRelease_inv temp s h
  | .jtagAccess op => execJtagAccess_inv op s h
  | .eicEnableWrite target source enable => execEicEnableWrite_inv target source enable s h
  | .eicRouteWrite source target => execEicRouteWrite_inv source target s h

/-- Settles O60: an idle step keeps the invariant, and so does every row. -/
theorem everyStepKeepsInvariant : Obligations.EveryStepKeepsInvariant := by
  intro s t h hstep
  unfold step at hstep
  split at hstep
  case h_1 =>
    injection hstep with ht
    exact ht ▸ State.idle_inv s h
  case h_2 c cs _ =>
    have hkeeps := exec_inv c (s.setPending cs) (State.setPending_inv s cs h)
    rwa [hstep] at hkeeps

/-- Settles O5: memories and ledger are empty, every generation is 1, and the queue holds no record. -/
theorem resetMeetsInvariants : Obligations.ResetMeetsInvariants := by
  refine ⟨rfl, rfl, fun h => ?_, Nat.zero_le _⟩
  change Entry.reset.gen ≠ 0
  decide

end Sys2Proof.Machine
end

section
/-!
PROOFS. The values that the spec gives after a full reset, field by field (R20, R37, R48, R51, R56, R100, R229, R318, R321,
R377, R566, R567, R590, R642).
-/

namespace Sys2Proof.Machine

open Sys2Proof

/-- At reset the manager is the one instance that exists (R48, R56). -/
theorem inst_reset_of_ne_zero {n : Nat} (hn : n ≠ 0) : State.reset.inst n = Inst.none :=
  Tab.get_set_other hn Inst.manager

/-- Settles O4: every table but that of instances is empty, so each index reads the value that its class has at reset. -/
theorem resetLeavesSpecValues : Obligations.ResetLeavesSpecValues := by
  have hguests : ∀ n, n ≠ 0 → (State.reset.inst n).state = .absent := fun n hn => by rw [inst_reset_of_ne_zero hn]; rfl
  exact ⟨rfl, fun _ => rfl, rfl, hguests, fun _ _ => ⟨rfl, rfl, rfl, rfl, rfl, rfl, rfl, rfl⟩, fun _ => ⟨rfl, rfl, rfl⟩,
    fun _ => ⟨rfl, rfl, rfl⟩, fun _ => ⟨rfl, rfl, rfl⟩, fun _ => rfl, rfl, rfl, rfl, rfl, rfl, rfl, rfl⟩

end Sys2Proof.Machine
end

section
/-!
PROOFS. Facts: how one contradicts its entry, replaces another and clears, and what a resynchronisation and a sweep of the
pools find (01 R21, R26, R27; 21 R603, R604).
-/

namespace Sys2Proof.Machine

open Sys2Proof

section Fact
variable {s : State} {h : Nat}

/-! ### Entries -/

/-- The fact that contradicts the entry already changes nothing. -/
theorem State.setFact_standing {f : Nat} (ha : (s.entry h).agree = .contradicted) (hf : (s.entry h).fact = f) :
    s.setFact h f = s := by
  simp [State.setFact, ha, hf]

/-- A new fact contradicts the entry, with one advance (R26). -/
theorem State.entry_setFact_new {f : Nat} (hw : s.ledger.wf = true)
    (hn : ¬ ((s.entry h).agree = .contradicted ∧ (s.entry h).fact = f)) :
    (s.setFact h f).entry h = { gen := nextGen (s.genOf h), agree := .contradicted, fact := f } := by
  rw [State.entry, State.setFact_ledger, if_neg hn, Tab.get_set_same hw]

/-- A fact touches no other entry. -/
theorem State.entry_setFact_other {j : Nat} (hj : j ≠ h) (f : Nat) : (s.setFact h f).entry j = s.entry j := by
  rw [State.entry, State.setFact_ledger]
  split
  · rfl
  · exact Tab.get_set_other hj _

/-- A fact that clears leaves its entry SETTLING, with one advance (R27). -/
theorem State.entry_clearFact_same (hw : s.ledger.wf = true) (ha : (s.entry h).agree = .contradicted) :
    (s.clearFact h).entry h = { gen := nextGen (s.genOf h), agree := .settling, fact := 0 } := by
  rw [State.entry, State.clearFact_ledger, if_pos ha, Tab.get_set_same hw]

/-- It touches no other entry. -/
theorem State.entry_clearFact_other {j : Nat} (hj : j ≠ h) : (s.clearFact h).entry j = s.entry j := by
  rw [State.entry, State.clearFact_ledger]
  split
  · exact Tab.get_set_other hj _
  · rfl

/-! ### Resynchronisation (R603, R604) -/

/-- A fact that the ledger does not hold is applied, with its NOTE record. -/
theorem State.resyncOne_fact {f : Nat} (hd : s.factDiffers h f = true) (hf : f ≠ 0) :
    s.resyncOne h f = (s.setFact h f).raiseErr 0x0005 0 h 0xFF 0 0 := by
  rw [State.resyncOne, if_pos hd, if_neg hf]

/-- A fact that the hardware no longer shows clears, with its NOTE record. -/
theorem State.resyncOne_cleared (hd : s.factDiffers h 0 = true) :
    s.resyncOne h 0 = (s.clearFact h).raiseErr 0x0005 0 h 0xFF 0 0 := by
  rw [State.resyncOne, if_pos hd, if_pos rfl]

/-- Where the ledger agrees, nothing changes. -/
theorem State.resyncOne_agrees {f : Nat} (hd : s.factDiffers h f = false) : s.resyncOne h f = s := by
  rw [State.resyncOne, if_neg (by simp [hd])]

end Fact

/-- A sweep that is told of no pool finds those that do not balance. -/
theorem execBeanSweep_nil (s : State) : execBeanSweep [] s = .next
    (((List.range 10).filter (fun i => !s.poolBalanced i)).foldl (fun s i => s.beanMismatch i)
      (s.setErr { s.err with audits := (s.err.audits + 1) % 2 ^ 32 })) := by
  have hpools : ((List.range 10).filter (fun i => !s.poolBalanced i)).filter (fun i => decide (i < 10)) =
      (List.range 10).filter (fun i => !s.poolBalanced i) :=
    List.filter_eq_self.mpr fun i hi => decide_eq_true (List.mem_range.mp (List.mem_of_mem_filter hi))
  simp only [execBeanSweep, State.beanSweep, List.nil_append, List.contains_nil, Bool.not_false, Bool.and_true, hpools]

/-- Settles O7: each clause is one of the rules of facts above. -/
theorem factsContradictAndClear : Obligations.FactsContradictAndClear := by
  refine ⟨?fact, ?clears, ?settles, fun s => rfl, ?resync, ?sweep⟩
  case fact =>
    intro s h f hp hf hw
    have hexec : exec (.ledgerFact h f) s = .next (s.setFact h f) := (onUnit_present hp).trans (by rw [if_neg hf])
    have hother := fun j hj => State.entry_setFact_other (s := s) (h := h) (j := j) hj f
    by_cases hs : (s.entry h).agree = .contradicted ∧ (s.entry h).fact = f
    · obtain ⟨ha, hfact⟩ := hs
      have hsame := State.setFact_standing ha hfact
      refine ⟨_, hexec, by rw [hsame, ha], by rw [hsame, hfact], fun hn => ?_, fun _ _ => hsame, hother⟩
      exact absurd hn (by simp [ha, hfact])
    · have hnew := State.entry_setFact_new hw hs
      exact ⟨_, hexec, by rw [hnew], by rw [hnew], fun _ => congrArg Entry.gen hnew, fun ha hfact => absurd ⟨ha, hfact⟩ hs,
        hother⟩
  case clears =>
    intro s h hp hw ha
    exact ⟨_, onUnit_present hp, State.entry_clearFact_same hw ha, fun j hj => State.entry_clearFact_other hj⟩
  case settles =>
    intro s h hp _ hs
    exact (onUnit_present hp).trans (by simp [State.settle, hs, State.setEntry])
  case resync =>
    intro s h f fs hp
    exact ⟨_, rfl, rfl, State.resyncOne_fact,
      fun hd hf => by subst hf; exact State.resyncOne_cleared hd, State.resyncOne_agrees⟩
  case sweep =>
    rintro s _ rfl
    exact execBeanSweep_nil s

end Sys2Proof.Machine
end

section
/-!
PROOFS. What every packet row shares: when it waits, what steps 4 to 9 of R107 answer and in which order, and the final
reply (01 R24; 03 R105, R107, R110, R112; 05 R153).
-/

namespace Sys2Proof.Machine

open Sys2Proof

/-! ### The final reply (R24, R110) -/

section Reply
variable {s : State} {code : Nat} {p : Packet} {st : Status}

/-- A packet that nothing has disposed of gets its reply, and the status is counted. -/
theorem State.answer_of_not_voided (hv : s.tp.voided.any (samePacket p) = false) (res : List W32) :
    s.answer code p st res = (s.setTp { s.tp with replies := s.tp.replies ++
      [{ inst := p.inst, src := p.src, opcode := code, status := st, seq := p.seq, newgen := s.replyGen code p st,
         result := res, notify := p.notify, stalled := false }] }).count 0 p.inst (4 + st.index) := by
  rw [State.answer, if_neg (by simp [hv])]

/-- But for a refusal of step 7, NEWGEN is what the packet's application noted, else the present generation. -/
theorem State.replyGen_of_ne_noUnit (hst : st ≠ .noUnit) : s.replyGen code p st =
    ((s.tp.accepted.find? (fun a => samePacket a.p p)).bind (·.newgen)).getD (s.newGenFor p.target) := by
  rw [State.replyGen, if_neg (by simp [hst])]

/-- A noted generation is the reply's. -/
theorem State.replyGen_noted {a : Accepted} {g : W32} (hst : st ≠ .noUnit)
    (ha : s.tp.accepted.find? (fun a => samePacket a.p p) = some a) (hg : a.newgen = some g) :
    s.replyGen code p st = g := by
  rw [State.replyGen_of_ne_noUnit hst, ha, Option.bind_some, hg, Option.getD_some]

/-- Without one the reply carries the TARGET's present generation. -/
theorem State.replyGen_present (hst : st ≠ .noUnit)
    (hn : ∀ a, a ∈ s.tp.accepted → samePacket a.p p = true → a.newgen = none) :
    s.replyGen code p st = s.newGenFor p.target := by
  have hnone : (s.tp.accepted.find? (fun a => samePacket a.p p)).bind (·.newgen) = none := by
    rw [Option.bind_eq_none_iff]
    exact fun a ha => hn a (List.mem_of_find?_eq_some ha) (List.find?_some (p := fun a : Accepted => samePacket a.p p) ha)
  rw [State.replyGen_of_ne_noUnit hst, hnone, Option.getD_none]

end Reply

/-- Settles O8: the reply that joins, its generation, and what stays. -/
theorem finalReplyEchoesPacket : Obligations.FinalReplyEchoesPacket := by
  intro s code p st res hv
  have ha := State.answer_of_not_voided (code := code) (st := st) hv res
  refine ⟨?joins, fun a g hst => State.replyGen_noted hst, fun hn hst => State.replyGen_present hst hn, ?transport, ?rest⟩
  case joins => rw [ha]; rfl
  case transport => rw [ha]; rfl
  case rest => rw [ha]; rfl

/-! ### The checks of steps 4 to 9 (R107) -/

section Verdict
variable {s : State} {op : Op} {own : Bool} {p : Packet} (hs : s.boot.stage = 6)
include hs

/-- A GENERAL instance may not use ring 0. -/
theorem State.verdict_generalOnRingZero (hp : p.inst ≠ 0) (hg : s.isSafety p.inst = false) (hr : p.src.ring = 0) :
    s.verdict op own p = some .denied := by
  simp [State.verdict, State.general, hs, hp, hg, hr]

/-- An opcode of mark M is the manager's. -/
theorem State.verdict_managersOpcode (hr : p.src.ring ≠ 0) (hm : op.mark = .m) (hp : p.inst ≠ 0) :
    s.verdict op own p = some .denied := by
  simp [State.verdict, hs, hr, hm, hp]

/-- For the manager's own packets, but those of groups 6 and 7, what is left of the checks is steps 6 to 9. -/
theorem State.verdict_manager (hp : p.inst = 0) (h6 : op.code / 4096 ≠ 6) (h7 : op.code / 4096 ≠ 7) :
    s.verdict op own p =
      if !s.board.member.classDefined p.target then some .badParam
      else if !s.present p.target then some .noUnit
      else if !own then some .denied
      else if decide (p.basegen ≠ 0) && decide (p.basegen ≠ s.genOf p.target) then some .staleState
      else none := by
  simp [State.verdict, State.general, hs, hp, h6, h7]

end Verdict

/-- A unit that is fitted is of a defined class. -/
theorem Member.classDefined_of_present {m : Member} {h : Nat} (hp : m.present h = true) : m.classDefined h = true := by
  cases hc : m.classCount (h / 256) with
  | none => simp [Member.present, hc] at hp
  | some n => simp [Member.classDefined, hc]

/-- Settles O11: each clause is a prefix of the checks. -/
theorem checksAnswerInOrder : Obligations.ChecksAnswerInOrder := by
  intro s op own p hs
  refine ⟨State.verdict_generalOnRingZero hs, State.verdict_managersOpcode hs, fun hp h6 h7 => ?manager⟩
  case manager =>
    rw [State.verdict_manager hs hp h6 h7]
    have hclass := fun hu : s.present p.target = true => Member.classDefined_of_present hu
    refine ⟨fun hc => ?undefined, fun hc hu => ?absent, fun hu ho => ?foreign, fun hu ho hb hg => ?stale,
      fun hu ho hg => ?passes⟩
    case undefined => simp [hc]
    case absent => simp [hc, hu]
    case foreign => simp [hclass hu, hu, ho]
    case stale => simpa [hclass hu, hu, ho, hg] using hb
    case passes =>
      obtain hb | hb := hg
      · simp [hclass hu, hu, ho, hb]
      · simp [hclass hu, hu, ho, hb]

/-! ### Every packet row (R105, R112) -/

/-- The rectangle of a RECAL_TOUCH is its sender's where the whole panel, or the part that it names, is (R625). -/
theorem State.mayRecal_eq (s : State) (p : Packet) : s.mayRecal p = s.ownsTouchRect p.inst (p.target % 256)
    (if decide (p.u16 24 = 0) then 0 else p.u16 20) (if decide (p.u16 24 = 0) then 0 else p.u16 22)
    (if decide (p.u16 24 = 0) then (s.tp_ (p.target % 256)).cfg.width else p.u16 24)
    (if decide (p.u16 24 = 0) then (s.tp_ (p.target % 256)).cfg.height else p.u16 26) := by
  by_cases hw : p.u16 24 = 0
  · simp [State.mayRecal, hw]
  · simp [State.mayRecal, hw]

/-- RECAL_TOUCH is an application of its packet. -/
theorem execRecalTouch_packet (p : Packet) (s : State) : ∃ run, execRecalTouch p s =
    packet opRecalTouch (decide (p.inst = 0) || (!p.flag 16 0 && s.mayRecal p)) p s run := by
  rw [State.mayRecal_eq]
  exact ⟨_, rfl⟩

/-- Every row of the catalogue is an application of its packet, under its opcode and its own condition on the TARGET; the
other rows have no packet. -/
theorem exec_packetRow {c : Instr} {op : Op} {own : Bool} {p : Packet} {s : State}
    (h : packetRow s c = some (op, own, p)) : ∃ run, exec c s = packet op own p s run := by
  cases c with
  | recalTouch p =>
    cases h
    exact execRecalTouch_packet p s
  | _ => cases h <;> exact ⟨_, rfl⟩

/-- Settles O10: a packet that waits, and one that a check refuses, whatever its row would do. -/
theorem packetsWaitOrAreRefusedUnchanged : Obligations.PacketsWaitOrAreRefusedUnchanged := by
  intro c op own p s hrow
  obtain ⟨run, hexec⟩ := exec_packetRow hrow
  rw [hexec]
  refine ⟨packet_blocked, fun st hb hv => ?refused⟩
  case refused => simp [packet_refused hb hv]

end Sys2Proof.Machine
end

section
/-!
PROOFS. PORT_CONFIG and DEVICE_RESET, and the four forms of LOOP_SET with the report of a constrained loop (01 R31 to R35;
05 R162 to R164; 12 R372).
-/

namespace Sys2Proof.Machine

open Sys2Proof

/-! ### PORT_CONFIG and DEVICE_RESET (R163, R164) -/

/-- The sizes that a PORT_CONFIG leaves on a port: a byte of 0 keeps the size that stands (R163). -/
def Port.resized (q : Port) (p : Packet) : Port :=
  { q with
    bar2Pf := newSize q.bar2Pf (p.u8 16)
    bar2Vf := newSize q.bar2Vf (p.u8 17)
    bar4Pf := newSize q.bar4Pf (p.u8 18)
    bar4Vf := newSize q.bar4Vf (p.u8 19) }

section PortConfig
variable {s : State} {p : Packet} {k : Nat}

/-- A size may change while what it would change is off, or is left as it is. -/
theorem sizes_free {on : Bool} {a b : Nat} (h : on = true → a = 0 ∧ b = 0) :
    ((decide (a = 0) && decide (b = 0)) || !on) = true := by
  cases on with
  | false => simp
  | true => simp [h rfl]

/-- PORT_CONFIG stores the sizes that it names, as one step. -/
theorem execPortConfig_inRange (ht : s.takes opPortConfig true p = true) (hk : p.target = 0x0100 + k) (hk' : k < 256)
    (hl : p.length = 4) (h16 : sizeByteOk 26 32 (p.u8 16) = true) (h17 : sizeByteOk 26 32 (p.u8 17) = true)
    (h18 : sizeByteOk 12 20 (p.u8 18) = true) (h19 : sizeByteOk 12 20 (p.u8 19) = true)
    (hvf : (s.ports.get k).vfEnable = true → p.u8 17 = 0 ∧ p.u8 19 = 0)
    (hpf : (s.fn (fnKey k 0)).memorySpace = true → p.u8 16 = 0 ∧ p.u8 18 = 0) :
    execPortConfig p s = .next ((((s.markApplied p).setPorts ((s.markApplied p).ports.set k
      ((s.ports.get k).resized p))).intend p.target false p.inst).answer 0x0010 p .ok []) := by
  have hclass : p.target / 256 = 0x01 := by omega
  have hindex : p.target % 256 = k := by omega
  rw [execPortConfig, packet_taken ht]
  simp only [hindex]
  rw [checks_pass (by simp [hclass, hl, h16, h17, h18, h19]), checks_pass (by exact sizes_free hvf),
    checks_pass (by exact sizes_free hpf)]
  rfl

end PortConfig

/-- What a DEVICE_RESET with the right key leaves: the full reset wanted with cause 4, unless one is wanted already. -/
theorem execDeviceReset_keyed {s : State} {p : Packet} (ht : s.takes opDeviceReset true p = true)
    (hd : p.target = hDevice) (hl : p.length = 8) (hkey : p.u32 16 = 0x52535430) (hz : p.fld 20 1 31 = 0) :
    execDeviceReset p s = .next ((if s.err.resetWanted then s.markApplied p
      else (s.markApplied p).setErr { s.err with
        resetWanted := true, resetCause := 4, causeSeqno := 0, retainDisplay := p.flag 20 0 }).answer 0x0011 p .ok []) := by
  rw [execDeviceReset, packet_taken ht, checks_pass (by simp [hd, hl, hkey, hz])]
  simp only [State.markApplied_frame, checks_nil]
  split <;> rfl

/-- Settles O13: each clause is the rule of its packet above. -/
theorem portConfigAndDeviceResetComplete : Obligations.PortConfigAndDeviceResetComplete := by
  rintro p s _ rfl
  refine ⟨?config, ?reset⟩
  case config =>
    intro k ht hk hk' hl h16 h17 h18 h19 hvf hpf
    rw [Nat.mul_comm 32 k] at hpf
    exact ⟨_, execPortConfig_inRange ht hk hk' hl h16 h17 h18 h19 hvf hpf, rfl⟩
  case reset =>
    intro ht hd hl hkey hz
    have hexec := execDeviceReset_keyed ht hd hl hkey hz
    refine ⟨fun hfirst => ?first, fun hagain => ?again⟩
    case first => rwa [if_neg (by simp [hfirst])] at hexec
    case again => rwa [if_pos hagain] at hexec

/-! ### LOOP_SET (R31 to R35, R162) -/

/-- What a LOOP_SET with its fields in range does: the loop changes, with its setter, as a new intention of the unit. -/
theorem loopSet_inRange {s : State} {p : Packet} {l : Loop} (ht : s.takes opLoopSet (s.mayLoop p) p = true)
    (hloop : s.loop p.target (p.u8 16) = some l) (hl : p.length = 16) (hz : p.u16 18 = 0) {op : Nat} (hop : p.u8 17 = op)
    {ok : Loop → Bool} (hok : ok l = true) (f : Loop → Loop) (after : State → State) :
    loopSet op ok f p s after = .next (((after ((s.markApplied p).putLoop p.target (p.u8 16)
      { f l with setter := p.inst })).intend p.target false p.inst).answer 0x0005 p .ok []) := by
  have hloop' : (s.markApplied p).loop p.target (p.u8 16) = some l := hloop
  rw [loopSet, packet_taken ht]
  simp only [hloop']
  rw [checks_pass (by simp [hl, hz, hop, hok])]
  rfl

section LoopSet
variable {s : State} {p : Packet} {l : Loop} (ht : s.takes opLoopSet (s.mayLoop p) p = true)
  (hloop : s.loop p.target (p.u8 16) = some l) (hl : p.length = 16) (hz : p.u16 18 = 0)
include ht hloop hl hz

/-- OP 0 sets the bounds of a loop that is no limiter; a pinned output follows them (R33, R372). -/
theorem execLoopSetBounds_inRange (hop : p.u8 17 = 0) (hlo : p.u32 20 ≤ p.u32 24)
    (hmax : p.u32 24 ≤ loopMax p.target (p.u8 16)) (hmin : loopMin p.target (p.u8 16) ≤ p.u32 20)
    (hlim : isLimiter p = false) : execLoopSetBounds p s =
      .next ((((s.markApplied p).putLoop p.target (p.u8 16) { l with
        low := p.u32 20
        high := p.u32 24
        setter := p.inst
        out := (l.pin.map (fun v => max (loopFloor p.target (p.u8 16)) (clampN (p.u32 20) (p.u32 24) v))).getD l.out
          }).intend p.target false p.inst).answer 0x0005 p .ok []) := by
  rw [execLoopSetBounds, loopSet_inRange ht hloop hl hz hop (by simp [hlo, hmax, hmin, hlim])]
  simp only [hlim]
  cases l.pin <;> rfl

/-- OP 1 pins the loop at the output that it has. -/
theorem execLoopSetPinPresent_inRange (hop : p.u8 17 = 1) : execLoopSetPinPresent p s =
    .next ((((s.markApplied p).putLoop p.target (p.u8 16) { l with
      pin := some l.out
      setter := p.inst
      state := if l.state = .overridden then .overridden else .pinned }).intend p.target false p.inst).answer 0x0005 p .ok
        []) :=
  loopSet_inRange ht hloop hl hz hop rfl _ id

/-- OP 2 pins it at VALUE, and its output there within the bounds, unless it is OVERRIDDEN. -/
theorem execLoopSetPinValue_inRange (hop : p.u8 17 = 2) (hmax : p.u32 28 ≤ loopMax p.target (p.u8 16)) :
    execLoopSetPinValue p s = .next ((((s.markApplied p).putLoop p.target (p.u8 16) { l with
      pin := some (p.u32 28)
      setter := p.inst
      out := if l.state = .overridden then l.out else max (loopFloor p.target (p.u8 16)) (clampN l.low l.high (p.u32 28))
      state := if l.state = .overridden then .overridden else .pinned }).intend p.target false p.inst).answer 0x0005 p .ok
        []) :=
  loopSet_inRange ht hloop hl hz hop (decide_eq_true hmax) _ id

/-- OP 3 lets it move freely again. -/
theorem execLoopSetUnpin_inRange (hop : p.u8 17 = 3) : execLoopSetUnpin p s =
    .next ((((s.markApplied p).putLoop p.target (p.u8 16) { l with
      pin := none
      setter := p.inst
      state := if l.state = .pinned then .free else l.state }).intend p.target false p.inst).answer 0x0005 p .ok []) :=
  loopSet_inRange ht hloop hl hz hop rfl _ id

end LoopSet

section Constrained
variable {s : State} {h i : Nat} {l : Loop} (hp : s.present h = true) (hloop : s.loop h i = some l)
include hp hloop

/-- A FREE loop whose target lies beyond its bounds becomes CONSTRAINED, and is told (R32). -/
theorem execLoopConstrained_beyond (hs : l.state = .free) (hb : l.target < l.low ∨ l.high < l.target) :
    execLoopConstrained h i s =
      .next ((s.putLoop h i { l with state := .constrained }).loopEvent 2 h i true l.setter) := by
  rw [execLoopConstrained, onUnit_present hp]
  simp [hloop, hs, hb]

/-- A CONSTRAINED one whose target is within them is FREE again. -/
theorem execLoopConstrained_within (hs : l.state = .constrained) (hlo : l.low ≤ l.target) (hhi : l.target ≤ l.high) :
    execLoopConstrained h i s =
      .next ((s.putLoop h i { l with state := .free }).loopEvent 2 h i false l.setter) := by
  rw [execLoopConstrained, onUnit_present hp]
  simp [hloop, hs, hlo, hhi]

end Constrained

/-- Settles O14: each clause is the rule of its form above. -/
theorem loopCommandsComplete : Obligations.LoopCommandsComplete := by
  rintro p s _ _ l rfl rfl
  refine ⟨fun ht hloop hl hz => ⟨execLoopSetBounds_inRange ht hloop hl hz, execLoopSetPinPresent_inRange ht hloop hl hz,
    execLoopSetPinValue_inRange ht hloop hl hz, execLoopSetUnpin_inRange ht hloop hl hz⟩,
    fun h => execLoopConstrained_beyond, fun h => execLoopConstrained_within⟩

end Sys2Proof.Machine
end

section
/-!
PROOFS. Diagnostics: telemetry, the error queue and the bean counters as they are read, sweeps, INJECT; how records are raised
and handled in order; and what begins a full reset (21 R580 to R588, R597 to R611; 23 R644).
-/

namespace Sys2Proof.Machine

open Sys2Proof

/-! ### Reading (R588, R605 to R609) -/

section Reads
variable {s : State} {p : Packet} (hd : p.target = hDevice)
include hd

/-- TELEMETRY_READ of counters that are there, and the sender's to see, returns them and the set's size. -/
theorem execTelemetryRead_granted (ht : s.takes opTelemetryRead true p = true) (hl : p.length = 4) {size : Nat}
    (hs : teleSize (p.u8 16) = some size) (hm : s.mayReadTele p.inst (p.u8 16) (p.u8 17) = true)
    (hsc : s.scopePresent (p.u8 16) (p.u8 17) = true) :
    execTelemetryRead p s = .next ((s.markApplied p).answer 0xA001 p .ok
      (w64 s.devTime ++ [w32 (pack [(min 500 (size - p.u16 18), 16), (size, 16)]), 0] ++
        (List.range (min 500 (size - p.u16 18))).flatMap
          (fun i => w64 (s.counter (p.u8 16) (p.u8 17) (p.u16 18 + i))))) := by
  rw [execTelemetryRead, packet_taken ht]
  simp only [hs, Option.getD_some]
  rw [checks_pass (by simp [hd, hl]), checks_pass (by exact hm), checks_pass (by exact hsc)]
  rfl

/-- ERROR_READ removes what it acknowledges, and returns the oldest records that are left. -/
theorem execErrorRead_inRange (ht : s.takes opErrorRead true p = true) (hl : p.length = 4) (hz : p.u16 18 = 0)
    (hmax : p.u8 16 ≤ 63) (hack : p.u8 17 ≤ 64) {q got : List ErrRec} (hq : q = ackErrors (p.u8 17) s.err.queue)
    (hgot : got = q.take (p.u8 16)) :
    execErrorRead p s = .next (((s.markApplied p).setErr { s.err with queue := q, lost := 0 }).answer 0xA002 p .ok
      ([w32 (pack [(got.length, 16), (q.length, 16)]), w32 s.err.lost, w32 s.err.lostTotal,
        w32 ((s.err.handling.map (·.seqno)).getD 0)] ++ got.flatMap (fun r => bytesWords r.bytes))) := by
  subst hgot hq
  rw [execErrorRead, packet_taken ht, checks_pass (by simp [hd, hl, hz, hmax, hack])]
  rfl

/-- BEAN_READ returns the block of the pool that it names, or of all ten. -/
theorem execBeanRead_inRange (ht : s.takes opBeanRead true p = true) (hl : p.length = 4) (hz : p.fld 16 4 28 = 0)
    (hpool : p.fld 16 0 4 ≤ 9 ∨ p.fld 16 0 4 = 15) :
    execBeanRead p s = .next ((s.markApplied p).tickFree.answer 0xA003 p .ok
      (w64 s.devTime ++ [w32 s.err.audits, w32 (Config.transfers s.freeCtr)] ++
        (if p.fld 16 0 4 = 15 then List.range 10 else [p.fld 16 0 4]).flatMap (s.markApplied p).beanBlock)) := by
  rw [execBeanRead, packet_taken ht, checks_pass (by simp [hd, hl, hz, hpool])]
  rfl

/-! ### Tests (R605, R610) -/

/-- BEAN_AUDIT with every pool in balance counts one sweep. -/
theorem execBeanAudit_balanced (ht : s.takes opDiagRun true p = true) (hl : p.length = 4) (hop : p.word 16 = 1)
    (hb : ∀ i, i < 10 → (s.markApplied p).poolBalanced i = true) :
    execBeanAudit p s = .next (((s.markApplied p).setErr { s.err with
      audits := (s.err.audits + 1) % 2 ^ 32 }).answer 0xA004 p .ok (diagResult 1 0 0)) := by
  have hnone : (List.range 10).filter (fun i => !(s.markApplied p).poolBalanced i) = [] := by
    simpa using hb
  rw [execBeanAudit, packet_taken ht, checks_pass (by simp [hd, hl, hop])]
  simp only [hnone]
  rfl

end Reads

/-- The state after a fact sweep, with the count of the differences that it applied (R610). -/
def State.factSweep (s : State) (facts : List (Nat × Nat)) (n : Nat) : State × Nat :=
  facts.foldl (fun a f => (a.1.resyncOne f.1 f.2, if a.1.factDiffers f.1 f.2 then a.2 + 1 else a.2)) (s, n)

/-- A fact sweep applies its differences as a resynchronisation does, whatever it counts. -/
theorem State.factSweep_fst (s : State) (facts : List (Nat × Nat)) (n : Nat) :
    (s.factSweep facts n).1 = s.resync facts := by
  induction facts generalizing s n with
  | nil => rfl
  | cons f fs ih => exact ih _ _

/-- A record that does not merge takes the next SEQNO. -/
theorem State.nextSeqno_raiseErr {s : State} {code sev unit inst : Nat} (hm : s.errMerges code sev unit inst = false)
    (seq det : Nat) (b : Bool) :
    (s.raiseErr code sev unit inst seq det b).err.nextSeqno = (s.err.nextSeqno + 1) % 2 ^ 32 := by
  rw [State.raiseErr_err_of_not_merges hm rfl, State.wantReset, Err.dispatch]
  split <;> split <;> rfl

/-- INJECT's VALUE: the SEQNO of the record, or of the one that it merged into (R610). -/
def State.injectedSeqno (s t : State) : Nat :=
  if t.err.nextSeqno = s.err.nextSeqno then ((s.err.queue.getLast?).map (·.seqno)).getD 0 else s.err.nextSeqno

/-- A SEQNO that has advanced is another one. -/
theorem injectedSeqno_of_advanced {s t : State} (ha : t.err.nextSeqno = (s.err.nextSeqno + 1) % 2 ^ 32) :
    s.injectedSeqno t = s.err.nextSeqno := by
  rw [State.injectedSeqno, if_neg (by omega)]

section Tests
variable {s : State} {p : Packet} (hd : p.target = hDevice) (ht : s.takes opDiagRun true p = true)
include hd ht

/-- FACT_SWEEP applies what it finds, and counts it. -/
theorem execFactSweep_applies (hl : p.length = 4) (hop : p.word 16 = 2) :
    ∃ n : Nat, execFactSweep p s = .next (((s.markApplied p).tickFree.resync (Config.sweepFacts s.freeCtr)).answer 0xA004 p
      .ok (diagResult 2 (if n = 0 then 0 else 1) n)) := by
  refine ⟨((s.markApplied p).tickFree.factSweep (Config.sweepFacts s.freeCtr) 0).2, ?_⟩
  rw [execFactSweep, packet_taken ht, checks_pass (by simp [hd, hl, hop]), checks_nil, ← State.factSweep_fst _ _ 0]
  rfl

/-- INJECT raises a record that is marked so. -/
theorem execInject_inRange (hl : p.length = 12) (hop : p.word 16 = 3) (hz : p.u8 23 = 0) (hz' : p.fld 26 3 13 = 0)
    (hi : p.u8 22 ≤ 16 ∨ p.u8 22 = 0xFF) (hsev : p.fld 26 0 3 ∈ errSeverities (p.u16 20)) (hfatal : p.fld 26 0 3 ≠ 4) :
    execInject p s = .next (((s.markApplied p).raiseErr (p.u16 20) (p.fld 26 0 3) (p.u16 24) (p.u8 22) 0 0 true).answer
      0xA004 p .ok (diagResult 3 0 ((s.markApplied p).injectedSeqno
        ((s.markApplied p).raiseErr (p.u16 20) (p.fld 26 0 3) (p.u16 24) (p.u8 22) 0 0 true)))) := by
  rw [execInject, packet_taken ht, checks_pass (by simp [hd, hl, hop, hz, hz', hi, hsev, hfatal])]
  rfl

end Tests

/-- Settles O15: each clause is the rule of its packet above. -/
theorem diagnosticsComplete : Obligations.DiagnosticsComplete := by
  rintro p s _ rfl hd
  refine ⟨?telemetry, ?errors, ?beans, execBeanAudit_balanced hd, ?sweep, ?inject⟩
  case telemetry =>
    rintro ht hl _ hm hsc size _ hs rfl
    exact execTelemetryRead_granted hd ht hl hs hm hsc
  case errors =>
    intro ht hl hz hmax hack q got
    exact execErrorRead_inRange hd ht hl hz hmax hack
  case beans =>
    rintro ht hl hz _ rfl
    refine ⟨fun hpool => ?one, fun hpool => ?all⟩
    case one =>
      have hread := execBeanRead_inRange hd ht hl hz (.inl hpool)
      rwa [if_neg (by omega), List.flatMap_singleton] at hread
    case all =>
      have hread := execBeanRead_inRange hd ht hl hz (.inr hpool)
      rwa [if_pos hpool] at hread
  case sweep =>
    rintro ht hl hop _ rfl
    exact execFactSweep_applies hd ht hl hop
  case inject =>
    intro ht hl hop hz hz' hi hsev hfatal
    exact ⟨_, execInject_inRange hd ht hl hop hz hz' hi hsev hfatal,
      fun hm => injectedSeqno_of_advanced (s := s.markApplied p) (State.nextSeqno_raiseErr (s := s.markApplied p) hm 0 0 true)⟩

/-! ### Raising and handling records (R580 to R588) -/

section Handling
variable {s : State}

/-- A record that R581 lists, on a unit that is fitted, is raised. -/
theorem execErrorRecord_listed {a : ErrArg} (hsev : a.severity ∈ errSeverities a.code) (hp : s.present a.unit = true) :
    execErrorRecord (some a) s = .next (s.raiseErr a.code a.severity a.unit a.inst a.seq a.detail) := by
  simp [execErrorRecord, hsev, hp]

variable (hw : s.err.resetWanted = false)
include hw

/-- With nothing in hand, the oldest waiting record is taken. -/
theorem State.handleOne_takes {r : ErrRec} {rs : List ErrRec} (hh : s.err.handling = none)
    (hq : s.err.toHandle = r :: rs) :
    s.handleOne = s.setErr { s.err with handling := some r, toHandle := rs } := by
  simp [State.handleOne, hw, hh, hq]

/-- The queue and the handlings once the record in hand is HANDLED: what it pre-empted resumes (R584, R588). -/
def Err.ended (e : Err) (r : ErrRec) : Err :=
  { e with queue := markHandled r false e.queue, handling := e.preempted.head?, preempted := e.preempted.tail }

/-- The record in hand ends, and one of severity INST or DEGR is told (R611). -/
theorem State.handleOne_ends {r : ErrRec} (hh : s.err.handling = some r) (hsup : s.superseded r = false) :
    s.handleOne = if r.severity = 2 ∨ r.severity = 3 then (s.setErr (s.err.ended r)).errorLogged r
      else s.setErr (s.err.ended r) := by
  simp only [State.handleOne, hw, hh, State.finishHandling, hsup]
  rfl

end Handling

/-- Telling a record leaves the queue and the handlings alone. -/
theorem State.err_errorLogged (s : State) (r : ErrRec) : (s.errorLogged r).err = s.err := by simp [State.errorLogged]

/-! ### What begins a full reset (R164, R586, R598, R600) -/

/-- RESET_N low resets a booted device that is powered and saves nothing. -/
theorem execResetNLow_booted {s : State} (hpour : s.power.poured = false) (hshelf : s.power.state ≠ .shelf)
    (hb : s.boot.stage = 6) :
    execResetNLow s = .next ((s.setPower { s.power with resetPin := true }).shedLoad.fullReset 3) := by
  simp [execResetNLow, hpour, hshelf, hb]

/-- A wanted full reset begins once the device has booted and no save is under way. -/
theorem execFullReset_wanted {s : State} (hw : s.err.resetWanted = true) (hb : s.boot.stage = 6)
    (hpour : s.power.poured = false) : execFullReset s = .next (s.shedLoad.fullReset s.err.resetCause) := by
  simp [execFullReset, hw, hb, hpour]

/-- Settles O16: each clause is one of the rules above; RESET_N rising has no condition. -/
theorem errorHandlingAndResetsComplete : Obligations.ErrorHandlingAndResetsComplete := by
  intro s
  refine ⟨fun a => execErrorRecord_listed, fun r rs hw hh hq => congrArg _ (State.handleOne_takes hw hh hq), ?ends,
    execResetNLow_booted, rfl, execFullReset_wanted⟩
  case ends =>
    intro r hw hh hsup
    have hends : exec (.errorRecord none) s = .next _ := congrArg Host.Outcome.next (State.handleOne_ends hw hh hsup)
    by_cases hsev : r.severity = 2 ∨ r.severity = 3
    · rw [if_pos hsev] at hends
      have herr : ((s.setErr (s.err.ended r)).errorLogged r).err = s.err.ended r := State.err_errorLogged _ r
      refine ⟨_, hends, herr, fun h2 h3 => ?_, fun _ => by rw [herr]⟩
      omega
    · rw [if_neg hsev] at hends
      exact ⟨_, hends, rfl, fun _ _ => rfl, fun h => absurd h hsev⟩

end Sys2Proof.Machine
end

section
/-!
PROOFS. The registers of BAR0 without a row of their own, and the event mask (03 R100, R102; 04 R145, R146).
-/

namespace Sys2Proof.Machine

open Sys2Proof

section Registers
variable {s : State} {port fn : Nat} (hp : s.present (hPort port) = true) (hb : s.barServed port fn = true)
include hp hb

/-! ### Submission rings (R102, R109) -/

section Ring
variable {ring : Nat} (hr : ring < 4)
include hr

/-- The base of a ring whose registers are open takes a page address. -/
theorem execRegisterWrite_sqBase {v : Nat}
    (ho : s.ringRegsOpen (fnKey port fn) ((s.fn (fnKey port fn)).sq.get ring).halted
      (decide (((s.fn (fnKey port fn)).sq.get ring).size = 0)) false = true) :
    execRegisterWrite port fn (0x100 + 0x20 * ring) v s =
      .next (s.updSq (fnKey port fn) ring (fun q => { q with base := bitsOf v 12 52 * 4096 })) := by
  have hsq : 0x100 + 0x20 * ring < 0x180 := by omega
  have hidx : (0x100 + 0x20 * ring - 0x100) / 0x20 = ring := by omega
  have hreg : (0x100 + 0x20 * ring) % 0x20 = 0 := by omega
  simp only [execRegisterWrite, onPort_present hp, hb, hidx, hreg, ho]
  simp [hsq]

/-- The head of a halted ring takes an aligned place. -/
theorem execRegisterWrite_sqHead {v : Nat} (hh : ((s.fn (fnKey port fn)).sq.get ring).halted = true) (hv : v % 16 = 0) :
    execRegisterWrite port fn (0x110 + 0x20 * ring) v s =
      .next (s.updSq (fnKey port fn) ring (fun q => { q with head := w32 v })) := by
  have hsq : 0x110 + 0x20 * ring < 0x180 := by omega
  have hge : 0x100 ≤ 0x110 + 0x20 * ring := by omega
  have hidx : (0x110 + 0x20 * ring - 0x100) / 0x20 = ring := by omega
  have hreg : (0x110 + 0x20 * ring) % 0x20 = 0x10 := by omega
  simp only [execRegisterWrite, onPort_present hp, hb, hidx, hreg, hh, hv]
  simp [hsq, hge]

end Ring

/-! ### The reply ring and the event ring (R99, R102) -/

section ReplyRing
variable (ho : s.ringRegsOpen (fnKey port fn) false (decide ((s.fn (fnKey port fn)).rqSize = 0)) false = true) (v : Nat)
include ho

/-- The base of an open reply ring takes a page address. -/
theorem execRegisterWrite_rqBase : execRegisterWrite port fn 0x180 v s =
    .next (s.updFn (fnKey port fn) (fun f => { f with rqBase := bitsOf v 12 52 * 4096 })) := by
  simp [execRegisterWrite, onPort_present hp, hb, ho]

/-- Its shadow takes an aligned address. -/
theorem execRegisterWrite_rqShadow : execRegisterWrite port fn 0x198 v s =
    .next (s.updFn (fnKey port fn) (fun f => { f with rqShadow := bitsOf v 3 61 * 8 })) := by
  simp [execRegisterWrite, onPort_present hp, hb, ho]

end ReplyRing

/-- The vector and the notify bit of the reply ring take writes at any time. -/
theorem execRegisterWrite_rqVector (v : Nat) : execRegisterWrite port fn 0x18C v s =
    .next (s.updFn (fnKey port fn) (fun f => { f with rqVector := bitsOf v 0 5, rqNotify := bitOf v 8 })) := by
  simp [execRegisterWrite, onPort_present hp, hb]

section EventRing
variable (ho : s.ringRegsOpen (fnKey port fn) false (decide ((s.fn (fnKey port fn)).eqSize = 0)) false = true) (v : Nat)
include ho

/-- The base of an open event ring takes a page address. -/
theorem execRegisterWrite_eqBase : execRegisterWrite port fn 0x1A0 v s =
    .next (s.updFn (fnKey port fn) (fun f => { f with eqBase := bitsOf v 12 52 * 4096 })) := by
  simp [execRegisterWrite, onPort_present hp, hb, ho]

/-- Its shadow takes an aligned address. -/
theorem execRegisterWrite_eqShadow : execRegisterWrite port fn 0x1B8 v s =
    .next (s.updFn (fnKey port fn) (fun f => { f with eqShadow := bitsOf v 3 61 * 8 })) := by
  simp [execRegisterWrite, onPort_present hp, hb, ho]

end EventRing

/-! ### Vectors (R100, R146) -/

/-- Each event code has a vector of its own. -/
theorem execRegisterWrite_evtVec {c : Nat} (hc : c < 256) (v : Nat) :
    execRegisterWrite port fn (0x500 + 8 * c) v s =
      .next (s.updFn (fnKey port fn) (fun f => { f with evtVec := f.evtVec.set c (bitsOf v 0 5) })) := by
  have hsq : ¬ 0x500 + 8 * c < 0x180 := by omega
  have hend : 0x500 + 8 * c < 0xD00 := by omega
  have hidx : (0x500 + 8 * c - 0x500) / 8 = c := by omega
  have hreg : (0x500 + 8 * c) % 8 = 0 := by omega
  have hother : ∀ r, r < 0x500 → ¬ 0x500 + 8 * c = r := fun r hr => by omega
  simp only [execRegisterWrite, onPort_present hp, hb, hidx, hreg, hsq]
  simp [hend, hother]

/-- A part of an MSI-X entry is written, and the messages that it unmasks go out. -/
theorem execRegisterWrite_msix {e part : Nat} (he : e < 32) (hpart : part < 4) (v : Nat) :
    execRegisterWrite port fn (0x1000 + 16 * e + 4 * part) v s = .next ((s.updFn (fnKey port fn) (fun f => { f with
      msix := (s.fn (fnKey port fn)).msix.upd e (fun m => m.write part v) })).flushPba (fnKey port fn)) := by
  have hsq : ¬ 0x1000 + 16 * e + 4 * part < 0x180 := by omega
  have hvec : ¬ 0x1000 + 16 * e + 4 * part < 0xD00 := by omega
  have hge : 0x1000 ≤ 0x1000 + 16 * e + 4 * part := by omega
  have hend : 0x1000 + 16 * e + 4 * part < 0x1200 := by omega
  have hidx : (0x1000 + 16 * e + 4 * part - 0x1000) / 16 = e := by omega
  have hpart' : (0x1000 + 16 * e + 4 * part) / 4 % 4 = part := by omega
  have hreg : (0x1000 + 16 * e + 4 * part) % 4 = 0 := by omega
  have hother : ∀ r, r < 0x1000 → ¬ 0x1000 + 16 * e + 4 * part = r := fun r hr => by omega
  simp only [execRegisterWrite, onPort_present hp, hb, hidx, hpart', hreg, hsq, hvec]
  simp [hge, hend, hother]

end Registers

/-! ### The event mask (R145) -/

/-- The event mask with one of its four words replaced. -/
def maskWith (old idx v : Nat) : Nat := old - bitsOf old (64 * idx) 64 * 2 ^ (64 * idx) + v * 2 ^ (64 * idx)

/-- A mask word is stored whole, and each code whose bit clears writes what was latched. -/
theorem execEvtMaskWrite_stores {s : State} {port fn idx v : Nat} (hb : s.barServed port fn = true) (hi : idx < 4)
    (hv : v < 2 ^ 64) (h15 : idx = 0 → bitOf v 15 = false) :
    execEvtMaskWrite port fn idx v s = .next (((List.range 64).map (· + 64 * idx)).foldl (fun t c =>
      if bitOf (s.fn (fnKey port fn)).evtMask c && !bitOf (maskWith (s.fn (fnKey port fn)).evtMask idx v) c then
        t.unlatch (fnKey port fn) c else t)
      (s.updFn (fnKey port fn) (fun f => { f with evtMask := maskWith (s.fn (fnKey port fn)).evtMask idx v }))) := by
  rw [State.barServed, Bool.and_eq_true, decide_eq_true_eq] at hb
  obtain ⟨he, hs⟩ := hb
  have hword : ¬ (idx = 0 ∧ bitOf v 15 = true) := fun ⟨h0, h⟩ => by simp [h15 h0] at h
  rw [execEvtMaskWrite, if_neg (by simp [he, hs, hi])]
  simp only [Nat.mod_eq_of_lt hv, if_neg hword]
  rfl

/-- Settles O18: each clause is the rule of its register above. -/
theorem registerAndMaskWritesComplete : Obligations.RegisterAndMaskWritesComplete := by
  rintro s port fn ring v _ hp hb rfl
  refine ⟨fun hr ho => execRegisterWrite_sqBase hp hb hr ho, fun hr hh hv => execRegisterWrite_sqHead hp hb hr hh hv,
    fun ho => ⟨execRegisterWrite_rqBase hp hb ho v, execRegisterWrite_rqShadow hp hb ho v⟩,
    execRegisterWrite_rqVector hp hb v, fun ho => ⟨execRegisterWrite_eqBase hp hb ho v, execRegisterWrite_eqShadow hp hb ho v⟩,
    fun c hc => execRegisterWrite_evtVec hp hb hc v, fun e part he hpart => execRegisterWrite_msix hp hb he hpart v, ?mask⟩
  case mask =>
    rintro idx _ _ hi hv h15 rfl rfl
    exact execEvtMaskWrite_stores hb hi hv h15

end Sys2Proof.Machine
end

section
/-!
PROOFS. The internal event controller: edges, claims, completions, withdrawals, enables and routes (04 R130 to R137).
-/

namespace Sys2Proof.Machine

open Sys2Proof

section Eic
variable {s : State}

/-! ### Edges (R130, R131) -/

/-- A source from 4 on pends in one place, whatever its target. -/
theorem pendKey_of_ge {t n : Nat} (hn : 4 ≤ n) : pendKey t n = 7 * 1024 + n := by
  rw [pendKey, if_neg (by omega)]

/-- An edge of such a source sets that one bit. -/
theorem State.edge_of_ge {n : Nat} (hp : s.sourcePresent n = true) (hn : 4 ≤ n) :
    s.edge n = s.setEicNotice { s.eic with pend := s.eic.pend.set (7 * 1024 + n) true } := by
  have hone : ¬ n < 4 := by omega
  rw [State.edge, if_pos hp]
  simp only [if_neg hone, pendKey_of_ge hn]
  rfl

/-- Sources 1 to 3 are always fitted, and pend at each of the five targets. -/
theorem State.edge_shared {n : Nat} (h1 : 1 ≤ n) (h3 : n ≤ 3) : s.edge n = s.setEicNotice { s.eic with
    pend := s.eic.pend.setAll [n, 1024 + n, 2 * 1024 + n, 3 * 1024 + n, 4 * 1024 + n] true } := by
  have hp : s.sourcePresent n = true := by
    obtain rfl | rfl | rfl : n = 1 ∨ n = 2 ∨ n = 3 := by omega
    all_goals rfl
  have hfew : n < 4 := by omega
  have hkeys : (List.range 5).map (fun t => pendKey t n) =
      [n, 1024 + n, 2 * 1024 + n, 3 * 1024 + n, 4 * 1024 + n] := by
    simp [pendKey, hfew, List.range_succ]
  rw [State.edge, if_pos hp]
  simp only [if_pos hfew, hkeys]

/-! ### Claims and completions (R133, R134) -/

section Claim
variable {t : Nat} (ht : t ≤ 4)
include ht

/-- While a source is in service, a claim reads 0 and is counted. -/
theorem execEicClaim_inService (hs : s.eic.service.get t ≠ 0) : execEicClaim t s =
    .next ((s.setEic { s.eic with counted := s.eic.counted + 1 }).setBus (leBytes 4 0)) := by
  simp [execEicClaim, ht.not_gt, hs]

section Free
variable (hs : s.eic.service.get t = 0)
include hs

/-- A claim takes the lowest eligible source into service; but for the mailboxes it has no other effect. -/
theorem execEicClaim_eligible {n : Nat} (hn : s.eic.lowest t = some n) (hbox : n < 47 ∨ 63 < n) :
    execEicClaim t s = .next ((s.setEic { s.eic with
      pend := s.eic.pend.set (pendKey t n) false
      service := s.eic.service.set t n
      notice := s.eic.notice.set t false }).setBus (leBytes 4 n)) := by
  have hslot : ¬ (47 ≤ n ∧ n ≤ 62) := by omega
  have hcores : ¬ n = 63 := by omega
  rw [execEicClaim, if_neg ht.not_gt, if_neg (by simp [hs]), hn]
  simp only [State.readMailbox, if_neg hslot, if_neg hcores]

/-- Without one, and without a notice, it reads 0. -/
theorem execEicClaim_none (hn : s.eic.lowest t = none) (hnot : s.eic.notice.get t = false) :
    execEicClaim t s = .next (s.setBus (leBytes 4 0)) := by
  simp [execEicClaim, ht.not_gt, hs, hn, hnot]

end Free

/-- The number in service ends its service. -/
theorem execEicComplete_inService {id : Nat} (hid : id ≠ 0) (hs : s.eic.service.get t = id) :
    execEicComplete t id s = .next (s.setEicNotice { s.eic with service := s.eic.service.set t 0 }) := by
  simp [execEicComplete, ht, hid, hs]

end Claim

/-- Any other value is ignored and counted. -/
theorem execEicComplete_other {t id : Nat} (hs : s.eic.service.get t ≠ id) :
    execEicComplete t id s = .next (s.setEic { s.eic with counted := s.eic.counted + 1 }) := by
  simp [execEicComplete, hs]

/-! ### Enables and routes (R130, R136) -/

/-- The enable bits of sources 4 to 511 are written. -/
theorem execEicEnableWrite_own {t n : Nat} (ht : t ≤ 4) (hmin : 4 ≤ n) (hmax : n ≤ 511) (b : Bool) :
    execEicEnableWrite t n b s = .next (s.setEicNotice { s.eic with en := s.eic.en.set (t * 1024 + n) b }) := by
  simp [execEicEnableWrite, ht, hmin, hmax]

/-- Those of sources 1 to 3 ignore writes. -/
theorem execEicEnableWrite_shared {n : Nat} (hn : n ≤ 3) (t : Nat) (b : Bool) :
    execEicEnableWrite t n b s = .next s := by
  have hlow : ¬ 4 ≤ n := by omega
  simp [execEicEnableWrite, hlow]

/-- The route of a source that is not fixed is written. -/
theorem execEicRouteWrite_own {t n : Nat} (ht : t ≤ 4) (hmin : 4 ≤ n) (hmax : n ≤ 511) (hf : fixedCupper n = false) :
    execEicRouteWrite n t s = .next (s.setEicNotice { s.eic with route := s.eic.route.set n t }) := by
  simp [execEicRouteWrite, ht, hmin, hmax, hf]

/-- A write to the route of one that is Cupper's is ignored and counted. -/
theorem execEicRouteWrite_fixed {n : Nat} (hf : fixedCupper n = true) (t : Nat) :
    execEicRouteWrite n t s = .next (s.setEic { s.eic with counted := s.eic.counted + 1 }) := by
  simp [execEicRouteWrite, hf]

end Eic

/-- Settles O19: each clause is one of the rules above; a withdrawal has no condition. -/
theorem eventControllerCompletes : Obligations.EventControllerCompletes := by
  intro s
  exact ⟨fun n hp hn => congrArg _ (State.edge_of_ge hp hn), fun n h1 h3 => congrArg _ (State.edge_shared h1 h3),
    fun t n ht hs hn => execEicClaim_eligible ht hs hn, fun t ht hs hn => execEicClaim_none ht hs hn,
    fun t ht => execEicClaim_inService ht, fun t id ht hid => execEicComplete_inService ht hid,
    fun t id _ => execEicComplete_other, fun t n => rfl,
    fun t n b ht hmin hmax => execEicEnableWrite_own ht hmin hmax b, fun t n b hn => execEicEnableWrite_shared hn t b,
    fun t n ht hmin hmax => execEicRouteWrite_own ht hmin hmax, fun t n hf => execEicRouteWrite_fixed hf t⟩

end Sys2Proof.Machine
end

section
/-!
PROOFS. Replies and event records on their way to the host: what is stored in a ring, and what is latched or waits (03 R98,
R99, R128; 04 R142, R145).
-/

namespace Sys2Proof.Machine

open Sys2Proof

/-! ### Replies (R98, R99, R110) -/

/-- The function of a port serves an instance that is not FROZEN, and may do DMA: its replies can go out (R98, R142). -/
structure State.ReplyPathOpen (s : State) (port fn n : Nat) : Prop where
  serves : s.instOf (fnKey port fn) = some n
  thawed : (s.inst n).state ≠ .frozen
  busMaster : (s.fn (fnKey port fn)).busMaster = true

/-- The first reply of an instance's rings that may go out. -/
def State.nextReply (s : State) (n : Nat) : Option Reply :=
  s.tp.replies.find? (fun r => !r.isMgmt && decide (r.inst = n) && s.replyReady r)

/-- The first one that ring space alone keeps back and that is not counted yet (R98). -/
def State.nextStalled (s : State) (n : Nat) : Option Reply :=
  s.tp.replies.find? (fun r => !r.isMgmt && decide (r.inst = n) && s.replyQueued r && !r.stalled)

/-- The reply ring of a function has room for some bytes (R98). -/
def Fn.rqRoom (f : Fn) (bytes : Nat) : Bool :=
  !(decide (f.rqSize = 0) || decide (f.rqSize < ringUsed f.rqTail f.rqHead + bytes))

section Reply
variable {s : State} {port fn n : Nat} (ho : s.ReplyPathOpen port fn n) {r : Reply} (hr : s.nextReply n = some r)
include ho hr

/-- With room, and without a shadow or a notification, the reply is stored behind the tail, and leaves the queue. -/
theorem State.writeReply_stored (hroom : (s.fn (fnKey port fn)).rqRoom (pad16 r.bytes).length = true)
    (hshadow : (s.fn (fnKey port fn)).rqShadow = 0) (hring : (s.fn (fnKey port fn)).rqNotify = false)
    (hnote : r.notify = false) :
    s.writeReply port fn = ((s.writeRing port (s.fn (fnKey port fn)).rqLatched (s.fn (fnKey port fn)).rqSize
      (s.fn (fnKey port fn)).rqTail.toNat (pad16 r.bytes)).dropReply r).updFn (fnKey port fn) (fun f => { f with
        rqTail := (s.fn (fnKey port fn)).rqTail + w32 (pad16 r.bytes).length }) := by
  obtain ⟨hserves, hthawed, hmaster⟩ := ho
  rw [Fn.rqRoom, Bool.not_eq_true'] at hroom
  rw [State.nextReply] at hr
  simp only [State.writeReply, hserves, hthawed, hmaster, hr, hroom, hshadow, hring, hnote]
  simp

/-- Without room it waits, and the first one behind it that is not counted yet is (R98). -/
theorem State.writeReply_stalled {w : Reply} (hroom : (s.fn (fnKey port fn)).rqRoom (pad16 r.bytes).length = false)
    (hw : s.nextStalled n = some w) :
    s.writeReply port fn = (s.setTp { s.tp with
      replies := s.tp.replies.map (fun x => if x = w then { w with stalled := true } else x) }).updFn (fnKey port fn)
        (fun f => { f with rqStalls := satInc 32 f.rqStalls }) := by
  obtain ⟨hserves, hthawed, hmaster⟩ := ho
  rw [Fn.rqRoom, Bool.not_eq_false'] at hroom
  rw [State.nextReply] at hr
  rw [State.nextStalled] at hw
  simp only [State.writeReply, hserves, hthawed, hmaster, hr, hroom, hw]
  simp

end Reply

/-- On the management port a reply goes to its requester (R128). -/
theorem execReplyWrite_mgmt {s : State} {r : Reply}
    (hr : s.tp.replies.find? (fun r => r.isMgmt && s.replyReady r) = some r) :
    execReplyWrite .mgmt s = .next ((s.dropReply r).setTp { (s.dropReply r).tp with
      mgmtOut := s.tp.mgmtOut ++ [mgmtBody 1 r.bytes] }) := by
  rw [execReplyWrite, hr]

/-! ### Event records (R142, R145) -/

section Event
variable {s : State} {k : Nat} (hh : (s.fn k).holding = []) (hlost : (s.fn k).lost = 0)
include hh hlost

/-- With nothing held and nothing lost there is nothing to drain. -/
theorem State.drainHolding_empty (fuel : Nat) : State.drainHolding fuel s k = s := by
  cases fuel with
  | zero => rfl
  | succ fuel =>
    rw [State.drainHolding]
    simp [hh, hlost]

/-- An unmasked record goes to the ring where there is room. -/
theorem State.deliver_ring (r : EvRec) (hroom : (s.fn k).eqRoom = true) (hm : (s.fn k).busMaster = true) :
    s.deliver k r = s.putEvent k r := by
  simp [State.deliver, hh, hlost, hroom, hm]

end Event

/-- Without room a record is the first that is held back. -/
theorem State.deliver_held {s : State} {k : Nat} (hh : (s.fn k).holding = []) (r : EvRec) (hroom : (s.fn k).eqRoom = false) :
    s.deliver k r = s.updFn k (fun f => { f with holding := f.holding ++ [r] }) := by
  have hplace : (s.fn k).holding.length < s.holdRoom k := by
    rw [hh, State.holdRoom, List.length_nil]
    split <;> decide
  simp only [State.deliver, hroom, Bool.and_false, Bool.false_and, State.hold, if_pos hplace]
  rfl

/-- A masked record is latched, but for EVENTS_LOST (R144, R145). -/
theorem State.maskOrDeliver_masked {s : State} {k : Nat} {r : EvRec} (hm : bitOf (s.fn k).evtMask r.code = true)
    (hc : r.code ≠ 0x0F) : s.maskOrDeliver k r = s.updFn k (fun f => { f with
      latches := f.latches.upd r.code (fun l => some { record := r, merged := (l.map (·.merged)).getD 0 + 1 }) }) := by
  rw [State.maskOrDeliver, if_pos (by simp [hm, hc])]

/-- An unmasked one is delivered. -/
theorem State.maskOrDeliver_unmasked {s : State} {k : Nat} {r : EvRec} (hm : bitOf (s.fn k).evtMask r.code = false) :
    s.maskOrDeliver k r = s.deliver k r := by
  rw [State.maskOrDeliver, if_neg (by simp [hm])]

/-- EVENT_WRITE takes the oldest record that has arisen for the instance. -/
theorem execEventWrite_raised {s : State} {port fn n : Nat} {r : EvRec} (hp : s.present (hPort port) = true)
    (hn : s.instOf (fnKey port fn) = some n) (hh : (s.fn (fnKey port fn)).holding = [])
    (hlost : (s.fn (fnKey port fn)).lost = 0) (hr : s.tp.raised.find? (fun r => decide (r.inst = n)) = some r) :
    execEventWrite port fn s =
      .next ((s.setTp { s.tp with raised := s.tp.raised.erase r }).maskOrDeliver (fnKey port fn) r) := by
  simp only [execEventWrite, hp, State.drainHolding_empty hh hlost, hn, hr]
  rfl

/-- Settles O21: replies by their room, events by their mask and their room. -/
theorem replyAndEventWritesComplete : Obligations.ReplyAndEventWritesComplete := by
  rintro s port fn _ n _ rfl rfl hp hn
  refine ⟨?replies, fun r => execReplyWrite_mgmt, ?events⟩
  case replies =>
    rintro r _ hf hm hr rfl
    have ho : s.ReplyPathOpen port fn n := ⟨hn, hf, hm⟩
    refine ⟨fun hz hfit hshadow hring hnote => ?stored, fun w hfull hw => ?stalled⟩
    case stored =>
      have hroom : (s.fn (fnKey port fn)).rqRoom (pad16 r.bytes).length = true := by
        simp [Fn.rqRoom, ringUsed, hz, hfit.not_gt, -BitVec.toNat_sub]
      exact (onPort_present hp).trans (congrArg _ (State.writeReply_stored ho hr hroom hshadow hring hnote))
    case stalled =>
      have hroom : (s.fn (fnKey port fn)).rqRoom (pad16 r.bytes).length = false := by
        simp [Fn.rqRoom, ringUsed, hfull, -BitVec.toNat_sub]
      exact (onPort_present hp).trans (congrArg _ (State.writeReply_stalled ho hr hroom hw))
  case events =>
    intro r t hh hlost hr ht
    have hexec : exec (.eventWrite port fn) s = .next (t.maskOrDeliver (fnKey port fn) r) :=
      ht ▸ execEventWrite_raised hp hn hh hlost hr
    have hfn : t.fn (fnKey port fn) = s.fn (fnKey port fn) := by rw [ht]; rfl
    rw [← hfn] at hh hlost ⊢
    rw [hexec]
    refine ⟨fun hmask hc => ?latched, fun hmask hz hfit hm => ?written, fun hmask hfull => ?held⟩
    case latched => rw [State.maskOrDeliver_masked hmask hc]
    case written =>
      have hroom : (t.fn (fnKey port fn)).eqRoom = true := by simp [Fn.eqRoom, ringUsed, hz, hfit, -BitVec.toNat_sub]
      rw [State.maskOrDeliver_unmasked hmask, State.deliver_ring hh hlost r hroom hm]
    case held =>
      have hroom : (t.fn (fnKey port fn)).eqRoom = false := by
        simp [Fn.eqRoom, ringUsed, hfull.not_ge, -BitVec.toNat_sub]
      rw [State.maskOrDeliver_unmasked hmask, State.deliver_held hh r hroom]

end Sys2Proof.Machine
end

section
/-!
PROOFS. The instance packets: quotas, the life cycle, and an instance's image (02 R54, R58 to R73, R86 to R93, R318;
05 R165 to R168).
-/

namespace Sys2Proof.Machine

open Sys2Proof

/-- The packet names instance `n`. -/
structure NamesInst (p : Packet) (n : Nat) : Prop where
  target : p.target = hInst n
  lt : n < 256

section Handle
variable {p : Packet} {n : Nat} (hn : NamesInst p n)
include hn

/-- The handle is of an instance. -/
@[simp] theorem NamesInst.instHandle : instHandle p = true := by
  obtain ⟨ht, hlt⟩ := hn
  rw [Machine.instHandle, ht, hInst, decide_eq_true_eq]
  omega

/-- Its index is the instance. -/
theorem NamesInst.instTarget : instTarget p = n := by
  obtain ⟨ht, hlt⟩ := hn
  rw [Machine.instTarget, ht, hInst]
  omega

end Handle

/-! ### What a packet's mark leaves alone -/

@[simp] theorem State.exists_markApplied (s : State) (p : Packet) (n : Nat) :
    (s.markApplied p).exists_ n = s.exists_ n := rfl

/-! ### INST_CREATE and INST_QUOTA_SET (R54, R70 to R73, R318) -/

/-- The instance that an INST_CREATE makes, before its quotas (R54, R165). -/
def newInst (p : Packet) : Inst :=
  { Inst.none with
    state := .quiesced, safety := decide (p.u8 16 = 1), drainMs := if p.u8 17 = 0 then 20 else p.u8 17,
    autoreset := !p.flag 18 0 }

/-- The state in which an INST_CREATE has taken its grants, as a new intention. -/
def State.created (s : State) (p : Packet) (n : Nat) (es : List QEntry) : State :=
  ((s.updInst n (fun _ => newInst p)).applyQuotas n es).intend (hInst n) false 0

/-- An INST_CREATE has its fields in range, and its payload is its quota list (R165). -/
structure CreateFormed (p : Packet) (es : List QEntry) : Prop where
  length_ge : 8 ≤ p.length
  cls : p.u8 16 ≤ 1
  drain : p.u8 17 ≤ 200
  options : p.u16 18 ≤ 1
  reserved : p.u16 22 = 0
  list : parseQuota (p.u16 20) (p.wordsFrom 24) = (es, [])

/-- An INST_QUOTA_SET has its fields in range, and its payload is its quota list (R167). -/
structure QuotaSetFormed (p : Packet) (es : List QEntry) : Prop where
  length_ge : 4 ≤ p.length
  reserved : p.u16 18 = 0
  list : parseQuota (p.u16 16) (p.wordsFrom 20) = (es, [])

/-- The answer of INST_QUOTA_SET of instance `i` to a list that parses (R70 to R73, R167). -/
def State.quotaSetAnswer (u : State) (n : Nat) (i : Inst) (es : List QEntry) : Ans :=
  match u.quotaForms n i false es with
  | some f => .fail f.1 f.2
  | none =>
    if i.state = .wedged then .fail .wedged []
    else match u.quotaPools n i false es with
    | some f => .fail f.1 f.2
    | none =>
      if i.state = .quiescing ∨ i.state = .resetting then .fail .busy (quotaResult 0xFFFF 0 0)
      else .done ((u.applyQuotas n es).intend (hInst n) false 0) .ok []

section Create
variable {s : State} {p : Packet} {n : Nat} {es : List QEntry}

/-- INST_CREATE of an absent guest whose list passes takes its grants; the reply waits where the scrubber still has some of
its blocks (R601). -/
theorem execInstCreate_passes (hn : NamesInst p n) (ht : s.takes opInstCreate true p = true) (hf : CreateFormed p es)
    (h0 : n ≠ 0) (habsent : s.exists_ n = false)
    (hforms : (s.markApplied p).quotaForms n (newInst p) (decide (p.u8 17 ≠ 0)) es = none)
    (hpools : (s.markApplied p).quotaPools n (newInst p) true es = none)
    (hsec : p.u8 16 = 1 → s.sec.available = true) {t : State} (hcreated : t = (s.markApplied p).created p n es) :
    execInstCreate p s = .next (Ans.close (s.markApplied p) opInstCreate p
      (if (t.inst n).blocks.any (fun b => t.memc.zeroing.contains b) then
        .owe (t.setMemc { t.memc with waitingCreates := t.memc.waitingCreates ++ [{ opcode := 0x0020, p := p }] })
      else .done t .ok [])) := by
  subst hcreated
  obtain ⟨hl, hcls, hdrain, hopt, hz, hlist⟩ := hf
  have hsafe : ¬ ((newInst p).safety && !(s.markApplied p).sec.available) = true := by
    simpa [newInst] using hsec
  rw [execInstCreate, packet_taken ht, ← newInst]
  simp only [hn.instTarget, hlist]
  rw [if_neg (by simp [hn.instHandle, hl, hcls, hdrain, hopt, hz]), hforms]
  simp only
  rw [if_neg (by simp [h0, habsent]), hpools]
  simp only
  rw [if_neg hsafe]
  rfl

/-- What is left of an INST_QUOTA_SET of an instance that exists are the checks of its list and the instance's state. -/
theorem execInstQuotaSet_formed (hn : NamesInst p n) (ht : s.takes opInstQuotaSet true p = true)
    (hf : QuotaSetFormed p es) (hx : (s.inst n).state ≠ .absent) :
    execInstQuotaSet p s = .next (Ans.close (s.markApplied p) opInstQuotaSet p ((s.markApplied p).quotaSetAnswer n (s.inst n) es))
    := by
  obtain ⟨hl, hz, hlist⟩ := hf
  rw [execInstQuotaSet, packet_taken ht]
  simp only [hn.instTarget, hlist, State.inst_markApplied]
  rw [if_neg (by simp [hn.instHandle, hl, hz, hx])]
  rfl

end Create

/-- Settles O22: an INST_CREATE that passes, and an INST_QUOTA_SET by the first check that fails. -/
theorem quotaPacketsComplete : Obligations.QuotaPacketsComplete := by
  rintro p s _ n rfl htarget hlt
  have hn : NamesInst p n := ⟨htarget, hlt⟩
  refine ⟨?create, ?set, fun v w b => ⟨rfl, rfl, rfl, rfl, rfl⟩⟩
  case create =>
    rintro es _ ht hl hcls hdrain hopt hz hlist h0 habsent rfl hforms hpools hsec t hcreated
    have hexec := execInstCreate_passes hn ht ⟨hl, hcls, hdrain, hopt, hz, hlist⟩ h0 habsent hforms hpools hsec hcreated
    refine ⟨fun hclear => ?clear, fun hbusy => ?scrubbed⟩
    case clear =>
      have hnone : (t.inst n).blocks.any (fun b => t.memc.zeroing.contains b) = false := by
        rw [List.any_eq_not_all_not, hclear, Bool.not_true]
      rw [if_neg (Bool.not_eq_true _ ▸ hnone)] at hexec
      exact hexec
    case scrubbed =>
      rw [if_pos hbusy] at hexec
      exact hexec
  case set =>
    intro es ht hl hz hlist hx
    have hexec := execInstQuotaSet_formed hn ht ⟨hl, hz, hlist⟩ hx
    simp only [State.quotaSetAnswer] at hexec
    refine ⟨fun hforms hw hq hr hpools => ?passes, fun st res hforms => ?form, fun st res hforms hw hpools => ?pool⟩
    case passes =>
      rw [hforms] at hexec
      simp only [if_neg hw, hpools] at hexec
      rw [if_neg (by simp [hq, hr])] at hexec
      exact hexec
    case form =>
      rw [hforms] at hexec
      exact hexec
    case pool =>
      rw [hforms] at hexec
      simp only [if_neg hw, hpools] at hexec
      exact hexec

/-! ### The life cycle (R58 to R67) -/

/-- A guest in a state that the command's row of R58 names passes the test of the state. -/
theorem State.lifeStatus_allowed {s : State} {n : Nat} {allowed : List InstState} (h0 : n ≠ 0)
    (ha : (s.inst n).state ∈ allowed) (quiesce : Bool) : s.lifeStatus n allowed quiesce = none := by
  simp [State.lifeStatus, h0, ha]

@[simp] theorem Ans.stop_none (k : Ans) : Ans.stop none k = k := rfl
@[simp] theorem Ans.stop_some (st : Status) (k : Ans) : Ans.stop (some st) k = .fail st [] := rfl

section Life
variable {s : State} {p : Packet} {n : Nat} (hn : NamesInst p n) (h0 : n ≠ 0)

/-- An INST_BIND names a free function that is not the manager's (R56, R60). -/
structure State.BindFormed (s : State) (p : Packet) : Prop where
  length_eq : p.length = 4
  reserved : p.fld 16 4 4 = 0
  reserved' : p.u16 18 = 0
  port : p.fld 16 0 4 < s.board.member.ports
  fnExists : s.fnExists (p.fld 16 0 4) (p.u8 17) = true
  guest : fnKey (p.fld 16 0 4) (p.u8 17) ≠ s.managerFn
  free : s.boundTo (fnKey (p.fld 16 0 4) (p.u8 17)) = none

include hn h0

/-- INST_BIND gives a QUIESCED or FROZEN guest its function. -/
theorem execInstBind_free (ht : s.takes opInstBind true p = true) (hf : s.BindFormed p)
    (hs : (s.inst n).state = .quiesced ∨ (s.inst n).state = .frozen) :
    execInstBind p s = .next ((((s.markApplied p).updInst n (fun i => { i with
      fn := some (fnKey (p.fld 16 0 4) (p.u8 17))
      frozen := i.frozen.map (fun f => { f with fn := none }) })).intend (hInst n) false 0).answer 0x0021 p .ok []) := by
  obtain ⟨hl, hz, hz', hport, he, hg, hfree⟩ := hf
  have hlife : (s.markApplied p).lifeStatus n [.quiesced, .frozen] true = none :=
    State.lifeStatus_allowed h0 (by simpa using hs) true
  rw [execInstBind, packet_taken ht]
  simp only [hn.instTarget, hlife]
  rw [checks_pass (by simp [hn.instHandle, hl, hz, hz']), checks_pass (by simpa using hport),
    checks_pass (by rw [Bool.and_eq_true, decide_eq_true_eq]; exact ⟨he, hg⟩), checks_nil, Ans.stop_none,
    checks_pass (by rw [decide_eq_true_eq]; exact hfree)]
  rfl

section Quiesce
variable (ht : s.takes opInstQuiesce true p = true) (hl : p.length = 0)
include ht hl

/-- INST_QUIESCE of a BOUND or ACTIVE guest stops its intake, and owes the reply (R61). -/
theorem execInstQuiesce_running (hs : (s.inst n).state = .bound ∨ (s.inst n).state = .active) :
    execInstQuiesce p s = .next (((((s.markApplied p).stopIntake n .quiesce).updInst n (fun i => { i with
      waiting := some { opcode := 0x0023, p := p } })).intend (hInst n) true 0).interim 0x0023 p) := by
  have hlife : (s.markApplied p).lifeStatus n [.bound, .active, .frozen, .quiesced] false = none :=
    State.lifeStatus_allowed h0 (by obtain hs | hs := hs <;> simp [hs]) false
  rw [execInstQuiesce, packet_taken ht]
  simp only [hn.instTarget, hlife]
  rw [checks_pass (by simp [hn.instHandle, hl])]
  obtain hs | hs := hs
  · simp [hs, opInstQuiesce]
  · simp [hs, opInstQuiesce]

/-- Of a QUIESCED one it is answered at once. -/
theorem execInstQuiesce_quiesced (hs : (s.inst n).state = .quiesced) :
    execInstQuiesce p s = .next ((s.markApplied p).answer 0x0023 p .ok []) := by
  have hlife : (s.markApplied p).lifeStatus n [.bound, .active, .frozen, .quiesced] false = none :=
    State.lifeStatus_allowed h0 (by simp [hs]) false
  rw [execInstQuiesce, packet_taken ht]
  simp only [hn.instTarget, hlife]
  rw [checks_pass (by simp [hn.instHandle, hl])]
  simp [hs, opInstQuiesce]

/-- A WEDGED guest, and a RESETTING one, cannot be quiesced (R60). -/
theorem execInstQuiesce_refused {st : Status}
    (hs : (s.inst n).state = .wedged ∧ st = .wedged ∨ (s.inst n).state = .resetting ∧ st = .busy) :
    execInstQuiesce p s = .next ((s.markApplied p).answer 0x0023 p st []) := by
  have hlife : (s.markApplied p).lifeStatus n [.bound, .active, .frozen, .quiesced] false = some st := by
    obtain ⟨hs, rfl⟩ | ⟨hs, rfl⟩ := hs
    · simp [State.lifeStatus, h0, hs]
    · simp [State.lifeStatus, h0, hs]
  have hnot : (s.inst n).state ≠ .quiescing := by
    obtain ⟨hs, -⟩ | ⟨hs, -⟩ := hs
    · simp [hs]
    · simp [hs]
  rw [execInstQuiesce, packet_taken ht]
  simp only [hn.instTarget, hlife]
  rw [checks_pass (by simp [hn.instHandle, hl])]
  simp [hnot, opInstQuiesce]

end Quiesce

/-- INST_RESET of a bound QUIESCED guest begins the reset, and owes the reply (R65). -/
theorem execInstReset_quiesced (ht : s.takes opInstReset true p = true) (hl : p.length = 0)
    (hs : (s.inst n).state = .quiesced) (hb : (s.inst n).fn.isSome = true) :
    execInstReset p s = .next (((((s.markApplied p).beginReset n).updInst n (fun i => { i with
      waiting := some { opcode := 0x0024, p := p } })).intend (hInst n) true 0).interim 0x0024 p) := by
  have hlife : (s.markApplied p).lifeStatus n [.quiesced] true = none :=
    State.lifeStatus_allowed h0 (by simp [hs]) true
  rw [execInstReset, packet_taken ht]
  simp only [hn.instTarget, hlife]
  rw [checks_pass (by simp [hn.instHandle, hl]), checks_nil, Ans.stop_none, checks_pass (by simpa using hb)]
  rfl

/-- An ACTIVE guest must be quiesced first (R60). -/
theorem execInstReset_active (ht : s.takes opInstReset true p = true) (hl : p.length = 0)
    (hs : (s.inst n).state = .active) :
    execInstReset p s = .next ((s.markApplied p).answer 0x0024 p .quiesceRequired []) := by
  have hlife : (s.markApplied p).lifeStatus n [.quiesced] true = some .quiesceRequired := by
    simp [State.lifeStatus, h0, hs]
  rw [execInstReset, packet_taken ht]
  simp only [hn.instTarget, hlife]
  rw [checks_pass (by simp [hn.instHandle, hl])]
  rfl

/-- INST_DESTROY of a QUIESCED guest begins its reset, and owes the reply (R65, log 99). -/
theorem execInstDestroy_quiesced (ht : s.takes opInstDestroy true p = true) (hl : p.length = 0)
    (hs : (s.inst n).state = .quiesced) :
    execInstDestroy p s = .next (((((s.markApplied p).beginReset n).updInst n (fun i => { i with
      waiting := some { opcode := 0x0029, p := p } })).intend (hInst n) true 0).interim 0x0029 p) := by
  have hlife : (s.markApplied p).lifeStatus n [.quiesced] true = none :=
    State.lifeStatus_allowed h0 (by simp [hs]) true
  rw [execInstDestroy, packet_taken ht]
  simp only [hn.instTarget, hlife]
  rw [checks_pass (by simp [hn.instHandle, hl])]
  rfl

/-- INST_FREEZE of an ACTIVE guest stops its intake, and owes the reply (R66). -/
theorem execInstFreeze_active (ht : s.takes opInstFreeze true p = true) (hl : p.length = 0)
    (hs : (s.inst n).state = .active) :
    execInstFreeze p s = .next (((((((s.markApplied p).updInst n (fun i => { i with
      state := .quiescing
      drain := .freeze
      stopped := s.devTime
      freezeWaiting := some { opcode := 0x0025, p := p } })).requestClusters n).freezeHaptics n).pauseAudio n true).intend
        (hInst n) true 0).interim 0x0025 p) := by
  have hlife : (s.markApplied p).lifeStatus n [.active] false = none :=
    State.lifeStatus_allowed h0 (by simp [hs]) false
  rw [execInstFreeze, packet_taken ht]
  simp only [hn.instTarget, hlife]
  rw [checks_pass (by simp [hn.instHandle, hl])]
  rfl

end Life

/-- Settles O23: each clause is the rule of its packet above. -/
theorem lifecyclePacketsComplete : Obligations.LifecyclePacketsComplete := by
  rintro p s _ n rfl htarget hlt h0
  have hn : NamesInst p n := ⟨htarget, hlt⟩
  refine ⟨?bind, fun ht hl => ⟨execInstQuiesce_running hn h0 ht hl, execInstQuiesce_quiesced hn h0 ht hl⟩,
    execInstReset_quiesced hn h0, execInstDestroy_quiesced hn h0, execInstFreeze_active hn h0,
    fun ht hl => ⟨fun hs => execInstQuiesce_refused hn h0 ht hl (.inl ⟨hs, rfl⟩),
      fun hs => execInstQuiesce_refused hn h0 ht hl (.inr ⟨hs, rfl⟩)⟩, execInstReset_active hn h0⟩
  case bind =>
    rintro _ ht hl hz hz' hport he rfl hg hfree hs
    exact execInstBind_free hn h0 ht ⟨hl, hz, hz', hport, he, hg, hfree⟩ hs

/-! ### Images (R66 to R69, R86 to R93) -/

/-- The rings of a thaw lie with the functions. -/
theorem State.touch_thawRings (s : State) (k : Nat) (z : Frozen) (same : Bool) :
    (s.thawRings k z same).touch = s.touch := by
  rw [State.thawRings]
  refine foldl_keeps State.touch (fun t r => ?_) _ s
  rfl

/-- The streams that fall silent, or go on, are audio. -/
theorem State.touch_pauseAudio (s : State) (n : Nat) (b : Bool) : (s.pauseAudio n b).touch = s.touch :=
  foldl_keeps State.touch (fun t k => by split <;> rfl) _ s

/-- How INST_THAWED tells the way an instance comes back (R90, R149). -/
def thawCause (z : Frozen) (k : Nat) : Nat := if z.restored then 3 else if z.fn = some k then 1 else 2

/-- The state in which a thawed instance is told of it. -/
def State.thawed (s : State) (n k : Nat) (z : Frozen) : State :=
  (((s.thawRings k z (decide (z.fn = some k) && !z.restored)).updInst n (fun i => { i with
    state := .active
    frozen := none })).pauseAudio n false).raise n 0x05 (hInst n)
      (detail [(thawCause z k, 8), (0, 24), (z.time, 64), (z.discarded, 32)])

/-- A thaw leaves the report areas alone. -/
theorem State.area_thawed (s : State) (n k : Nat) (z : Frozen) (m q : Nat) : (s.thawed n k z).area m q = s.area m q := by
  have htouch : (s.thawed n k z).touch = s.touch := by
    simp [State.thawed, State.touch_pauseAudio, State.touch_thawRings]
  rw [State.area, htouch, State.area]

section Image
variable {s : State} {p : Packet} {n : Nat} (hn : NamesInst p n) (h0 : n ≠ 0)
include hn h0

/-- INST_THAW of a bound FROZEN guest without a report area makes it ACTIVE. -/
theorem execInstThaw_frozen {k : Nat} {z : Frozen} (ht : s.takes opInstThaw true p = true) (hl : p.length = 0)
    (hs : (s.inst n).state = .frozen) (hk : (s.inst n).fn = some k) (hz : (s.inst n).frozen = some z)
    (ha : ∀ q, q < 4 → s.area n q = none) :
    execInstThaw p s = .next (((((s.markApplied p).thawed n k z).intend (hInst n) false 0).flushFences).answer 0x0028 p .ok
      []) := by
  have hlife : (s.markApplied p).lifeStatus n [.frozen] false = none := State.lifeStatus_allowed h0 (by simp [hs]) false
  have hareas : (List.range 4).any (fun q => (((s.markApplied p).thawed n k z).area n q).isSome) = false := by
    simp only [State.area_thawed, List.any_eq_false, List.mem_range]
    intro q hq
    have harea : (s.markApplied p).area n q = none := ha q hq
    simp [harea]
  rw [execInstThaw, packet_taken ht]
  simp only [State.thawed, thawCause] at hareas
  simp only [hn.instTarget, hlife, State.inst_markApplied, hk, hz, decide_eq_true_eq, hareas, Bool.false_eq_true,
    if_false]
  rw [checks_pass (by simp [hn.instHandle, hl]), checks_nil, Ans.stop_none, Ans.close_done]
  rfl

/-- INST_SAVE of a FROZEN guest writes its image where it fits, and gives the length where it does not (R86). -/
theorem execInstSave_frozen (ht : s.takes opInstSave true p = true) (hl : p.length = 16) (ha : p.u64 16 % 64 = 0)
    (hz : p.fld 28 2 30 = 0) (hm : s.busMaster 0 = true) (hs : (s.inst n).state = .frozen)
    (hsec : p.flag 28 0 = true → s.sec.available = true ∧ s.sec.key.isSome = true) {img : List Byte}
    (himg : img = s.imageBytes n (p.flag 28 0) (p.flag 28 1)) :
    execInstSave p s = .next (Ans.close (s.markApplied p) opInstSave p
      (if p.u32 24 < img.length then .fail .badParam (w64 img.length)
      else .done ((s.markApplied p).writeHost s.board.mgrPortInForce (p.u64 16) img).tickFree .ok (w64 img.length))) := by
  subst himg
  have hlife : (s.markApplied p).lifeStatus n [.frozen] false = none := State.lifeStatus_allowed h0 (by simp [hs]) false
  have hkey : (!p.flag 28 0 || (s.sec.available && s.sec.key.isSome)) = true := by
    cases hf : p.flag 28 0 with
    | false => rfl
    | true =>
      obtain ⟨havail, hsome⟩ := hsec hf
      simp [havail, hsome]
  rw [execInstSave, packet_taken ht]
  simp only [hn.instTarget, hlife]
  rw [checks_pass (by simp [hn.instHandle, hl, ha, hz]), checks_pass (by exact hm), checks_nil, Ans.stop_none,
    checks_pass (by exact hkey)]
  rfl

/-- An image that the checks of R87 accept on this device, unsealed. -/
structure State.AcceptsImage (s : State) (n : Nat) (img : List Byte) (c : ImageContent) : Prop where
  crc : imageCrcOk img = true
  unsealed : bitOf (leNat ((img.drop 6).take 2)) 0 = false
  form : imageFormOk img = true
  content : restoredContent img = some c
  units : s.imageUnits c = true
  pools : s.imagePools n c = true
  free : s.imageFree n c = true
  secure : c.inst.safety = true → s.sec.available = true

/-- INST_RESTORE of an accepted image puts it in the place of an absent guest. -/
theorem execInstRestore_accepted {img : List Byte} {c : ImageContent} (ht : s.takes opInstRestore true p = true)
    (hl : p.length = 12) (ha : p.u64 16 % 64 = 0) (hm : s.busMaster 0 = true) (habsent : s.exists_ n = false)
    (himg : img = s.hostBytes s.board.mgrPortInForce (p.u64 16) (p.u32 24))
    (hok : (s.markApplied p).AcceptsImage n img c) :
    execInstRestore p s = .next (((((s.markApplied p).placeImage n (leNat ((img.drop 24).take 8)) c).intend (hInst n) false
      0).tickFree).answer 0x0027 p .ok []) := by
  obtain ⟨hcrc, hsealed, hform, hcontent, hunits, hpools, hfree, hsec⟩ := hok
  have hread : (s.markApplied p).hostBytes (s.markApplied p).board.mgrPortInForce (p.u64 16) (p.u32 24) = img := himg.symm
  rw [execInstRestore, packet_taken ht]
  simp only [hn.instTarget, hread, hcontent]
  rw [checks_pass (by simp [hn.instHandle, hl, ha, hm]), checks_pass (by simp [h0, habsent]), checks_pass (by exact hcrc),
    checks_pass (by simp [hsealed]), checks_pass (by simp [hsealed]), checks_pass (by exact hform), checks_nil,
    checks_pass (by exact hunits), checks_pass (by exact hpools), checks_pass (by exact hfree),
    checks_pass (by simpa [Decidable.imp_iff_not_or] using hsec)]
  rfl

end Image

/-- Settles O24: each clause is the rule of its packet above. -/
theorem imagePacketsComplete : Obligations.ImagePacketsComplete := by
  rintro p s _ n rfl htarget hlt h0
  have hn : NamesInst p n := ⟨htarget, hlt⟩
  refine ⟨fun k z ht hl hs hk hz ha => execInstThaw_frozen hn h0 ht hl hs hk hz ha, ?save, ?restore⟩
  case save =>
    intro img ht hl ha hz hm hs hsec himg
    have hexec := execInstSave_frozen hn h0 ht hl ha hz hm hs hsec himg
    refine ⟨fun hfit => ?fits, fun hlong => ?tooLong⟩
    case fits =>
      rw [if_neg hfit.not_gt] at hexec
      exact hexec
    case tooLong =>
      rw [if_pos hlong] at hexec
      exact hexec
  case restore =>
    intro img c ht hl ha hm habsent himg hcrc hsealed hform hcontent hunits hpools hfree hsec
    exact execInstRestore_accepted hn h0 ht hl ha hm habsent himg
      ⟨hcrc, hsealed, hform, hcontent, hunits, hpools, hfree, hsec⟩

end Sys2Proof.Machine
end

section
/-! PROOFS. The events of an instance's life cycle (O25). -/
namespace Sys2Proof.Machine
open Sys2Proof

/-! ### The ends of a quiesce, a freeze and a reset -/

section Ends
variable {s : State} {n : Nat} (hp : s.present (hInst n) = true)
include hp

/-- QUIESCE_DRAINED quiesces an instance whose work and whose replies are out. -/
theorem execQuiesceDrained_drained (h0 : n ≠ 0) (hs : (s.inst n).state = .quiescing) (hd : (s.inst n).drain ≠ .freeze)
    (hidle : s.clustersIdle n = true) (hout : (s.drainWork n).tp.replies.any (fun r => decide (r.inst = n)) = false) :
    exec (.quiesceDrained n) s = .next (((s.drainWork n).dropPackets n).enterQuiesced n) := by
  have hgoes : ¬ ((s.inst n).state ≠ .quiescing ∨ (s.inst n).drain = .freeze ∨ s.clustersIdle n = false ∨ n = 0) := by
    simp [hs, hd, hidle, h0]
  change execQuiesceDrained .. = _
  rw [execQuiesceDrained, onUnit_present hp, if_neg hgoes]
  simp only [hout, Bool.false_eq_true, if_false]

/-- RESET_SCRUBBED, but after INST_DESTROY, leaves the instance BOUND. -/
theorem execResetScrubbed_bound {k : Nat} (hs : (s.inst n).state = .resetting)
    (hw : (s.inst n).waiting.map (·.opcode) ≠ some 0x0029) (hk : (s.inst n).fn = some k) :
    exec (.resetScrubbed n) s = .next (((((s.scrubGrants n).resetFnRegs k).updInst n (fun i => { i with
      state := .bound, waiting := none })).settle (hInst n)).finishOpt (s.inst n).waiting .ok []) := by
  change execResetScrubbed .. = _
  rw [execResetScrubbed, onUnit_present hp, if_neg (not_not.mpr hs), if_neg (by exact hw)]
  simp only [hk]

/-- RESET_SCRUBBED after INST_DESTROY leaves nothing. -/
theorem execResetScrubbed_destroyed (hs : (s.inst n).state = .resetting)
    (hw : (s.inst n).waiting.map (·.opcode) = some 0x0029) (hsurf : s.surfacesOf n = []) :
    exec (.resetScrubbed n) s = .next (((((s.scrubGrants n).returnGrants n).updInst n (fun _ => Inst.none)).settle
      (hInst n)).finishOpt (s.inst n).waiting .ok []) := by
  change execResetScrubbed .. = _
  rw [execResetScrubbed, onUnit_present hp, if_neg (not_not.mpr hs), if_pos (by exact hw), if_neg (by simp [hsurf])]

/-- AUTORESET begins the reset of a fenced instance whose function exists. -/
theorem execAutoreset_deferred {k : Nat} (hs : (s.inst n).state = .quiesced) (hd : (s.inst n).deferred = true)
    (hk : (s.inst n).fn = some k) (hlive : s.fnLive k = true) : exec (.autoreset n) s = .next (s.beginReset n) := by
  change execAutoreset .. = _
  rw [execAutoreset, onUnit_present hp, if_pos ⟨hs, hd, by simp [hk, hlive]⟩]

/-- DRAIN_BOUND_EXPIRY with every engine drained discards the replies that wait. -/
theorem execDrainBoundExpiry_drained (h0 : n ≠ 0) (hs : (s.inst n).state = .quiescing)
    (hd : (s.inst n).drain ≠ .freeze) (hidle : s.clustersIdle n = true) :
    exec (.drainBoundExpiry n []) s = .next (((s.drainWork n).discardReplies n).enterQuiesced n) := by
  have hnone : sortBy (fun a b => decide (engineOrder a ≤ engineOrder b)) (([] : List Nat).filter (s.undrained n)) = [] :=
    rfl
  change execDrainBoundExpiry .. = _
  rw [execDrainBoundExpiry, onUnit_present hp, if_neg (by simp [hs, h0]), hnone, if_neg (by simp),
    if_neg (by simp [hd, hidle])]

/-- DRAIN_BOUND_EXPIRY with an engine undrained wedges the instance there. -/
theorem execDrainBoundExpiry_undrained (h0 : n ≠ 0) {h : Nat} (hs : (s.inst n).state = .quiescing)
    (hu : s.undrained n h = true) : exec (.drainBoundExpiry n [h]) s = .next (s.wedge n [h]) := by
  have hone : sortBy (fun a b => decide (engineOrder a ≤ engineOrder b)) ([h].filter (s.undrained n)) = [h] := by
    rw [List.filter_cons_of_pos hu, List.filter_nil]
    rfl
  change execDrainBoundExpiry .. = _
  rw [execDrainBoundExpiry, onUnit_present hp, if_neg (by simp [hs, h0]), hone, if_pos (by simp)]
  rfl

/-- FREEZE_SAVED freezes an instance whose work is out, with the heads of its rings as its last replies left them. -/
theorem execFreezeSaved_saved {k : Nat} {t : State} {z : Frozen} (hs : (s.inst n).state = .quiescing)
    (hd : (s.inst n).drain = .freeze) (hidle : s.clustersIdle n = true)
    (hcopy : s.copy.any (fun j => decide (j.inst = n) && !j.internal) = false) (hk : (s.inst n).fn = some k)
    (ht : t = State.writeReplies s.tp.replies.length s k)
    (hz : z = ⟨t.devTime, 0, some k, (List.range 4).map (fun r => ((t.fn k).sq.get r).head.toNat),
      (List.range 4).map (fun r => ((t.fn k).sq.get r).lastSeq), false⟩) :
    exec (.freezeSaved n) s = .next (((t.updInst n (fun i => { i with
      state := .frozen, drain := .none, freezeWaiting := none, frozen := some z })).settle (hInst n)).finishOpt
        (s.inst n).freezeWaiting .ok []) := by
  subst hz ht
  change execFreezeSaved .. = _
  rw [execFreezeSaved, onUnit_present hp, if_neg (by simp [hs, hd, hidle, hcopy])]
  simp only [hk, Option.getD_some]

end Ends

/-- A wedged copy engine that becomes free is taken off the descriptors of wedged instances. -/
theorem execWedgedEngineFree_copy {s : State} {e : Nat} (hp : s.present (hCopy e) = true) (he : e < 8) :
    exec (.wedgedEngineFree (hCopy e)) s = .next (s.setCopy (s.copy.map (fun j =>
      if decide (j.engine = some e) && decide ((s.inst j.inst).state = .wedged) then { j with engine := some 255 } else j)))
    := by
  have hkind : hCopy e / 256 = 8 := by simp only [hCopy]; omega
  have hnumber : hCopy e % 256 = e := by simp only [hCopy]; omega
  change execWedgedEngineFree .. = _
  rw [execWedgedEngineFree, onUnit_present hp, if_pos hkind, hnumber]

/-- A cluster that becomes free has no descriptor. -/
theorem execWedgedEngineFree_cluster {s : State} {c : Nat} (hp : s.present (hCluster c) = true) (hc : c < 16) :
    exec (.wedgedEngineFree (hCluster c)) s = .next s := by
  have hkind : hCluster c / 256 ≠ 8 := by simp only [hCluster]; omega
  change execWedgedEngineFree .. = _
  rw [execWedgedEngineFree, onUnit_present hp, if_neg hkind]

/-- Settles O25: each clause is the rule of its event above. -/
theorem lifecycleEventsComplete : Obligations.LifecycleEventsComplete := by
  rintro s n _ rfl hp h0
  exact ⟨execQuiesceDrained_drained hp h0,
    fun _ _ hs hd hidle hcopy hk _ ht hz => execFreezeSaved_saved hp hs hd hidle hcopy hk ht hz,
    fun _ => execResetScrubbed_bound hp, execResetScrubbed_destroyed hp, fun _ => execAutoreset_deferred hp,
    execDrainBoundExpiry_drained hp h0, fun _ => execDrainBoundExpiry_undrained hp h0,
    fun _ => execWedgedEngineFree_copy, fun _ => execWedgedEngineFree_cluster⟩

end Sys2Proof.Machine
end

section
/-! PROOFS. MEM_MAP, MEM_UNMAP and the copy engines (O26, O27). -/
namespace Sys2Proof.Machine
open Sys2Proof

/-! ### MEM_MAP and MEM_UNMAP (R190 to R192) -/

section Map
variable {s : State} {p : Packet} (hr : rangeOk p = true)
include hr

/-- MEM_MAP of 64 KiB pages takes the first free frames. -/
theorem execMemMap_small (ht : s.takes opMemMap (ownHandle p) p = true) (hsmall : p.flag 28 0 = false)
    (hroom : p.u32 24 ≤ s.freeFrames p.inst) (hfree : p.u32 24 ≤ (s.inst p.inst).freeSmall.length)
    (hclear : (s.inst p.inst).pages.any (fun q => overlaps q (p.u64 16 / 65536) (p.u32 24)) = false) :
    exec (.memMap p) s = .next (((s.markApplied p).updInst p.inst (fun i => { i with
      pages := i.pages ++ (((s.inst p.inst).freeSmall.take (p.u32 24)).zip (List.range (p.u32 24))).map (fun fc =>
        { va := p.u64 16 / 65536 + fc.2, big := false, hostRo := p.flag 28 1, phys := fc.1 }) })).answer 0x1001 p .ok
      []) := by
  have hroom' : p.u32 24 ≤ (s.markApplied p).freeFrames p.inst := hroom
  change execMemMap .. = _
  rw [execMemMap, packet_taken ht]
  simp only [hsmall, Bool.false_eq_true, if_false, Nat.mul_one, State.inst_markApplied]
  rw [checks_pass hr, checks_pass (by simp [hroom', hfree]), checks_pass (by rw [hclear]; rfl)]
  rfl

/-- MEM_MAP of 2 MiB pages takes the first free blocks. -/
theorem execMemMap_big (ht : s.takes opMemMap (ownHandle p) p = true) (hbig : p.flag 28 0 = true)
    (hroom : p.u32 24 ≤ s.bigRoom p.inst)
    (hclear : (s.inst p.inst).pages.any (fun q => overlaps q (p.u64 16 / 65536) (p.u32 24 * 32)) = false) :
    exec (.memMap p) s = .next (((s.markApplied p).updInst p.inst (fun i => { i with
      pages := i.pages ++ (((s.inst p.inst).freeBig.take (p.u32 24)).zip (List.range (p.u32 24))).map (fun fc =>
        { va := p.u64 16 / 65536 + fc.2 * 32, big := true, hostRo := p.flag 28 1, phys := fc.1 }) })).answer 0x1001 p .ok
      []) := by
  have hroom' : p.u32 24 ≤ (s.markApplied p).bigRoom p.inst := hroom
  change execMemMap .. = _
  rw [execMemMap, packet_taken ht]
  simp only [hbig, if_true, State.inst_markApplied]
  rw [checks_pass hr, checks_pass (by simpa using hroom'), checks_pass (by rw [hclear]; rfl)]
  rfl

/-- MEM_UNMAP of 64 KiB pages that are all there, and under no live surface, takes them out of the map. -/
theorem execMemUnmap_small (ht : s.takes opMemUnmap (ownHandle p) p = true) (hsmall : p.flag 28 0 = false)
    (hro : p.flag 28 1 = false)
    (hwhole : ∀ j, j < p.u32 24 → ∃ q, q ∈ (s.inst p.inst).pages.filter (fun q => overlaps q (p.u64 16 / 65536) (p.u32 24)) ∧
      q.va = p.u64 16 / 65536 + j ∧ q.big = false)
    (hunused : ∀ f, f ∈ s.surfacesOf p.inst → f.2.dead = true ∨ p.u64 16 + p.u32 24 * 65536 ≤ f.2.iaddr ∨
      f.2.iaddr + f.2.size ≤ p.u64 16) :
    exec (.memUnmap p) s = .next ((((s.markApplied p).updInst p.inst (fun i => { i with
      pages := i.pages.filter (fun q => !overlaps q (p.u64 16 / 65536) (p.u32 24))
      dead := i.dead ++ [DeadPages.mk (p.u64 16) (p.u32 24) false
        ((s.inst p.inst).pages.filter (fun q => overlaps q (p.u64 16 / 65536) (p.u32 24))) (some ⟨0x1002, p⟩)
        ((s.markApplied p).workOf p.inst) false] })).settleAllDead p.inst).interim 0x1002 p) := by
  have hall : (List.range (p.u32 24)).all (fun j => ((s.inst p.inst).pages.filter (fun q =>
      overlaps q (p.u64 16 / 65536) (p.u32 24))).any (fun q => decide (q.va = p.u64 16 / 65536 + j) && q.big == false))
      = true := by
    rw [List.all_eq_true]
    intro j hj
    obtain ⟨q, hq, hva, hbig⟩ := hwhole j (List.mem_range.mp hj)
    rw [List.any_eq_true]
    exact ⟨q, hq, by simp [hva, hbig]⟩
  have hnone : (s.surfacesOf p.inst).any (fun f => !f.2.dead && decide (f.2.iaddr < p.u64 16 + p.u32 24 * 65536) &&
      decide (p.u64 16 < f.2.iaddr + f.2.size)) = false := by
    rw [List.any_eq_false]
    intro f hf
    rcases hunused f hf with hdead | hbelow | habove
    · simp [hdead]
    · simp [hbelow]
    · simp [habove]
  change execMemUnmap .. = _
  rw [execMemUnmap, packet_taken ht]
  simp only [hsmall, Bool.false_eq_true, if_false, Nat.mul_one, State.inst_markApplied, State.surfacesOf_markApplied,
    pageSize]
  rw [checks_pass (by simp [hr, hro]), checks_pass hall, checks_pass (by rw [hnone]; rfl)]
  rfl

end Map

/-- Settles O26: each clause is the rule of its packet above. -/
theorem mapPacketsComplete : Obligations.MapPacketsComplete := by
  rintro p s _ _ _ rfl rfl _ hr rfl
  refine ⟨execMemMap_small hr, execMemMap_big hr, ?unmap⟩
  case unmap =>
    rintro _ _ ht hsmall hro rfl rfl hwhole hunused
    exact execMemUnmap_small hr ht hsmall hro hwhole hunused

/-! ### The copy engines (R193 to R199) -/

/-- No descriptor of a list that writes no surface binds a writer. -/
theorem foldl_bindWriter_of_kind_ne {s : State} {n : Nat} {ds : List CopyDesc} (h : ∀ d, d ∈ ds → d.kind ≠ 4) :
    ds.foldl (fun t d => if d.kind = 4 then t.bindWriter n d.surface else t) s = s := by
  induction ds with
  | nil => rfl
  | cons d ds ih =>
    rw [List.foldl_cons, if_neg (h d (by simp))]
    exact ih (fun e he => h e (by simp [he]))

/-- An accepted COPY joins the queue of the engines and owes its reply. -/
theorem execCopy_accepted {s : State} {p : Packet} (hown : p.target = hInst p.inst) (ht : s.takes opCopy true p = true)
    (hmin : 1 ≤ copyCount p) (hmax : copyCount p ≤ 127) (hz : p.u16 18 = 0) (hl : p.length = 4 + 32 * copyCount p)
    (hres : copyReserved p = true) (hkind : ∀ d, d ∈ copyDescs p → d.kind ≤ 3)
    (hok : ∀ d, d ∈ copyDescs p → s.descOk p.inst d = true) (hquota : copyCount p ≤ (s.inst p.inst).descs) :
    exec (.copy p) s = .next (((s.markApplied p).setCopy ((s.markApplied p).copy ++
      [CopyJob.mk ⟨0x1010, p⟩ p.inst (copyDescs p) (copyCount p) false false 0 none])).interim 0x1010 p) := by
  have hne : ∀ k, 3 < k → ∀ d, d ∈ copyDescs p → d.kind ≠ k := fun k hk d hd => by have := hkind d hd; omega
  have howner : ownHandle p = true := by simpa [ownHandle] using hown
  have hkind5 : (copyDescs p).any (fun d => decide (d.kind = 5)) = false := by
    simpa using hne 5 (by decide)
  have hdescs : (copyDescs p).all ((s.markApplied p).descOk p.inst) = true := by
    rw [List.all_eq_true]
    exact hok
  change execCopy .. = _
  rw [execCopy]
  simp only [howner, Bool.true_or, hkind5]
  rw [packet_taken ht, checks_pass (by simp [hmin, hmax, hz, hl, hres]), checks_pass (by rfl), checks_pass (by rfl),
    checks_pass (List.all_eq_true.mpr fun d hd => by simp [hne 5 (by decide) d hd]), checks_pass hdescs,
    checks_pass (by exact decide_eq_true hquota),
    checks_pass (List.all_eq_true.mpr fun d hd => by simp [hne 5 (by decide) d hd]),
    checks_pass (List.all_eq_true.mpr fun d hd => by simp [hne 4 (by decide) d hd]),
    foldl_bindWriter_of_kind_ne (hne 4 (by decide))]
  rfl

/-- A packet whose tokens are free starts on the chosen engine. -/
theorem execCopyPacketStart_free {s : State} {n seq e : Nat} {j : CopyJob}
    (hj : s.copy.find? (fun j => decide (j.inst = n) && decide (j.owed.p.seq = w32 seq) && j.engine.isNone) = some j)
    (he : s.chooseEngine = some e) (hfree : s.descsHeld n + j.descs.length ≤ (s.inst n).descs)
    (hs : (s.inst n).state ≠ .frozen) :
    exec (.copyPacketStart n seq) s = .next (s.setCopy (updFirst
      (fun j => decide (j.inst = n) && decide (j.owed.p.seq = w32 seq) && j.engine.isNone)
      (fun j => { j with engine := some e }) s.copy)) := by
  change execCopyPacketStart .. = _
  rw [execCopyPacketStart]
  simp only [hj, he]
  rw [if_pos (by simp [hfree, hs])]

/-- The state in which the descriptor at the front of a COPY has had its effect, with its engine's source raised. -/
def State.copied (s : State) (e : Nat) (j : CopyJob) (d : CopyDesc) (host : List Byte) : State :=
  (s.asJob j.inst j.owed.p (fun s => s.runDesc j.inst e j.owed.p.seq.toNat d host)).edge (424 + 4 * e)

/-- A COPY with one descriptor fewer. -/
def State.withDescs (s : State) (j : CopyJob) (ds : List CopyDesc) : State :=
  s.setCopy (updFirst (fun k => decide (k = j)) (fun _ => { j with descs := ds }) s.copy)

section Engine
variable {s : State} {e : Nat} {j : CopyJob} {d : CopyDesc} {ds : List CopyDesc} (hp : s.present (hCopy e) = true)
  (hj : s.engineJob e = some j) (hd : j.descs = d :: ds)
include hp hj hd

/-- A descriptor of a COPY that ends has had its effect and leaves the packet, whose last one answers. -/
theorem execCopyDescriptorDone_copied {host : List Byte} (hbus : d.usesHost = true → s.busMaster j.inst = true)
    (hseal : j.isSeal = false) (hkind : d.kind ≤ 3) :
    exec (.copyDescriptorDone e host) s = .next (if ds.isEmpty then
      ((s.copied e j d host).withDescs j ds).endJob { j with descs := ds } .ok 0xFFFF 0
      else (s.copied e j d host).withDescs j ds) := by
  have hreach : ¬ (d.usesHost && !s.busMaster j.inst) = true := by
    cases hu : d.usesHost with
    | false => simp
    | true => simp [hbus hu]
  have hsurface : ¬ (d.kind = 4 ∧ (!false) = true) := by omega
  change execCopyDescriptorDone .. = _
  rw [execCopyDescriptorDone, onUnit_present hp]
  simp only [hj, hd]
  rw [if_neg hreach]
  simp only [hseal, if_neg hsurface, Bool.false_eq_true, if_false, State.withDescs, State.copied]

omit hp in
/-- A host completion that fails ends the packet with what it had done. -/
theorem State.failHostRead_running (moved : Nat) (st : Status) (hu : d.usesHost = true) :
    s.failHostRead e moved st = (s.edge (424 + 4 * e + 1)).endJob j st (j.total - j.descs.length) moved := by
  rw [State.failHostRead]
  simp only [hj]
  rw [if_pos (by simp [hd, hu])]

end Engine

/-- Settles O27: each clause is the rule of its command above. -/
theorem copyCommandsComplete : Obligations.CopyCommandsComplete := by
  refine ⟨?copy, fun s n seq e j => execCopyPacketStart_free, ?done, ?fail⟩
  case copy =>
    rintro p s _ _ _ rfl rfl hown ht rfl hmin hmax hz hl hres hkind hok hquota
    exact execCopy_accepted hown ht hmin hmax hz hl hres hkind hok hquota
  case done =>
    rintro s e j d ds host hp hj hd hbus hseal hkind _ rfl
    have hexec := execCopyDescriptorDone_copied hp hj hd (host := host) hbus hseal hkind
    refine ⟨fun hmore => ?more, fun hlast => ?last⟩
    case more =>
      rw [if_neg (by simpa using hmore)] at hexec
      exact hexec
    case last =>
      subst hlast
      exact hexec
  case fail =>
    intro s e moved j d ds hp hj hd hu
    constructor
    · change execHostCompletionError .. = _
      rw [execHostCompletionError, onUnit_present hp, State.failHostRead_running hj hd _ _ hu]
    · change execHostCompletionTimeout .. = _
      rw [execHostCompletionTimeout, onUnit_present hp, State.failHostRead_running hj hd _ _ hu]

end Sys2Proof.Machine
end

section
/-! PROOFS. What a fill and a copy within an instance store (O28). -/
namespace Sys2Proof.Machine
open Sys2Proof

/-- Two states have the same memories, and instance `n` reaches them by the same addresses. -/
structure State.SameStores (t s : State) (n : Nat) : Prop where
  host : t.hostMem = s.hostMem
  dram : t.dram = s.dram
  spad : t.spad = s.spad
  pages : (t.inst n).pages = (s.inst n).pages
  blocks : (t.inst n).spadBlocks = (s.inst n).spadBlocks

/-- A reported access changes no store. -/
theorem State.addrFault_sameStores (s : State) (n unit a source : Nat) (write atomic : Bool) (bytes seq m : Nat) :
    (s.addrFault n unit a source write atomic bytes seq).SameStores s m := by
  rw [State.addrFault]
  generalize detail _ = det
  obtain ⟨z, hz⟩ := s.raise_inst n 0x10 unit det m
  have hinst : ((s.raise n 0x10 unit det).count 0 n 29).inst m = { s.inst m with frozen := z } := by
    rw [State.inst, (State.count_frame _ _ _ _).2.2.2.2.2.2.1]
    exact hz
  exact { host := by simp, dram := by simp, spad := by simp, pages := by rw [hinst], blocks := by rw [hinst] }

/-- A side of a descriptor that is not all there changes no store. -/
theorem State.sideFault_sameStores (s : State) (n e : Nat) (write spad : Bool) (a len seq m : Nat) :
    (s.sideFault n e write spad a len seq).SameStores s m := by
  rw [State.sideFault]
  split
  · exact ⟨rfl, rfl, rfl, rfl, rfl⟩
  · exact s.addrFault_sameStores ..

theorem State.SameStores.trans {t u s : State} {n : Nat} (htu : t.SameStores u n) (hus : u.SameStores s n) :
    t.SameStores s n :=
  ⟨htu.host.trans hus.host, htu.dram.trans hus.dram, htu.spad.trans hus.spad, htu.pages.trans hus.pages,
    htu.blocks.trans hus.blocks⟩

theorem length_readPages (m : Mem) (ps : List Page) (a len : Nat) : (readPages m ps a len).length = len := by
  induction len generalizing a with
  | zero => rfl
  | succ len ih => rw [readPages, List.length_cons, ih]

theorem length_readSpad (m : Mem) (blocks : List Nat) (off len : Nat) : (readSpad m blocks off len).length = len := by
  induction len generalizing off with
  | zero => rfl
  | succ len ih => rw [readSpad, List.length_cons, ih]

/-- A read of a side has its length. -/
theorem State.length_readSide (s : State) (n : Nat) (spad : Bool) (a len : Nat) : (s.readSide n spad a len).length = len := by
  cases spad with
  | false => exact length_readPages ..
  | true => exact length_readSpad ..

theorem length_fillBytes (pattern n : Nat) : (fillBytes pattern n).length = n := by simp [fillBytes]

/-- Byte `i` of a fill is byte `i % 4` of its pattern. -/
theorem getElem_fillBytes (pattern n i : Nat) (hi : i < (fillBytes pattern n).length) :
    (fillBytes pattern n)[i] = BitVec.ofNat 8 (pattern / 256 ^ (i % 4)) := by simp [fillBytes]

section Side
variable {s t : State} {n a : Nat} {bs : List Byte} (hst : t.SameStores s n)
include hst

/-- A store to a side leaves host memory alone. -/
theorem State.hostMem_writeSide (spad : Bool) : (t.writeSide n spad a bs).hostMem = s.hostMem := by
  rw [State.writeSide, ← hst.host]
  cases spad <;> rfl

/-- A store to DRAM: the scratchpad stays, and of DRAM all that the pages do not give. -/
theorem State.writeSide_dram : (t.writeSide n false a bs).spad = s.spad ∧
    (t.writeSide n false a bs).dram = writePages s.dram (s.inst n).pages a bs := by
  rw [← hst.spad, ← hst.dram, ← hst.pages]
  exact ⟨rfl, rfl⟩

/-- A store to the scratchpad: DRAM stays. -/
theorem State.writeSide_spad : (t.writeSide n true a bs).dram = s.dram ∧
    (t.writeSide n true a bs).spad = Machine.writeSpad s.spad (s.inst n).spadBlocks a bs := by
  rw [← hst.spad, ← hst.dram, ← hst.blocks]
  exact ⟨rfl, rfl⟩

/-- A store keeps the canonical form of DRAM. -/
theorem State.dram_wf_writeSide (spad : Bool) (hw : s.dram.wf = true) : (t.writeSide n spad a bs).dram.wf = true := by
  cases spad with
  | false =>
    rw [(State.writeSide_dram hst).2]
    exact writePages_wf _ bs a hw
  | true =>
    rw [(State.writeSide_spad hst).1]
    exact hw

/-- A store keeps the canonical form of the scratchpad. -/
theorem State.spad_wf_writeSide (spad : Bool) (hw : s.spad.wf = true) : (t.writeSide n spad a bs).spad.wf = true := by
  cases spad with
  | false =>
    rw [(State.writeSide_dram hst).1]
    exact hw
  | true =>
    rw [(State.writeSide_spad hst).2]
    exact writeSpad_wf _ bs a hw

end Side

/-- What a descriptor stores on its destination side. -/
structure State.DescStores (s : State) (n : Nat) (d : CopyDesc) (t : State) (bs : List Byte) : Prop where
  same : t.SameStores s n
  length_eq : bs.length = d.length
  fill : d.kind = 3 → bs = fillBytes (d.src % 2 ^ 32) d.length

/-- A fill or a copy within an instance is one store of its length. -/
theorem State.runDesc_stores (s : State) (n e seq : Nat) (d : CopyDesc) (host : List Byte) (hk : d.kind = 2 ∨ d.kind = 3) :
    ∃ t bs, s.DescStores n d t bs ∧ s.runDesc n e seq d host = t.writeSide n d.dstSpad d.dst bs := by
  have hside : d.side n = n := by rw [CopyDesc.side, if_neg (by omega)]
  obtain hk | hk := hk
  · let t := (s.sideFault n e false d.srcSpad d.src d.length seq).sideFault n e true d.dstSpad d.dst d.length seq
    refine ⟨t, t.readSide n d.srcSpad d.src d.length,
      ⟨(State.sideFault_sameStores ..).trans (State.sideFault_sameStores ..), State.length_readSide .., fun hk3 => by omega⟩, ?_⟩
    simp only [State.runDesc, hk, hside, t]
  · refine ⟨s.sideFault n e true d.dstSpad d.dst d.length seq, fillBytes (d.src % 2 ^ 32) d.length,
      ⟨State.sideFault_sameStores .., length_fillBytes .., fun _ => rfl⟩, ?_⟩
    simp only [State.runDesc, hk, hside]

/-- A descriptor that stores to DRAM changes no byte there but those its pages give. -/
theorem State.dram_get_runDesc {s : State} {n : Nat} {d : CopyDesc} (hk : d.kind = 2 ∨ d.kind = 3) (hdram : d.dstSpad = false)
    (e seq : Nat) (host : List Byte) {q : Nat} (hq : ∀ i, i < d.length → physAt (s.inst n).pages (d.dst + i) ≠ some q) :
    (s.runDesc n e seq d host).dram.get q = s.dram.get q := by
  obtain ⟨t, bs, hst, hrun⟩ := s.runDesc_stores n e seq d host hk
  rw [hrun, hdram, (State.writeSide_dram hst.same).2]
  exact writePages_outside _ _ _ _ _ (by simpa [hst.length_eq] using hq)

/-- Settles O28: a fill and a copy are one store through the pages, or through the scratchpad grant. -/
theorem copyDescriptorsStoreOnlyTheirBytes : Obligations.CopyDescriptorsStoreOnlyTheirBytes := by
  intro s n e seq d host hk
  obtain ⟨t, bs, hst, hrun⟩ := s.runDesc_stores n e seq d host hk
  refine ⟨?host, fun hdram => ⟨?spadKept, fun q => State.dram_get_runDesc hk hdram e seq host⟩,
    fun hspad => ⟨?dramKept, ?spadOutside⟩, fun p hdram q hq => ?job, ?dramWf, ?spadWf, ?fill⟩
  case host => rw [hrun, State.hostMem_writeSide hst.same]
  case spadKept => rw [hrun, hdram, (State.writeSide_dram hst.same).1]
  case dramKept => rw [hrun, hspad, (State.writeSide_spad hst.same).1]
  case spadOutside =>
    intro q hq
    rw [hrun, hspad, (State.writeSide_spad hst.same).2]
    exact writeSpad_outside _ _ _ _ _ (by simpa [hst.length_eq] using hq)
  case job => exact State.dram_get_runDesc hk hdram e seq host hq
  case dramWf =>
    rw [hrun]
    exact State.dram_wf_writeSide hst.same _
  case spadWf =>
    rw [hrun]
    exact State.spad_wf_writeSide hst.same _
  case fill =>
    intro hk3 hspad hw hn i q hi hq
    have hfill := hst.fill hk3
    subst hfill
    rw [hrun, hspad, (State.writeSide_spad hst.same).2,
      writeSpad_inside hn _ _ _ _ hw ((length_fillBytes _ _).symm ▸ hi) hq, getElem_fillBytes]

end Sys2Proof.Machine
end

section
/-! PROOFS. MEM_CONFIG and the events of the memory controller (O29, O31). -/
namespace Sys2Proof.Machine
open Sys2Proof

/-! ### MEM_CONFIG (R205) -/

section Config
variable {s : State} {p : Packet} (ht : s.takes opMemConfig true p = true) (hz : p.fld 16 8 24 = 0)
include ht hz

/-- A MEM_CONFIG of the row's OP, with the TARGET and LENGTH of that OP, is answered as the row says. -/
theorem memConfig_formed {op target len : Nat} (run : State → Ans) (hop : p.u8 16 = op) (htarget : p.target = target)
    (hl : p.length = len) :
    memConfig op target len p s run = .next (Ans.close (s.markApplied p) opMemConfig p (run (s.markApplied p))) := by
  rw [memConfig, packet_taken ht, checks_pass (by simp [hop, hz, htarget, hl]), checks_nil]

/-- OP 0 replaces the three regions together while no guest exists. -/
theorem execMemConfigRegions_passes {rs : List MemRegion} (hop : p.u8 16 = 0) (htarget : p.target = hDevice)
    (hl : p.length = 28) (hrs : rs = [regionField p 1, regionField p 2, regionField p 3]) (hlegal : ∀ r, r ∈ rs → r.legal = true)
    (hchan : ∀ r, r ∈ rs → r.sizeMiB = 0 ∨ r.chmask < 2 ^ s.board.member.channels) (hz1 : p.fld 20 14 18 = 0)
    (hz2 : p.fld 28 14 18 = 0) (hz3 : p.fld 36 14 18 = 0) (hshares : s.sharesFit rs = true) (hguests : s.guests = []) :
    exec (.memConfigRegions p) s = .next ((((s.markApplied p).setMemc { (s.markApplied p).memc with
      regions := rs, zeroing := [] }).intend hDevice false p.inst).answer 0x1020 p .ok []) := by
  subst hrs
  have hlegal' : [regionField p 1, regionField p 2, regionField p 3].all MemRegion.legal = true := List.all_eq_true.mpr hlegal
  have hshares' : (s.markApplied p).sharesFit [regionField p 1, regionField p 2, regionField p 3] = true := hshares
  have hguests' : (s.markApplied p).guests = [] := hguests
  change execMemConfigRegions .. = _
  rw [execMemConfigRegions, memConfig_formed ht hz _ hop htarget hl]
  simp only [List.map_cons, List.map_nil]
  rw [checks_pass (by simp [hz1, hz2, hz3]),
    checks_pass (List.all_eq_true.mpr fun r hr => by simpa using hchan r hr),
    checks_pass (by rw [hlegal', hshares']; rfl), checks_pass (by rw [hguests']; rfl)]
  rfl

/-- OP 1 sets the neighbour refresh. -/
theorem execMemConfigNeighbourRefresh_passes (hop : p.u8 16 = 1) (htarget : p.target = hDevice) (hl : p.length = 8)
    (hmin : 8 ≤ p.fld 20 0 5) (hmax : p.fld 20 0 5 ≤ 16) (hz1 : p.fld 20 5 3 = 0) (hz2 : p.fld 20 9 23 = 0) :
    exec (.memConfigNeighbourRefresh p) s = .next ((((s.markApplied p).setMemc { (s.markApplied p).memc with
      plog2 := p.fld 20 0 5, radius2 := p.fld 20 8 1 == 1 }).intend hDevice false p.inst).answer 0x1020 p .ok []) := by
  change execMemConfigNeighbourRefresh .. = _
  rw [execMemConfigNeighbourRefresh, memConfig_formed ht hz _ hop htarget hl,
    checks_pass (by simp [hmin, hmax, hz1, hz2])]
  rfl

/-- The figures of the scheduler lie within their bounds (R180 to R182). -/
structure SchedulerFormed (p : Packet) : Prop where
  age_ge : 1 ≤ p.u8 20
  age_le : p.u8 20 ≤ 64
  cap_ge : 4 ≤ p.u8 21
  cap_le : p.u8 21 ≤ 64
  s3_ge : 16 ≤ p.u8 22
  s3_le : p.u8 22 ≤ 72
  reserved : p.u8 23 = 0

/-- OP 2 sets the scheduler. -/
theorem execMemConfigScheduler_passes (hop : p.u8 16 = 2) (htarget : p.target = hDevice) (hl : p.length = 8)
    (hf : SchedulerFormed p) :
    exec (.memConfigScheduler p) s = .next ((((s.markApplied p).setMemc { (s.markApplied p).memc with
      ageUs := p.u8 20, rowHitCap := p.u8 21, s3Max := p.u8 22 }).intend hDevice false p.inst).answer 0x1020 p .ok [])
    := by
  obtain ⟨hage, hage', hcap, hcap', hs3, hs3', hz'⟩ := hf
  change execMemConfigScheduler .. = _
  rw [execMemConfigScheduler, memConfig_formed ht hz _ hop htarget hl,
    checks_pass (by simp [hage, hage', hcap, hcap', hs3, hs3', hz'])]
  rfl

/-- The ways of the four classes that a packet names, together (R187). -/
def allWays (p : Packet) : Nat := p.u16 20 ||| p.u16 22 ||| p.u16 24 ||| p.u16 26

/-- The classes of OP 3 come by whole groups of ways, each way in one class; their allocation is one of the three (R187, R188). -/
structure ClassWaysFormed (p : Packet) : Prop where
  ways0 : p.u16 20 % 4 = 0
  ways1 : p.u16 22 % 4 = 0
  ways2 : p.u16 24 % 4 = 0
  ways3 : p.u16 26 % 4 = 0
  alloc0 : p.u8 28 ≤ 2
  alloc1 : p.u8 29 ≤ 2
  alloc2 : p.u8 30 ≤ 2
  alloc3 : p.u8 31 ≤ 2
  disjoint : popcount 16 (p.u16 20) + popcount 16 (p.u16 22) + popcount 16 (p.u16 24) + popcount 16 (p.u16 26) =
    popcount 16 (allWays p)

/-- OP 3 gives the ways that no guest holds to the classes. -/
theorem execMemConfigClassWays_passes (hop : p.u8 16 = 3) (htarget : p.target = hSlc) (hl : p.length = 16)
    (hf : ClassWaysFormed p) (hfit : allWays p < 2 ^ s.board.member.slcWays)
    (hfree : ∀ n, n ∈ s.guests → (s.inst n).ways &&& allWays p = 0) :
    exec (.memConfigClassWays p) s = .next ((((s.markApplied p).setMemc { (s.markApplied p).memc with
      classWays := [p.u16 20, p.u16 22, p.u16 24, p.u16 26]
      alloc := [p.u8 28, p.u8 29, p.u8 30, p.u8 31] }).intend hSlc false p.inst).answer 0x1020 p .ok []) := by
  obtain ⟨hw0, hw1, hw2, hw3, ha0, ha1, ha2, ha3, hd⟩ := hf
  have hways : (List.range 4).map (fun c => p.u16 (20 + 2 * c)) = [p.u16 20, p.u16 22, p.u16 24, p.u16 26] := rfl
  have halloc : (List.range 4).map (fun c => p.u8 (28 + c)) = [p.u8 28, p.u8 29, p.u8 30, p.u8 31] := rfl
  have hall : [p.u16 20, p.u16 22, p.u16 24, p.u16 26].foldl (· ||| ·) 0 = allWays p := by simp [allWays]
  have hsum : ([p.u16 20, p.u16 22, p.u16 24, p.u16 26].map (popcount 16)).sum = popcount 16 (allWays p) := by
    simp only [List.map_cons, List.map_nil, List.sum_cons, List.sum_nil]
    omega
  have hguests : (s.markApplied p).guests = s.guests := rfl
  change execMemConfigClassWays .. = _
  rw [execMemConfigClassWays, memConfig_formed ht hz _ hop htarget hl]
  simp only [hways, halloc, hall, hguests, hsum, State.inst_markApplied]
  rw [checks_pass (by simp [hw0, hw1, hw2, hw3, ha0, ha1, ha2, ha3]), checks_pass (by simpa using hfit),
    checks_pass (List.all_eq_true.mpr fun n hn => by simpa using hfree n hn)]
  rfl

end Config

/-- Settles O29: each clause is the rule of its form above. -/
theorem memConfigCompletes : Obligations.MemConfigCompletes := by
  rintro p s _ rfl ht hz
  refine ⟨fun _ => execMemConfigRegions_passes ht hz, execMemConfigNeighbourRefresh_passes ht hz,
    fun hop htarget hl h0 h1 h2 h3 h4 h5 h6 =>
      execMemConfigScheduler_passes ht hz hop htarget hl ⟨h0, h1, h2, h3, h4, h5, h6⟩, ?ways⟩
  case ways =>
    rintro _ _ _ _ hop htarget hl rfl rfl rfl rfl hw0 hw1 hw2 hw3 ha0 ha1 ha2 ha3 hd hfit hfree
    exact execMemConfigClassWays_passes ht hz hop htarget hl ⟨hw0, hw1, hw2, hw3, ha0, ha1, ha2, ha3, hd⟩ hfit hfree

/-! ### What the memory controller does on its own -/

section Channel
variable {s : State} {c : Nat} (hp : s.present (hChannel c) = true)
include hp

/-- A neighbour refresh counts its pairs; the rows below are those that there are. -/
theorem execNeighbourRefresh_eq (bank row : Nat) :
    exec (.neighbourRefresh c bank row) s = .next (s.countBy 9 c 3
      (if s.memc.radius2 = true then min row 2 + 2 else min row 1 + 1)) := by
  change execNeighbourRefresh c bank row s = _
  rw [execNeighbourRefresh, onUnit_present hp]
  cases s.memc.radius2 <;> rfl

theorem execDramRetrain_eq (converged : Bool) : exec (.dramRetrain c converged) s = .next (s.retrain c converged) := by
  change execDramRetrain .. = _
  rw [execDramRetrain, onUnit_present hp]

section Ecc
variable {r : Nat} (h1 : 1 ≤ r) (h3 : r ≤ 3) (hecc : (s.memc.regions.getD (r - 1) .empty).ecc = true) (n a : Nat)
include h1 h3 hecc

omit h1 in
/-- A single-bit error in a region with ECC is counted and reported. -/
theorem execDramEccError_single : exec (.dramEccError c false r n a) s =
    .next ((s.count 9 c 0).raiseErr 0x1002 1 (hChannel c) 0xFF 0 0) := by
  change execDramEccError .. = _
  rw [execDramEccError, onUnit_present hp, hecc, if_neg (by simp [h3]), if_pos (by decide)]

/-- A double one in an instance's block leaves a granule of zeros, and is the instance's fault. -/
theorem execDramEccError_double : exec (.dramEccError c true r n a) s =
    .next ((((s.count 9 c 1).writeInst n (a / 64 * 64) (List.replicate 64 0)).raise n 0x12 (hChannel c)
      (detail [(a / 64 * 64, 64)])).raiseErr 0x1004 2 (hChannel c) n 0 0) := by
  change execDramEccError .. = _
  rw [execDramEccError, onUnit_present hp, hecc, if_neg (by simp [h3]), if_neg (by decide), if_neg (by omega)]

end Ecc
end Channel

/-- The memory controller with one retrain of a channel more, and the channel's failures in a row. -/
def State.retrained (s : State) (c fails : Nat) : State :=
  (s.setMemc { s.memc with channels := s.memc.channels.set c ⟨fails, (s.memc.channels.get c).retrains + 1⟩ }).count 9 c 4

/-- A retrain that fails is counted and reported; the third in a row is fatal. -/
theorem State.retrain_failed (s : State) (c : Nat) {f : Nat} (hf : (s.memc.channels.get c).fails = f) :
    s.retrain c false = (if 3 ≤ f + 1 then
      (((s.retrained c (f + 1)).count 9 c 5).raiseErr 0x1005 1 (hChannel c) 0xFF 0 0).raiseErr 0x1006 4 (hChannel c) 0xFF 0 0
      else ((s.retrained c (f + 1)).count 9 c 5).raiseErr 0x1005 1 (hChannel c) 0xFF 0 0) := by
  subst hf
  rfl

/-- The owner of a scratchpad block has its error. -/
theorem execSpadEccUncorr_owned {s : State} {b n : Nat} (o : Nat) (hb : b < 1536)
    (hn : s.guests.find? (fun n => (s.inst n).spadBlocks.contains b) = some n) :
    exec (.spadEccUncorr b o) s = .next (s.raiseErr 0x1007 2 hSpad n 0 0) := by
  change execSpadEccUncorr b o s = _
  rw [execSpadEccUncorr, if_neg (by exact Nat.not_le.mpr hb)]
  simp only [hn]

/-- Settles O31: each clause is the rule of its event above, or its row read off. -/
theorem memoryEventsComplete : Obligations.MemoryEventsComplete := by
  intro s c
  refine ⟨fun bank row hp => execNeighbourRefresh_eq hp bank row, rfl, fun r hp => ?promoted, fun hp => ?converged,
    fun hp hf => ?failed, fun hp hf => ?fatal,
    fun r n a hp h1 h3 hecc => ⟨execDramEccError_single hp h3 hecc n a, execDramEccError_double hp h1 h3 hecc n a⟩,
    rfl, fun b o hb => ?inPrivate, fun b o n hb => execSpadEccUncorr_owned o hb, rfl⟩
  case promoted =>
    change execRequestPromoted .. = _
    rw [execRequestPromoted, onUnit_present hp]
  case converged =>
    rw [execDramRetrain_eq hp]
    rfl
  case failed =>
    rw [execDramRetrain_eq hp, State.retrain_failed s c hf]
    rfl
  case fatal =>
    rw [execDramRetrain_eq hp, State.retrain_failed s c hf]
    rfl
  case inPrivate =>
    change execSpadEccUncorr b o s = _
    rw [execSpadEccUncorr, if_pos (by exact hb)]

end Sys2Proof.Machine
end

section
/-! PROOFS. Write windows, scan-out release and fences (O33). -/
namespace Sys2Proof.Machine
open Sys2Proof

/-- Without KEEP a closed window carries nothing forward (R221). -/
theorem carryForward_of_not_keep {f : Surface} (h : f.keep = false) : carryForward f = f := by simp [carryForward, h]

/-- WRITE_WINDOW_CLOSED ends the window of a surface whose last writer has finished. -/
theorem execWriteWindowClosed_finished {s : State} {n id : Nat} {f : Surface} {o : Owed} (hf : s.surface n id = some f)
    (hopen : f.isOpen = true) (hw : f.writers = 0) (ho : f.closing = some o) :
    exec (.writeWindowClosed n id) s = .next ((s.setSurface n id (some { (carryForward f) with
      isOpen := false, keep := false, closing := none })).finish o .ok []) := by
  change execWriteWindowClosed .. = _
  rw [execWriteWindowClosed]
  simp only [hf]
  rw [if_pos (by simp [hopen, hw, ho]), ho]
  rfl

section Release
variable {s : State} {n id : Nat} {f : Surface} (hf : s.surfAny n id = some f) (hout : s.inScanout n id = false)
include hf hout

/-- SCANOUT_RELEASE frees a destroyed surface, and tells its owner unless it was destroyed silently. -/
theorem execScanoutRelease_dead (hd : f.dead = true) : exec (.scanoutRelease n id) s = .next ((if f.silent then
      s.removeSurface n id
      else (s.removeSurface n id).raise n 0x21 (hInst n) (detail [(id, 32), (f.gen.toNat, 32)])).settleAllDead n) := by
  change execScanoutRelease .. = _
  rw [execScanoutRelease]
  simp only [hf]
  rw [if_neg (by simp [hout]), if_pos hd]

/-- Of a live one it lets fences signal, and pinned pages go. -/
theorem execScanoutRelease_live (hd : f.dead = false) :
    exec (.scanoutRelease n id) s = .next (s.flushFences.settleAllDead n) := by
  change execScanoutRelease .. = _
  rw [execScanoutRelease]
  simp only [hf]
  rw [if_neg (by simp [hout]), if_neg (by simp [hd])]

end Release

/-! ### Fences (R233, R234) -/

/-- A fence may signal now: its condition holds, and its instance is not FROZEN. -/
def State.fenceReady (s : State) (e : Fence) : Bool := !s.fenceWaits e && decide ((s.inst e.inst).state ≠ .frozen)

/-- The only fence stays while it may not signal. -/
theorem State.flushFences_waiting {s : State} {e : Fence} (hr : s.fenceReady e = false) (hs : s.surf.fences = [e]) :
    s.flushFences = s := by
  rw [State.fenceReady] at hr
  simp only [State.flushFences, hs, List.filter_cons, List.filter_nil, hr, Bool.not_false, if_true, Bool.false_eq_true,
    if_false, List.foldl_nil]
  rw [← hs]
  rfl

/-- The only fence signals, and is gone, once it may. -/
theorem State.flushFences_ready {s : State} {e : Fence} (hr : s.fenceReady e = true) (hs : s.surf.fences = [e]) :
    s.flushFences = (s.setSurf { s.surf with fences := [] }).signalFence e := by
  rw [State.fenceReady] at hr
  simp only [State.flushFences, hs, List.filter_cons, List.filter_nil, hr, Bool.not_true, if_true, Bool.false_eq_true,
    if_false, List.foldl_cons, List.foldl_nil]

/-- The generation that a fence waits for: the one named, or the surface's own (R233). -/
def fenceGen (p : Packet) (f : Surface) : W32 := if p.u32 20 = 0 then f.gen else w32 (p.u32 20)

/-- The state with one fence more. -/
def State.withFence (s : State) (e : Fence) : State :=
  s.setSurf { s.surf with
    fences := s.surf.fences ++ [e]
    nextFence := s.surf.nextFence.set e.inst (s.surf.nextFence.get e.inst + 1) }

/-- RETIRE_FENCE adds a fence with the next number; it signals at once where its condition holds. -/
theorem execRetireFence_added {s : State} {p : Packet} {f : Surface} (ht : s.takes opRetireFence (ownHandle p) p = true)
    (hf : s.surface p.inst (p.u32 16) = some f) (hl : p.length = 24) (hz : p.fld 24 1 31 = 0)
    (hg : genLater (fenceGen p f) f.gen = false)
    (hspad : p.flag 24 0 = true → p.u32 28 % 8 = 0 ∧ p.u32 28 + 8 ≤ 4096 * (s.inst p.inst).spadBlocks.length)
    (hroom : (s.surf.fences.filter (fun x => decide (x.inst = p.inst))).length < 64) :
    exec (.retireFence p) s = .next ((((s.markApplied p).withFence ⟨p.inst, s.surf.nextFence.get p.inst, p.u32 16,
      fenceGen p f, p.flag 24 0, p.u32 28, p.u64 32⟩).flushFences).answer 0x2006 p .ok
        [w32 (s.surf.nextFence.get p.inst), 0]) := by
  have hplace : (!p.flag 24 0 || (decide (p.u32 28 % 8 = 0) &&
      decide (p.u32 28 + 8 ≤ 4096 * ((s.markApplied p).inst p.inst).spadBlocks.length))) = true := by
    cases hflag : p.flag 24 0 with
    | false => rfl
    | true =>
      obtain ⟨halign, hfit⟩ := hspad hflag
      simp [halign, hfit]
  change execRetireFence .. = _
  rw [execRetireFence, packet_taken ht]
  simp only [State.surface_markApplied, hf]
  rw [← fenceGen, checks_pass (by rw [hplace]; simp [hl, hz, hg]), checks_pass (by simpa using hroom)]
  rfl

/-- Settles O33: each clause is the rule of its command above. -/
theorem windowsAndFencesComplete : Obligations.WindowsAndFencesComplete := by
  intro s n id f
  refine ⟨fun hf hopen hw o ho => ⟨_, execWriteWindowClosed_finished hf hopen hw ho, rfl, carryForward_of_not_keep⟩,
    fun hf hout => ⟨fun hd hloud => ?loud, fun hd hsilent => ?silent, execScanoutRelease_live hf hout⟩, ?fence,
    fun e hw hs => State.flushFences_waiting (by simp [State.fenceReady, hw]) hs,
    fun e hw hlive hs => State.flushFences_ready (by simp [State.fenceReady, hw, hlive]) hs⟩
  case loud => rw [execScanoutRelease_dead hf hout hd, if_neg (by simp [hloud])]
  case silent => rw [execScanoutRelease_dead hf hout hd, if_pos hsilent]
  case fence =>
    rintro p _ _ rfl rfl rfl ht hf hl hz rfl hg hspad hroom
    exact execRetireFence_added ht hf hl hz hg hspad hroom

end Sys2Proof.Machine
end

section
/-! PROOFS. Shader modules, pipelines and queue settings (O34, O35). -/
namespace Sys2Proof.Machine
open Sys2Proof

/-! ### SHADER_LOAD (R243, R244) -/

/-- A SHADER_LOAD has its fields in range. -/
structure LoadFormed (p : Packet) : Prop where
  length_eq : p.length = 16
  reserved : p.u32 28 = 0
  aligned : p.u64 16 % 4 = 0
  length_ge : 20 ≤ p.u32 24
  length_le : p.u32 24 ≤ 4194304
  words : p.u32 24 % 4 = 0

/-- The live modules of an instance. -/
def State.liveModules (s : State) (n : Nat) : List (Nat × Machine.Module) :=
  (instCells s.gpu.modules n).filter (fun m => !m.2.removed)

/-- The module that SHADER_LOAD makes of bytes. -/
def loadedModule (p : Packet) (bs : List Byte) : Machine.Module :=
  { bytes := p.u32 24, sha := leNat (takePad 32 (Config.sha256 bs)), entries := Config.spirvEntries bs % 256,
    removed := false }

section Load
variable {s : State} {p : Packet} {bs : List Byte} (ht : s.takes opShaderLoad (ownHandle p) p = true) (hf : LoadFormed p)
  (hbs : bs = s.readInst p.inst (p.u64 16) (p.u32 24))
include ht hf hbs

/-- A legal module of an instance with room for it gets the next number. -/
theorem execShaderLoad_legal (hroom : (s.liveModules p.inst).length < 1024) (hok : Config.spirvError bs = 0) :
    exec (.shaderLoad p) s = .next (((s.markApplied p).setGpu { s.gpu with
      modules := s.gpu.modules.set (idKey p.inst (s.gpu.nextModule.get p.inst)) (some (loadedModule p bs))
      nextModule := s.gpu.nextModule.set p.inst (s.gpu.nextModule.get p.inst + 1) }).answer 0x3001 p .ok
        ([w32 (s.gpu.nextModule.get p.inst), w32 (loadedModule p bs).entries] ++
          bytesWords (takePad 32 (Config.sha256 bs)))) := by
  obtain ⟨hl, hz, ha, hmin, hmax, hw⟩ := hf
  have hread : (s.markApplied p).readInst p.inst (p.u64 16) (p.u32 24) = bs := hbs.symm
  have hfull : ¬ 1024 ≤ ((instCells s.gpu.modules p.inst).filter (fun m => !m.2.removed)).length := Nat.not_le.mpr hroom
  change execShaderLoad .. = _
  rw [execShaderLoad, packet_taken ht, checks_pass (by simp [hl, hz, ha, hmin, hmax, hw]), checks_nil]
  simp only [hread, State.markApplied_frame, hfull, decide_false, Bool.false_eq_true, if_false, hok, ne_eq,
    not_true_eq_false]
  rfl

/-- A 1,025th module is refused with ERROR 6. -/
theorem execShaderLoad_full (hfull : 1024 ≤ (s.liveModules p.inst).length) :
    exec (.shaderLoad p) s = .next ((s.markApplied p).answer 0x3001 p .compileError (compileError 6 (Config.spirvWord bs)
      (Config.spirvItem bs) (Config.spirvText bs))) := by
  obtain ⟨hl, hz, ha, hmin, hmax, hw⟩ := hf
  have hread : (s.markApplied p).readInst p.inst (p.u64 16) (p.u32 24) = bs := hbs.symm
  have hfull' : 1024 ≤ ((instCells s.gpu.modules p.inst).filter (fun m => !m.2.removed)).length := hfull
  change execShaderLoad .. = _
  rw [execShaderLoad, packet_taken ht, checks_pass (by simp [hl, hz, ha, hmin, hmax, hw]), checks_nil]
  simp only [hread, State.markApplied_frame, hfull', decide_true, if_true]
  rfl

end Load

/-! ### PIPELINE_CREATE (R245 to R248) -/

/-- A compute PIPELINE_CREATE has its fields in range. -/
structure ComputeFormed (p : Packet) : Prop where
  compute : p.flag 16 0 = true
  flags : p.fld 16 1 7 = 0
  specs : p.u8 17 ≤ 64
  reserved : p.u16 18 = 0
  length_eq : p.length = 32 + 8 * p.u8 17
  reserved' : p.u16 30 = 0
  reserved'' : p.u32 44 = 0
  block : p.u64 32 = 0
  fragment : p.u32 24 = 0

/-- A compute pipeline has one stage, so no second module counts. -/
theorem wantedPipeline_compute {p : Packet} (h : p.flag 16 0 = true) (sha0 sha1 sha1' backEnd : Nat) (blk : List Byte) :
    wantedPipeline p sha0 sha1 backEnd blk = wantedPipeline p sha0 sha1' backEnd blk := by
  simp [wantedPipeline, h]

/-- The one key of a compute pipeline. -/
theorem length_keys_wantedPipeline {p : Packet} (h : p.flag 16 0 = true) (sha0 sha1 backEnd : Nat) (blk : List Byte) :
    (wantedPipeline p sha0 sha1 backEnd blk).keys.length = 1 := by
  simp [wantedPipeline, h]

/-- Cache entries that hold the code of a pipeline's keys. -/
def cachedCode (es : List CacheEntry) (keys : List CodeKey) : List CacheEntry :=
  keys.filterMap (fun k => es.find? (fun e => decide (e.key = k)))

/-- No key of a pipeline is cached when no entry has one of its keys. -/
theorem cachedCode_eq_nil {es : List CacheEntry} {keys : List CodeKey}
    (h : es.find? (fun e => decide (e.key ∈ keys)) = none) : cachedCode es keys = [] := by
  simp only [List.find?_eq_none, decide_eq_true_eq] at h
  rw [cachedCode, List.filterMap_eq_nil_iff]
  intro k hk
  rw [List.find?_eq_none]
  rintro e he heq
  rw [decide_eq_true_eq] at heq
  exact h e he (heq ▸ hk)

section Pipe
variable {s : State} {p : Packet} {m : Machine.Module} {q : Pipeline}
  (ht : s.takes opPipelineCreate (ownHandle p) p = true) (hf : ComputeFormed p)
  (hroom : ((instCells s.gpu.pipelines p.inst).filter (fun m => !m.2.removed)).length < 4096)
  (hm : s.module_ p.inst (p.u32 20) = some m) (hq : ∃ z, q = wantedPipeline p m.sha z s.gpu.backEnd [])
include ht hf hroom hm hq

/-- What is left of a PIPELINE_CREATE in good form is whether each stage is cached. -/
theorem execPipelineCreate_formed : exec (.pipelineCreate p) s = .next (Ans.close (s.markApplied p) opPipelineCreate p
      (if (cachedCode (s.gpu.cache.get p.inst) q.keys).length = q.keys.length then
        .done ((((s.markApplied p).setGpu { s.gpu with cache := s.gpu.cache.set p.inst ((s.gpu.cache.get p.inst).map
          (fun e => if q.keys.contains e.key then { e with used := s.devTime } else e)) }).addPipeline p.inst
            (q.withCode (cachedCode (s.gpu.cache.get p.inst) q.keys)))) .ok
          (pipelineResult (s.gpu.nextPipeline.get p.inst) true (q.withCode (cachedCode (s.gpu.cache.get p.inst) q.keys)))
      else .owe ((s.markApplied p).setGpu { s.gpu with
        compiles := s.gpu.compiles ++ [{ owed := { opcode := 0x3002, p := p }, inst := p.inst, pipeline := q }] }))) := by
  obtain ⟨hcompute, hflags, hspecs, hz, hl, hz', hz'', hblock, hfragment⟩ := hf
  obtain ⟨z, rfl⟩ := hq
  have hm' : (s.markApplied p).module_ p.inst (p.u32 20) = some m := hm
  have hroom' : ¬ 4096 ≤ ((instCells s.gpu.pipelines p.inst).filter (fun m => !m.2.removed)).length :=
    Nat.not_le.mpr hroom
  change execPipelineCreate .. = _
  rw [execPipelineCreate, packet_taken ht, checks_pass (by
    simp [hcompute, hflags, hspecs, hz, hl, hz', hz'', hblock, hfragment, hm']), checks_nil]
  simp only [hm', hcompute, if_true, Option.map_some, Option.getD_some, State.markApplied_frame, if_neg hroom']
  rw [wantedPipeline_compute hcompute m.sha _ z]
  rfl

/-- A stage that is not cached waits for the compiler. -/
theorem execPipelineCreate_miss (hmiss : (s.gpu.cache.get p.inst).find? (fun e => decide (e.key ∈ q.keys)) = none) :
    exec (.pipelineCreate p) s = .next (((s.markApplied p).setGpu { s.gpu with
      compiles := s.gpu.compiles ++ [{ owed := { opcode := 0x3002, p := p }, inst := p.inst, pipeline := q }] }).interim
        0x3002 p) := by
  have hone : q.keys.length = 1 := by
    obtain ⟨z, rfl⟩ := hq
    exact length_keys_wantedPipeline hf.compute _ _ _ _
  rw [execPipelineCreate_formed ht hf hroom hm hq, cachedCode_eq_nil hmiss, if_neg (by simp [hone])]
  rfl

/-- A pipeline whose stage is the only one cached is made of that code. -/
theorem execPipelineCreate_hit {e : CacheEntry} (he : s.gpu.cache.get p.inst = [e]) (hkeys : q.keys = [e.key]) :
    exec (.pipelineCreate p) s = .next ((((s.markApplied p).setGpu { s.gpu with
      cache := s.gpu.cache.set p.inst [{ e with used := s.devTime }] }).addPipeline p.inst (q.withCode [e])).answer 0x3002 p
        .ok (pipelineResult (s.gpu.nextPipeline.get p.inst) true (q.withCode [e]))) := by
  have hfound : cachedCode [e] [e.key] = [e] := by simp [cachedCode]
  have hused : [e].map (fun e' => if [e.key].contains e'.key then { e' with used := s.devTime } else e') =
      [{ e with used := s.devTime }] := by simp
  rw [execPipelineCreate_formed ht hf hroom hm hq, he, hkeys, hfound, hused, if_pos (by rfl)]
  rfl

end Pipe

/-! ### PIPELINE_DESTROY and the compiler (R247, R250, R251) -/

section Destroy
variable {s : State} {p : Packet} (ht : s.takes opPipelineDestroy (ownHandle p) p = true) (hl : p.length = 8)
  (hz : p.fld 20 1 31 = 0)
include ht hl hz

/-- PIPELINE_DESTROY of a module. -/
theorem execPipelineDestroy_module (hflag : p.flag 20 0 = true) (hm : (s.module_ p.inst (p.u32 16)).isSome = true) :
    exec (.pipelineDestroy p) s = .next ((((s.markApplied p).setGpu { s.gpu with
      modules := s.gpu.modules.upd (idKey p.inst (p.u32 16)) (fun m => m.map (fun m => { m with removed := true })) }
        ).sweepPipelines p.inst).answer 0x3003 p .ok []) := by
  have hm' : ((s.markApplied p).module_ p.inst (p.u32 16)).isSome = true := hm
  change execPipelineDestroy .. = _
  rw [execPipelineDestroy, packet_taken ht]
  simp only [hflag, if_true]
  rw [checks_pass (by simp [hl, hz, hm'])]
  rfl

/-- PIPELINE_DESTROY of a pipeline. -/
theorem execPipelineDestroy_pipeline (hflag : p.flag 20 0 = false) (hm : (s.pipeline p.inst (p.u32 16)).isSome = true) :
    exec (.pipelineDestroy p) s = .next ((((s.markApplied p).setGpu { s.gpu with
      pipelines := s.gpu.pipelines.upd (idKey p.inst (p.u32 16)) (fun m => m.map (fun m => { m with removed := true })) }
        ).sweepPipelines p.inst).answer 0x3003 p .ok []) := by
  have hm' : ((s.markApplied p).pipeline p.inst (p.u32 16)).isSome = true := hm
  change execPipelineDestroy .. = _
  rw [execPipelineDestroy, packet_taken ht]
  simp only [hflag, Bool.false_eq_true, if_false]
  rw [checks_pass (by simp [hl, hz, hm'])]
  rfl

end Destroy

section Compiler
variable {s : State} {n seq : Nat} {c : Compile} (hc : s.compiling n seq = some c)
include hc

/-- The compiler's code enters the cache, and the pipeline is made of it. -/
theorem execShaderCompileDone_compiled {stages : List (Nat × Nat)} {k : Nat} {es : List CacheEntry} (hk : k ≤ 64)
    (hes : es = (c.pipeline.keys.zip stages).map (fun x => CacheEntry.mk x.1 x.2.1 k x.2.2 s.devTime)) :
    exec (.shaderCompileDone n seq 0 stages k) s = .next ((es.foldl (fun t e => t.cacheCode n e) ((s.setGpu { s.gpu with
      compiles := s.gpu.compiles.erase c }).addPipeline n (c.pipeline.withCode es))).finish c.owed .ok
        (pipelineResult (s.gpu.nextPipeline.get n) false (c.pipeline.withCode es))) := by
  subst hes
  change execShaderCompileDone .. = _
  rw [execShaderCompileDone]
  simp only [hc, Nat.not_lt.mpr hk, and_false, if_false]
  rfl

/-- An error of the compiler ends the compilation. -/
theorem execShaderCompileDone_error (stages : List (Nat × Nat)) (k : Nat) {error : Nat} (he : error ≠ 0) :
    exec (.shaderCompileDone n seq error stages k) s = .next (s.failCompile c error) := by
  have hown : ¬ (error = 0 ∧ 64 < k) := by omega
  change execShaderCompileDone .. = _
  rw [execShaderCompileDone]
  simp only [hc, if_neg hown]
  rw [if_pos he]

/-- So does its time limit. -/
theorem execCompileAbandoned_running : exec (.compileAbandoned n seq) s = .next (s.failCompile c 11) := by
  change execCompileAbandoned .. = _
  rw [execCompileAbandoned]
  simp only [hc]

end Compiler

/-- Settles O34: each clause is the rule of its command above. -/
theorem shaderCommandsComplete : Obligations.ShaderCommandsComplete := by
  intro s n
  refine ⟨?packets, fun seq c hc => ⟨fun stages k es => execShaderCompileDone_compiled hc,
    fun error stages k => execShaderCompileDone_error hc stages k, execCompileAbandoned_running hc,
    fun error => ⟨_, _, rfl, rfl, rfl⟩⟩⟩
  case packets =>
    rintro p _ rfl rfl
    refine ⟨?load, ?create, fun ht hl hz => ⟨execPipelineDestroy_module ht hl hz, execPipelineDestroy_pipeline ht hl hz⟩⟩
    case load =>
      intro bs ht hl hz ha hmin hmax hw hbs
      have hf : LoadFormed p := ⟨hl, hz, ha, hmin, hmax, hw⟩
      exact ⟨fun hroom hok => ⟨loadedModule p bs, rfl, rfl, execShaderLoad_legal ht hf hbs hroom hok⟩,
        execShaderLoad_full ht hf hbs⟩
    case create =>
      intro ht hcompute hflags hspecs hz hl hz' hz'' hblock hfragment hroom m q hm hq
      have hf : ComputeFormed p := ⟨hcompute, hflags, hspecs, hz, hl, hz', hz'', hblock, hfragment⟩
      exact ⟨execPipelineCreate_miss ht hf hroom hm hq, fun e => execPipelineCreate_hit ht hf hroom hm hq⟩

/-! ### QUEUE_CONFIG (R256, R306) -/

section Queue
variable {s : State} {p : Packet} (ht : s.takes opQueueConfig (ownHandle p) p = true)
include ht

/-- A QUEUE_CONFIG in good form, of a queue that its sender may set, is a new intention. -/
theorem queueConfig_passes {op len : Nat} {named ok : Bool} (k : State → State) (hl : p.length = len) (hop : p.u32 16 = op)
    (hok : ok = true) (hq : named = true → p.fld 20 0 2 = 0 → s.general p = false) :
    queueConfig op len named ok p s k = .next (((k (s.markApplied p)).intend (hInst p.inst) false p.inst).answer 0x3004 p .ok
      []) := by
  have hown : (!(named && decide (p.fld 20 0 2 = 0) && (s.markApplied p).general p)) = true := by
    have hsame : (s.markApplied p).general p = s.general p := rfl
    by_cases h0 : p.fld 20 0 2 = 0
    · cases named with
      | false => rfl
      | true => simp [hsame, hq rfl h0]
    · simp [h0]
  rw [queueConfig, packet_taken ht, checks_pass (by simp [hl, hop, hok]), checks_pass hown]
  rfl

end Queue

/-- Settles O35: each of the four forms is in good form. -/
theorem queueConfigCompletes : Obligations.QueueConfigCompletes := by
  rintro p s _ _ _ rfl rfl rfl ht
  refine ⟨fun hl hop hz hmin hmax hcl hz' hq => ?depth, fun hl hop hmax hz => ?cache, fun hl hop => ?evict,
    fun hl hop hz hwg hur hz' hq => ?limits⟩
  case depth =>
    exact queueConfig_passes ht _ hl hop (by simp [hz, hmin, hmax, hcl, hz']) (fun _ => hq)
  case cache =>
    exact queueConfig_passes ht _ hl hop (by simp [hmax, hz]) (by simp)
  case evict => exact queueConfig_passes ht _ hl hop rfl (by simp)
  case limits =>
    exact queueConfig_passes ht _ hl hop (by simpa [hz, hz'] using ⟨hwg, hur⟩) (fun _ => hq)

end Sys2Proof.Machine
end

section
/-! PROOFS. SUBMIT and HOPPER_GRANT (O36). -/
namespace Sys2Proof.Machine
open Sys2Proof

/-- A SUBMIT has its fields in range, and names a pipe and a scratchpad place that are there (R266, R267). -/
structure State.SubmitFormed (s : State) (p : Packet) : Prop where
  length_eq : p.length = 32
  reserved : p.fld 28 4 12 = 0
  reserved' : p.fld 32 1 31 = 0
  aligned : p.u64 16 % 4 = 0
  length_ge : 4 ≤ p.u32 24
  length_le : p.u32 24 ≤ 4194304
  words : p.u32 24 % 4 = 0
  grant : p.u16 30 ≤ 5000
  pipe : p.flag 28 3 = true → s.present (hPipe (p.fld 28 0 3)) = true
  place : p.flag 32 0 = true → p.u32 36 % 8 = 0 ∧ p.u32 36 + 8 ≤ 4096 * (s.inst p.inst).spadBlocks.length

section Submit
variable {s : State} {p : Packet} (ht : s.takes opSubmit (ownHandle p) p = true) (hf : s.SubmitFormed p)
include ht hf

/-- A SUBMIT in good form waits behind its queue, or enters it. -/
theorem execSubmit_formed : exec (.submit p) s = .next (Ans.close (s.markApplied p) opSubmit p
      (if (s.queue p.inst p.src.ring).depth ≤ (s.queue p.inst p.src.ring).submits.length ∨
          (s.queue p.inst p.src.ring).waiting ≠ [] then
        .owe ((s.markApplied p).updQueue p.inst p.src.ring (fun y => { y with
          waiting := y.waiting ++ [{ opcode := 0x3010, p := p }] }))
      else (s.markApplied p).enqueue p p.src.ring)) := by
  obtain ⟨hl, hz, hz', ha, hmin, hmax, hw, hg, hpipe, hplace⟩ := hf
  have hunit : (!p.flag 28 3 || (s.markApplied p).unitOk (hPipe (p.fld 28 0 3))) = true := by
    rw [State.unitOk, State.present_markApplied]
    cases hflag : p.flag 28 3 with
    | false => rfl
    | true => exact hpipe hflag
  have hspad : (!p.flag 32 0 || (decide (p.u32 36 % 8 = 0) &&
      decide (p.u32 36 + 8 ≤ 4096 * ((s.markApplied p).inst p.inst).spadBlocks.length))) = true := by
    cases hflag : p.flag 32 0 with
    | false => rfl
    | true =>
      obtain ⟨halign, hfit⟩ := hplace hflag
      simp [halign, hfit]
  change execSubmit .. = _
  rw [execSubmit, packet_taken ht, checks_pass (by simp [hl, hz, hz', ha, hmin, hmax, hw, hg]), checks_pass hunit,
    checks_pass hspad, checks_nil]
  rfl

/-- Behind a queue at its DEPTH, or behind one that waits, it waits. -/
theorem execSubmit_waits (hfull : (s.queue p.inst p.src.ring).depth ≤ (s.queue p.inst p.src.ring).submits.length ∨
      (s.queue p.inst p.src.ring).waiting ≠ []) :
    exec (.submit p) s = .next (((s.markApplied p).updQueue p.inst p.src.ring (fun y => { y with
      waiting := y.waiting ++ [{ opcode := 0x3010, p := p }] })).interim 0x3010 p) := by
  rw [execSubmit_formed ht hf, if_pos hfull]
  rfl

variable (hroom : (s.queue p.inst p.src.ring).submits.length < (s.queue p.inst p.src.ring).depth)
  (hnone : (s.queue p.inst p.src.ring).waiting = [])
include hroom hnone

theorem execSubmit_enters : exec (.submit p) s =
    .next (Ans.close (s.markApplied p) opSubmit p ((s.markApplied p).enqueue p p.src.ring)) := by
  rw [execSubmit_formed ht hf, if_neg (by simp [hnone, hroom])]

/-- The first token that breaks a rule refuses it. -/
theorem execSubmit_parseFails {off : Nat}
    (hfail : ((s.markApplied p).walkBuffer p.inst false (p.u64 16) (p.u32 24)).failing = some off) :
    exec (.submit p) s = .next ((s.markApplied p).answer 0x3010 p .badParam (parseFailed p off s.devTime)) := by
  rw [execSubmit_enters ht hf hroom hnone, State.enqueue]
  simp only [hfail]
  rfl

/-- One that parses joins the queue, with its writers bound, where its save area and its attachments are to be had. -/
theorem execSubmit_joins {k : Walk} (hk : k = (s.markApplied p).walkBuffer p.inst false (p.u64 16) (p.u32 24))
    (hok : k.failing = none)
    (hsave : (s.queue p.inst p.src.ring).saveArea = true ∨ s.structFits p.inst 262144 = true)
    (hopen : ∀ id ∈ bufferSurfaces k.tokens, ∃ f, s.surface p.inst id = some f ∧ f.isOpen = true ∧ f.closing = none)
    (htag : p.flag 28 3 = false) :
    exec (.submit p) s = .next (((bufferSurfaces k.tokens).foldl (fun t id => t.bindWriter p.inst id)
      (((s.markApplied p).becomeReady p.inst p.src.ring).updQueue p.inst p.src.ring (fun y => { y with
        submits := y.submits ++ [newSubmit p p.src.ring k.tokens (bufferSurfaces k.tokens) k.ps.passes none]
        saveArea := true }))).interim 0x3010 p) := by
  subst hk
  have hsave' : (((s.markApplied p).queue p.inst p.src.ring).saveArea ||
      (s.markApplied p).structFits p.inst 262144) = true := by
    rw [Bool.or_eq_true]
    exact hsave
  have huntagged : (newSubmit p p.src.ring ((s.markApplied p).walkBuffer p.inst false (p.u64 16) (p.u32 24)).tokens
      (bufferSurfaces ((s.markApplied p).walkBuffer p.inst false (p.u64 16) (p.u32 24)).tokens)
      ((s.markApplied p).walkBuffer p.inst false (p.u64 16) (p.u32 24)).ps.passes none).tagged ≠ true := by
    simp [newSubmit, htag]
  have hdeadline : (s.markApplied p).deadlineOf p = none := by simp [State.deadlineOf, htag]
  rw [execSubmit_enters ht hf hroom hnone, State.enqueue]
  simp only [hok, hdeadline, State.surface_markApplied]
  rw [checks_pass hsave', checks_pass, checks_nil, if_neg huntagged]
  · rfl
  · rw [List.all_eq_true]
    intro id hid
    obtain ⟨f, hsurf, hisOpen, hclosing⟩ := hopen id hid
    simp [hsurf, hisOpen, hclosing]

end Submit

/-- The head of a queue is the first SUBMIT there with its sequence number. -/
theorem State.find?_seq_head {s : State} {n q seq : Nat} {x : Submit} (hx : s.head n q = some x)
    (hseq : x.owed.p.seq.toNat = seq) :
    (s.queue n q).submits.find? (fun y => decide (y.owed.p.seq.toNat = seq)) = some x := by
  obtain ⟨xs, hxs⟩ := List.head?_eq_some_iff.mp hx
  rw [hxs, List.find?_cons_of_pos (by simpa using hseq)]

/-- A SUBMIT with pages more: one that waited for them goes on (R292). -/
def Submit.withPages (x : Submit) (pages : Nat) : Submit := { x with
  held := x.held + pages
  budget := x.budget + pages
  peak := max x.peak (x.held + pages)
  granted := if x.phase = .flushing then x.granted + pages else x.granted
  phase := if x.phase = .waiting then .binning else x.phase }

/-- A HOPPER_GRANT has its fields in range, and names the pass of the SUBMIT at the head (R292). -/
structure GrantFormed (p : Packet) (x : Submit) : Prop where
  length_eq : p.length = 12
  reserved : p.fld 20 2 14 = 0
  reserved' : p.u16 26 = 0
  pages_ge : 1 ≤ p.u16 24
  pages_le : p.u16 24 ≤ 4096
  seq : x.owed.p.seq.toNat = p.u32 16
  pass : x.pass = p.u16 22
  passes : x.pass < x.passes
  phase : x.phase = .binning ∨ x.phase = .waiting ∨ x.phase = .flushing

/-- HOPPER_GRANT adds pages that are free to the pass it names. -/
theorem execHopperGrant_free {s : State} {p : Packet} {x : Submit} (ht : s.takes opHopperGrant (ownHandle p) p = true)
    (hx : s.head p.inst (p.fld 20 0 2) = some x) (hf : GrantFormed p x) (hfree : p.u16 24 ≤ s.hopperFree p.inst) :
    exec (.hopperGrant p) s = .next (((s.markApplied p).updHead p.inst (p.fld 20 0 2)
      (fun x => x.withPages (p.u16 24))).answer 0x3011 p .ok []) := by
  obtain ⟨hl, hz, hz', hmin, hmax, hseq, hpass, hlt, hphase⟩ := hf
  have hnamed := State.find?_seq_head (s := s.markApplied p) hx hseq
  have hhead : (s.markApplied p).head p.inst (p.fld 20 0 2) = some x := hx
  have hfree' : p.u16 24 ≤ (s.markApplied p).hopperFree p.inst := hfree
  change execHopperGrant .. = _
  rw [execHopperGrant, packet_taken ht]
  simp only [hnamed, hhead]
  rw [checks_pass (by simp [hl, hz, hz', hmin, hmax, ← hpass, hlt]), checks_pass (by simpa [hpass, or_assoc] using hphase),
    checks_pass (by simpa using hfree')]
  rfl

/-- Settles O36: each clause is the rule of its packet above. -/
theorem submitPacketsComplete : Obligations.SubmitPacketsComplete := by
  rintro p s _ _ rfl rfl
  refine ⟨?submit, ?grant⟩
  case submit =>
    rintro _ k ht rfl hl hz hz' ha hmin hmax hw hg hpipe hplace rfl
    have hf : s.SubmitFormed p := ⟨hl, hz, hz', ha, hmin, hmax, hw, hg, hpipe, hplace⟩
    exact ⟨execSubmit_waits ht hf, fun hroom hnone => ⟨fun off => execSubmit_parseFails ht hf hroom hnone,
      execSubmit_joins ht hf hroom hnone rfl⟩⟩
  case grant =>
    rintro _ _ x ht rfl rfl hl hz hz' hmin hmax hx hseq hpass hlt hphase hfree
    exact execHopperGrant_free ht hx ⟨hl, hz, hz', hmin, hmax, hseq, hpass, hlt, hphase⟩ hfree

end Sys2Proof.Machine
end

section
/-! PROOFS. Scheduling of the clusters (O37). -/
namespace Sys2Proof.Machine
open Sys2Proof

/-- A cluster that is offline, or at work, is given none. -/
theorem State.assign_taken {s : State} {c : Nat}
    (h : (s.cluster c).offline = true ∨ ∃ nq, (s.cluster c).work = some nq) : s.assign c = s := by
  have hbusy : ((s.cluster c).offline || (s.cluster c).work.isSome) = true := by
    rw [Bool.or_eq_true, Option.isSome_iff_exists]
    exact h
  rw [State.assign]
  exact if_pos hbusy

/-- A free reserved cluster goes to the work of its instance. -/
theorem State.assign_reserved {s : State} {c n q : Nat} (hon : (s.cluster c).offline = false)
    (hidle : (s.cluster c).work = none) (hr : (s.cluster c).reserved = some n) (hpick : s.pickReserved n = some (n, q)) :
    s.assign c = (s.updCluster c (fun x => { x with work := some (n, q), since := s.devTime, request := none })).updHead n q
      (fun y => { y with preempted := false }) := by
  rw [State.assign]
  simp only [hon, hidle, hr, hpick, Option.isSome_none, Bool.or_self, Bool.false_eq_true, if_false, reduceCtorEq,
    false_and]

section Cluster
variable {s : State} {c n q : Nat} (hp : s.present (hCluster c) = true)
include hp

/-- A first request is noted with its time, and counted. -/
theorem execPreemptRequest_first (hw : (s.charge.cluster c).work = some (n, q))
    (hr : (s.charge.cluster c).request = none) :
    exec (.preemptRequest c) s = .next ((s.charge.updCluster c (fun x => { x with
      request := some s.charge.devTime })).count 1 n (160 + 5 * q)) := by
  change execPreemptRequest .. = _
  rw [execPreemptRequest, onUnit_present hp, State.request]
  simp only [hw, hr, if_true]

/-- The state in which a cluster has left work that waited for it at most `us`. -/
def State.clusterLeft (t : State) (c n q us : Nat) : State :=
  (t.countMax 1 n (160 + 5 * q + 2) us).updCluster c (fun x => { x with work := none, request := none })

/-- A cluster that was asked for is free when its unit ends, within the bound. -/
theorem execClusterFree_inTime {at_ : Nat} (hw : (s.cluster c).work = some (n, q))
    (hr : (s.cluster c).request = some at_)
    (hus : (s.charge.devTime - at_) / 1000 ≤ (preemptBound (((s.charge.head n q).map (·.phase)).getD .none)).1) :
    exec (.clusterFree c) s = .next (
      if ((s.charge.clusterLeft c n q ((s.charge.devTime - at_) / 1000)).clustersOf n q).isEmpty then
        (s.charge.clusterLeft c n q ((s.charge.devTime - at_) / 1000)).updHead n q (fun y => { y with preempted := true })
      else s.charge.clusterLeft c n q ((s.charge.devTime - at_) / 1000)) := by
  change execClusterFree .. = _
  rw [execClusterFree, onUnit_present hp]
  simp only [hw, hr, if_neg (Nat.not_lt.mpr hus)]
  rfl

end Cluster

/-- Settles O37: each clause is the rule of its event above, or its row read off. -/
theorem schedulingCompletes : Obligations.SchedulingCompletes := by
  intro s c
  refine ⟨rfl, rfl, ?taken, ?reserved, ?request, ?free⟩
  case taken =>
    rintro _ n q rfl h
    exact State.assign_taken (h.imp id (fun hw => ⟨_, hw⟩))
  case reserved =>
    rintro _ n q rfl hon hidle hr hpick
    exact State.assign_reserved hon hidle hr hpick
  case request =>
    rintro _ n q hp rfl hw hr
    exact execPreemptRequest_first hp hw hr
  case free =>
    rintro n q at_ _ _ _ hp hw hr rfl rfl rfl hus _ rfl
    exact execClusterFree_inTime hp hw hr hus

end Sys2Proof.Machine
end

section
/-! PROOFS. The events of a SUBMIT (O38). -/
namespace Sys2Proof.Machine
open Sys2Proof

section Head
variable {s : State} {n q : Nat} {x : Submit} (hx : s.head n q = some x)
include hx

/-! ### SUBMIT_START (R270) -/

/-- A SUBMIT that may run starts: its buffer is read again, and its first item begins. -/
theorem execSubmitStart_first (work : GpuWork) {k : Walk} (hrun : s.canRun n q = true) (ha : x.abort = 0)
    (hs : x.started = false)
    (hk : k = (s.charge.setPages n (s.charge.jobPages n x.owed.p)).walkBuffer n true (x.owed.p.u64 16) (x.owed.p.u32 24))
    (hbad : k.bad = []) :
    exec (.submitStart n q work) s = .next ((s.charge.updHead n q (fun y => { y with
      started := true, tokens := k.tokens })).asJob n x.owed.p (fun s =>
        (State.toItem (k.tokens.length + 1) s n q).startItem n q)) := by
  subst hk
  change execSubmitStart .. = _
  rw [execSubmitStart]
  simp only [hx]
  rw [if_neg (by simp [hrun, ha]), if_pos hs, hbad]
  rfl

/-- In a started one the pass or dispatch under way ends, and the next item begins. -/
theorem execSubmitStart_next (work : GpuWork) (hrun : s.canRun n q = true) (ha : x.abort = 0) (hs : x.started = true)
    (hphase : x.phase = .immediate ∨ x.phase = .dispatch) :
    exec (.submitStart n q work) s = .next (s.charge.asJob n x.owed.p (fun s =>
      (State.toItem (x.tokens.length + 1) (s.endItem n q work) n q).startItem n q)) := by
  change execSubmitStart .. = _
  rw [execSubmitStart]
  simp only [hx]
  rw [if_neg (by simp [hrun, ha]), if_neg (by simp [hs])]
  obtain hphase | hphase := hphase <;> simp only [hphase, reduceCtorEq, if_false]

/-! ### Pages of the Hopper (R289 to R293) -/

/-- A pass whose wait for a grant has expired flushes. -/
theorem execHopperGrantWaitExpiry_waiting (hphase : x.phase = .waiting) :
    exec (.hopperGrantWaitExpiry n q) s = .next (s.updHead n q (fun y => { y with phase := .flushing })) := by
  change execHopperGrantWaitExpiry .. = _
  rw [execHopperGrantWaitExpiry]
  simp only [hx]
  rw [if_pos hphase]

/-- A later flush of a pass that wrote no tile returns its pages. -/
theorem execHopperFlushed_later {t : Token} (hb : s.binnedPass n q = some (x, t)) (hphase : x.phase = .flushing)
    (hlater : x.passFlushes ≠ 0) (hw : x.tilesWritten = []) :
    exec (.hopperFlushed n q) s = .next ((s.raise n 0x35 (hInst n) (detail [(x.owed.p.seq.toNat, 32), (q, 8),
      (x.passFlushes + 1, 8), (x.pass, 16), (x.prims, 32), (x.tilesDone.length, 32)])).updHead n q (fun y => { y with
        phase := .binning
        flushes := y.flushes + 1
        passFlushes := y.passFlushes + 1
        held := y.minPages + y.granted
        granted := 0
        tilesDone := []
        tilesWritten := [] })) := by
  change execHopperFlushed .. = _
  rw [execHopperFlushed]
  simp only [hb]
  rw [if_neg (not_not.mpr hphase)]
  simp only [hlater, false_and, if_false, List.foldl_nil, hx, Option.getD_some, hw]

/-! ### Time limits (R305) -/

/-- A workgroup over its limit ends the SUBMIT, with the fault told. -/
theorem execWorkgroupTimeLimit_dispatch {c : Nat} (hp : s.present (hCluster c) = true) (hphase : x.phase = .dispatch)
    (hwork : (s.cluster c).work = some (n, q)) :
    exec (.workgroupTimeLimit n q c) s = .next ((((s.gpuFault n q 2 c 0).raiseErr 0x3001 2 (hCluster c) n
      x.owed.p.seq.toNat 0).count 1 n (160 + 5 * q + 3)).abortHead n q 2
        (((x.tokens[x.pos]?).map (·.offset)).getD 0xFFFFFFFF)) := by
  change execWorkgroupTimeLimit .. = _
  rw [execWorkgroupTimeLimit, onUnit_present hp]
  simp only [hx]
  rw [if_pos ⟨hphase, hwork⟩]

/-! ### SUBMIT_COMPLETE (R271, R272) -/

/-- The state in which the head of a queue, with nothing to store and no pipe's deadline, has its reply, and what waited
has entered. -/
def State.headAnswered (t : State) (n q : Nat) (y : Submit) (st : Status) : State :=
  let u := (t.dropHead n q).finish y.owed st (y.result (t.dropHead n q).devTime)
  State.admitWaiting ((u.queue n q).waiting.length + 1) u n q

/-- A SUBMIT that was ended early is answered as timed out. -/
theorem execSubmitComplete_aborted (work : GpuWork) (hs : x.started = true) (hphase : x.phase = .none) (ha : x.abort ≠ 0)
    (hhead : s.charge.head n q = some x) (hspad : x.spad = false) (htag : x.tagged = false) :
    exec (.submitComplete n q work) s = .next (s.charge.headAnswered n q x .timeout) := by
  change execSubmitComplete .. = _
  rw [execSubmitComplete]
  simp only [hx]
  rw [if_neg (by simp [hs, hphase, ha])]
  simp only [hphase, reduceCtorEq, decide_false, Bool.or_false, Bool.false_eq_true, if_false, hhead,
    Option.getD_some, ha, Bool.and_false, hspad, htag]
  rfl

/-- One whose last pass or dispatch has ended is answered. -/
theorem execSubmitComplete_ended (work : GpuWork) (hs : x.started = true)
    (hphase : x.phase = .immediate ∨ x.phase = .dispatch) (ha : x.abort = 0) (hrun : s.canRun n q = true) {t v : State}
    {y z : Submit} (ht : t = s.charge.asJob n x.owed.p (fun s => s.endItem n q work)) (hy : t.head n q = some y)
    (hend : y.atEnd = true) (hya : y.abort = 0)
    (hv : v = t.asJob n y.owed.p (fun s => State.toItem (y.tokens.length + 1) s n q)) (hz : v.head n q = some z)
    (hspad : z.spad = false) (htag : z.tagged = false) (hza : z.abort = 0) :
    exec (.submitComplete n q work) s = .next (v.headAnswered n q z .ok) := by
  have hsingle : (decide (x.phase = .immediate) || decide (x.phase = .dispatch)) = true := by
    rw [Bool.or_eq_true, decide_eq_true_eq, decide_eq_true_eq]
    exact hphase
  subst ht
  change execSubmitComplete .. = _
  rw [execSubmitComplete]
  simp only [hx, hsingle]
  rw [if_neg (by simp [hs, ha, hrun])]
  simp only [ha, decide_true, Bool.and_self, if_true, hy, Option.getD_some, hend, Bool.not_true, Bool.false_and,
    Bool.false_eq_true, if_false, hya, ← hv, hz, hspad, htag, hza]
  rfl

end Head

/-- A pass that needs a page it may not have waits for one, with the fault told and its clusters freed (R291). -/
theorem execHopperFault_waits {s : State} {n q : Nat} {x : Submit} {t : Token} (prims : Nat)
    (hb : s.binnedPass n q = some (x, t)) (hphase : x.phase = .binning) (hrun : s.canRun n q = true)
    (hn : x.noFault = false) {held : Nat} (hheld : held = x.held + min (x.budget - x.held) (s.hopperFree n)) :
    exec (.hopperFault n q prims) s = .next (((s.updHead n q (fun y => { y with
      held := held
      prims := prims
      peak := max y.peak held
      phase := if y.noFault then .flushing else .waiting })).raise n 0x34 (hInst n) (detail [(x.owed.p.seq.toNat, 32),
        (q, 8), (if x.budget ≤ held then 1 else 2, 8), (x.pass, 16), (held, 32),
        (s.hopperFree n - min (x.budget - x.held) (s.hopperFree n), 32)])).freeClusters n q) := by
  subst hheld
  change execHopperFault .. = _
  rw [execHopperFault]
  simp only [hb]
  rw [if_neg (by simp [hphase, hrun]), if_neg (by simp [hn])]

/-- A bin tile of a pass that renders, but its last, is processed (R282). -/
theorem execBinTileDone_rendering {s : State} {n q tile : Nat} {x : Submit} {t : Token} (touched : Bool)
    (data : List (List Byte)) (hb : s.binnedPass n q = some (x, t)) (hphase : x.phase = .rendering)
    (hnew : x.tilesDone.contains tile = false) (hlt : tile < t.binTiles) (hmore : x.tilesDone.length + 1 ≠ t.binTiles)
    (hrun : s.canRun n q = true) :
    exec (.binTileDone n q tile touched data) s = .next ((s.charge.updHead n q (fun y => { y with
      phase := .rendering })).asJob n x.owed.p (fun s => s.processBin n q x t tile touched data)) := by
  have hgoes : ¬ (x.phase = .waiting ∨ x.tilesDone.contains tile = true ∨ t.binTiles ≤ tile ∨ s.canRun n q = false) := by
    rw [hphase, hnew, hrun]
    simp [hlt]
  change execBinTileDone .. = _
  rw [execBinTileDone]
  simp only [hb]
  rw [if_neg hgoes]
  simp only [hphase, reduceCtorEq, if_false, hmore, and_false]

/-- A cluster that is lost without work is told, and its reservation moves (R295). -/
theorem execClusterOffline_idle {s : State} {c : Nat} (token : Nat) (hp : s.present (hCluster c) = true)
    (hon : (s.cluster c).offline = false) (hidle : (s.charge.cluster c).work = none) :
    exec (.clusterOffline c token) s = .next ((((s.charge.updCluster c (fun x => { x with
      offline := true
      work := none
      request := none })).setFact (hCluster c) (Config.factCode 0x09)).raiseErr 0x3002 3 (hCluster c) 0xFF 0
        0).moveReservation c) := by
  change execClusterOffline .. = _
  rw [execClusterOffline, onUnit_present hp, if_neg (by simp [hon])]
  simp only [hidle]

/-- Settles O38: each clause is the rule of its event above. -/
theorem submitEventsComplete : Obligations.SubmitEventsComplete := by
  intro s n q x hx
  refine ⟨fun work k => execSubmitStart_first hx work, fun work => execSubmitStart_next hx work, ?fault,
    execHopperGrantWaitExpiry_waiting hx, fun t => execHopperFlushed_later hx,
    fun t tile touched data => execBinTileDone_rendering touched data, ?limit, ?aborted, ?ended, ?lost⟩
  case fault =>
    rintro prims t held hb hphase hrun hn hheld _ _ rfl rfl
    exact execHopperFault_waits prims hb hphase hrun hn hheld
  case limit =>
    rintro c _ hp hphase hwork rfl
    exact execWorkgroupTimeLimit_dispatch hx hp hphase hwork
  case aborted =>
    rintro work _ _ hs hphase ha rfl hhead hspad htag rfl
    exact execSubmitComplete_aborted hx work hs hphase ha hhead hspad htag
  case ended =>
    rintro work t _ v y z hs hphase ha hrun ht hy hend hya hv hz hspad htag hza rfl
    exact execSubmitComplete_ended hx work hs hphase ha hrun ht hy hend hya hv hz hspad htag hza
  case lost =>
    rintro c token _ hp hon rfl hidle
    exact execClusterOffline_idle token hp hon hidle

end Sys2Proof.Machine
end

section
/-! PROOFS. Layers and commits (O39). -/
namespace Sys2Proof.Machine
open Sys2Proof

section Layer
variable {s : State} {p : Packet}

/-- LAYER_SET stages the layer of its payload. -/
theorem execLayerSet_passes (ht : s.takes opLayerSet (s.holdsSlot p) p = true)
    (hpipe : s.present (hPipe (layerOf p).pipe) = true) (hok : s.layerOk p (layerOf p) = true) :
    exec (.layerSet p) s = .next (((s.markApplied p).updSlot (p.target % 256) (fun t => { t with
      staged := layerOf p })).answer 0x4001 p .ok []) := by
  have hl : p.length = 32 := by
    simp only [State.layerOk, Bool.and_eq_true, decide_eq_true_eq, and_assoc] at hok
    exact hok.1
  have hok' : (s.markApplied p).layerOk p (layerOf p) = true := hok
  change execLayerSet .. = _
  rw [execLayerSet, packet_taken ht, checks_pass (by simp [hl]), checks_pass (by simpa [State.unitOk] using hpipe),
    checks_pass hok']
  rfl

/-- LAYER_RELEASE stages the intended layer again, or one that shows nothing. -/
theorem execLayerRelease_passes (ht : s.takes opLayerRelease (s.holdsSlot p) p = true) (hl : p.length = 4)
    (hz : p.fld 16 1 31 = 0) :
    exec (.layerRelease p) s = .next (((s.markApplied p).updSlot (p.target % 256) (fun t => { t with
      staged := if p.flag 16 0 then { t.intended with
        enable := false
        surface := 0 } else t.intended })).answer 0x4002 p .ok []) := by
  change execLayerRelease .. = _
  rw [execLayerRelease, packet_taken ht, checks_pass (by simp [hl, hz])]
  rfl

/-- MOTION_HINT waits for the latch line where the budget allows it. -/
theorem execMotionHint_passes {h : Hint} (ht : s.takes opMotionHint (s.holdsSlot p) p = true) (hl : p.length = 12)
    (hz : p.fld 24 4 28 = 0)
    (hh : h = ⟨p.i16 16, p.i16 18, p.i16 20, p.i16 22, if p.fld 24 0 4 = 0 then 4 else p.fld 24 0 4⟩)
    (hform : s.isVideo (p.target % 256) = true ∨ (h.scale = 0 ∧ h.angle = 0))
    (hbudget : ((s.markApplied p).updSlot (p.target % 256) (fun t => { t with hintNext := some h })).budgetOk = true) :
    exec (.motionHint p) s = .next (((s.markApplied p).updSlot (p.target % 256) (fun t => { t with
      hintNext := some h })).answer 0x4004 p .ok []) := by
  subst hh
  have hvideo : (s.markApplied p).isVideo (p.target % 256) = s.isVideo (p.target % 256) := rfl
  change execMotionHint .. = _
  rw [execMotionHint, packet_taken ht,
    checks_pass (by rw [hvideo]; simpa [hl, hz] using hform), checks_pass hbudget]
  rfl

/-- A COEF_LOAD has its fields in range, and its phases sum as they must (R361). -/
structure CoefFormed (p : Packet) : Prop where
  length_eq : p.length = 1796
  reserved : p.fld 16 2 30 = 0
  bank : p.fld 16 0 2 ≠ 0
  coefs : (coefWords p).all coefOk = true
  horizontal : phasesOk 8 64 (((coefWords p).map (signed 16)).take 512) = true
  vertical : phasesOk 6 64 (((coefWords p).map (signed 16)).drop 512) = true

/-- COEF_LOAD fills a bank of a video slot, at the latch line where the slot is shown. -/
theorem execCoefLoad_passes (ht : s.takes opCoefLoad (s.holdsSlot p) p = true) (hv : s.isVideo (p.target % 256) = true)
    (hf : CoefFormed p) :
    exec (.coefLoad p) s = .next ((((s.markApplied p).updSlot (p.target % 256) (fun t =>
      if t.current.enable then { t with banksNext := t.banksNext.set (p.fld 16 0 2) ((coefWords p).map (signed 16)) }
      else { t with
        banks := t.banks.set (p.fld 16 0 2) ((coefWords p).map (signed 16))
        banksNext := t.banksNext.set (p.fld 16 0 2) [] })).intend (hSlot (p.target % 256))
          (s.slot (p.target % 256)).pending p.inst).answer 0x4005 p .ok []) := by
  obtain ⟨hl, hz, hb, hc, hh, hvert⟩ := hf
  have hvideo : (s.markApplied p).isVideo (p.target % 256) = true := hv
  change execCoefLoad .. = _
  rw [execCoefLoad, packet_taken ht, checks_pass (by rw [hvideo, hc, hh, hvert]; simp [hl, hz, hb])]
  rfl

/-- ZFLOOR_SET moves no shown layer where no slot is held. -/
theorem execZfloorSet_passes (ht : s.takes opZfloorSet true p = true) (hclass : p.target / 256 = 0x0F)
    (hl : p.length = 4) (hz : p.fld 16 8 24 = 0) (hmin : 1 ≤ p.u8 16)
    (hheld : ∀ j < s.board.member.slots, (s.slot j).holder = none) :
    exec (.zfloorSet p) s = .next ((((s.markApplied p).updPipe (p.target % 256) (fun x => { x with
      zfloorNext := some (p.u8 16) })).intend (hPipe (p.target % 256)) true p.inst).answer 0x4010 p .ok []) := by
  change execZfloorSet .. = _
  rw [execZfloorSet, packet_taken ht, checks_pass (by simp [hclass, hl, hz, hmin]), checks_pass]
  · rfl
  · rw [Bool.not_eq_true', List.any_eq_false]
    intro j hj
    simp [hheld j (List.mem_range.mp hj)]

/-! ### COMMIT (R325 to R327) -/

/-- A slot whose staged layer becomes the intended one. -/
def State.intendSlot (s : State) (id n i : Nat) : State :=
  (s.updSlot i (fun x => { x with
    intended := x.staged
    pending := true
    waiting := false
    commit := id })).intend (hSlot i) true n

/-- The parts of a commit, one for each pipe of its slots. -/
def commitParts (p : Packet) (id : Nat) (is : List Nat) (at_ : Nat → Nat) : List Machine.Part :=
  ((is.map at_).dedup).map (fun q => Machine.Part.mk id p.inst q (p.flag 16 6) (p.flag 16 5)
    (is.filter (fun j => decide (at_ j = q))) false 0)

section Commit
variable (ht : s.takes opCommit (ownHandle p) p = true)
include ht

/-- A COMMIT that passes its checks makes the staged states intended, in parts that wait. -/
theorem execCommit_passes {is : List Nat} (his : is = commitSlots p) (hne : is ≠ []) {id : Nat} {w : State}
    (hid : id = s.blend.nextCommit) (hok : (s.markApplied p).commitFails p = none)
    (hw : w = is.foldl (fun t i => t.intendSlot id p.inst i) (is.foldl (fun t i => t.replaceWaiting i) (s.markApplied p))) :
    exec (.commit p) s = .next ((w.setBlend { w.blend with
      parts := w.blend.parts ++ commitParts p id is (fun j => (w.slot j).partPipe)
      nextCommit := if id + 1 < 2 ^ 32 then id + 1 else 1 }).answer 0x4003 p .ok
        ((s.markApplied p).commitResult p id 0xFF)) := by
  subst his hid hw
  change execCommit .. = _
  rw [execCommit, packet_taken ht]
  simp only [hok]
  rw [if_neg (by simpa using hne)]
  rfl

/-- One that fails a check is refused whole. -/
theorem execCommit_fails {st : Status} {k : Nat} (hfail : (s.markApplied p).commitFails p = some (st, k)) :
    exec (.commit p) s = .next ((s.markApplied p).answer 0x4003 p st ((s.markApplied p).commitResult p 0 k)) := by
  change execCommit .. = _
  rw [execCommit, packet_taken ht]
  simp only [hfail]
  rfl

end Commit
end Layer

/-- Settles O39: each clause is the rule of its packet above. -/
theorem layerPacketsComplete : Obligations.LayerPacketsComplete := by
  rintro p s _ _ _ rfl rfl rfl
  refine ⟨?set, execLayerRelease_passes, ?commit, fun ht st k => execCommit_fails ht, ?hint, ?coef, execZfloorSet_passes⟩
  case set =>
    rintro _ ht rfl hpipe hok
    exact execLayerSet_passes ht hpipe hok
  case commit =>
    rintro ht is _ _ _ w his hne hid hok rfl hw rfl
    exact execCommit_passes ht his hne hid hok hw
  case hint =>
    rintro h _ ht hl hz hh hform rfl hbudget
    exact execMotionHint_passes ht hl hz hh hform hbudget
  case coef =>
    rintro _ _ ht hl hv hz rfl hb rfl hc hh hvert
    exact execCoefLoad_passes ht hv ⟨hl, hz, hb, hc, hh, hvert⟩

end Sys2Proof.Machine
end

section
/-! PROOFS. Tone, panel LUT, sun stage and colour guard (O40). -/
namespace Sys2Proof.Machine
open Sys2Proof

/-- A TONE_SET has its fields in range (R363). -/
structure ToneFormed (p : Packet) : Prop where
  stage : p.target / 256 = 0x0E
  length_eq : p.length = if p.flag 16 6 then 2068 else 20
  reserved16 : p.fld 16 7 25 = 0
  reserved28 : p.fld 28 3 1 = 0
  reserved29 : p.fld 28 11 5 = 0
  reserved31 : p.fld 28 24 8 = 0
  reserved34 : p.u16 34 = 0
  eotf : (toneOf p).outEotf ≤ 3
  primaries : (toneOf p).primaries ≤ 1
  sdr_ge : 80 ≤ (toneOf p).sdrWhite
  sdr_le : (toneOf p).sdrWhite ≤ 1000
  blend_ge : 80 ≤ (toneOf p).blendPeak
  blend_le : (toneOf p).blendPeak ≤ 10000
  panel_ge : 80 ≤ (toneOf p).panelPeak
  panel_le : (toneOf p).panelPeak ≤ 10000
  lux : 1 ≤ (toneOf p).luxScale

/-- TONE_SET waits for the latch line. -/
theorem execToneSet_passes {s : State} {p : Packet} (ht : s.takes opToneSet true p = true) (hf : ToneFormed p) :
    exec (.toneSet p) s = .next ((((s.markApplied p).updStage (p.target % 256) (fun c => { c with
      toneNext := some (toneOf p) })).intend p.target true p.inst).answer 0x4011 p .ok []) := by
  obtain ⟨hstage, hl, h0, h1, h2, h3, h4, he, hpr, hs, hs', hb, hb', hp, hp', hlux⟩ := hf
  change execToneSet .. = _
  rw [execToneSet, packet_taken ht, checks_pass (by
    simp only [hl, decide_true]
    simp [hstage, h0, h1, h2, h3, h4, he, hpr, hs, hs', hb, hb', hp, hp', hlux])]
  rfl

/-- The words of a PANEL_LUT_SET: none for the identity, else those of host memory (R367). -/
def State.lutWords (s : State) (p : Packet) : List Nat :=
  if p.flag 24 0 then []
  else (bytesWords (s.hostBytes s.board.mgrPortInForce (p.u64 16) 19652)).map BitVec.toNat

/-- PANEL_LUT_SET waits for the latch line, and owes its reply until then. -/
theorem execPanelLutSet_passes {s : State} {p : Packet} (ht : s.takes opPanelLutSet true p = true)
    (hstage : p.target / 256 = 0x0E) (hl : p.length = 12) (hz : p.fld 24 1 31 = 0)
    (hread : p.flag 24 0 = false → p.u64 16 % 64 = 0 ∧ s.busMaster 0 = true) (hw : ∀ w ∈ s.lutWords p, w < 2 ^ 30) :
    exec (.panelLutSet p) s = .next (((((s.markApplied p).updStage (p.target % 256) (fun c => { c with
      lutNext := some (s.lutWords p)
      lutWaiting := c.lutWaiting ++ [{ opcode := 0x4012, p := p }] })).intend p.target true p.inst).tickFree).interim 0x4012 p)
    := by
  have hsource : (p.flag 24 0 || (decide (p.u64 16 % 64 = 0) && s.busMaster 0)) = true := by
    cases hflag : p.flag 24 0 with
    | true => rfl
    | false =>
      obtain ⟨halign, hbus⟩ := hread hflag
      simp [halign, hbus]
  have hsmall : (s.lutWords p).all (fun w => decide (w < 2 ^ 30)) = true := by
    rw [List.all_eq_true]
    exact fun w h => decide_eq_true (hw w h)
  change execPanelLutSet .. = _
  rw [execPanelLutSet, packet_taken ht]
  simp only [State.busMaster_markApplied, State.markApplied_frame, State.hostBytes_markApplied]
  rw [← State.lutWords, checks_pass (by rw [hsource]; simp [hstage, hl, hz]), checks_pass hsmall]
  rfl

section Stage
variable {s t : State} {k : Nat} {l : Loop} (hp : s.present (hColour k) = true)
include hp

/-- COLOUR_GUARD_STEP heads for 8,192, and takes no output below it. -/
theorem execColourGuardStep_eq (hl : s.loop (hColour k) 1 = some l) : exec (.colourGuardStep k) s =
    .next (s.stepLoop (hColour k) 1 8192 (if l.wanted 8192 < 8192 then some 8192 else none)) := by
  change execColourGuardStep .. = _
  rw [execColourGuardStep, onUnit_present hp]
  simp only [hl]

variable (hon : (s.stage k).tone.alsEn = true)
include hon

/-- A reading of the sun loop moves the output toward what the median asks for (R369). -/
theorem execSunLoopStep_reading {r : Nat} {rs : List Nat}
    (hrs : rs = ((s.stage k).readings ++ [r % 65536]).drop ((s.stage k).readings.length + 1 - 5)) (hne : rs ≠ [])
    (hagree : (s.entry (hColour k)).agree ≠ .contradicted)
    (ht : t = s.updStage k (fun c => { c with readings := rs, failedReads := 0 })) (hl : t.loop (hColour k) 0 = some l) :
    exec (.sunLoopStep k (some r)) s = .next (t.putLoop (hColour k) 0 { l with
      out := l.wanted (moveBy l.out (sunTarget (s.stage k).tone.luxScale (median rs)) (s.stage k).tone.rate)
      target := sunTarget (s.stage k).tone.luxScale (median rs) }) := by
  have hagree' : (t.entry (hColour k)).agree ≠ .contradicted := by
    subst ht
    exact hagree
  have hread : (true && !rs.isEmpty) = true := by simpa using hne
  change execSunLoopStep .. = _
  rw [execSunLoopStep, onUnit_present hp]
  simp only [hon, ← hrs, Nat.zero_min, ← ht, hagree', false_and, and_false, if_false, hl, OfNat.zero_ne_ofNat, hread,
    if_true, nonpos_iff_eq_zero, OfNat.ofNat_ne_zero]

/-- The third failed read in a row is a fact, and the output holds (R371). -/
theorem execSunLoopStep_thirdFailure (hfailed : (s.stage k).failedReads = 2)
    (ht : t = (s.updStage k (fun c => { c with readings := (s.stage k).readings, failedReads := 3 })).setFact (hColour k) 1)
    (hl : t.loop (hColour k) 0 = some l) :
    exec (.sunLoopStep k none) s = .next (t.putLoop (hColour k) 0 { l with
      out := l.wanted (moveBy l.out l.out (s.stage k).tone.rate)
      target := l.out }) := by
  change execSunLoopStep .. = _
  rw [execSunLoopStep, onUnit_present hp]
  simp only [hon, hfailed, Nat.reduceAdd, Nat.min_self, if_true, ← ht, hl, Nat.le_refl]

end Stage

/-- Settles O40: each clause is the rule of its command above. -/
theorem colourCommandsComplete : Obligations.ColourCommandsComplete := by
  intro s k
  refine ⟨?tone, ?lut, ?reading, ?failure, fun l hp => execColourGuardStep_eq hp⟩
  case tone =>
    rintro p _ _ rfl rfl hstage rfl ht hl h0 h1 h2 h3 h4 he hpr hs hs' hb hb' hpk hpk' hlux
    exact execToneSet_passes ht ⟨hstage, hl, h0, h1, h2, h3, h4, he, hpr, hs, hs', hb, hb', hpk, hpk', hlux⟩
  case lut =>
    rintro p _ words rfl rfl hstage ht hl hz hident hread hw
    have hwords : words = s.lutWords p := by
      rw [State.lutWords]
      cases hflag : p.flag 24 0 with
      | true => exact hident hflag
      | false => exact (hread hflag).2.2
    subst hwords
    exact execPanelLutSet_passes ht hstage hl hz (fun hflag => ⟨(hread hflag).1, (hread hflag).2.1⟩) hw
  case reading =>
    rintro r l rs t _ hp hon hrs hne hagree ht hl rfl
    exact execSunLoopStep_reading hp hon hrs hne hagree ht hl
  case failure =>
    intro l t hp hon hfailed ht hl
    exact execSunLoopStep_thirdFailure hp hon hfailed ht hl

end Sys2Proof.Machine
end

section
/-! PROOFS. Pipe timings, pipe states, subscriptions and region monitors (O41). -/
namespace Sys2Proof.Machine
open Sys2Proof

/-- A check that counts only under a condition. -/
theorem or_of_imp {b c : Bool} (h : b = true → c = true) : (!b || c) = true := by
  cases b with
  | false => rfl
  | true => exact h rfl

section Pipe
variable {s : State} {p : Packet}

/-! ### PIPE_TIMING (R374, R375, R379, R380) -/

/-- The state in which the next timing of TARGET's pipe is staged. -/
def State.timingStaged (u : State) (p : Packet) : State :=
  u.updPipe (p.target % 256) (fun q => { q with timingNext := some (timingOf p), leadOnly := false })

section Timing
variable (ht : s.takes opPipeTiming true p = true) (hlead : leadFieldsOk p = true)
include ht hlead

section Whole
variable (hok : (timingOf p).ok = true) (hflag : p.flag 36 7 = false)
  (hroom : (s.pipe (p.target % 256)).enabled = true → ((s.markApplied p).timingStaged p).bandPoolOk = true ∧
    ((s.markApplied p).timingStaged p).budgetOk = true)
include hok hflag hroom

/-- An OFF pipe takes a timing at once. -/
theorem execPipeTiming_off (hoff : (s.pipe (p.target % 256)).state = .off) :
    exec (.pipeTiming p) s = .next ((((s.markApplied p).timingForce (p.target % 256) (timingOf p)).intend p.target false
      p.inst).answer 0x5001 p .ok []) := by
  have hstate : ((s.markApplied p).pipe (p.target % 256)).state = .off := hoff
  change execPipeTiming .. = _
  rw [execPipeTiming, packet_taken ht, checks_pass (by simp [hlead, hflag, hok]),
    checks_pass (by exact or_of_imp (fun h => (hroom h).1)), checks_pass (by exact or_of_imp (fun h => (hroom h).2)), checks_nil]
  simp only [hstate]
  rfl

/-- A running one takes it at its latch line, and owes the reply. -/
theorem execPipeTiming_running
    (hrun : (s.pipe (p.target % 256)).state = .run ∨ (s.pipe (p.target % 256)).state = .blank) :
    exec (.pipeTiming p) s = .next (((((s.markApplied p).timingStaged p).updPipe (p.target % 256) (fun q => { q with
      timingWaiting := q.timingWaiting ++ [{ opcode := 0x5001, p := p }] })).intend p.target true p.inst).interim 0x5001 p)
    := by
  have hstate : ((s.markApplied p).pipe (p.target % 256)).state = .run ∨
      ((s.markApplied p).pipe (p.target % 256)).state = .blank := hrun
  change execPipeTiming .. = _
  rw [execPipeTiming, packet_taken ht, checks_pass (by simp [hlead, hflag, hok]),
    checks_pass (by exact or_of_imp (fun h => (hroom h).1)), checks_pass (by exact or_of_imp (fun h => (hroom h).2)), checks_nil]
  obtain hstate | hstate := hstate
  · simp only [hstate]
    rfl
  · simp only [hstate]
    rfl

end Whole

section LeadOnly
variable {t : Timing} (hflag : p.flag 36 7 = true) (htimed : (s.pipe (p.target % 256)).timed = true)
  (hnext : t = { (s.pipe (p.target % 256)).want with
    lead := (timingOf p).lead
    qwMode := (timingOf p).qwMode
    qwGuard := (timingOf p).qwGuard }) (hlatch : t.latchOk = true)
include hflag htimed hnext hlatch

/-- Of LEAD_ONLY only the lead and the quiet window are taken, at once on an OFF pipe. -/
theorem execPipeTimingLeadOnly_off (hoff : (s.pipe (p.target % 256)).state = .off) :
    exec (.pipeTimingLeadOnly p) s = .next ((((s.markApplied p).timingForce (p.target % 256) t).intend p.target false
      p.inst).answer 0x5001 p .ok []) := by
  subst hnext
  have hstate : ((s.markApplied p).pipe (p.target % 256)).state = .off := hoff
  change execPipeTimingLeadOnly .. = _
  rw [execPipeTimingLeadOnly, packet_taken ht,
    checks_pass (by simp only [hlead, hflag, Bool.true_and, Bool.and_eq_true]; exact ⟨htimed, hlatch⟩), checks_nil]
  simp only [hstate]
  rfl

/-- A running one takes them at its latch line. -/
theorem execPipeTimingLeadOnly_running
    (hrun : (s.pipe (p.target % 256)).state = .run ∨ (s.pipe (p.target % 256)).state = .blank) :
    exec (.pipeTimingLeadOnly p) s = .next ((((s.markApplied p).updPipe (p.target % 256) (fun q => { q with
      timingNext := some t
      leadOnly := q.leadOnly || q.timingNext.isNone
      timingWaiting := q.timingWaiting ++ [{ opcode := 0x5001, p := p }] })).intend p.target true p.inst).interim 0x5001 p)
    := by
  subst hnext
  have hstate : ((s.markApplied p).pipe (p.target % 256)).state = .run ∨
      ((s.markApplied p).pipe (p.target % 256)).state = .blank := hrun
  change execPipeTimingLeadOnly .. = _
  rw [execPipeTimingLeadOnly, packet_taken ht,
    checks_pass (by simp only [hlead, hflag, Bool.true_and, Bool.and_eq_true]; exact ⟨htimed, hlatch⟩), checks_nil]
  obtain hstate | hstate := hstate
  · simp only [hstate]
    rfl
  · simp only [hstate]
    rfl

end LeadOnly
end Timing

/-! ### PIPE_ENABLE (R377, R336, R396) -/

/-- The state in which the intended state of TARGET's pipe is the one named. -/
def State.stateIntended (u : State) (p : Packet) : State :=
  u.updPipe (p.target % 256) (fun q => { q with intent := p.fld 16 0 2 })

/-- The state in which PIPE_ENABLE waits for TARGET's pipe. -/
def State.enableWaits (t : State) (p : Packet) : State :=
  t.updPipe (p.target % 256) (fun q => { q with enableWaiting := some { opcode := 0x5002, p := p } })

/-- A PIPE_ENABLE names a state that there is, of a pipe with a timing. -/
structure State.EnableFormed (s : State) (p : Packet) : Prop where
  pipe : isPipe p = true
  length_eq : p.length = 4
  reserved : p.fld 16 2 30 = 0
  legal : p.fld 16 0 2 ≠ 3
  timed : p.fld 16 0 2 = 0 ∨ (s.pipe (p.target % 256)).timed = true

section Enable
variable (ht : s.takes opPipeEnable true p = true) (hf : s.EnableFormed p)
include ht hf

omit ht in
theorem State.EnableFormed.check : (isPipe p && decide (p.length = 4) && decide (p.fld 16 2 30 = 0) &&
    decide (p.fld 16 0 2 ≠ 3) && (decide (p.fld 16 0 2 = 0) || ((s.markApplied p).pipe (p.target % 256)).timed)) = true := by
  obtain ⟨hpipe, hl, hz, hlegal, htimed⟩ := hf
  have htimed' : p.fld 16 0 2 = 0 ∨ ((s.markApplied p).pipe (p.target % 256)).timed = true := htimed
  simpa [hpipe, hl, hz, hlegal] using htimed'

/-- The state that the pipe is to be in already is answered at once. -/
theorem execPipeEnable_same (hsame : p.fld 16 0 2 = (s.pipe (p.target % 256)).intent) :
    exec (.pipeEnable p) s = .next ((s.markApplied p).answer 0x5002 p .ok []) := by
  change execPipeEnable .. = _
  rw [execPipeEnable, packet_taken ht, checks_pass (by exact hf.check), checks_nil, if_pos (by exact hsame)]
  rfl

variable (hother : p.fld 16 0 2 ≠ (s.pipe (p.target % 256)).intent)
  (hidle : (s.pipe (p.target % 256)).enableWaiting = none)
include hother hidle

/-- An OFF pipe begins to start; the reply waits until it is there. -/
theorem execPipeEnable_starts (hon : p.fld 16 0 2 = 1 ∨ p.fld 16 0 2 = 2)
    (hoff : (s.pipe (p.target % 256)).state = .off) (hpool : ((s.markApplied p).stateIntended p).bandPoolOk = true)
    (hbudget : ((s.markApplied p).stateIntended p).budgetOk = true)
    (hmon : p.fld 16 0 2 = 1 → (s.markApplied p).pipeMonitored (p.target % 256) = false) :
    exec (.pipeEnable p) s = .next (((((((s.markApplied p).stateIntended p).updPipe (p.target % 256) (fun q => { q with
      enableWaiting := none })).updPipe (p.target % 256) (fun q => { q with
        state := .starting
        leadIn := false
        bandSlots := true
        restartZero := true
        attempts := 0 })).enableWaits p).intend p.target true p.inst).interim 0x5002 p) := by
  have hstate : ((s.markApplied p).pipe (p.target % 256)).state = .off := hoff
  have hidle' : ((s.markApplied p).pipe (p.target % 256)).enableWaiting = none := hidle
  have hbusy : (decide (p.fld 16 0 2 = 2) || !(s.markApplied p).pipeMonitored (p.target % 256)) = true := by
    obtain h1 | h2 := hon
    · rw [hmon h1, Bool.not_false, Bool.or_true]
    · simp [h2]
  change execPipeEnable .. = _
  rw [execPipeEnable, packet_taken ht, checks_pass (by exact hf.check), checks_nil, if_neg (by exact hother),
    checks_pass (by exact or_of_imp (fun _ => hpool)), checks_pass (by exact or_of_imp (fun _ => hbudget)),
    checks_pass (by exact hbusy), checks_nil]
  simp only [hstate, hidle']
  rfl

/-- A running pipe is to stop; the reply waits until it is OFF. -/
theorem execPipeEnable_stops (hzero : p.fld 16 0 2 = 0) (hrun : (s.pipe (p.target % 256)).state = .run)
    (hmon : (s.markApplied p).pipeMonitored (p.target % 256) = false) :
    exec (.pipeEnable p) s = .next ((((((s.markApplied p).stateIntended p).updPipe (p.target % 256) (fun q => { q with
      enableWaiting := none })).enableWaits p).intend p.target true p.inst).interim 0x5002 p) := by
  have hstate : ((s.markApplied p).pipe (p.target % 256)).state = .run := hrun
  have hidle' : ((s.markApplied p).pipe (p.target % 256)).enableWaiting = none := hidle
  change execPipeEnable .. = _
  rw [execPipeEnable, packet_taken ht, checks_pass (by exact hf.check), checks_nil, if_neg (by exact hother),
    checks_pass (by simp [hzero]), checks_pass (by simp [hzero]),
    checks_pass (by rw [hmon, Bool.not_false, Bool.or_true]), checks_nil]
  simp only [hstate, hidle']
  rfl

end Enable

/-! ### Subscriptions and region monitors (R388, R392) -/

/-- LINE_MATCH_SET subscribes its sender to the pipe's events. -/
theorem execLineMatchSet_passes
    (ht : s.takes opLineMatchSet (decide (p.inst = 0) || s.hasRegion p.inst (p.target % 256)) p = true)
    (hpipe : isPipe p = true) (hl : p.length = 4) (hz : p.fld 18 4 12 = 0)
    (hline : (s.pipe (p.target % 256)).timed = true → p.u16 16 < (s.pipe (p.target % 256)).want.vtotal) :
    exec (.lineMatchSet p) s = .next (((s.markApplied p).setPipes { s.pipes with
      subs := s.pipes.subs.set (p.inst * 8 + p.target % 256)
        (some (Subscription.mk (p.u16 16) (p.flag 18 0) (p.flag 18 1) (p.flag 18 2) (p.flag 18 3))) }).answer 0x5003 p .ok
          []) := by
  have hline' : (!((s.markApplied p).pipe (p.target % 256)).timed ||
      decide (p.u16 16 < ((s.markApplied p).pipe (p.target % 256)).want.vtotal)) = true :=
    or_of_imp (fun h => decide_eq_true (hline h))
  change execLineMatchSet .. = _
  rw [execLineMatchSet, packet_taken ht, checks_pass (by rw [hline']; simp [hpipe, hl, hz])]
  rfl

/-- REGION_MON_SET takes a monitor that nobody else runs, from the next frame start. -/
theorem execRegionMonSet_passes (ht : s.takes opRegionMonSet true p = true) (hclass : p.target / 256 = 0x13)
    (hl : p.length = 28) (hz : p.fld 16 6 2 = 0) (hz' : p.u16 18 = 0)
    (hfits : (monOf p).enable = true → (monOf p).fits (s.pipe (p.target % 256 / 16)).want = true)
    (hown : (s.mon (p.target % 256)).want.enable = true → (s.mon (p.target % 256)).owner = p.inst) :
    exec (.regionMonSet p) s = .next ((((s.markApplied p).updMon (p.target % 256) (fun m => { m with
      next := some (monOf p)
      owner := p.inst })).intend p.target true p.inst).answer 0x5004 p .ok []) := by
  have hfits' : (!(monOf p).enable || (monOf p).fits ((s.markApplied p).pipe (p.target % 256 / 16)).want) = true :=
    or_of_imp hfits
  change execRegionMonSet .. = _
  rw [execRegionMonSet, packet_taken ht, checks_pass (by rw [hfits']; simp [hclass, hl, hz, hz']),
    checks_pass (by exact or_of_imp (fun h => decide_eq_true (hown h)))]
  rfl

end Pipe

/-- Settles O41: each clause is the rule of its packet above. -/
theorem pipePacketsComplete : Obligations.PipePacketsComplete := by
  rintro p s _ _ _ rfl rfl rfl
  refine ⟨?timing, ?leadOnly, ?enable, execLineMatchSet_passes, execRegionMonSet_passes⟩
  case timing =>
    rintro _ _ ht hlead rfl hok rfl hflag hroom
    exact ⟨execPipeTiming_off ht hlead hok hflag hroom, execPipeTiming_running ht hlead hok hflag hroom⟩
  case leadOnly =>
    intro t ht hlead hflag htimed hnext hlatch
    exact ⟨execPipeTimingLeadOnly_off ht hlead hflag htimed hnext hlatch,
      execPipeTimingLeadOnly_running ht hlead hflag htimed hnext hlatch⟩
  case enable =>
    rintro _ _ ht hpipe hl hz rfl rfl
    refine ⟨fun hsame hlegal htimed => ?same, fun hother hon htimed hoff hidle hpool hbudget hmon => ?starts,
      fun hother hzero hrun hidle hmon => ?stops⟩
    case same => exact execPipeEnable_same ht ⟨hpipe, hl, hz, hlegal, htimed⟩ hsame
    case starts =>
      exact execPipeEnable_starts ht ⟨hpipe, hl, hz, by omega, .inr htimed⟩ hother hidle hon hoff hpool hbudget hmon
    case stops => exact execPipeEnable_stops ht ⟨hpipe, hl, hz, by omega, .inl hzero⟩ hother hidle hzero hrun hmon

end Sys2Proof.Machine
end

section
/-! PROOFS. The frame events of a pipe (O42). -/
namespace Sys2Proof.Machine
open Sys2Proof

section Pipe
variable {s : State} {k : Nat} (hp : s.present (hPipe k) = true)
include hp

/-- The pixel PLL's lock begins the lead-in frame of a starting pipe. -/
theorem execPixelPllLocked_starting (hstate : (s.pipe k).state = .starting) (hlead : (s.pipe k).leadIn = false)
    (hclk : (s.pipe k).timing.pclk ≠ 0) :
    exec (.pixelPllLocked k) s = .next (((s.updPipe k (fun q => { q.freshFrame with
      leadIn := true
      latched := false
      composeNext := false
      lastFrameStart := s.devTime
      lastPixel := 0
      bands := []
      nextBand := 0
      openNext := false })).count 2 k 1).retimeDeadlines k) := by
  change execPixelPllLocked .. = _
  rw [execPixelPllLocked, onUnit_present hp, if_pos (by simp [hstate, hlead, hclk])]

/-! ### The latch line (R382) -/

/-- The layers of a latch line: the z-floor and the commits of the pipe are taken. -/
def State.latchedLayers (s : State) (k : Nat) : State :=
  ((if (s.pipe k).leadIn then s else s.edge (200 + 8 * k + 4)).updPipe k (fun q => { q with
    zfloor := q.floor
    zfloorNext := none })).latchLayers k

/-- After them the fallbacks, the colour stage and the links. -/
def State.latchedStages (b : State) (k : Nat) : State :=
  let c := if (b.pipe k).commitsTaken = 0 then b else b.edge (200 + 8 * k + 5)
  ((c.slotList.foldl (fun t i => if (t.slot i).current.pipe = k then t.latchFallback i else t) c).latchColour k).linksLatch k

/-- Then the pipe has its next frame. -/
def State.latchedFrame (d : State) (k : Nat) : State :=
  d.updPipe k (fun q => { q with
    latched := true
    nextSet := FrameSet.mk (d.frameLayers k) (some (d.stage k).tone) (d.stage k).lut (d.stage k).sInForce (d.stage k).gInForce
    composeNext := decide ((d.pipe k).effective = 2) && ((d.pipe k).timingNext.isNone || (d.pipe k).leadOnly) })

/-- The latch line takes all that waits for it. -/
theorem execLatchLine_takes (hgen : (s.pipe k).generating = true) (hfirst : (s.pipe k).latched = false) {e : State}
    (he : e = ((s.latchedLayers k).latchedStages k).latchedFrame k) :
    exec (.latchLine k) s = .next (((((if (s.pipe k).zfloorNext.isSome ∧ (s.pipe k).timingNext.isNone = true ∧
      (s.pipe k).enableWaiting.isNone = true then e.settle (hPipe k) else e).missDeadlines k).armEdge)).flushFences) := by
  subst he
  change execLatchLine .. = _
  rw [execLatchLine, onUnit_present hp, if_neg (by simp [hgen, hfirst])]
  rfl

/-! ### Frame starts (R377 to R380) -/

section Start
variable (hgen : (s.pipe k).generating = true) (hlatched : (s.pipe k).latched = true)
include hgen hlatched

/-- A pipe that is to be OFF stops at the end of its frame. -/
theorem execFrameStart_stops (hoff : (s.pipe k).intent = 0) :
    exec (.frameStart k) s = .next (((s.linksFrameDone k).steepReply k (s.pipe k).state).stopPipe k) := by
  change execFrameStart .. = _
  rw [execFrameStart, onUnit_present hp, if_neg (by simp [hgen, hlatched]), if_pos hoff]

/-- One that is to run goes on with its next frame. -/
theorem execFrameStart_runs (hon : (s.pipe k).intent = 2) (hsteep : (s.pipe k).steeped = false)
    (hnext : (s.pipe k).timingNext = none) (hrun : (s.pipe k).state = .run) :
    exec (.frameStart k) s = .next ((((s.linksFrameDone k).steepReply k .run).beginFrame k .run).flushFences) := by
  have heff : (s.pipe k).effective = 2 := by simp [Pipe.effective, hsteep, hon]
  change execFrameStart .. = _
  rw [execFrameStart, onUnit_present hp, if_neg (by simp [hgen, hlatched]), if_neg (by simp [hon])]
  simp only [hnext, heff, hrun, ne_eq, not_true_eq_false, if_false]

/-- One with a new timing starts afresh with it. -/
theorem execFrameStart_retimed {t : Timing} (hon : (s.pipe k).intent ≠ 0) (hnext : (s.pipe k).timingNext = some t)
    (hlead : (s.pipe k).leadOnly = false) :
    exec (.frameStart k) s = .next ((((((s.linksFrameDone k).steepReply k (s.pipe k).state).updPipe k (fun q => {
      q.freshFrame with
        state := .starting
        leadIn := false
        latched := false
        composeNext := false
        bands := []
        nextBand := 0
        openNext := false })).timingForce k t)).flushFences) := by
  change execFrameStart .. = _
  rw [execFrameStart, onUnit_present hp, if_neg (by simp [hgen, hlatched]), if_neg hon]
  simp only [hnext, hlead]

end Start

/-! ### Events of a frame (R386 to R391) -/

/-- A line that is subscribed is told. -/
theorem execLineMatch_subscribed {line : Nat} {tos : List Nat}
    (hstate : (s.pipe k).state = .run ∨ (s.pipe k).state = .blank) (hline : line < (s.pipe k).timing.vtotal)
    (htos : tos = s.subscribers k (fun x => x.lineEn && decide (x.line = line))) (hne : tos ≠ []) :
    exec (.lineMatch k line) s = .next ((s.edge (200 + 8 * k + 1)).raiseAll tos 0x51 (hPipe k)
      (detail [((s.pipe k).frame, 32), (k, 16), (line, 16)])) := by
  subst htos
  change execLineMatch .. = _
  rw [execLineMatch, onUnit_present hp, if_pos (by simpa [hline, hne] using hstate)]

/-- So is the start of a blanking. -/
theorem execVblankStart_scanning (period : Nat) (hstate : (s.pipe k).state = .run ∨ (s.pipe k).state = .blank) :
    exec (.vblankStart k period) s = .next ((s.edge (200 + 8 * k)).raiseAll (s.subscribers k (·.vblankEn)) 0x50 (hPipe k)
      (detail [((s.pipe k).frame, 32), (k, 16), ((s.pipe k).timing.vact, 16), (period, 32)])) := by
  change execVblankStart .. = _
  rw [execVblankStart, onUnit_present hp, if_pos (by simpa using hstate)]

/-- So is the end of a frame, here one without an underrun. -/
theorem execFrameDone_clean (hrun : (s.pipe k).state = .run) (hfirst : (s.pipe k).frameDone = false)
    (hclean : (s.pipe k).ulines = 0) :
    exec (.frameDone k) s = .next ((((s.edge (200 + 8 * k + 2)).raiseAll (s.subscribers k (·.doneEn)) 0x52 (hPipe k)
      (detail [((s.pipe k).frame, 32), (k, 8), ((s.pipe k).commitsTaken, 8), (0, 16),
        ((s.pipe k).bandLate, 16)])).safetyFrameDone k).updPipe k (fun q => { q with frameDone := true })) := by
  change execFrameDone .. = _
  rw [execFrameDone, onUnit_present hp, if_neg (by simp [hrun, hfirst])]
  simp only [hclean, if_true]

/-- A quiet window's end reaches the sense die. -/
theorem execQuietWindow_ends : exec (.quietWindow k false) s =
    .next (s.setTouch { s.touch with window := s.touch.window.set k false }) := by
  change execQuietWindow .. = _
  rw [execQuietWindow, onUnit_present hp]
  rfl

/-- So does its beginning, where the window in the blanking has a length. -/
theorem execQuietWindow_begins (hstate : (s.pipe k).state = .run ∨ (s.pipe k).state = .blank)
    (hmode : (s.pipe k).timing.qwMode = 1 ∨ (s.pipe k).timing.qwMode = 2)
    (hlen : 2 * (s.pipe k).timing.qwGuard <
      ((s.pipe k).timing.vtotal - (s.pipe k).timing.vact) * (s.pipe k).timing.htotal) (hup : s.touch.d2dUp = true)
    (hsense : s.board.member.sense = true) :
    exec (.quietWindow k true) s = .next (s.setTouch { s.touch with window := s.touch.window.set k true }) := by
  have hscan : (decide ((s.pipe k).state = .run) || decide ((s.pipe k).state = .blank)) = true := by simpa using hstate
  have hon : (s.pipe k).timing.qwMode ≠ 0 := by omega
  change execQuietWindow .. = _
  rw [execQuietWindow, onUnit_present hp]
  simp only [hscan, hon, hlen, hup, hsense, ne_eq, not_false_eq_true, decide_true, Bool.true_or, Bool.and_self,
    Bool.not_true, Bool.and_false, Bool.false_eq_true, if_false]

end Pipe

/-- Settles O42: each clause is the rule of its event above. -/
theorem pipeFrameEventsComplete : Obligations.PipeFrameEventsComplete := by
  rintro s k _ hp rfl
  refine ⟨execPixelPllLocked_starting hp, ?latch, execFrameStart_stops hp, execFrameStart_runs hp,
    fun hgen hlatched hon t => execFrameStart_retimed hp hgen hlatched hon,
    fun line tos => execLineMatch_subscribed hp, fun period => execVblankStart_scanning hp period,
    execFrameDone_clean hp, execQuietWindow_ends hp, execQuietWindow_begins hp⟩
  case latch =>
    intro hgen hfirst a b c d e ha hb hc hd he
    have hlayers : b = s.latchedLayers k := by
      rw [hb, ha]
      rfl
    have hstages : d = b.latchedStages k := by
      rw [hd, hc]
      rfl
    have hframe : e = d.latchedFrame k := he
    rw [hstages, hlayers] at hframe
    exact execLatchLine_takes hp hgen hfirst hframe

end Sys2Proof.Machine
end

section
/-! PROOFS. Loss of the pixel clock, and the rectangle of a region monitor (O43). -/
namespace Sys2Proof.Machine
open Sys2Proof

/-! ### The pixel clock (R397, R398, R665) -/

section Clock
variable {s : State} {k : Nat}

/-- A pipe that loses its clock in RUN or BLANK is held. -/
theorem State.pixLost_scanning (hstate : (s.pipe k).state = .run ∨ (s.pipe k).state = .blank) (hon : (s.pipe k).intent ≠ 0)
    {a b : State} (ha : a = s.updPipe k (fun q => { q with
      state := .held
      attempts := 0
      heldSince := s.devTime
      leadIn := false
      latched := false
      composeNext := false
      bands := []
      nextBand := 0
      openNext := false })) (hb : b = a.setTouch { a.touch with window := a.touch.window.set k false }) :
    s.pixLost k = (((((((b.domLost (b.pixDom k)).edge (200 + 8 * k + 6)).setFact (hPipe k) 1).count 2 k 5).pipeClock k
      1).retimeDeadlines k)).flushFences := by
  subst hb ha
  rw [State.pixLost]
  exact if_pos (by simpa [hon] using hstate)

/-- The state in which one more attempt at the clock of a pipe is counted. -/
def State.pixTried (s : State) (k : Nat) : State :=
  (s.updPipe k (fun q => { q with attempts := satInc 8 q.attempts })).domAttempt (s.pixDom k)

section Held
variable (hheld : (s.pipe k).state = .held)
include hheld

/-- A lock restarts a held pipe. -/
theorem State.pixAttempt_locked : s.pixAttempt k true = (s.pixTried k).pixRestart k 2 false := by
  rw [State.pixAttempt]
  simp only [hheld, ne_eq, not_true_eq_false, if_false, if_true]
  rfl

/-- The first two failures leave it held. -/
theorem State.pixAttempt_early (hearly : (s.pipe k).attempts < 2) : s.pixAttempt k false = s.pixTried k := by
  have hmore : (s.pipe k).attempts + 1 < 3 := by omega
  rw [State.pixAttempt]
  simp only [hheld, ne_eq, not_true_eq_false, if_false, Bool.false_eq_true, hmore, if_true]
  rfl

/-- The third makes it OFFLINE. -/
theorem State.pixAttempt_last (hlate : 2 ≤ (s.pipe k).attempts) {x : State}
    (hx : x = ((s.pixTried k).countHeld k).updPipe k (fun q => { q with
      state := .offline
      heldSince := (s.pixTried k).devTime })) :
    s.pixAttempt k false = ((((x.domOffline (x.pixDom k)).setFact (hPipe k) 2).edge (200 + 8 * k + 7)).pipeClock k
      3).retimeDeadlines k := by
  have hlast : ¬ (s.pipe k).attempts + 1 < 3 := by omega
  rw [State.pixAttempt]
  simp only [hheld, ne_eq, not_true_eq_false, if_false, Bool.false_eq_true, hlast]
  rw [← State.pixTried, ← hx]

end Held

/-- A retry of an OFFLINE pipe restarts it, or leaves it so. -/
theorem State.pixRetry_offline (hoff : (s.pipe k).state = .offline) (locked : Bool) :
    s.pixRetry k locked = if locked then (s.pixTried k).pixRestart k 4 true else s.pixTried k := by
  rw [State.pixRetry, if_neg (not_not.mpr hoff)]
  rfl

/-- A clock lost in the last frame before OFF stops the pipe. -/
theorem execPixUnlockAtStop_stops (hp : s.present (hPipe k) = true)
    (hstate : (s.pipe k).state = .run ∨ (s.pipe k).state = .blank) (hoff : (s.pipe k).intent = 0) :
    exec (.pixUnlockAtStop k) s = .next (((s.edge (200 + 8 * k + 6)).count 2 k 5).stopPipe k) := by
  change execPixUnlockAtStop .. = _
  rw [execPixUnlockAtStop, onUnit_present hp, if_pos (by simpa [hoff] using hstate)]

end Clock

/-! ### Region monitors (R392 to R395) -/

/-- What a monitor makes of a completed rectangle's check value. -/
def State.monCompare (t : State) (i crc : Nat) (cfg : MonCfg) : State :=
  if !t.monitoring then t.count 3 i 2
  else if cfg.learn then ((t.monFirst i).updMon i (fun y => { y with
    cfg := { y.cfg with
      learn := false
      nexp := 0
      exp := y.cfg.exp.set 0 crc } })).monEvent i 3 0 crc
  else if (cfg.exp.take (cfg.nexp + 1)).contains crc then (t.monFirst i).monMatch i crc
  else (t.monFirst i).monMismatch i crc

section Mon
variable {s : State} {i : Nat} (hp : s.present (hMon i) = true) (hon : (s.mon i).cfg.enable = true)
include hp hon

/-- A completed rectangle raises the monitor's source, and is compared. -/
theorem execRegionMonFrame_completed {crc : Nat} (hfed : (s.mon i).cfg.w * (s.mon i).cfg.h ≤ (s.mon i).fed)
    (hcrc : crc = ((s.mon i).crc ^^^ 0xFFFFFFFF#32).toNat) :
    exec (.regionMonFrame i) s = .next (((s.edge (264 + i)).updMon i (fun m => { m with
      crc := 0xFFFFFFFF
      fed := 0 })).monCompare i crc (s.mon i).cfg) := by
  subst hcrc
  change execRegionMonFrame .. = _
  rw [execRegionMonFrame, onUnit_present hp, if_neg (by simp [hon, hfed])]
  rfl

/-- A rectangle that is missing while the pipe is to run is a mismatch. -/
theorem execRegionMonMissing_running (hrun : (s.pipe (i / 16)).intent = 2) (hmon : s.monitoring = true) :
    exec (.regionMonMissing i) s = .next ((s.monMismatch i (Config.missing s.freeCtr i)).tickFree) := by
  change execRegionMonMissing .. = _
  rw [execRegionMonMissing, onUnit_present hp, if_neg (by simp [hon, hrun]), if_neg (by simp [hmon])]

end Mon

/-- Settles O43: each clause is the rule of its event above. -/
theorem clockLossAndMonitorsComplete : Obligations.ClockLossAndMonitorsComplete := by
  rintro s k _ hp rfl
  refine ⟨?lost, ?attempt, ?retry, execPixUnlockAtStop_stops hp, ?frame, fun i hpi hon => execRegionMonMissing_running hpi hon⟩
  case lost =>
    intro hstate hon a b ha hb
    change execPixHeld .. = _
    rw [execPixHeld, onUnit_present hp, State.pixLost_scanning hstate hon ha hb]
  case attempt =>
    rintro hheld _ rfl
    have hexec (locked : Bool) : exec (.pixRelockAttempt k locked) s = .next (s.pixAttempt k locked) := onUnit_present hp
    rw [hexec, hexec]
    refine ⟨?locked, fun hearly => ?early, fun hlate x hx => ?last⟩
    case locked => exact congrArg _ (State.pixAttempt_locked hheld)
    case early => exact congrArg _ (State.pixAttempt_early hheld hearly)
    case last => exact congrArg _ (State.pixAttempt_last hheld hlate hx)
  case retry =>
    rintro hoff _ rfl
    have hexec (locked : Bool) : exec (.pixOfflineRetry k locked) s = .next (s.pixRetry k locked) := onUnit_present hp
    rw [hexec, hexec, State.pixRetry_offline hoff, State.pixRetry_offline hoff]
    exact ⟨rfl, rfl⟩
  case frame =>
    rintro i _ crc t hpi rfl hon hfed hcrc rfl
    rw [execRegionMonFrame_completed hpi hon hfed hcrc, State.monCompare]
    refine ⟨fun hoff => ?off, fun hmon hlearn => ?learn, fun hmon hlearn hin => ?match_, fun hmon hlearn hout => ?mismatch⟩
    case off => rw [if_pos (by rw [hoff]; rfl)]
    case learn => rw [if_neg (by rw [hmon]; decide), if_pos hlearn]
    case match_ => rw [if_neg (by rw [hmon]; decide), if_neg (by simp [hlearn]), if_pos hin]
    case mismatch => rw [if_neg (by rw [hmon]; decide), if_neg (by simp [hlearn]), if_neg (by rw [hout]; decide)]

end Sys2Proof.Machine
end

section
/-! PROOFS. Bands: windows, composition, underruns and ends (O44). -/
namespace Sys2Proof.Machine
open Sys2Proof

section Pipe
variable {s : State} {k : Nat} (hp : s.present (hPipe k) = true)
include hp

/-- The next band of the frame that is scanned opens while fewer than two are open. -/
theorem execBandWindowOpen_next {band : Nat} (hrun : (s.pipe k).state = .run) (hopen : (s.pipe k).openNext = false)
    (hlatched : (s.pipe k).latched = false) (hband : band = (s.pipe k).nextBand) (hlt : band < (s.pipe k).bandCount)
    (hroom : (s.pipe k).bands.length < 2) :
    exec (.bandWindowOpen k band) s = .next (s.updPipe k (fun q => { q with
      bands := q.bands ++ [Band.mk band false 0 Tab.empty Tab.empty [] Tab.empty]
      nextBand := band + 1
      openNext := false })) := by
  change execBandWindowOpen .. = _
  rw [execBandWindowOpen, onUnit_present hp]
  simp only [hrun, hopen, hlatched, ← hband, hlt, decide_true, Bool.not_false, Bool.and_self, Bool.false_and,
    Bool.or_false, hroom, if_true]

/-- A band of the scanned frame that has no strip at a column, and no underrun noted on the line yet. -/
def Band.misses (line column : Nat) (b : Band) : Bool :=
  !b.next && decide (b.k = line / 64) && decide (b.strips ≤ column / 64) && decide (b.underruns.get line = none)

/-- An underrun is noted with its first column, once a line. -/
theorem execScanoutUnderrun_first {line column : Nat} (hrun : (s.pipe k).state = .run)
    (hline : line < (s.pipe k).timing.vact) (hcolumn : column < (s.pipe k).timing.hact)
    (hhit : (s.pipe k).bands.any (Band.misses line column) = true) :
    exec (.scanoutUnderrun k line column) s = .next ((s.edge (200 + 8 * k + 3)).updPipe k (fun q => { q with
      bands := q.bands.map (fun b =>
        if b.misses line column then { b with underruns := b.underruns.set line (some column) } else b) })) := by
  change execScanoutUnderrun .. = _
  rw [execScanoutUnderrun, onUnit_present hp, if_pos (by simp [hrun, hline, hcolumn]), if_pos (by exact hhit)]
  rfl

/-- A band that is composed whole ends with its lines sent. -/
theorem execBandScanoutEnd_whole {b : Band} {t : State} (hb : (s.pipe k).bands.find? (fun b => !b.next) = some b)
    (hrun : (s.pipe k).state = .run) (hwhole : b.strips = (s.pipe k).stripCount)
    (ht : t = (((List.range 64).map (· + 64 * b.k)).filter (· < (s.pipe k).timing.vact)).foldl
      (fun t y => t.sendLine k b y) s) :
    exec (.bandScanoutEnd k) s = .next ((t.updPipe k (fun q => { q with bands := q.bands.erase b })).flushFences) := by
  change execBandScanoutEnd .. = _
  rw [execBandScanoutEnd, onUnit_present hp]
  simp only [hb, hrun, ne_eq, not_true_eq_false, if_false, ← ht, hwhole, Nat.sub_self, Nat.add_zero, decide_false,
    false_and]
  rfl

end Pipe

/-- A strip that is not the last of its band leaves the band with one strip more. -/
theorem execBandCompose_strip {s t : State} {faults : FetchFaults} {pipe j : Nat} {b c : Band}
    (hnext : s.nextStrip = some (pipe, j)) (hb : (s.pipe pipe).bands[j]? = some b)
    (hc : (t, c) = s.composeStrip pipe b faults) (hmore : c.strips ≠ (t.pipe pipe).stripCount) :
    exec (.bandCompose faults) s = .next (t.updPipe pipe (fun q => { q with bands := q.bands.set j c })) := by
  change execBandCompose .. = _
  rw [execBandCompose]
  simp only [hnext, hb, ← hc, hmore, false_and, if_false]

/-- Settles O44: each clause is the rule of its event above. -/
theorem bandCommandsComplete : Obligations.BandCommandsComplete := by
  rintro s k _ hp rfl
  refine ⟨fun band => execBandWindowOpen_next hp, fun faults pipe j b t c => execBandCompose_strip, ?underrun,
    fun b t => execBandScanoutEnd_whole hp⟩
  case underrun =>
    rintro line column _ hrun hline hcolumn rfl hhit
    exact execScanoutUnderrun_first hp hrun hline hcolumn hhit

end Sys2Proof.Machine
end

section
/-! PROOFS. The packets of links and panels (O45). -/
namespace Sys2Proof.Machine
open Sys2Proof

section Link
variable {s : State} {p : Packet}

/-! ### LINK_CONFIG (R404, R405) -/

/-- A transmitter is no DSI port. -/
theorem isDsi_of_isTx {h : Nat} (htx : isTx h = true) : isDsi h = false := by
  simp only [isTx, isDsi, decide_eq_true_eq, decide_eq_false_iff_not] at *
  omega

/-- The state in which a transmitter has its settings, and trains where its sink is there. -/
def State.txConfigured (u : State) (p : Packet) : State :=
  (u.updLink p.target (fun l => { l with
    cfg := linkCfg p []
    training := (linkCfg p []).enable && (u.link p.target).hpd
    fails := 0
    up := l.up && (linkCfg p []).enable })).intend p.target ((linkCfg p []).enable && (u.link p.target).hpd) 0

section Config
variable (ht : s.takes opLinkConfig true p = true) (hok : linkCfgOk p = true)
include ht hok

/-- LINK_CONFIG of a transmitter stores its settings; a link that goes down is told. -/
theorem execLinkConfig_tx (htx : isTx p.target = true) :
    exec (.linkConfig p) s = .next ((if (s.link p.target).up && !(linkCfg p []).enable then
      ((s.markApplied p).txConfigured p).linkState p.target 2 else (s.markApplied p).txConfigured p).answer 0x5010 p .ok [])
    := by
  have hdsi := isDsi_of_isTx htx
  change execLinkConfig .. = _
  rw [execLinkConfig, packet_taken ht]
  simp only [hdsi, htx, Bool.false_and, Bool.true_and, Bool.false_eq_true, if_false]
  rw [checks_pass hok, checks_pass (by rfl), checks_pass (by rfl)]
  rfl

/-- A DSI port reads its list, and takes the settings at once. -/
theorem execLinkConfig_dsi (hdsi : isDsi p.target = true) (htx : isTx p.target = false) {init : List Byte}
    (hlist : p.u64 20 ≠ 0) (hbus : s.busMaster 0 = true)
    (hinit : init = s.hostBytes s.board.mgrPortInForce (p.u64 20) (p.u16 28)) (hwf : initListOk 257 init = true)
    (hon : (linkCfg p init).enable = true) :
    exec (.linkConfig p) s = .next ((((s.markApplied p).tickFree.updLink p.target (fun l => { l with
      cfg := linkCfg p init
      training := false
      fails := 0
      up := true })).intend p.target false 0).answer 0x5010 p .ok []) := by
  subst hinit
  change execLinkConfig .. = _
  rw [execLinkConfig, packet_taken ht]
  simp only [hdsi, htx, hlist, ne_eq, not_false_eq_true, decide_true, Bool.and_self, if_true, State.markApplied_frame,
    State.hostBytes_markApplied, State.busMaster_markApplied, hon, Bool.false_and, Bool.not_true, Bool.and_false,
    Bool.false_eq_true, if_false]
  rw [checks_pass hok, checks_pass (by simpa using hbus), checks_pass hwf]
  rfl

end Config

/-! ### ROUTE_SET (R406 to R408) -/

/-- The pipe that ROUTE_SET names for the first stream, and for the second. -/
def routeField (p : Packet) (lo : Nat) : Option Nat := if p.flag 16 (lo + 4) then some (p.fld 16 lo 4) else none

/-- The state with the routes of the two streams of TARGET. -/
def State.withRoutes (u : State) (p : Packet) : State :=
  u.updLink p.target (fun l => (l.updStream 0 (fun t => { t with route := routeField p 0 })).updStream 1
    (fun t => { t with route := routeField p 8 }))

/-- A ROUTE_SET names pipes that are there and feed at most two links, each stream its own; the second stream needs MST. -/
structure State.RoutesFormed (s : State) (p : Packet) : Prop where
  link : isLink p.target = true
  length_eq : p.length = 4
  reserved : p.fld 16 5 3 = 0
  reserved' : p.fld 16 13 19 = 0
  pipes : ∀ q, routeField p 0 = some q ∨ routeField p 8 = some q →
    s.present (hPipe q) = true ∧ s.feeds p.target (routeField p 0) (routeField p 8) q ≤ 2
  second : routeField p 8 ≠ none → isTx p.target = true ∧ (s.link p.target).cfg.mst = true
  distinct : routeField p 0 = none ∨ routeField p 0 ≠ routeField p 8

/-- A route's pipe, where one is named, is there. -/
def State.routeFitted (u : State) (r : Option Nat) : Bool := match r with
  | some q => u.present (hPipe q)
  | none => true

theorem State.routeFitted_of_present {u : State} {r : Option Nat} (h : ∀ q, r = some q → u.present (hPipe q) = true) :
    u.routeFitted r = true := by
  cases r with
  | none => rfl
  | some q => exact h q rfl

/-- ROUTE_SET sets the routes, which settle at the instants of their pipes. -/
theorem execRouteSet_passes (ht : s.takes opRouteSet true p = true) (hf : s.RoutesFormed p)
    (hfits : ((s.markApplied p).withRoutes p).linkFitsAll p.target = true)
    (hidle : (s.link p.target).routeWaiting = none) :
    exec (.routeSet p) s = .next (((((((s.markApplied p).withRoutes p).updLink p.target (fun l => { l with
      routeWaiting := some { opcode := 0x5011, p := p } })).intend p.target true 0).setDropped p.target 0
        false).setDropped p.target 1 false).settleRoutes p.target |>.interim 0x5011 p) := by
  obtain ⟨hlink, hl, hz, hz', hpipes, hsecond, hdistinct⟩ := hf
  have hidle' : ((s.markApplied p).link p.target).routeWaiting = none := hidle
  have hbusy : ((routeField p 0).toList ++ (routeField p 8).toList).any (fun q =>
      decide (2 < (s.markApplied p).feeds p.target (routeField p 0) (routeField p 8) q)) = false := by
    rw [List.any_eq_false]
    intro q hq
    rw [List.mem_append, Option.mem_toList, Option.mem_toList] at hq
    rw [decide_eq_true_eq]
    exact Nat.not_lt.mpr (hpipes q hq).2
  have hmst : ((routeField p 8).isNone || (isTx p.target && ((s.markApplied p).link p.target).cfg.mst)) = true := by
    cases hr : routeField p 8 with
    | none => rfl
    | some q =>
      obtain ⟨htx, hmst⟩ := hsecond (by simp [hr])
      have hmst' : ((s.markApplied p).link p.target).cfg.mst = true := hmst
      simp [htx, hmst']
  have hfitted : ((s.markApplied p).routeFitted (routeField p 0) && (s.markApplied p).routeFitted (routeField p 8)) = true := by
    rw [Bool.and_eq_true]
    exact ⟨State.routeFitted_of_present fun q hq => (hpipes q (.inl hq)).1,
      State.routeFitted_of_present fun q hq => (hpipes q (.inr hq)).1⟩
  have hown : ((routeField p 0).isNone || decide (routeField p 0 ≠ routeField p 8)) = true := by simpa using hdistinct
  have hfree : (!((routeField p 0).toList ++ (routeField p 8).toList).any (fun q =>
      decide (2 < (s.markApplied p).feeds p.target (routeField p 0) (routeField p 8) q))) = true := by rw [hbusy, Bool.not_false]
  change execRouteSet .. = _
  rw [execRouteSet, packet_taken ht, checks_pass (by simp [hlink, hl, hz, hz']), checks_pass (by exact hfitted),
    checks_pass (by exact hmst), checks_pass (by exact hown), checks_pass (by exact hfree), checks_pass (by exact hfits),
    checks_nil]
  simp only [hidle']
  rfl

/-! ### DSC_ASSIGN and STREAM_SET (R409, R410) -/

/-- The state in which a DSC encoder is to be released. -/
def State.dscReleasing (u : State) (p : Packet) : State :=
  (u.setLinks { u.links with dsc := u.links.dsc.upd (p.target % 256) (fun d => { d with next := some none }) }).intend
    p.target true 0

/-- DSC_ASSIGN of no stream releases an encoder, at once where no pipe uses it. -/
theorem execDscAssign_releases (ht : s.takes opDscAssign true p = true) (hclass : p.target / 256 = 0x12)
    (hl : p.length = 4) (hz : p.u8 17 = 0) (hno : p.fld 16 0 4 = 15) :
    exec (.dscAssign p) s = .next ((if (((s.markApplied p).dscReleasing p).dscPipe (p.target % 256)).isSome then
      (s.markApplied p).dscReleasing p
      else ((s.markApplied p).dscReleasing p).applyDsc (p.target % 256)).answer 0x5012 p .ok []) := by
  change execDscAssign .. = _
  rw [execDscAssign, packet_taken ht]
  simp only [hno, decide_true, Bool.true_or, if_true]
  rw [checks_pass (by simp [hclass, hl, hz]), checks_pass (by rfl), checks_pass (by rfl), checks_pass (by rfl),
    checks_pass (by rfl)]
  rfl

/-- The attributes that STREAM_SET gives a stream (R409). -/
def Stream.attrOf (t : Stream) (p : Packet) : Attr :=
  ⟨bpcOf (match t.attrNext with
    | some a => a.bpc
    | none => t.attr.bpc) (p.fld 16 1 3), p.fld 16 4 2, p.fld 16 6 2, p.u16 20, p.u16 22⟩

/-- A stream's attributes wait while its pipe runs. -/
def State.streamWaits (u : State) (t : Stream) : Bool := match t.active with
  | some q => u.pipeRuns q
  | none => false

/-- The state in which a stream of TARGET has its attributes, or will have them at the latch line. -/
def State.withAttr (u : State) (p : Packet) (wait : Bool) (a : Attr) : State :=
  u.updLink p.target (fun l => l.updStream (p.fld 16 0 1) (fun t => if wait then { t with attrNext := some a } else { t with
    attr := a
    attrNext := none }))

/-- STREAM_SET gives a transmitter's stream its attributes, at the latch line where its pipe runs. -/
theorem execStreamSet_tx (ht : s.takes opStreamSet (s.maySetStream p) p = true) {a : Attr} {wait : Bool}
    (ha : a = ((s.link p.target).stream (p.fld 16 0 1)).attrOf p)
    (hwait : wait = s.streamWaits ((s.link p.target).stream (p.fld 16 0 1))) (hlink : isLink p.target = true)
    (hl : p.length = 8) (hbpc : p.fld 16 1 3 ≤ 3) (hcol : a.colorimetry ≤ 1) (htf : a.tf ≤ 2) (hz : p.fld 16 8 24 = 0)
    (htx : isTx p.target = true) (hfits : ((s.markApplied p).withAttr p wait a).linkFitsAll p.target = true) :
    exec (.streamSet p) s = .next ((((s.markApplied p).withAttr p wait a).intend p.target wait p.inst).answer 0x5015 p .ok [])
    := by
  subst ha hwait
  change execStreamSet .. = _
  rw [execStreamSet, packet_taken ht, checks_pass (by
    simp only [Bool.and_eq_true, decide_eq_true_eq, Bool.or_eq_true]
    exact ⟨⟨⟨⟨⟨⟨hlink, hl⟩, hbpc⟩, hcol⟩, htf⟩, hz⟩, .inl htx⟩), checks_pass (by exact hfits)]
  rfl

/-! ### PANEL_POWER and BACKLIGHT_SET (R413 to R415) -/

/-- The state in which the switching of a panel has begun. -/
def State.panelSwitching (u : State) (p : Packet) (f : Panel → Panel) : State :=
  (u.updPanel p.target (fun d => { f d with
    waiting := some { opcode := 0x5013, p := p }
    start := u.devTime })).intend p.target true 0

section Panel
variable (ht : s.takes opPanelPower true p = true) (hlink : isLink p.target = true)
include ht hlink

/-- PANEL_POWER begins to switch off a panel that shows no monitored pipe. -/
theorem execPanelPowerOff_passes (hidle : (s.link p.target).panel.seqOp = none) (hl : p.length = 4) (hop : p.u32 16 = 0)
    (hmon : (s.linkPipes p.target).any s.pipeMonitored = false) :
    exec (.panelPowerOff p) s = .next (((s.markApplied p).panelSwitching p (fun d => { d with
      on := false
      seqOp := some 0
      step := 1
      blen := false })).interim 0x5013 p) := by
  have hmon' : ((s.markApplied p).linkPipes p.target).any (s.markApplied p).pipeMonitored = false := hmon
  have hidle' : ((s.markApplied p).link p.target).panel.seqOp = none := hidle
  change execPanelPowerOff .. = _
  rw [execPanelPowerOff, packet_taken ht, checks_pass (by simp [hlink, hl, hop]),
    checks_pass (by rw [hmon', Bool.not_false]), checks_pass (by rw [hidle']; rfl)]
  rfl

/-- It begins to switch one on, whose supply goes on once it has rested. -/
theorem execPanelPowerOn_passes (hidle : (s.link p.target).panel.seqOp = none) (hl : p.length = 4) (hop : p.u32 16 = 1)
    {v : State} (hv : v = (s.markApplied p).panelSwitching p (fun d => { d with on := true, seqOp := some 1, step := 0 })) :
    exec (.panelPowerOn p) s = .next ((if (s.markApplied p).panelRested p.target then v.updPanel p.target Panel.stepOn
      else v).interim 0x5013 p) := by
  subst hv
  have hidle' : ((s.markApplied p).link p.target).panel.seqOp = none := hidle
  change execPanelPowerOn .. = _
  rw [execPanelPowerOn, packet_taken ht, checks_pass (by simp [hlink, hl, hop]), checks_pass (by rw [hidle']; rfl)]
  rfl

/-- A panel's configuration has its fields in range (R413). -/
structure PanelFormed (p : Packet) : Prop where
  length_eq : p.length = 16
  op : p.u8 16 = 2
  reserved17 : p.fld 17 5 2 = 0
  reserved18 : p.fld 18 5 2 = 0
  reserved19 : p.fld 19 5 1 = 0
  reserved20 : p.fld 20 3 5 = 0
  reserved21 : p.u8 21 = 0
  tVdd : p.u16 22 ≤ 2000
  tBlon : p.u16 24 ≤ 2000
  tBloff : p.u16 26 ≤ 2000
  tOff : p.u16 28 ≤ 10000

/-- It stores a configuration whose pins nothing else uses. -/
theorem execPanelPowerConfigure_passes (hf : PanelFormed p) (hclash : s.panelClash p.target (panelCfg p) = false) :
    exec (.panelPowerConfigure p) s = .next ((((s.markApplied p).updPanel p.target (fun d => { d with
      cfg := some (panelCfg p) })).intend p.target false 0).answer 0x5013 p .ok []) := by
  obtain ⟨hl, hop, h17, h18, h19, h20, h21, hvdd, hon, hoff, hrest⟩ := hf
  have hclash' : (s.markApplied p).panelClash p.target (panelCfg p) = false := hclash
  change execPanelPowerConfigure .. = _
  rw [execPanelPowerConfigure, packet_taken ht,
    checks_pass (by simp [hlink, hl, hop, h17, h18, h19, h20, h21, panelCfg, hvdd, hon, hoff, hrest]),
    checks_pass (by rw [hclash', Bool.not_false])]
  rfl

end Panel

/-- BACKLIGHT_SET begins the ramp from the present duty. -/
theorem execBacklightSet_passes (ht : s.takes opBacklightSet true p = true) (hlink : isLink p.target = true)
    (hl : p.length = 8) (hramp : p.u16 18 ≤ 5000) (hfreq : p.u32 20 = 0 ∨ (100 ≤ p.u32 20 ∧ p.u32 20 ≤ 50000)) :
    exec (.backlightSet p) s = .next ((((s.markApplied p).updPanel p.target (fun d => { d with
      rampFrom := d.dutyAt s.devTime
      rampStart := s.devTime
      rampMs := p.u16 18
      duty := p.u16 16
      freq := if p.u32 20 = 0 then d.freq else p.u32 20 })).intend p.target false 0).answer 0x5014 p .ok []) := by
  change execBacklightSet .. = _
  rw [execBacklightSet, packet_taken ht, checks_pass (by simpa [hlink, hl, hramp] using hfreq)]
  rfl

end Link

/-- Settles O45: each clause is the rule of its packet above. -/
theorem linkPacketsComplete : Obligations.LinkPacketsComplete := by
  rintro p s _ _ rfl rfl
  refine ⟨?tx, fun ht hok hdsi htx init => execLinkConfig_dsi ht hok hdsi htx, ?route, ?dsc, ?stream,
    execPanelPowerOff_passes, ?on, ?configure, execBacklightSet_passes⟩
  case tx =>
    rintro ht hok htx _ _ rfl rfl
    exact execLinkConfig_tx ht hok htx
  case route =>
    rintro ht _ _ _ rfl rfl hlink hl hz hz' hpipes hsecond hdistinct rfl hfits hidle
    exact execRouteSet_passes ht ⟨hlink, hl, hz, hz', hpipes, hsecond, hdistinct⟩ hfits hidle
  case dsc =>
    rintro ht hclass hl hz hno _ rfl
    exact execDscAssign_releases ht hclass hl hz hno
  case stream =>
    rintro ht _ a _ wait _ rfl rfl ha hwait rfl hlink hl hbpc hcol htf hz htx hfits
    exact execStreamSet_tx ht ha hwait hlink hl hbpc hcol htf hz htx hfits
  case on =>
    rintro ht hlink hidle hl hop v hv
    exact execPanelPowerOn_passes ht hlink hidle hl hop hv
  case configure =>
    intro ht hlink hl hop h17 h18 h19 h20 h21 hvdd hon hoff hrest hclash
    exact execPanelPowerConfigure_passes ht hlink ⟨hl, hop, h17, h18, h19, h20, h21, hvdd, hon, hoff, hrest⟩ hclash

end Sys2Proof.Machine
end

section
/-! PROOFS. The events of the display links, and of the link between the dies (O46, O47). -/
namespace Sys2Proof.Machine
open Sys2Proof

section Link
variable {s : State} {h : Nat} (hp : s.present h = true)
include hp

/-! ### Hot-plug and training (R411, R412, R416) -/

section Tx
variable (htx : isTx h = true)
include htx

/-- HPD low takes a transmitter's link down. -/
theorem execHpdLow_tx : exec (.hpdLow h) s = .next ((s.updLink h (fun l => { l with hpd := false })).linkDown h) := by
  change execHpdLow .. = _
  rw [execHpdLow, onUnit_present hp, if_pos htx]

/-- A sink that lost lock trains again; else nothing happens. -/
theorem execHpdIrq_tx (hon : (s.link h).cfg.enable = true) :
    exec (.hpdIrq h true) s = .next (s.updLink h (fun l => { l with training := true })) := by
  change execHpdIrq .. = _
  rw [execHpdIrq, onUnit_present hp, if_pos (by simp [htx, hon])]

omit htx in
theorem execHpdIrq_locked : exec (.hpdIrq h false) s = .next s := by
  change execHpdIrq .. = _
  rw [execHpdIrq, onUnit_present hp, if_neg (by simp)]

/-- HPD's rise reads the EDID and trains; another panel than the last one trained is told. -/
theorem execHpdRise_tx {edid : List Byte} {crc : Nat} {v : State} (hcrc : crc = (crc32c edid).toNat)
    (hv : v = s.updLink h (fun x => { x with hpd := true, edidCrc := some crc, training := x.cfg.enable, fails := 0 })) :
    ((s.link h).goodCrc = none ∨ (s.link h).goodCrc = some crc → exec (.hpdRise h edid) s = .next v) ∧
    ∀ g, (s.link h).goodCrc = some g → g ≠ crc → exec (.hpdRise h edid) s = .next (v.raise 0 0x5A h
      (detail [(g, 32), (crc, 32), (leNat ((edid.drop 8).take 2), 16), (leNat ((edid.drop 10).take 2), 16)])) := by
  rw [show exec (.hpdRise h edid) s = execHpdRise h edid s from rfl, execHpdRise, onUnit_present hp, if_pos htx]
  simp only [← hcrc, ← hv]
  refine ⟨fun hsame => ?same, fun g hg hne => ?other⟩
  case same =>
    obtain hsame | hsame := hsame <;> simp only [hsame, ne_eq, not_true_eq_false, if_false]
  case other => simp only [hg, hne, ne_eq, not_false_eq_true, if_true]

/-- TRAIN_RETRY trains a failed link again while its sink is there. -/
theorem execTrainRetry_failed (hhpd : (s.link h).hpd = true) (hon : (s.link h).cfg.enable = true)
    (hfails : 3 ≤ (s.link h).fails) :
    exec (.trainRetry h) s = .next (s.updLink h (fun l => { l with training := true, fails := 3 })) := by
  change execTrainRetry .. = _
  rw [execTrainRetry, onUnit_present hp, if_pos (by simp [htx, hhpd, hon, hfails])]

section Training
variable (htraining : (s.link h).training = true) (lanes mbps : Nat)
include htraining

/-- The state in which a transmitter has trained, with what its sink reached. -/
def State.trained (s : State) (h lanes mbps : Nat) : State :=
  s.updLink h (fun x => { x with
    up := true
    training := false
    fails := 0
    lanes := min lanes x.cfg.lanes
    mbps := min mbps (rateMbps x.cfg.rate)
    goodCrc := x.edidCrc })

/-- Training that succeeds brings the link up, clears its facts, and is told. -/
theorem execLinkTrainingDone_ok {v w : State} (hv : v = s.trained h lanes mbps)
    (hw : w = if (v.entry h).fact = 1 ∨ (v.entry h).fact = 2 then v.clearFact h else v) :
    exec (.linkTrainingDone h true lanes mbps) s = .next (((if (w.link h).routeWaiting.isNone then w.settle h else
      w).linkState h (if (s.link h).up then 3 else 1)).recheckLink h) := by
  subst hw hv
  change execLinkTrainingDone .. = _
  rw [execLinkTrainingDone, onUnit_present hp, if_pos (by rw [htx, htraining]; rfl)]
  rfl

/-- The state in which one more training has failed. -/
def State.trainingFailed (s : State) (h : Nat) : State :=
  s.updLink h (fun x => { x with fails := x.fails + 1, up := false, training := decide (x.fails + 1 < 3) })

/-- Training that fails is counted; the third in a row is a fact, and told. -/
theorem execLinkTrainingDone_failed : exec (.linkTrainingDone h false lanes mbps) s = .next (
      if (s.link h).fails + 1 = 3 then ((s.trainingFailed h).setFact h 2).linkState h 4 else s.trainingFailed h) := by
  change execLinkTrainingDone .. = _
  rw [execLinkTrainingDone, onUnit_present hp, if_pos (by rw [htx, htraining]; rfl)]
  rfl

end Training
end Tx

/-! ### Panel sequences (R414) -/

/-- The steps of a panel that is switched on. -/
theorem execPanelSequenceStep_on (hop : (s.link h).panel.seqOp = some 1) :
    ((s.link h).panel.step = 0 → exec (.panelSequenceStep h) s = .next (s.updPanel h Panel.stepOn)) ∧
    ((s.link h).panel.step = 1 → exec (.panelSequenceStep h) s =
      .next (s.updPanel h (fun d => { d with inReset := false, step := 2 }))) ∧
    ((s.link h).panel.step = 2 → s.carries h 0 = true → exec (.panelSequenceStep h) s =
      .next (s.updPanel h (fun d => { d with video := true, step := 3 }))) ∧
    ((s.link h).panel.step = 3 → exec (.panelSequenceStep h) s = .next ((s.updPanel h (fun d => { d with
      blen := true, rampFrom := 0, rampStart := s.devTime, step := 4 })).panelDone h 1)) := by
  rw [show exec (.panelSequenceStep h) s = execPanelSequenceStep h s from rfl, execPanelSequenceStep, onUnit_present hp]
  refine ⟨fun hstep => ?_, fun hstep => ?_, fun hstep hvideo => ?_, fun hstep => ?_⟩
  · simp only [hop, hstep]
  · simp only [hop, hstep]
  · simp only [hop, hstep, hvideo, Bool.true_or, if_true]
  · simp only [hop, hstep]

/-- The last step of one that is switched off. -/
theorem execPanelSequenceStep_off (hop : (s.link h).panel.seqOp = some 0) (hstep : (s.link h).panel.step = 1) :
    exec (.panelSequenceStep h) s = .next ((s.updPanel h (fun d => { d with
      video := false
      vdd := false
      inReset := false
      offTime := some s.devTime
      step := 2 })).panelDone h 0) := by
  change execPanelSequenceStep .. = _
  rw [execPanelSequenceStep, onUnit_present hp]
  simp only [hop, hstep]

end Link

/-- Settles O46: each clause is the rule of its event above. -/
theorem linkEventsComplete : Obligations.LinkEventsComplete := by
  rintro s h _ hp rfl
  refine ⟨fun htx => ⟨execHpdLow_tx hp htx, execHpdIrq_tx hp htx, execHpdIrq_locked hp,
    fun edid crc v => execHpdRise_tx hp htx,
    fun htraining => ⟨fun lanes mbps v w => execLinkTrainingDone_ok hp htx htraining lanes mbps,
      ?failed⟩, execTrainRetry_failed hp htx⟩, execPanelSequenceStep_on hp, execPanelSequenceStep_off hp⟩
  case failed =>
    rintro lanes mbps _ rfl
    rw [execLinkTrainingDone_failed hp htx htraining]
    exact ⟨fun hmore => congrArg _ (if_neg hmore), fun hthird => congrArg _ (if_pos hthird)⟩

/-! ### The die-to-die link (R12 to R15) -/

section D2d
variable {s : State} (hp : s.present hD2d = true)
include hp

/-- A frame that either die receives clears its count of failing ones, or adds to it. -/
theorem execD2dFrame_eq (main valid : Bool) : exec (.d2dFrame main valid) s = .next (
      if main then s.setTouch { s.touch with
        d2dBad := if valid then 0 else s.touch.d2dBad + 1
        d2dSeen := if valid then s.devTime else s.touch.d2dSeen }
      else s.setTouch { s.touch with senseBad := if valid then 0 else s.touch.senseBad + 1 }) := by
  change execD2dFrame .. = _
  rw [execD2dFrame, onUnit_present hp]

/-- The main die's loss of the link is its own; the sense die's too. -/
theorem execD2dLinkLost_main (hup : s.touch.d2dUp = true) : exec (.d2dLinkLost true) s = .next s.mainLost := by
  change execD2dLinkLost .. = _
  rw [execD2dLinkLost, onUnit_present hp, if_pos rfl, if_pos hup]

theorem execD2dLinkLost_sense (hup : s.touch.senseUp = true) : exec (.d2dLinkLost false) s = .next s.senseLost := by
  change execD2dLinkLost .. = _
  rw [execD2dLinkLost, onUnit_present hp, if_neg (by decide), if_pos hup]

variable (hdown : s.touch.d2dUp = false)
include hdown

/-- An attempt at a link that is down counts afresh. -/
theorem execD2dLinkRetry_down : exec .d2dLinkRetry s =
    .next (s.setTouch { s.touch with d2dBad := 0, senseBad := 0 }) := by
  change execD2dLinkRetry .. = _
  rw [execD2dLinkRetry, onUnit_present hp, if_neg (by simp [hdown])]

/-- The state in which both dies have the link, and the sense die runs the image of a slot. -/
def State.senseLoaded (s : State) (i : Nat) : State :=
  (s.setTouch { s.touch with
    d2dUp := true
    senseUp := true
    d2dBad := 0
    senseBad := 0
    d2dSeen := s.devTime }).setFirmware { s.firmware with
      running := s.firmware.running.set 4 (s.firmware.slots.get (8 + i)).version }

/-- A panel whose link is back starts again where it is enabled. -/
def State.panelBack (t : State) (i : Nat) : State :=
  if ((t.clearFactIf (hTouch i) 0x0001).tp_ i).cfg.enable then
    (t.clearFactIf (hTouch i) 0x0001).updTp i (fun t => { t with state := .starting })
  else (t.clearFactIf (hTouch i) 0x0001).settle (hTouch i)

/-- The link's return loads the preferred good image, and brings back panels, haptics and the boost. -/
theorem execD2dLinkUp_down {i : Nat} (hi : i = b2n (bitOf s.firmware.prefB 4))
    (hgood : (s.firmware.slots.get (8 + i)).good = true) {b c : State}
    (hb : b = (List.range (s.senseLoaded i).board.member.touchPanels).foldl State.panelBack (s.senseLoaded i))
    (hc : c = (List.range b.board.member.haptics).foldl
      (fun t i => (t.clearFactIf (hHaptic i) 0x0004).settle (hHaptic i)) b) :
    exec .d2dLinkUp s = .next (((c.clearFactIf hBoost 0x0002).settle hBoost).boost) := by
  subst hc hb hi
  change execD2dLinkUp .. = _
  rw [execD2dLinkUp, onUnit_present hp]
  simp only [hdown, Bool.false_and, Bool.false_or, hgood, if_true, Bool.not_true, Bool.false_eq_true, if_false]
  rfl

end D2d

/-- Settles O47: each clause is the rule of its event above. -/
theorem dieLinkEventsComplete : Obligations.DieLinkEventsComplete := by
  intro s hp
  refine ⟨execD2dFrame_eq hp true true, execD2dFrame_eq hp true false, execD2dFrame_eq hp false true,
    execD2dFrame_eq hp false false, execD2dLinkLost_main hp, execD2dLinkLost_sense hp, execD2dLinkRetry_down hp, ?up⟩
  case up =>
    rintro i hi hdown hgood _ b c rfl hb hc
    exact execD2dLinkUp_down hp hdown hi hgood hb hc

end Sys2Proof.Machine
end

section
/-! PROOFS. The touch packets (O48). -/
namespace Sys2Proof.Machine
open Sys2Proof

section Touch
variable {s : State} {p : Packet}

/-! ### Panels and modes (R419 to R421, R433) -/

/-- A TOUCH_PANEL_CONFIG that fits: its fields, its pipe and its area, and channels that are there and free (R420). -/
structure State.PanelFits (s : State) (p : Packet) : Prop where
  fields : touchCfgOk p (touchCfg p) = true
  pipe : (touchCfg p).mapped = true → s.present (hPipe (touchCfg p).pipe) = true
  area : s.touchAreaOk (touchCfg p) = true
  channels : ∀ ch ∈ (touchCfg p).channels, ch < s.board.member.touchChannels
  free : ∀ j < s.board.member.touchPanels, j ≠ p.target % 256 → ∀ ch ∈ (touchCfg p).channels, ch ∉ (s.tp_ j).cfg.channels

/-- The state in which a panel whose contacts have ended has its settings. -/
def State.panelConfigured (c : State) (i : Nat) (f : TouchCfg) : State :=
  c.updTp i (fun t => { t with
    cfg := f
    state := if !f.enable then .off else if c.touch.d2dUp then .starting else .offline })

/-- The guests' regions on a panel are clipped to its new size (R445). -/
def State.clipRegions (v : State) (i : Nat) (f : TouchCfg) : State :=
  v.guests.foldl (fun t n => t.updInst n (fun x => { x with
    tregions := x.tregions.filterMap (fun r => if r.unit = i then clipTouchRegion f.width f.height r else some r) })) v

/-- TOUCH_PANEL_CONFIG that fits starts the panel afresh. -/
theorem execTouchPanelConfig_fits (ht : s.takes opTouchPanelConfig true p = true) (hf : s.PanelFits p) {c : State}
    (hc : c = if (s.tp_ (p.target % 256)).cfg.enable then (s.markApplied p).cancelContacts (p.target % 256) 2
      else s.markApplied p) :
    exec (.touchPanelConfig p) s = .next ((((c.panelConfigured (p.target % 256) (touchCfg p)).clipRegions (p.target % 256)
      (touchCfg p)).intend p.target (touchCfg p).enable 0).answer 0x6001 p .ok []) := by
  subst hc
  obtain ⟨hfields, hpipe, harea, hchannels, hfree⟩ := hf
  have hpipe' : (!(touchCfg p).mapped || (s.markApplied p).present (hPipe (touchCfg p).pipe)) = true := by
    cases hm : (touchCfg p).mapped with
    | false => rfl
    | true => exact hpipe hm
  have hfree' : ((List.range s.board.member.touchPanels).filter (fun j => decide (j ≠ p.target % 256))).any (fun j =>
      (touchCfg p).channels.any (s.tp_ j).cfg.channels.contains) = false := by
    rw [List.any_eq_false]
    intro j hj
    obtain ⟨hlt, hne⟩ := List.mem_filter.mp hj
    simpa using fun ch hch => hfree j (List.mem_range.mp hlt) (of_decide_eq_true hne) ch hch
  have hfreePanels : (!((List.range (s.markApplied p).board.member.touchPanels).filter (fun j =>
      decide (j ≠ p.target % 256))).any (fun j =>
        (touchCfg p).channels.any ((s.markApplied p).tp_ j).cfg.channels.contains)) = true := by
    rw [Bool.not_eq_true']
    exact hfree'
  change execTouchPanelConfig .. = _
  rw [execTouchPanelConfig, packet_taken ht, checks_pass hfields, checks_pass hpipe', checks_pass (by exact harea),
    checks_pass (by exact List.all_eq_true.mpr fun ch hch => decide_eq_true (hchannels ch hch)),
    checks_pass (by exact hfreePanels)]
  rfl

/-- A TOUCH_MODE has its fields in range (R433). -/
structure ModeFormed (p : Packet) : Prop where
  panel : p.target / 256 = 0x14
  length_eq : p.length = 44
  reserved16 : p.fld 16 4 4 = 0
  glove : (touchMode p).glove ≤ 2
  contacts : (touchMode p).maxContacts ≤ 10
  thr_ge : 50 ≤ (touchMode p).thr
  thr_le : (touchMode p).thr ≤ 20000
  hover_ge : 10 ≤ (touchMode p).hoverThr
  hover_le : (touchMode p).hoverThr ≤ 5000
  longS : 10 ≤ (touchMode p).longS
  reserved24 : p.u32 24 = 0

/-- TOUCH_MODE waits for the next frame. -/
theorem execTouchMode_passes (ht : s.takes opTouchMode true p = true) (hf : ModeFormed p) :
    exec (.touchMode p) s = .next ((((s.markApplied p).updTp (p.target % 256) (fun t => { t with
      modeNext := some (touchMode p) })).intend p.target true 0).answer 0x6002 p .ok []) := by
  obtain ⟨hpanel, hl, h16, hg, hmax, hthr, hthr', hhov, hhov', hlong, h24⟩ := hf
  change execTouchMode .. = _
  rw [execTouchMode, packet_taken ht,
    checks_pass (by simp [hpanel, hl, h16, hg, hmax, hthr, hthr', hhov, hhov', hlong, h24])]
  rfl

/-! ### Report areas (R442 to R444) -/

section Area
variable (ht : s.takes opTouchReportReturn (ownHandle p) p = true) (hl : p.length = 16)
  (hp : s.present (hTouch (p.fld 16 0 2)) = true)
include ht hl hp

/-- SETUP places a report area, while no buffer of the one before is held. -/
theorem execTouchReportSetup_passes (hflag : p.flag 16 2 = true) (hz : p.fld 16 3 29 = 0) (halign : p.u32 20 % 256 = 0)
    (hheld : ∀ a, s.area p.inst (p.fld 16 0 2) = some a → a.held = 0)
    (hfit : p.u32 20 + 256 * (s.inst p.inst).reportBufs (p.fld 16 0 2) ≤ 4096 * (s.inst p.inst).spadBlocks.length) :
    exec (.touchReportSetup p) s = .next (((s.markApplied p).setArea p.inst (p.fld 16 0 2)
      (some { offset := p.u32 20, held := 0, pending := none })).answer 0x6003 p .ok []) := by
  change execTouchReportSetup .. = _
  rw [execTouchReportSetup, packet_taken ht, checks_pass (by simp [hl, hflag, hz, halign]), checks_pass (by exact hp),
    checks_pass, checks_pass (by exact decide_eq_true hfit)]
  · rfl
  · have harea : (s.markApplied p).area p.inst (p.fld 16 0 2) = s.area p.inst (p.fld 16 0 2) := rfl
    rw [harea]
    cases ha : s.area p.inst (p.fld 16 0 2) with
    | none => rfl
    | some a => simp [hheld a ha]

section Return
variable {a : TArea} (hz : p.fld 16 2 30 = 0) (ha : s.area p.inst (p.fld 16 0 2) = some a)
  (hback : (maskBits 64 (p.u64 24)).all (bitOf a.held) = true)
include hz ha hback

/-- Buffers that return are free. -/
theorem execTouchReportReturn_idle (hidle : a.pending = none) :
    exec (.touchReportReturn p) s = .next (((s.markApplied p).setArea p.inst (p.fld 16 0 2)
      (some { a with held := a.held - p.u64 24 })).answer 0x6003 p .ok []) := by
  have ha' : (s.markApplied p).area p.inst (p.fld 16 0 2) = some a := ha
  change execTouchReportReturn .. = _
  rw [execTouchReportReturn, packet_taken ht]
  simp only [ha']
  rw [checks_pass (by simp [hl, hz]), checks_pass (by exact hp), checks_pass hback]
  simp only [hidle]
  rfl

/-- A report that waited is written at once (R444). -/
theorem execTouchReportReturn_pending {r : TReport} {k : Nat} (hr : a.pending = some r)
    (hk : s.freeBuf p.inst (p.fld 16 0 2) { a with held := a.held - p.u64 24 } = some k) :
    exec (.touchReportReturn p) s = .next (((s.markApplied p).writeReport p.inst (p.fld 16 0 2) k
      { a with held := a.held - p.u64 24, pending := none } r).answer 0x6003 p .ok []) := by
  have ha' : (s.markApplied p).area p.inst (p.fld 16 0 2) = some a := ha
  have hk' : (s.markApplied p).freeBuf p.inst (p.fld 16 0 2) { a with held := a.held - p.u64 24, pending := some r } = some k := by
    rw [← hr]
    exact hk
  change execTouchReportReturn .. = _
  rw [execTouchReportReturn, packet_taken ht]
  simp only [ha']
  rw [checks_pass (by simp [hl, hz]), checks_pass (by exact hp), checks_pass hback]
  simp only [hr, hk']
  rfl

end Return
end Area

/-! ### Self-test and wake zones (R438, R448) -/

/-- What a self-test finds on a panel's lines: the line, its code, and the other line of a short. -/
def State.lineFindings (s : State) (p : Packet) : List (Nat × Nat × Nat) :=
  let k := (s.tp_ (p.target % 256)).cfg.ntx + (s.tp_ (p.target % 256)).cfg.nrx
  (List.range k).map (fun ch => (ch, Config.measure s.freeCtr p.target ch % 4,
    Config.measure s.freeCtr p.target ch / 4 % max 1 k))

/-- The bytes of a self-test's answer: the panel, how many lines are bad, and two bytes a line. -/
def findingBytes (i : Nat) (found : List (Nat × Nat × Nat)) : List Byte :=
  [BitVec.ofNat 8 i, BitVec.ofNat 8 (found.filter (fun f => decide (f.2.1 ≠ 0))).length, 0, 0] ++
    found.flatMap (fun f => [BitVec.ofNat 8 f.2.1, BitVec.ofNat 8 (if f.2.1 = 2 then f.2.2 else 0)])

/-- TOUCH_SELFTEST ends the contacts, and answers what it finds. -/
theorem execTouchSelftest_passes (ht : s.takes opTouchSelftest true p = true) (hpanel : p.target / 256 = 0x14)
    (hl : p.length = 4) (hz : p.u32 16 = 0) (hup : s.touch.d2dUp = true) :
    exec (.touchSelftest p) s = .next (((((s.markApplied p).cancelContacts (p.target % 256) 3).tickFree.setFaulty
      (p.target % 256) ((s.lineFindings p).filter (fun f => decide (f.2.1 ≠ 0)))).contactsReset (p.target % 256)).answer
        0x6004 p .ok (bytesWords (findingBytes (p.target % 256) (s.lineFindings p) ++
          List.replicate (260 - (findingBytes (p.target % 256) (s.lineFindings p)).length) 0))) := by
  change execTouchSelftest .. = _
  rw [execTouchSelftest, packet_taken ht, checks_pass (by simp [hpanel, hl, hz]), checks_pass (by exact hup)]
  rfl

/-- WAKE_ZONE_SET stores the four zones. -/
theorem execWakeZoneSet_passes (ht : s.takes opWakeZoneSet true p = true) (hpanel : p.target / 256 = 0x14)
    (hl : p.length = 48) (hzones : ∀ k < 4, p.fld (16 + 12 * k) 2 6 = 0 ∧ p.fld (17 + 12 * k) 3 5 = 0 ∧
      s.zoneOk (s.tp_ (p.target % 256)).cfg (wakeZone p k) = true) :
    exec (.wakeZoneSet p) s = .next ((((s.markApplied p).updTp (p.target % 256) (fun t => { t with
      zones := (List.range 4).map (wakeZone p) })).intend p.target false 0).answer 0x6005 p .ok []) := by
  have hreserved : (List.range 4).all (fun k => decide (p.fld (16 + 12 * k) 2 6 = 0) &&
      decide (p.fld (17 + 12 * k) 3 5 = 0)) = true := by
    rw [List.all_eq_true]
    intro k hk
    obtain ⟨h1, h2, -⟩ := hzones k (List.mem_range.mp hk)
    simp [h1, h2]
  have hok : ((List.range 4).map (wakeZone p)).all ((s.markApplied p).zoneOk ((s.markApplied p).tp_ (p.target % 256)).cfg)
      = true := by
    rw [List.all_map, List.all_eq_true]
    intro k hk
    exact (hzones k (List.mem_range.mp hk)).2.2
  change execWakeZoneSet .. = _
  rw [execWakeZoneSet, packet_taken ht, checks_pass (by rw [hreserved, hok]; simp [hpanel, hl])]
  rfl

end Touch

/-- Settles O48: each clause is the rule of its packet above. -/
theorem touchPacketsComplete : Obligations.TouchPacketsComplete := by
  rintro p s _ i _ rfl rfl
  refine ⟨?config, ?mode, fun ht hl => ?area, ?selftest, ?zones⟩
  case config =>
    rintro c _ _ rfl ht rfl hfields hpipe harea hchannels hfree hc rfl
    exact execTouchPanelConfig_fits ht ⟨hfields, hpipe, harea, hchannels, hfree⟩ hc
  case mode =>
    rintro _ rfl ht rfl hpanel hl h16 hg hmax hthr hthr' hhov hhov' hlong h24
    exact execTouchMode_passes ht ⟨hpanel, hl, h16, hg, hmax, hthr, hthr', hhov, hhov', hlong, h24⟩
  case area =>
    rintro rfl hp
    refine ⟨execTouchReportSetup_passes ht hl hp, ?back⟩
    case back =>
      rintro a _ hz ha hback rfl
      exact ⟨execTouchReportReturn_idle ht hl hp hz ha hback, fun r k => execTouchReportReturn_pending ht hl hp hz ha hback⟩
  case selftest =>
    rintro rfl ht hpanel hl hz hup _ _ _ _ rfl rfl rfl rfl
    exact execTouchSelftest_passes ht hpanel hl hz hup
  case zones =>
    rintro rfl ht hpanel hl hzones
    exact execWakeZoneSet_passes ht hpanel hl hzones

end Sys2Proof.Machine
end

section
/-! PROOFS. The touch events (O49). -/
namespace Sys2Proof.Machine
open Sys2Proof

/-! ### What leaves the touch panels alone -/

/-- A loop's event is a record. -/
theorem State.touch_loopEvent (s : State) (code h i : Nat) (enter : Bool) (setter : Nat) :
    (s.loopEvent code h i enter setter).touch = s.touch := by simp [State.loopEvent]

/-- A step of a loop lies with the loops and the ledger. -/
theorem State.touch_stepLoop (s : State) (h i target : Nat) (force : Option Nat) :
    (s.stepLoop h i target force).touch = s.touch := by
  rw [State.stepLoop]
  split
  · rfl
  · split <;> simp only [] <;> split <;> simp [State.touch_loopEvent, State.putLoop]

/-- A counter that may count leaves the touch panels alone. -/
theorem State.touch_countWhen (s : State) (b : Bool) (set scope idx n : Nat) :
    (if b then s.countBy set scope idx n else s).touch = s.touch := by cases b <;> simp

/-- A report lies in its area. -/
theorem State.panels_writeReport (s : State) (n i b : Nat) (a : TArea) (r : TReport) :
    (s.writeReport n i b a r).touch.panel = s.touch.panel := by simp [State.writeReport, State.setArea]

theorem State.panels_report (s : State) (n i : Nat) (r : TReport) : (s.report n i r).touch.panel = s.touch.panel := by
  rw [State.report]
  split
  · simp
  · split
    · simp
    · simp only []
      split
      · exact State.panels_writeReport ..
      · simp [State.setArea]

/-- The records of a frame go to their owners, and leave the panels alone. -/
theorem State.panels_deliverRecs (s : State) (i flags : Nat) (rs : List (Nat × CRec)) :
    (s.deliverRecs i flags rs).touch.panel = s.touch.panel := by
  rw [State.deliverRecs]
  refine (foldl_keeps (·.touch.panel) (fun t n => ?report) _ _).trans
    ((foldl_keeps (·.touch.panel) (fun t r => ?contact) _ _).trans (foldl_keeps (·.touch.panel) (fun t r => ?lost) _ s))
  case report =>
    simp only []
    split
    · rfl
    · exact State.panels_report ..
  case contact => simp [State.mgrContact]
  case lost => simp

section Panel
variable {s : State} {i : Nat}

/-- A panel that is changed is the change of the one before. -/
theorem State.panel_updTp (hw : s.touch.panel.wf = true) (f : TPanel → TPanel) : (s.updTp i f).tp_ i = f (s.tp_ i) :=
  Tab.get_upd_same hw i f

/-- What a self-test found is noted with the panel; the rest of it stays. -/
theorem State.panel_setFaulty (hw : s.touch.panel.wf = true) (fs : List (Nat × Nat × Nat)) :
    (s.setFaulty i fs).tp_ i = { s.tp_ i with faulty := fs } := by
  have htouch : (s.setFaulty i fs).touch = (s.updTp i (fun t => { t with faulty := fs })).touch := by
    unfold State.setFaulty
    simp only []
    split
    · split <;> simp
    · simp
  have hnoted := State.panel_updTp (i := i) hw (fun t => { t with faulty := fs })
  rw [State.tp_, htouch]
  exact hnoted

/-! ### A panel starts (R431, R432, R438) -/

/-- The panel that starts: it scans, without contacts, with its next mode. -/
structure PanelStarts (s : State) (i : Nat) (temp : Int) (t u : TPanel) : Prop where
  state : u.state = .scanning
  contacts : u.contacts = []
  bursts : u.bursts = 0
  mode : u.mode = t.modeNext.getD t.mode
  modeNext : u.modeNext = none
  stored : u.stored = s.storedOk i temp
  uncalibrated : u.uncalibrated = !s.storedOk i temp
  frame : u.frame = t.frame

variable (hp : s.present (hTouch i) = true)
include hp

/-- TOUCH_PANEL_START stores the first counts of a panel that may scan, and what its self-test found. -/
theorem execTouchPanelStart_stored (temp : Int) (raw self : List Nat) (codes : List (Nat × Nat)) (hscan : s.canScan i = true)
    (hs : (s.tp_ i).state ≠ .scanning) : ∃ (f : TPanel → TPanel) (bad : List (Nat × Nat × Nat)),
      exec (.touchPanelStart i temp raw self codes) s =
        .next ((((s.tickFree.updTp i f).setFaulty i bad).contactsReset i).settle (hTouch i)) ∧
      PanelStarts s i temp (s.tp_ i) (f (s.tp_ i)) := by
  rw [show exec (.touchPanelStart i temp raw self codes) s = execTouchPanelStart i temp raw self codes s from rfl,
    execTouchPanelStart, onUnit_present hp, if_pos (by simp [hscan, hs])]
  exact ⟨_, _, rfl, rfl, rfl, rfl, rfl, rfl, rfl, rfl, rfl⟩

/-- The panel that starts, as it stands afterwards. -/
theorem execTouchPanelStart_starts (hw : s.touch.panel.wf = true) (temp : Int) (raw self : List Nat)
    (codes : List (Nat × Nat)) (hscan : s.canScan i = true) (hs : (s.tp_ i).state ≠ .scanning) :
    ∃ v : State, exec (.touchPanelStart i temp raw self codes) s = .next ((v.contactsReset i).settle (hTouch i)) ∧
      PanelStarts s i temp (s.tp_ i) (v.tp_ i) := by
  obtain ⟨f, bad, hexec, hstart⟩ := execTouchPanelStart_stored hp temp raw self codes hscan hs
  have hw' : (s.tickFree.updTp i f).touch.panel.wf = true := Tab.upd_wf hw i f
  have hpanel : (s.tickFree.updTp i f).tp_ i = f (s.tp_ i) := State.panel_updTp hw f
  refine ⟨(s.tickFree.updTp i f).setFaulty i bad, hexec, ?_⟩
  rw [State.panel_setFaulty hw', hpanel]
  obtain ⟨hstate, hcontacts, hbursts, hmode, hnext, hstored, huncal, hframe⟩ := hstart
  exact ⟨hstate, hcontacts, hbursts, hmode, hnext, hstored, huncal, hframe⟩

/-! ### Bursts and frames (R423 to R426) -/

/-- The state in which a panel has taken one burst more. -/
def State.burstTaken (s : State) (i : Nat) : State :=
  s.updTp i (fun t => { t with
    bursts := t.bursts + 1
    ownWindows := if t.bursts = 0 then s.usesOwnWindows i else t.ownWindows
    frameStart := if t.bursts = 0 then s.devTime else t.frameStart })

/-- A burst that an edge defers or spoils is counted; one in its window is taken. -/
theorem execTouchBurst_scanning (hs : (s.tp_ i).state = .scanning) (hscan : s.canScan i = true)
    (hmore : (s.tp_ i).bursts < (s.tp_ i).burstsNeeded) (edge : Nat) :
    exec (.touchBurst i edge) s = .next (
      if edge = 1 then s.count 4 i 1
      else if edge = 2 then s.count 4 i 2
      else if s.usesOwnWindows i || s.touch.window.get (s.tp_ i).cfg.pipe then s.burstTaken i
      else s) := by
  change execTouchBurst .. = _
  rw [execTouchBurst, onUnit_present hp, if_pos (by simp [hs, hscan, hmore])]
  rfl

/-- The end of a frame: the panel's new record, its counters, the channels that a contact touched, and the records of its
contacts. -/
def State.frameClosed (s : State) (i : Nat) (f : TPanel → TPanel) (wet glove : Bool) (ms : Nat) (h : Haptics)
    (flags : Nat) (recs : List (Nat × CRec)) : State :=
  let s := (s.tickFree.updTp i f).count 4 i 0
  let s := if wet then s.countBy 4 i 6 ms else s
  let s := if glove then s.countBy 4 i 7 ms else s
  ((s.setHaptics h).settle (hTouch i)).deliverRecs i flags recs

omit hp in
theorem State.panels_frameClosed (f : TPanel → TPanel) (wet glove : Bool) (ms : Nat) (h : Haptics) (flags : Nat)
    (recs : List (Nat × CRec)) :
    (s.frameClosed i f wet glove ms h flags recs).touch.panel = s.touch.panel.upd i f := by
  rw [State.frameClosed, State.panels_deliverRecs]
  simp [State.touch_countWhen, State.updTp]

/-- The panel at the end of a frame: one frame more, no burst, its next mode; it goes on with its settings. -/
structure FrameEnds (t u : TPanel) : Prop where
  frame : u.frame = (t.frame + 1) % 2 ^ 32
  bursts : u.bursts = 0
  mode : u.mode = t.modeNext.getD t.mode
  modeNext : u.modeNext = none
  state : u.state = t.state
  cfg : u.cfg = t.cfg

/-- TOUCH_FRAME after the last burst closes the frame. -/
theorem execTouchFrame_closed (raw self : List Nat) (hs : (s.tp_ i).state = .scanning) (hscan : s.canScan i = true)
    (hdone : (s.tp_ i).burstsNeeded ≤ (s.tp_ i).bursts) : ∃ drift f wet glove ms h flags recs,
      exec (.touchFrame i raw self) s =
        .next ((s.stepLoop (hTouch i) 0 drift none).frameClosed i f wet glove ms h flags recs) ∧
      FrameEnds (s.tp_ i) (f (s.tp_ i)) := by
  rw [show exec (.touchFrame i raw self) s = execTouchFrame i raw self s from rfl, execTouchFrame,
    onUnit_present hp, if_pos (by simp [hs, hscan, hdone])]
  exact ⟨_, _, _, _, _, _, _, _, rfl, rfl, rfl, rfl, rfl, rfl, rfl⟩

/-! ### Contacts, clusters and modes (R430, R431, R435, R436) -/

/-- A contact that has lasted LONG_S is told once. -/
theorem execTouchLong_lasting {id : Nat} {c : Contact}
    (hc : (s.tp_ i).contacts.find? (fun c => decide (c.last.id = id) && !c.longSent) = some c)
    (hlong : (s.tp_ i).mode.longS ≠ 0xFFFF) :
    exec (.touchLong i id) s = .next ((s.updTp i (fun t => { t with
      contacts := t.contacts.map (fun x => if x.last.id = id then { x with
        longSent := true
        last := { x.last with long := true } } else x) })).raiseAll
        (0 :: (if c.owner = 0 then [] else [c.owner])) 0x62 (hTouch i) (detail [(i, 8), (id, 8), (0, 16),
          (c.last.x / 8, 16), (c.last.y / 8, 16), ((s.tp_ i).mode.longS, 32)])) := by
  change execTouchLong .. = _
  rw [execTouchLong, onUnit_present hp]
  simp only [hc, if_neg hlong]

/-- The clusters that still stand take their raw counts, and the manager is told their centre. -/
theorem execTouchAbsorbed_standing {k : Nat} {ks : List Nat} (hstill : (s.tp_ i).absorb.filter (fun k =>
      decide ((s.tp_ i).raw.get k + (s.tp_ i).mode.thr ≤ (s.tp_ i).base.get k)) = k :: ks) :
    ∃ x y, exec (.touchAbsorbed i) s = .next ((s.updTp i (fun t => { t with
      absorb := []
      base := (k :: ks).foldl (fun b k => b.set k (t.raw.get k)) t.base })).raise 0 0x64 (hTouch i)
        (detail [(i, 16), (ks.length + 1, 16), (x, 16), (y, 16)])) := by
  rw [show exec (.touchAbsorbed i) s = execTouchAbsorbed i s from rfl, execTouchAbsorbed, onUnit_present hp]
  simp only [hstill]
  exact ⟨_, _, rfl⟩

/-- Automatic glove mode ends once no glove contact is left. -/
theorem execGloveModeExit_unused (hglove : (s.tp_ i).glove = true) (hmode : (s.tp_ i).mode.glove = 2)
    (hnone : ∀ c ∈ (s.tp_ i).contacts, c.last.typ ≠ 1) :
    exec (.gloveModeExit i) s = .next (s.updTp i (fun t => { t with glove := false, gloveRun := 0 })) := by
  change execGloveModeExit .. = _
  rw [execGloveModeExit, onUnit_present hp, if_pos (by simpa [hglove, hmode] using hnone)]

end Panel

/-- Settles O49: each clause is the rule of its event above. -/
theorem touchEventsComplete : Obligations.TouchEventsComplete := by
  rintro s i _ hp hw rfl
  refine ⟨?start, ?burst, ?frame, fun id c => execTouchLong_lasting hp, fun k ks => execTouchAbsorbed_standing hp,
    execGloveModeExit_unused hp, ?wet⟩
  case start =>
    intro temp raw self codes hscan hs
    obtain ⟨v, hexec, hstart⟩ := execTouchPanelStart_starts hp hw temp raw self codes hscan hs
    exact ⟨v, hexec, hstart.state, hstart.contacts, hstart.bursts, hstart.mode, hstart.modeNext, hstart.stored,
      hstart.uncalibrated, hstart.frame⟩
  case burst =>
    intro hs hscan hmore
    have hexec := execTouchBurst_scanning hp hs hscan hmore
    refine ⟨hexec 1, hexec 2, fun hwindow => ?_⟩
    rw [hexec 0, if_neg (by decide), if_neg (by decide), if_pos (by simpa using hwindow)]
    rfl
  case frame =>
    intro raw self hs hscan hdone
    obtain ⟨drift, f, wet, glove, ms, h, flags, recs, hexec, hends⟩ := execTouchFrame_closed hp raw self hs hscan hdone
    refine ⟨_, hexec, ?_⟩
    have htouch := s.touch_stepLoop (hTouch i) 0 drift none
    have hpanel : ((s.stepLoop (hTouch i) 0 drift none).frameClosed i f wet glove ms h flags recs).tp_ i = f (s.tp_ i) := by
      rw [State.tp_, State.panels_frameClosed, htouch]
      exact Tab.get_upd_same hw i f
    rw [hpanel]
    exact ⟨hends.frame, hends.bursts, hends.mode, hends.modeNext, hends.state.trans hs, hends.cfg⟩
  case wet =>
    change execWetExit .. = _
    rw [execWetExit, onUnit_present hp]

end Sys2Proof.Machine
end

section
/-! PROOFS. The haptic events (O51). -/
namespace Sys2Proof.Machine
open Sys2Proof

/-! ### The boost (R452) -/

section Boost
variable {s : State} (hp : s.present hBoost = true)
include hp

/-- The boost is ready once it is on. -/
theorem execBoostReady_on (hon : s.haptics.boostOn = true) :
    exec .boostReady s = .next (s.setHaptics { s.haptics with boostReady := true }) := by
  change execBoostReady .. = _
  rw [execBoostReady, onUnit_present hp, if_pos hon]

/-- It goes off when nothing needs it. -/
theorem execBoostOff_idle (hidle : s.drives = []) : exec .boostOff s = .next (s.setHaptics { s.haptics with
    boostOn := false
    boostReady := false
    vset := 0 }) := by
  change execBoostOff .. = _
  rw [execBoostOff, onUnit_present hp, if_pos (by simp [hidle])]

/-- Its fault stops every channel, and is told. -/
theorem execHvFault_eq (cause vhv cur : Nat) : exec (.hvFault cause vhv cur) s =
    .next ((((s.dropAllDrives 4).setFact hBoost 1).raise 0 0x73 hBoost
      (detail [(cause, 16), (vhv, 16), (cur, 32)])).raiseErr 0x7001 3 hBoost 0xFF 0 0) := by
  change execHvFault .. = _
  rw [execHvFault, onUnit_present hp]

/-- A retry that succeeds clears the fault. -/
theorem execHvRetry_ok (vhv cur : Nat) (hf : (s.entry hBoost).fact = 1) : exec (.hvRetry true vhv cur) s =
    .next ((((s.clearFact hBoost).settle hBoost).raise 0 0x73 hBoost (detail [(3, 16), (vhv, 16), (cur, 32)])).boost) := by
  change execHvRetry .. = _
  rw [execHvRetry, onUnit_present hp, if_pos ⟨hf, rfl⟩]

/-- One that fails leaves it. -/
theorem execHvRetry_failed (vhv cur : Nat) : exec (.hvRetry false vhv cur) s = .next s := by
  change execHvRetry .. = _
  rw [execHvRetry, onUnit_present hp, if_neg (by simp)]

end Boost

/-! ### Effects (R457 to R462, R468) -/

section Channel
variable {s : State} {i : Nat} (hp : s.present (hHaptic i) = true)
include hp

/-- The state in which a planned effect of a channel drives, counted. -/
def State.effectStarted (s : State) (i : Nat) (y : Play) : State :=
  (s.updChan i (fun x => { x with
    queued := x.queued.erase y
    play := some { y with
      running := true
      started := s.devTime
      gain64 := y.rec_.overdrive } })).count 13 i 0

/-- The planned effect that is due first starts on an idle channel; a bad first cycle ends it. -/
theorem execEffectStart_due {y : Play} {limit : Bool} {r cap motion : Nat} (hy : firstDue (s.chan i).queued = some y)
    (hready : s.haptics.boostReady = true) (hup : s.touch.d2dUp = true) (hdue : y.planned ≤ s.devTime)
    (hidle : (s.chan i).driving = false) (hclick : y.click = none) {v : Nat}
    (hv : v = actuatorVerdict (s.chan i) limit cap motion) :
    exec (.effectStart i r limit cap motion) s = .next (
      if v = 0 then (s.effectStarted i y).actuatorFact i v false ((s.chan i).freq y.rec_) cap motion
      else (((s.effectStarted i y).actuatorFact i v false ((s.chan i).freq y.rec_) cap motion).endPlay i 4 0).count 13 i 2) := by
  subst hv
  change execEffectStart .. = _
  rw [execEffectStart, onUnit_present hp]
  simp only [hy, hready, hup, hdue, hidle, hclick, true_or, decide_true, Bool.and_self, if_true, Bool.false_eq_true,
    if_false, State.effectStarted]

/-- An effect that has ended gives its tokens back, and the boost is looked at again. -/
theorem execEffectDone_playing {y : Play} (hy : (s.chan i).play = some y) : exec (.effectDone i) s =
    .next (((s.updChan i (fun c => { c with play := none, devTokens := 0 })).effectDone i y y.outcome 0).boost) := by
  change execEffectDone .. = _
  rw [execEffectDone, onUnit_present hp]
  simp only [hy, State.endPlay]

/-! ### Force (R463) -/

omit hp in
/-- A force lies between 0 and 20 N. -/
theorem clampI_toNat_le (v : Int) : (clampI 0 20000 v).toNat ≤ 20000 := by
  rw [clampI]
  split
  · simp
  · split <;> omega

/-- An idle channel measures its force, and looks at its click regions. -/
theorem execForceSample_idle {counts z f : Nat} (hidle : (s.chan i).driving = false) (hup : s.touch.d2dUp = true)
    (hz : z = if (s.chan i).contactTime + 50000000 ≤ s.devTime then counts else (s.chan i).forceZero)
    (hf : f = (clampI 0 20000 (Config.forceMn (Config.factory 3 i 1) (s.gainDelta i) ((counts : Int) - z))).toNat) :
    exec (.forceSample i counts) s = .next ([0, 1, 2, 3].foldl (fun u k => u.stepClick i k) (s.updChan i (fun c => { c with
      forceZero := z
      force := f
      forceTime := s.devTime }))) := by
  subst hf hz
  change execForceSample .. = _
  rw [execForceSample, onUnit_present hp]
  simp only [hidle, hup, Bool.not_true, Bool.or_self, Bool.false_eq_true, if_false]

end Channel

/-- Settles O51: each clause is the rule of its event above. -/
theorem hapticEventsComplete : Obligations.HapticEventsComplete := by
  intro s
  refine ⟨fun hp => ⟨execBoostReady_on hp, execBoostOff_idle hp, execHvFault_eq hp,
    fun vhv cur hf => ⟨execHvRetry_ok hp vhv cur hf, execHvRetry_failed hp vhv cur⟩⟩, ?channel⟩
  case channel =>
    rintro i _ hp rfl
    refine ⟨?start, fun y => execEffectDone_playing hp, ?force⟩
    case start =>
      rintro y r limit cap motion _ hy hready hup hdue hidle hclick rfl
      refine ⟨fun hgood => ?good, fun v hv hbad => ?bad⟩
      case good =>
        rw [execEffectStart_due hp hy hready hup hdue hidle hclick hgood.symm, if_pos rfl]
        rfl
      case bad =>
        rw [execEffectStart_due hp hy hready hup hdue hidle hclick hv, if_neg hbad]
        rfl
    case force =>
      intro counts z f hidle hup hz hf
      exact ⟨_, execForceSample_idle hp hidle hup hz hf, rfl, hf ▸ clampI_toNat_le _⟩

end Sys2Proof.Machine
end

section
/-! PROOFS. The audio packets (O52). -/
namespace Sys2Proof.Machine
open Sys2Proof

section Audio
variable {s : State} {p : Packet}

/-! ### Streams (R475, R476, R478) -/

section Stream
variable (ha : p.target = hAudio)
include ha

/-- A STREAM_OPEN has its fields in range (R475). -/
structure OpenFormed (p : Packet) : Prop where
  length_eq : p.length = 8
  channels_ge : 1 ≤ p.fld 17 0 4
  channels_le : p.fld 17 0 4 ≤ 8
  reserved17 : p.fld 17 4 4 = 0
  reserved18 : p.u16 18 = 0
  rate : (rateDomain (p.u32 20)).isSome = true

/-- STREAM_OPEN opens a closed stream of its sender. -/
theorem execStreamOpen_closed (ht : s.takes opStreamOpen true p = true) (hf : OpenFormed p)
    (hown : s.streamHolder (p.fld 16 0 5) = p.inst) (hshut : (s.astream (p.fld 16 0 5)).isOpen = false)
    (hclosing : (s.astream (p.fld 16 0 5)).closing = false) :
    exec (.streamOpen p) s = .next (((s.markApplied p).updStream (p.fld 16 0 5) (fun _ => { AStream.reset with
      isOpen := true
      capture := p.flag 16 5
      format := p.fld 16 6 2
      channels := p.fld 17 0 4
      rate := p.u32 20 })).answer 0x8001 p .ok [w32 ((rateDomain (p.u32 20)).getD 0),
        w32 (Config.latencyUs (p.u32 20) s.audio.mixDomain s.audio.mixRate)]) := by
  obtain ⟨hl, hmin, hmax, h17, h18, hrate⟩ := hf
  have hfree : (!((s.markApplied p).astream (p.fld 16 0 5)).isOpen && !((s.markApplied p).astream (p.fld 16 0 5)).closing) =
      true := by
    rw [Bool.and_eq_true, Bool.not_eq_true', Bool.not_eq_true']
    exact ⟨hshut, hclosing⟩
  change execStreamOpen .. = _
  rw [execStreamOpen, packet_taken ht, checks_pass (by simp [ha, hl, hmin, hmax, h17, h18, hrate]),
    checks_pass (by exact decide_eq_true hown), checks_pass hfree]
  rfl

/-- A STREAM_BUFFERS has its fields in range, with buffers in whole frames (R476). -/
structure State.BuffersFormed (s : State) (p : Packet) : Prop where
  length_eq : p.length = 12 + 16 * p.u8 17
  count_ge : 1 ≤ p.u8 17
  count_le : p.u8 17 ≤ 32
  reserved16 : p.fld 16 5 3 = 0
  reserved18 : p.fld 18 1 15 = 0
  whole : ∀ e ∈ (List.range (p.u8 17)).map (bufEntry p),
    e.addr % 4 = 0 ∧ e.bytes ≠ 0 ∧ e.bytes % (s.astream (p.fld 16 0 5)).frameBytes = 0
  reservedEntry : ∀ j < p.u8 17, p.u32 (40 + 16 * j) = 0
  bus : s.busMaster p.inst = true

/-- A stream with the buffers of a packet more; the first of them start it, now or at their time. -/
def AStream.withBuffers (t : AStream) (p : Packet) (now : Nat) : AStream :=
  { t with
    bufs := t.bufs ++ (List.range (p.u8 17)).map (bufEntry p)
    started := t.started || ((t.bufs.isEmpty && !t.started) && (!p.flag 18 0 || decide (p.u64 20 ≤ now)))
    startAt := if (t.bufs.isEmpty && !t.started) && p.flag 18 0 && decide (now < p.u64 20) then some (p.u64 20) else t.startAt }

/-- STREAM_BUFFERS fills an open stream of its sender within the tokens. -/
theorem execStreamBuffers_open (ht : s.takes opStreamBuffers true p = true) (hf : s.BuffersFormed p)
    (hown : s.streamHolder (p.fld 16 0 5) = p.inst) (hopen : (s.astream (p.fld 16 0 5)).isOpen = true)
    (htokens : s.tokensHeld p.inst + p.u8 17 ≤ (s.inst p.inst).tokens)
    (hroom : (s.astream (p.fld 16 0 5)).bufs.length + p.u8 17 ≤ 64) :
    exec (.streamBuffers p) s = .next (((s.markApplied p).updStream (p.fld 16 0 5)
      (fun t => t.withBuffers p s.devTime)).answer 0x8002 p .ok []) := by
  obtain ⟨hl, hmin, hmax, h16, h18, hwhole, hentry, hbus⟩ := hf
  have hall : ((List.range (p.u8 17)).map (bufEntry p)).all (fun e => decide (e.addr % 4 = 0) && decide (e.bytes ≠ 0) &&
      decide (e.bytes % ((s.markApplied p).astream (p.fld 16 0 5)).frameBytes = 0)) = true := by
    rw [List.all_eq_true]
    intro e he
    obtain ⟨h1, h2, h3⟩ := hwhole e he
    have h3' : e.bytes % ((s.markApplied p).astream (p.fld 16 0 5)).frameBytes = 0 := h3
    simp [h1, h2, h3']
  have hzero : (List.range (p.u8 17)).all (fun j => decide (p.u32 (40 + 16 * j) = 0)) = true := by
    simpa using hentry
  have hbus' : (s.markApplied p).busMaster p.inst = true := hbus
  change execStreamBuffers .. = _
  rw [execStreamBuffers, packet_taken ht,
    checks_pass (by rw [hall, hzero, hbus']; simp [ha, hl, hmin, hmax, h16, h18]),
    checks_pass (by exact decide_eq_true hown), checks_pass (by exact hopen), checks_pass (by exact decide_eq_true htokens),
    checks_pass (by exact decide_eq_true hroom)]
  rfl

omit ha in
/-- Buffers without a time start a stream at once. -/
theorem AStream.withBuffers_now {t : AStream} (now : Nat) (h : p.flag 18 0 = false) : t.withBuffers p now = { t with
    bufs := t.bufs ++ (List.range (p.u8 17)).map (bufEntry p)
    started := t.started || (t.bufs.isEmpty && !t.started) } := by
  simp [AStream.withBuffers, h]

omit ha in
/-- Those with a time to come start it then. -/
theorem AStream.withBuffers_later {t : AStream} {now : Nat} (h : p.flag 18 0 = true) (hlater : now < p.u64 20) :
    t.withBuffers p now = { t with
      bufs := t.bufs ++ (List.range (p.u8 17)).map (bufEntry p)
      startAt := if t.bufs.isEmpty && !t.started then some (p.u64 20) else t.startAt } := by
  simp [AStream.withBuffers, h, hlater, Nat.not_le.mpr hlater]

/-- STREAM_CLOSE closes an open stream of its sender. -/
theorem execStreamClose_open (ht : s.takes opStreamClose true p = true) (hl : p.length = 4) (hz : p.fld 16 5 27 = 0)
    (hown : s.streamHolder (p.fld 16 0 5) = p.inst) (hopen : (s.astream (p.fld 16 0 5)).isOpen = true) :
    exec (.streamClose p) s = .next (((s.markApplied p).closeStream (p.fld 16 0 5) true).answer 0x8003 p .ok []) := by
  change execStreamClose .. = _
  rw [execStreamClose, packet_taken ht, checks_pass (by simp [ha, hl, hz]), checks_pass (by exact decide_eq_true hown),
    checks_pass (by exact hopen)]
  rfl

/-! ### Gains (R483 to R485) -/

/-- A GAIN_SET of a crosspoint by the manager has its fields in range. -/
structure CrossFormed (p : Packet) : Prop where
  length_eq : p.length = 8
  reserved16 : p.fld 16 3 5 = 0
  reserved19 : p.u8 19 = 0
  kind : p.fld 16 0 2 = 2
  input : p.u8 17 < 48
  output : p.u8 18 < 24
  gain : p.i16 20 = muted ∨ (-9600 ≤ p.i16 20 ∧ p.i16 20 ≤ 2400)
  manager : p.inst = 0

section Gain
variable (ht : s.takes opGainSet true p = true) (hf : CrossFormed p)
include ht hf

/-- GAIN_SET of a crosspoint ramps to its gain. -/
theorem execGainSet_ramp (hzc : p.flag 16 2 = false) (hms : p.u16 22 ≤ 2000) :
    exec (.gainSet p) s = .next (((s.markApplied p).rampTo 2 (p.u8 17) (p.u8 18) (p.i16 20)
      (if p.u16 22 = 0 then 20 else p.u16 22)).answer 0x8004 p .ok []) := by
  obtain ⟨hl, h16, h19, hkind, hin, hout, hgain, hmgr⟩ := hf
  have hmay : (s.markApplied p).mayGain p = true := by simp [State.mayGain, hkind, hmgr]
  change execGainSet .. = _
  rw [execGainSet, packet_taken ht]
  simp only [hkind, hzc]
  rw [checks_pass (by simpa [ha, hl, h16, h19, hin, hout, hms] using hgain), checks_pass (by rfl), checks_pass hmay]
  rfl

/-- Or waits for a zero crossing, on a member that looks for them. -/
theorem execGainSet_crossing (hzc : p.flag 16 2 = true) (hfit : s.board.member.zcGain = true) (hms : p.u16 22 ≤ 50) :
    exec (.gainSet p) s = .next (((s.markApplied p).waitZc 2 (p.u8 17) (p.u8 18) (p.i16 20)
      (if p.u16 22 = 0 then 10 else p.u16 22)).answer 0x8004 p .ok []) := by
  obtain ⟨hl, h16, h19, hkind, hin, hout, hgain, hmgr⟩ := hf
  have hmay : (s.markApplied p).mayGain p = true := by simp [State.mayGain, hkind, hmgr]
  change execGainSet .. = _
  rw [execGainSet, packet_taken ht]
  simp only [hkind, hzc]
  rw [checks_pass (by simpa [ha, hl, h16, h19, hin, hout, hms] using hgain), checks_pass (by exact hfit), checks_pass hmay]
  rfl

end Gain

/-! ### Routes, ports and microphones (R471, R480, R482) -/

section Route
variable (ht : s.takes opMixRoute true p = true) (hl : p.length = 4)
include ht hl

/-- MIX_ROUTE of an input that no alarm source marks. -/
theorem execMixRouteInput_unmarked (hop : p.u8 16 = 0) (hz : p.fld 17 6 2 = 0) (hi : p.fld 17 0 6 < 48)
    (hsource : sourceOk (p.u16 18) = true) (hmark : s.audio.marks.get (p.fld 17 0 6) = none) :
    exec (.mixRouteInput p) s = .next (((((s.markApplied p).setAudio { s.audio with
      source := s.audio.source.set (p.fld 17 0 6) (p.u16 18) }).intend hAudio false 0).armEdge).answer 0x8010 p .ok []) := by
  have hmark' : (s.markApplied p).audio.marks.get (p.fld 17 0 6) = none := hmark
  change execMixRouteInput .. = _
  rw [execMixRouteInput, packet_taken ht, checks_pass (by simp [ha, hl, hop, hz, hi, hsource]),
    checks_pass (by rw [hmark']; rfl)]
  rfl

/-- MIX_ROUTE of a destination, where no output is masked. -/
theorem execMixRouteDest_unmasked (hop : p.u8 16 = 1) (hout : p.u8 17 < 24 ∨ p.u8 17 = 0xFF)
    (hdest : destOk (p.u16 18) = true) (hmask : ∀ j < 24, s.audio.masked j = false)
    (hlow : s.audio.lowlatOn (p.u16 18) = false) :
    exec (.mixRouteDest p) s = .next (((((s.markApplied p).setAudio { s.audio with
      dest := s.audio.dest.set (p.u16 18) (if p.u8 17 = 0xFF then 0 else p.u8 17 + 1) }).intend hAudio false
        0).armEdge).answer 0x8010 p .ok []) := by
  have hform : (decide (p.u8 17 < 24) || decide (p.u8 17 = 0xFF)) = true := by simpa using hout
  have hlow' : (s.markApplied p).audio.lowlatOn (p.u16 18) = false := hlow
  change execMixRouteDest .. = _
  rw [execMixRouteDest, packet_taken ht, checks_pass (by rw [hform, hdest]; simp [ha, hl, hop]),
    checks_pass (by
      rw [List.all_eq_true]
      intro j hj
      have hj' : (s.markApplied p).audio.masked j = false := hmask j (List.mem_range.mp hj)
      rw [hj']
      rfl),
    checks_pass (by rw [hlow', Bool.and_false, Bool.not_false])]
  rfl

end Route

/-- A TDM_CONFIG that leaves the low-latency paths and AUDX whole is a new intention. -/
theorem tdmConfig_passes {op : Nat} {ok : Bool} {f : Audio → Audio} (ht : s.takes opTdmConfig true p = true)
    (hl : p.length = 12) (hop : p.u8 16 = op) (hok : ok = true) {a : Audio} (hset : a = f s.audio)
    (hlow : a.lowlatOk = true) (haudx : a.audxOk = true) :
    tdmConfig op ok f p s = .next (((((s.markApplied p).setAudio a).intend hAudio false 0).armEdge).answer 0x8011 p .ok [])
    := by
  subst hset
  have hlow' : (f (s.markApplied p).audio).lowlatOk = true := hlow
  have haudx' : (f (s.markApplied p).audio).audxOk = true := haudx
  rw [tdmConfig, packet_taken ht, checks_pass (by simp [ha, hl, hop, hok]),
    checks_pass (by rw [hlow', haudx', Bool.true_or, Bool.and_self])]
  rfl

/-! ### Alarm sources and low-latency paths (R489, R492, R494) -/

/-- Another instance marks an input as an alarm source. -/
def State.markedByOther (s : State) (i n : Nat) : Bool := match s.audio.marks.get i with
  | some m => decide (m.inst ≠ n)
  | none => false

omit ha in
theorem State.markedByOther_eq_false {i n : Nat} (h : ∀ m, s.audio.marks.get i = some m → m.inst = n) :
    s.markedByOther i n = false := by
  rw [State.markedByOther]
  cases hm : s.audio.marks.get i with
  | none => rfl
  | some m => simp [h m hm]

/-- ALARM_SOURCE_SET marks an input that a tone feeds, with outputs that go to a port. -/
theorem execAlarmSourceSet_marks (ht : s.takes opAlarmSourceSet true p = true) (hl : p.length = 8)
    (hi : p.fld 16 0 6 < 48) (h16 : p.fld 16 7 25 = 0) (h20 : p.fld 20 24 8 = 0)
    (htone : s.audio.source.get (p.fld 16 0 6) / 4096 = 4)
    (hmine : ∀ m, s.audio.marks.get (p.fld 16 0 6) = some m → m.inst = p.inst) (hon : p.flag 16 6 = true)
    (hports : ∀ j ∈ maskBits 24 (p.fld 20 0 24), s.audio.tdmDests j ≠ []) :
    exec (.alarmSourceSet p) s = .next (((((s.markApplied p).setAudio { s.audio with
      marks := s.audio.marks.set (p.fld 16 0 6) (some (Mark_.mk p.inst (p.fld 20 0 24))) }).intend hAudio false
        p.inst).armEdge).answer 0x8013 p .ok []) := by
  have hfree : (!(s.markApplied p).markedByOther (p.fld 16 0 6) p.inst) = true := by
    rw [State.markedByOther_eq_false (s := s.markApplied p) hmine]
    rfl
  have hfeeds : (maskBits 24 (p.fld 20 0 24)).all (fun j => !(s.audio.tdmDests j).isEmpty) = true := by
    rw [List.all_eq_true]
    intro j hj
    simpa using hports j hj
  change execAlarmSourceSet .. = _
  rw [execAlarmSourceSet, packet_taken ht]
  simp only [State.markApplied_frame, htone, hon]
  rw [checks_pass (by simp [ha, hl, hi, h16, h20]), checks_pass (by rfl), checks_pass (by exact hfree),
    checks_pass (by rw [hfeeds]; rfl)]
  rfl

/-- A LOWLAT_SET has its fields in range (R494). -/
structure LowlatFormed (p : Packet) : Prop where
  length_eq : p.length = 8
  reserved16 : p.fld 16 3 5 = 0
  reserved17 : p.fld 17 3 5 = 0
  reserved22 : p.u16 22 = 0
  dest : isTdmDest (p.u16 18) = true
  gain : p.i16 20 = muted ∨ (-9600 ≤ p.i16 20 ∧ p.i16 20 ≤ 2400)

section Lowlat
variable (ht : s.takes opLowlatSet true p = true) (hf : LowlatFormed p)
include ht hf

/-- LOWLAT_SET takes a path away. -/
theorem execLowlatSet_off (hoff : p.flag 16 2 = false) :
    exec (.lowlatSet p) s = .next ((((s.markApplied p).setAudio { s.audio with
      lowlat := s.audio.lowlat.set (p.fld 16 0 2) none }).intend hAudio false 0).answer 0x8012 p .ok []) := by
  obtain ⟨hl, h16, h17, h22, hdest, hgain⟩ := hf
  change execLowlatSet .. = _
  rw [execLowlatSet, packet_taken ht]
  simp only [hoff]
  rw [checks_pass (by simpa [ha, hl, h16, h17, h22, hdest] using hgain), checks_pass (by rfl)]
  rfl

/-- Another path than `k` of the four goes to a destination. -/
def Audio.lowlatTaken (a : Audio) (k d : Nat) : Bool :=
  ((List.range 4).filter (fun j => decide (j ≠ k))).any (fun j => match a.lowlat.get j with
    | some x => decide (x.dest = d)
    | none => false)

omit ha ht hf in
theorem Audio.lowlatTaken_eq_false {a : Audio} {k : Nat} (h : ∀ j < 4, j ≠ k → a.lowlat.get j = none) (d : Nat) :
    a.lowlatTaken k d = false := by
  rw [Audio.lowlatTaken, List.any_eq_false]
  intro j hj
  obtain ⟨hlt, hne⟩ := List.mem_filter.mp hj
  simp [h j (List.mem_range.mp hlt) (of_decide_eq_true hne)]

/-- LOWLAT_SET sets the only path, from a microphone to a port that takes it. -/
theorem execLowlatSet_on (hon : p.flag 16 2 = true) (hmic : bitOf s.audio.mics (p.fld 17 0 3) = true)
    (hport : s.audio.lowlatPort (s.audio.tdm.get (bitsOf (p.u16 18) 4 2)) (p.u16 18 % 16) = true)
    (honly : ∀ j < 4, j ≠ p.fld 16 0 2 → s.audio.lowlat.get j = none) :
    exec (.lowlatSet p) s = .next ((((s.markApplied p).setAudio { s.audio with
      lowlat := s.audio.lowlat.set (p.fld 16 0 2) (some (LowLat.mk (p.fld 17 0 3) (p.u16 18) (p.i16 20))) }).intend hAudio
        false 0).answer 0x8012 p .ok []) := by
  obtain ⟨hl, h16, h17, h22, hdest, hgain⟩ := hf
  have hfree : (!true || !s.audio.lowlatTaken (p.fld 16 0 2) (p.u16 18)) = true := by
    rw [Audio.lowlatTaken_eq_false honly]
    rfl
  change execLowlatSet .. = _
  rw [execLowlatSet, packet_taken ht]
  simp only [hon, State.markApplied_frame]
  rw [checks_pass (by simpa [ha, hl, h16, h17, h22, hdest, hmic, hport] using hgain), checks_pass (by exact hfree)]
  rfl

end Lowlat
end Stream

/-! ### Voices (R486, R488) -/

section Tone
variable (ha : p.target = hTone) (ht : s.takes opTonePlay true p = true) (hl : p.length = 8) (h17 : p.fld 17 4 4 = 0)
  (h22 : p.u16 22 = 0) (hsec : s.sec.available = true)
include ha ht hl h17 h22 hsec

/-- TONE_PLAY starts a voice with a pattern that is loaded. -/
theorem execTonePlay_loaded (h16 : p.fld 16 1 7 = 0) (hmin : -6000 ≤ p.i16 18) (hmax : p.i16 18 ≤ 0)
    (hpat : s.patternLoaded (p.fld 17 0 4) = true) :
    exec (.tonePlay p) s = .next (((((s.markApplied p).setAudio { s.audio with
      voices := s.audio.voices.set (p.fld 16 0 1) (some (Voice.mk p.inst (p.fld 17 0 4) (p.i16 18) (p.u16 20))) }).intend
        hTone false p.inst).armEdge).answer 0x8014 p .ok []) := by
  have hpat' : (s.markApplied p).patternLoaded (p.fld 17 0 4) = true := hpat
  change execTonePlay .. = _
  rw [execTonePlay, packet_taken ht, checks_pass (by rw [hpat']; simp [ha, hl, h17, h22, h16, hmin, hmax]), checks_nil,
    if_pos (by exact hsec)]
  rfl

/-- STOP ends it. -/
theorem execToneStop_passes (hstop : p.flag 16 1 = true) (h16 : p.fld 16 2 6 = 0) :
    exec (.toneStop p) s = .next (((((s.markApplied p).setAudio { s.audio with
      voices := s.audio.voices.set (p.fld 16 0 1) none }).intend hTone false p.inst).armEdge).answer 0x8014 p .ok []) := by
  change execToneStop .. = _
  rw [execToneStop, packet_taken ht, checks_pass (by simp [ha, hl, h17, h22, hstop, h16]), checks_pass (by exact hsec)]
  rfl

end Tone
end Audio

/-- Settles O52: each clause is the rule of its packet above. -/
theorem audioPacketsComplete : Obligations.AudioPacketsComplete := by
  rintro p s _ k _ rfl rfl
  refine ⟨?streams, ?gain, ?route, ?tdm, ?alarm, ?lowlat, fun ha ht hl h17 h22 hsec =>
    ⟨execTonePlay_loaded ha ht hl h17 h22 hsec, execToneStop_passes ha ht hl h17 h22 hsec⟩⟩
  case streams =>
    rintro ha rfl
    refine ⟨?opened, ?buffers, execStreamClose_open ha⟩
    case opened =>
      intro ht hl hmin hmax h17 h18 hrate hown hshut hclosing
      exact execStreamOpen_closed ha ht ⟨hl, hmin, hmax, h17, h18, hrate⟩ hown hshut hclosing
    case buffers =>
      rintro ht _ _ rfl rfl hl hmin hmax h16 h18 hwhole hentry hbus hown hopen htokens hroom
      have hexec := execStreamBuffers_open ha ht ⟨hl, hmin, hmax, h16, h18, hwhole, hentry, hbus⟩ hown hopen htokens hroom
      refine ⟨fun hnow => ?now, fun hat hlater => ?later⟩
      case now =>
        simp only [AStream.withBuffers_now s.devTime hnow] at hexec
        exact hexec
      case later =>
        simp only [AStream.withBuffers_later hat hlater] at hexec
        exact hexec
  case gain =>
    intro ha ht hl h16 h19 hkind hin hout hgain hmgr
    have hf : CrossFormed p := ⟨hl, h16, h19, hkind, hin, hout, hgain, hmgr⟩
    exact ⟨execGainSet_ramp ha ht hf, execGainSet_crossing ha ht hf⟩
  case route =>
    exact fun ha ht hl => ⟨execMixRouteInput_unmarked ha ht hl, execMixRouteDest_unmasked ha ht hl⟩
  case tdm =>
    intro ha ht hl a hlow haudx
    refine ⟨fun hop h17 h18 h19 hport hset => ?port, fun hop hdom h17 h18 hmin hmax h24 hset => ?mixer,
      fun hop h17 h20 hset => ?pdm⟩
    case port =>
      change execTdmConfigPort .. = _
      rw [execTdmConfigPort]
      exact tdmConfig_passes ha ht hl hop (by simp [h17, h18, h19, hport]) hset hlow haudx
    case mixer =>
      change execTdmConfigMixer .. = _
      rw [execTdmConfigMixer]
      exact tdmConfig_passes ha ht hl hop (by simp [hdom, h17, h18, hmin, hmax, h24]) hset hlow haudx
    case pdm =>
      change execTdmConfigPdm .. = _
      rw [execTdmConfigPdm]
      exact tdmConfig_passes ha ht hl hop (by simp [h17, h20]) hset hlow haudx
  case alarm =>
    exact fun ha ht hl => execAlarmSourceSet_marks ha ht hl
  case lowlat =>
    intro ha ht hl h16 h17 h22 hdest hgain
    have hf : LowlatFormed p := ⟨hl, h16, h17, h22, hdest, hgain⟩
    exact ⟨execLowlatSet_off ha ht hf, execLowlatSet_on ha ht hf⟩

end Sys2Proof.Machine
end

section
/-! PROOFS. The audio events (O53). -/
namespace Sys2Proof.Machine
open Sys2Proof

section Audio
variable {s : State} (hp : s.present hAudio = true)
include hp

/-! ### Streams (R476, R477) -/

/-- The first buffer of a started stream that plays is done. -/
theorem execBufferDone_played {k fr : Nat} {b : ABuf} {bs : List ABuf} (hb : (s.astream k).bufs = b :: bs)
    (hs : (s.astream k).started = true) (hrun : (s.astream k).paused = false) (hplay : (s.astream k).capture = false)
    (hfr : fr = b.bytes / max 1 (s.astream k).frameBytes) :
    exec (.bufferDone k) s = .next (((s.updStream k (fun t => { t with
      bufs := bs
      moved := t.moved + fr
      dry := bs.isEmpty })).countBy 5 k 0 fr).bufferEvent k b false bs.length fr) := by
  subst hfr
  change execBufferDone .. = _
  rw [execBufferDone, onUnit_present hp]
  simp only [hb, hs, hrun, hplay, Bool.not_false, Bool.and_self, if_true, Bool.false_eq_true, if_false]

/-- A shortfall is told once buffers are there again. -/
theorem execStreamXrun_ended {k : Nat} (fr : Nat) (hs : (s.astream k).started = true) (hdry : (s.astream k).dry = true)
    (hb : (s.astream k).bufs ≠ []) {t : State} (ht : t = (s.updStream k (fun t => { t with
      dry := false
      shortfalls := t.shortfalls + 1 })).count 5 k 1) :
    exec (.streamXrun k fr) s = .next (t.raise (t.streamHolder k) 0x81 hAudio (detail [(k, 5),
      (b2n (s.astream k).capture, 27), (fr, 32), ((s.astream k).shortfalls + 1, 32)])) := by
  subst ht
  change execStreamXrun .. = _
  rw [execStreamXrun, onUnit_present hp, if_pos (by simp [hs, hdry, hb])]

/-- A start time that has come starts its stream. -/
theorem execStreamStart_due {k : Nat} (ht : (s.astream k).startAt ≠ none) :
    exec (.streamStart k) s = .next (s.updStream k (fun t => { t with started := true, startAt := none })) := by
  change execStreamStart .. = _
  rw [execStreamStart, onUnit_present hp, if_pos (by simpa [Option.isSome_iff_ne_none] using ht)]

/-! ### AUDX (R472, R496) -/

/-- AUDX that is lost is a fact, and told; a mixer in another domain goes on. -/
theorem execAudxLost_other (r : Nat) (hup : s.audio.audxLost = false) (hmix : s.audio.mixDomain ≠ 2) :
    exec (.audxLost r) s = .next (((s.setAudio { s.audio with audxLost := true }).setFact hAudio 1).audioClock 1 r) := by
  have haudio : ((((s.setAudio { s.audio with audxLost := true }).setFact hAudio 1).audioClock 1 r)).audio =
      { s.audio with audxLost := true } := by
    rw [State.audioClock]
    generalize detail _ = det
    simp
  change execAudxLost .. = _
  rw [execAudxLost, onUnit_present hp, if_neg (by simp [hup])]
  simp only [haudio, if_neg hmix]

/-- AUDX that is back clears the fact. -/
theorem execAudxRestored_other (r : Nat) (hlost : s.audio.audxLost = true) (hmix : s.audio.onAuda = false) :
    exec (.audxRestored r) s = .next ((((s.setAudio { s.audio with
      audxLost := false
      onAuda := false }).audioClock 2 r).clearFact hAudio).settle hAudio) := by
  change execAudxRestored .. = _
  rw [execAudxRestored, onUnit_present hp, if_pos hlost]
  simp only [hmix, Bool.false_eq_true, if_false]

/-! ### Gains, clipping and the limiters (R484, R485, R487, R488) -/

/-- A waiting gain is taken at once at a crossing, or as a ramp of 1 ms. -/
theorem execZeroCrossing_waiting {kind a b : Nat} {g : Int}
    (hg : (s.audio.gain.get (gainKey kind a b)).zcTarget = some g) :
    exec (.zeroCrossing kind a b) s = .next (s.rampTo kind a b g 0) := by
  change execZeroCrossing .. = _
  rw [execZeroCrossing, onUnit_present hp]
  simp only [hg]

theorem execZcTimeout_waiting {kind a b : Nat} {g : Int}
    (hg : (s.audio.gain.get (gainKey kind a b)).zcTarget = some g) :
    exec (.zcTimeout kind a b) s = .next (s.rampTo kind a b g 1) := by
  change execZcTimeout .. = _
  rw [execZcTimeout, onUnit_present hp]
  simp only [hg]

/-- An output without a clipped sample is not told. -/
theorem execAudioClip_none {o : Nat} {xs : List Int} (ho : o < 24)
    (hnone : s.audio.clipped.get o + (xs.filter clips).length = 0) :
    exec (.audioClip o xs) s = .next ((s.countBy 6 o 0 0).setAudio { (s.countBy 6 o 0 0).audio with
      clipped := (s.countBy 6 o 0 0).audio.clipped.set o 0 }) := by
  have hzero : (xs.filter clips).length = 0 := by omega
  have hclipped : s.audio.clipped.get o = 0 := by omega
  change execAudioClip .. = _
  rw [execAudioClip, onUnit_present hp, if_pos ho]
  simp only [hzero, hclipped, Nat.add_zero, Nat.lt_irrefl, decide_false, Bool.and_false, Bool.false_eq_true, if_false]

/-- The reduction that a limiter heads for: what holds the ceiling, released at 20 dB per RELEASE_MS (R488). -/
def State.limiterTarget (s : State) (o us need : Nat) : Nat :=
  min 600 (max need (s.loopOut hAudio o - 200 * us / (1000 * max 1 (s.audio.releaseMs.get o))))

/-- A limiter's loop moves, and its time and its largest reduction are counted. -/
theorem execLimiterStep_output {o us need : Nat} {peak : Int} {l : Loop} {t : State} (ho : o < 24)
    (hneed : need = (peak + s.audio.ceiling.get o).toNat) (hl : s.loop hAudio o = some l)
    (ht : t = s.stepLoop hAudio o (s.limiterTarget o us need)
      (if l.wanted (s.limiterTarget o us need) < peak.toNat then some (min 600 peak.toNat) else none)) :
    exec (.limiterStep o peak us) s = .next ((if 0 < t.loopOut hAudio o then t.countBy 6 o 1 us else t).countMax 6 o 2
      (t.loopOut hAudio o)) := by
  subst ht hneed
  change execLimiterStep .. = _
  rw [execLimiterStep, onUnit_present hp, if_pos ho]
  simp only [hl]
  rfl

/-- Without alarm paths the floor is nothing (R491). -/
theorem execAlarmFloorStep_idle {l : Loop} (hl : s.loop hAudio 24 = some l) (hnone : s.audio.paths = []) :
    exec .alarmFloorStep s = .next (s.stepLoop hAudio 24 0 none) := by
  change execAlarmFloorStep .. = _
  rw [execAlarmFloorStep, onUnit_present hp]
  simp only [hl, hnone]
  rfl

end Audio

/-- A voice that has played its cycles ends (R492). -/
theorem execToneEnd_cycles {s : State} {v : Nat} {x : Voice} (hv : s.audio.voices.get v = some x) (hx : x.repeat_ ≠ 0) :
    exec (.toneEnd v) s = .next (s.setAudio { s.audio with voices := s.audio.voices.set v none }).armEdge := by
  have hv' : s.voice v = some x := hv
  change execToneEnd .. = _
  rw [execToneEnd]
  simp only [hv', if_neg hx]

/-- Settles O53: each clause is the rule of its event above. -/
theorem audioEventsComplete : Obligations.AudioEventsComplete := by
  intro s hp
  refine ⟨fun k b bs fr => execBufferDone_played hp, fun k fr hs hdry hb t => execStreamXrun_ended hp fr hs hdry hb,
    fun k => execStreamStart_due hp, execAudxLost_other hp, execAudxRestored_other hp,
    fun kind a b g hg => ⟨execZeroCrossing_waiting hp hg, execZcTimeout_waiting hp hg⟩, fun o xs => execAudioClip_none hp,
    ?limiter, fun l => execAlarmFloorStep_idle hp, fun v x hv hx => ⟨_, execToneEnd_cycles hv hx, rfl⟩⟩
  case limiter =>
    rintro o us need _ peak l t ho hneed rfl hl ht
    have hexec := execLimiterStep_output hp ho hneed hl ht
    refine ⟨fun hzero => ?idle, fun hpos => ?reducing⟩
    case idle =>
      rw [hexec, hzero]
      rfl
    case reducing => rw [hexec, if_pos hpos]

end Sys2Proof.Machine
end

section
/-! PROOFS. Clocks, references, throttle, rail and sag (O55). -/
namespace Sys2Proof.Machine
open Sys2Proof

/-! ### References (R535, R541 to R544) -/

theorem State.setHoldover_board (s : State) (b : Bool) : (s.setHoldover b).board = s.board :=
  foldl_keeps (f := fun s d => s.updDom d (fun x => { x with holdover := b })) State.board (fun _ _ => rfl) _ s

theorem State.refOrder_board {s t : State} (h : t.board = s.board) : t.refOrder = s.refOrder := by
  rw [State.refOrder, State.refOrder, h]

/-- The healthy first-priority reference is the first healthy one. -/
theorem State.find?_refOk_head {s : State} {port : Nat} (hok : s.refOk port = true) (hfirst : s.refOrder.head? = some port) :
    s.refOrder.find? s.refOk = some port := by
  obtain ⟨rest, horder⟩ := List.head?_eq_some_iff.mp hfirst
  rw [horder, List.find?_cons_of_pos hok]

section Reference
variable {s : State} {port : Nat} (hp : s.present (hPort port) = true)
include hp

theorem execPllHoldover_selected (hsel : s.clocks.selected = port) :
    exec (.pllHoldover port) s = .next (s.setHoldover true) := by
  change execPllHoldover .. = _
  rw [execPllHoldover, onPort_present hp, if_pos hsel]

theorem execRefclkHealthy_back (khz : Nat) (hbad : s.refOk port = false) (hmon : s.clocks.suspended = false) :
    exec (.refclkHealthy port khz) s = .next (((s.setRef port true).clockRef 3 port khz).retrainPort port) := by
  change execRefclkHealthy .. = _
  rw [execRefclkHealthy, onPort_present hp, if_neg (by simp [hbad, hmon])]

/-- A reference of higher priority is chosen again. -/
theorem execRefSwitchBack_higher (hok : s.refOk port = true) (hdeg : s.clocks.degraded = false)
    (hrank : s.refRank port < s.refRank s.clocks.selected) : exec (.refSwitchBack port) s =
      .next (((s.setClocks { s.clocks with selected := port }).clockRef 4 port 100000).settleRef) := by
  change execRefSwitchBack .. = _
  rw [execRefSwitchBack, onPort_present hp, if_neg (by simp [hok]), if_neg (by simp [hdeg]), if_pos hrank]

/-- The first-priority reference ends the degraded mode. -/
theorem execRefSwitchBack_degraded (hok : s.refOk port = true) (hdeg : s.clocks.degraded = true)
    (hfirst : s.refOrder.head? = some port) : exec (.refSwitchBack port) s =
      .next ((((s.setClocks { s.clocks with
        selected := port
        degraded := false }).setHoldover false).clockRef 6 port 100000).settleRef) := by
  have horder : ((((s.setClocks { s.clocks with
      selected := port
      degraded := false }).setHoldover false).clockRef 6 port 100000)).refOrder = s.refOrder :=
    State.refOrder_board (by rw [State.clockRef, (State.raise_frame _ _ _ _ _).2.1, State.setHoldover_board]; rfl)
  change execRefSwitchBack .. = _
  rw [execRefSwitchBack, onPort_present hp, if_neg (by simp [hok]), if_pos hdeg,
    if_pos (State.find?_refOk_head hok hfirst)]
  simp only [horder, hfirst, if_true]

end Reference

theorem State.setRef_selected (s : State) (port : Nat) (ok : Bool) : (s.setRef port ok).clocks.selected = s.clocks.selected :=
  rfl

/-- A failed reference of which nothing common is presumed: it is marked, and the selected one fails over. -/
theorem execRefclkFail_one {s : State} {port khz warmrc : Nat} (hmon : s.clocks.suspended = false) (hok : s.refOk port = true)
    (hshort : warmrcShortBad warmrc = false) : exec (.refclkFail [(port, khz)] warmrc) s =
      .next (if port = s.clocks.selected then (s.setRef port false).failover port khz
        else (s.setRef port false).clockRef 2 port khz) := by
  have hbad : [(port, khz)].filter (fun f => s.refOk f.1) = [(port, khz)] := by simp [hok]
  have hsel : ((s.setRef port false).clockRef 2 port khz).clocks.selected = s.clocks.selected := by
    simp [State.clockRef, State.setRef_selected]
  change execRefclkFail .. = _
  rw [execRefclkFail]
  simp only [hbad, hmon, hshort, List.isEmpty_cons, Bool.or_self, Bool.and_false, Bool.false_eq_true, if_false,
    List.foldl_cons, List.foldl_nil]
  by_cases h : port = s.clocks.selected
  case pos => simp [h, State.setRef_selected]
  case neg => simp [h, hsel, State.setRef_selected]

theorem State.failover_next {r : State} {q : Nat} (port khz : Nat) (hq : r.refOrder.find? r.refOk = some q) :
    r.failover port khz = (((((((r.setClocks { r.clocks with selected := q }).setHoldover false).edge 1).setFact hRef 1).raiseErr
      0x9001 1 hRef 0xFF 0 0).count 8 2 3).clockRef 1 port khz).settleRef := by
  simp only [State.failover, hq]

theorem State.failover_none {r : State} (port khz : Nat) (hq : r.refOrder.find? r.refOk = none) :
    r.failover port khz = (((((((r.setClocks { r.clocks with
      selected := 0xF
      degraded := true }).setHoldover false).edge 1).setFact hRef 2).raiseErr 0x9002 3 hRef 0xFF 0 0).count 8 2 3).clockRef 5
        port khz).dropDeadPorts := by
  simp only [State.failover, hq]

/-! ### The slow oscillators (R539) -/

section Oscillator
variable {s : State}

theorem execWarmrcCheck_fails {counts : Nat} (hbad : 100 * counts < 97 * 15625 ∨ 103 * 15625 < 100 * counts)
    (hmon : s.clocks.suspended = false) : exec (.warmrcCheck counts) s =
      .next ((((s.setClocks { s.clocks with suspended := true }).setFact (hClock 1) 6).raiseErr 0x9005 3 (hClock 1) 0xFF 0
        0).clockRef 7 0 0) := by
  have hrange : 100 * counts + 3 * 15625 < 100 * 15625 ∨ 103 * 15625 < 100 * counts := by omega
  change execWarmrcCheck .. = _
  rw [execWarmrcCheck, if_pos (by simpa using hrange), State.warmrcFault, if_neg (by simp [hmon])]

theorem execWarmrcCheck_passes {counts : Nat} (hlow : 97 * 15625 ≤ 100 * counts) (hhigh : 100 * counts ≤ 103 * 15625)
    (hmon : s.clocks.suspended = true) : exec (.warmrcCheck counts) s =
      .next (((s.setClocks { s.clocks with suspended := false }).clearFact (hClock 1)).settle (hClock 1)) := by
  have hrange : ¬ (100 * counts + 3 * 15625 < 100 * 15625 ∨ 103 * 15625 < 100 * counts) := by omega
  change execWarmrcCheck .. = _
  rw [execWarmrcCheck, if_neg (by simpa using hrange), if_pos hmon]

theorem execXtalLost_first (h : s.clocks.xtalLost = false) : exec .xtalLost s =
    .next (((s.setClocks { s.clocks with xtalLost := true }).setFact (hClock 0) 5).raiseErr 0x9006 0 (hClock 0) 0xFF 0 0) := by
  change execXtalLost .. = _
  rw [execXtalLost, if_neg (by simp [h])]

end Oscillator

/-! ### PLLs (R545, R546) -/

/-- What the loss of lock of a running domain with a PLL of its own does, by the domain's kind. -/
def State.pllLostOf (s : State) (d : Nat) : DomKind → State
  | .engine => (s.domLost d).clockPll d 1
  | .memc => (((s.domLost d).clockPll d 1).updDom d (fun y => { y with logged := true })).raiseErr 0x9004 4 (hClock d) 0xFF 0 0
  | .sense => ((s.domLost d).clockPll d 1).senseStopped
  | .host p => ((s.domLost d).clockPll d 1).fencePort p 5
  | .link h => ((s.domLost d).clockPll d 1).linkDown h
  | .pix q => s.pixLost q
  | .fab => s.fabLost
  | .fixed => s

section Pll
variable {s : State} {d : Nat} (hp : s.present (hClock d) = true)
include hp

theorem execPllUnlock_running (hrun : (s.dom d).state = .running) :
    exec (.pllUnlock d) s = .next (s.pllLostOf d (domKind s.board.member d)) := by
  change execPllUnlock .. = _
  rw [execPllUnlock, onUnit_present hp, if_neg (by simp [hrun])]
  cases domKind s.board.member d <;> rfl

variable (hengine : domKind s.board.member d = .engine) (hbyp : (s.dom d).state = .bypass)
include hengine hbyp

theorem execPllRelockAttempt_locks :
    exec (.pllRelockAttempt d true) s = .next (((s.domAttempt d).domRelocked d).clockPll d 2) := by
  change execPllRelockAttempt .. = _
  rw [execPllRelockAttempt, onUnit_present hp]
  simp only [hengine, hbyp]
  rfl

/-- The first failed attempt closes the record of the loss. -/
theorem execPllRelockAttempt_fails (htried : 1 ≤ ((s.domAttempt d).dom d).relocks) :
    exec (.pllRelockAttempt d false) s = .next ((s.domAttempt d).domRetrying d) := by
  have hmore : ¬ ((s.domAttempt d).dom d).relocks < 1 := by omega
  change execPllRelockAttempt .. = _
  rw [execPllRelockAttempt, onUnit_present hp]
  simp only [hengine, hbyp, if_neg hmore]
  rfl

end Pll

/-! ### Throttle and rail voltage (R569 to R571) -/

section Thermal
variable {s n : State} {temps : List (Nat × Int)} {hot : Nat × Int} (hn : n = s.noteTemps temps) (hhot : hottest temps = some hot)
  (hawake : n.awake = true) (hboot : n.boot.stage = 6)
include hn hhot hawake hboot

theorem execThermalSample_below (hcool : ¬ (1200 ≤ hot.2 ∧ (n.throttle hot).loopOut hPower 0 = 9)) :
    exec (.thermalSample temps) s = .next ((n.throttle hot).setPower { (n.throttle hot).power with hotMs := 0 }) := by
  subst hn
  change execThermalSample .. = _
  rw [execThermalSample]
  simp only [hhot]
  rw [if_neg (by simp [hawake, hboot]), if_neg (by simpa using hcool)]

/-- The second sample at 120 C with the throttle at 9 trips. -/
theorem execThermalSample_trips {t : State} (ht : t = n.throttle hot) (hlimit : 1200 ≤ hot.2) (hmax : t.loopOut hPower 0 = 9)
    (hms : t.power.hotMs ≠ 0) :
    exec (.thermalSample temps) s = .next ((t.setPower { t.power with hotMs := 0 }).thermalTrip hot) := by
  subst hn ht
  change execThermalSample .. = _
  rw [execThermalSample]
  simp only [hhot]
  rw [if_neg (by simp [hawake, hboot]), if_pos (by simp [hlimit, hmax]), if_neg hms]

end Thermal

theorem execThermalTripRelease_cool {s : State} {temp : Int} (htrip : s.power.tripped = true) (hcool : temp ≤ 1000)
    (hboot : s.boot.stage ≠ 6) :
    exec (.thermalTripRelease temp) s = .next (s.setPower { s.power with tripped := false }) := by
  change execThermalTripRelease .. = _
  rw [execThermalTripRelease, if_pos (by simp [htrip, hcool, hboot])]

theorem execAdaptiveVoltageStep_steps {s t : State} {passMv : Nat} (level : Nat) (hpmic : s.power.cfg.pmicEn = true)
    (hawake : s.awake = true) (ht : t = s.stepLoop hPower 1 (passMv + 10) none) :
    exec (.adaptiveVoltageStep passMv level) s = .next (t.setPower { t.power with
      vddMv := t.loopOut hPower 1
      gpuLevelV := if t.loopOut hPower 1 < passMv then min 9 level else 0 }) := by
  subst ht
  change execAdaptiveVoltageStep .. = _
  rw [execAdaptiveVoltageStep, if_neg (by simp [hpmic, hawake])]

/-- An interval that is not below the loop's LOW is followed. -/
theorem execRefreshDerating_follows {s : State} {c required : Nat} {l : Loop} (hp : s.present (hChannel c) = true)
    (hl : s.loop (hChannel c) 0 = some l) (hlow : l.low ≤ required) (hpin : l.pin = none) :
    exec (.refreshDerating c required) s = .next (s.stepLoop (hChannel c) 0 required none) := by
  have hshort : ¬ required < l.low := by omega
  change execRefreshDerating .. = _
  rw [execRefreshDerating, onUnit_present hp]
  simp only [hl, hpin, hshort, decide_false, Bool.or_self, Bool.false_eq_true, if_false]

/-! ### Wake scan in Steep (R449) -/

/-- The lowest zone that a scan hits. -/
def zoneHit (rs : List (ZoneRun × Bool)) : Option Nat := (List.range rs.length).find? (fun k => (rs.map (·.2)).getD k false)

theorem zoneHit_none {rs : List (ZoneRun × Bool)} (h : ∀ r ∈ rs, r.2 = false) : zoneHit rs = none := by
  rw [zoneHit, List.find?_eq_none]
  intro k hk
  have hk' : k < rs.length := List.mem_range.mp hk
  simp [hk', h _ (List.getElem_mem hk')]

section WakeScan
variable {s u : State} {panel : Nat} {deltas : List Nat} {t : TPanel} {rs : List (ZoneRun × Bool)}
  (hp : s.present (hTouch panel) = true) (ht : t = s.tp_ panel) (hsteep : s.power.state = .steep) (hup : s.touch.senseUp = true)
  (hrs : rs = scanZones t.zones t.runs deltas) (hu : u = s.updTp panel (fun t => { t with runs := rs.map (·.1) }))
include hp ht hsteep hup hrs hu

theorem execSteepWakeScan_quiet (hno : zoneHit rs = none) : exec (.steepWakeScan panel deltas) s = .next u := by
  subst hu hrs ht
  rw [zoneHit] at hno
  change execSteepWakeScan .. = _
  rw [execSteepWakeScan, onUnit_present hp, if_neg (by simp [hsteep, hup])]
  simp only [hno]

/-- A hit is told and wakes the device. -/
theorem execSteepWakeScan_hit {k : Nat} {v : State} (hk : zoneHit rs = some k)
    (hmap : (t.cfg.mapped && (s.pipe t.cfg.pipe).steeped) = false)
    (hv : v = u.raise 0 0x65 (hTouch panel) (detail [(panel, 8), (k, 8), (0, 16), (deltas.getD k 0, 32)])) :
    exec (.steepWakeScan panel deltas) s = .next (v.tickFree.wakeUp 1 panel (Config.measure v.freeCtr hPower 3)) := by
  have hstill : v.power.state = .steep := by subst hv hu; simp [hsteep, State.updTp]
  subst hv hu hrs ht
  rw [zoneHit] at hk
  change execSteepWakeScan .. = _
  rw [execSteepWakeScan, onUnit_present hp, if_neg (by simp [hsteep, hup])]
  simp only [hk, hmap, Bool.false_eq_true, if_false, if_pos hstill]

end WakeScan

/-! ### Supply sag (R572 to R576, R655) -/

/-- The sag bookkeeping of a save with its record. -/
def Sag.saved (g : Sag) (cause : Nat) (fatal : Bool) (r : Pour) : Sag :=
  { g with
    pours := match g.erased with
      | some k => g.pours.set k (some r)
      | none => g.pours
    saves := g.saves + 1
    sag := some cause
    sagFatal := fatal
    sagRecord := some r }

section Supply
variable {s : State} {cause vsense : Nat} {late fatal : Bool}

theorem execSupplySag_marks (hheld : s.power.poured = false) (hstate : s.power.state ≠ .brew) :
    exec (.supplySag cause vsense late fatal) s = .next (s.setPower { s.power with
      sag := { s.power.sag with sagMark := true } }) := by
  change execSupplySag .. = _
  rw [execSupplySag, State.takeSag, if_neg (by simp [hheld]), if_pos (by simp [hstate])]

/-- In Brew the save runs to its end. -/
theorem execSupplySag_saves {t : State} {r : Pour} (hheld : s.power.poured = false) (hstate : s.power.state = .brew)
    (hboot : s.boot.stage = 6) (ht : t = ((s.abortEntry { reason := 8, unit := hPower, inst := 0, arg := 0 } 0 0).edge 2).shedLoad)
    (hr : r = t.pour cause vsense late fatal) : exec (.supplySag cause vsense late fatal) s = .next (t.setPower { t.power with
      poured := true
      sag := t.power.sag.saved cause fatal r }) := by
  subst hr ht
  change execSupplySag .. = _
  rw [execSupplySag, State.takeSag, if_neg (by simp [hheld]), if_neg (by simp [hstate, hboot])]
  rfl

theorem execSupplyRestored_poured {r : Pour} (hpoured : s.power.poured = true) (hr : s.power.sag.sagRecord = some r) :
    exec .supplyRestored s = .next ((s.setPower { s.power with
      poured := false
      wake := { s.power.wake with
        last := r.state
        source := 6
        arg := 0
        wakeTime := 0 } }).fullReset 7) := by
  change execSupplyRestored .. = _
  rw [execSupplyRestored, if_pos hpoured]
  simp only [hr]

theorem execRailFall_vaon : exec (.railFall 2 vsense) s = .next s.vaonLost := rfl

end Supply

/-! ### Accesses that time out, and gates (R548, R549) -/

/-- An access of a host port is counted, and a read returns ones. -/
theorem execBusTimeout_port {s t : State} {i unit len : Nat} {write : Bool}
    (ht : t = s.abortEntry { reason := 4, unit := unit, inst := 0, arg := 0 } 0 0) :
    exec (.busTimeout 0xFF (0x100 + i % 4) unit write len) s =
      .next (if write then t.count 14 (0x100 + i % 4) 0 else (t.count 14 (0x100 + i % 4) 0).setBus (List.replicate len 0xFF)) := by
  have hport : (0x100 + i % 4) / 256 = 0x01 := by omega
  have hindex : (0x100 + i % 4) % 4 = i % 4 := by omega
  subst ht
  change execBusTimeout .. = _
  rw [execBusTimeout]
  simp only [hport, hindex, if_true]

/-- An access that an instance's work made is a record of the instance. -/
theorem execBusTimeout_instance {s t : State} {inst initiator unit len : Nat} {write : Bool} (hport : initiator / 256 ≠ 0x01)
    (hcore : isCore initiator = false) (hinst : inst ≠ 0xFF)
    (ht : t = s.abortEntry { reason := 4, unit := unit, inst := inst, arg := 0 } 0 0) :
    exec (.busTimeout inst initiator unit write len) s = .next (t.raiseErr 0x0003 2 unit inst 0 0) := by
  subst ht
  change execBusTimeout .. = _
  rw [execBusTimeout]
  simp only [if_neg hport, hcore, Bool.false_eq_true, if_false, if_neg hinst]

/-- Without a secure hold the gate waits for a pending access, and else closes. -/
theorem execGateRequest_free {s : State} {unit : Nat} (pending : Bool) {ws : List Nat} (hp : s.present unit = true)
    (hfree : s.sec.holds = false ∨ heldUnit unit = false)
    (hws : ws = s.memc.gateWaiting.filter (fun h => decide (h ≠ unit))) : exec (.gateRequest unit pending) s =
      .next (s.setMemc { s.memc with gateWaiting := if pending then ws ++ [unit] else ws }) := by
  subst hws
  change execGateRequest .. = _
  rw [execGateRequest, onUnit_present hp, if_neg (by rcases hfree with h | h <;> simp [h])]

/-- Settles O55: each clause is the rule of its event above. -/
theorem clocksAndSupplyComplete : Obligations.ClocksAndSupplyComplete := by
  intro s
  refine ⟨fun port hp => ⟨execPllHoldover_selected hp, execRefclkHealthy_back hp, execRefSwitchBack_higher hp,
      execRefSwitchBack_degraded hp⟩, ?refclk, fun _ => execWarmrcCheck_fails, fun _ => execWarmrcCheck_passes,
    execXtalLost_first, ?unlock, fun d hp he hb => ⟨execPllRelockAttempt_locks hp he hb, execPllRelockAttempt_fails hp he hb⟩,
    fun temps hot n hn hhot ha hb => ⟨execThermalSample_below hn hhot ha hb, fun t => execThermalSample_trips hn hhot ha hb⟩,
    fun temp => execThermalTripRelease_cool, fun passMv level t => execAdaptiveVoltageStep_steps level,
    fun c required l => execRefreshDerating_follows, ?scan, ?sag, fun r => execSupplyRestored_poured,
    fun vsense => execRailFall_vaon, fun i unit write len t => execBusTimeout_port,
    fun inst initiator unit write len t => execBusTimeout_instance, fun unit pending ws => execGateRequest_free pending⟩
  case refclk =>
    rintro port khz warmrc r hmon hok hshort rfl
    have hexec := execRefclkFail_one (khz := khz) hmon hok hshort
    refine ⟨fun hother => ?other, fun q hsel hq => ?failover, fun hsel hq => ?degraded⟩
    case other => rw [hexec, if_neg hother]
    case failover => rw [hexec, if_pos hsel, State.failover_next port khz hq]
    case degraded => rw [hexec, if_pos hsel, State.failover_none port khz hq]
  case unlock =>
    rintro d x hp rfl hrun
    have hexec := execPllUnlock_running hp hrun
    refine ⟨fun hk => ?_, fun hk => ?_, fun hk => ?_, fun p hk => ?_, fun h hk => ?_⟩ <;> rw [hexec, hk, State.pllLostOf]
  case scan =>
    intro panel deltas t rs hp ht hsteep hup hrs u hu
    exact ⟨fun hno => execSteepWakeScan_quiet hp ht hsteep hup hrs hu (zoneHit_none hno),
      fun k v => execSteepWakeScan_hit hp ht hsteep hup hrs hu⟩
  case sag =>
    intro cause vsense late fatal hheld
    exact ⟨execSupplySag_marks hheld, fun t r => execSupplySag_saves hheld⟩

end Sys2Proof.Machine
end

section
/-! PROOFS. The secure world: services, migration key, debug, mailbox, gateway, watchdog, JTAG (O56). -/
namespace Sys2Proof.Machine
open Sys2Proof

/-! ### Secure services (R506 to R511) -/

/-- A service that is taken and passes its own checks runs. -/
theorem secService_runs {s : State} {service : Nat} {len : Packet → Nat} {own ok units : Bool} {p : Packet} {k : State → Ans}
    (hc : p.target = hCupper) (ht : s.takes opSecService own p = true) (hlen : p.length = len p) (hs : p.u32 16 = service)
    (hok : ok = true) (hunits : units = true) (hav : service = 1 ∨ s.sec.available = true) :
    secService service len own p s ok units k =
      .next (Ans.close (s.markApplied p) opSecService p (k (s.markApplied p))) := by
  have hav' : (decide (service = 1) || (s.markApplied p).sec.available) = true := by simpa using hav
  rw [secService, packet_taken ht, checks_pass (by simp [hc, hlen, hs, hok]), checks_pass hunits, checks_pass hav', checks_nil]

section Service
variable {s u : State} {p : Packet} (hu : u = s.markApplied p) (hc : p.target = hCupper)
include hu hc

/-- STATUS is answered while services are unavailable too. -/
theorem execStatus_answers (ht : s.takes opSecService true p = true) (hlen : p.length = 4) (hs : p.u32 16 = 1) :
    exec (.status p) s = .next (u.answer 0xB001 p .ok
      [w32 (pack [(b2n s.sec.available, 1), (b2n s.armed, 1), (0, 2), (s.sec.debug, 4), (s.sec.unavail, 8), (s.sec.wdogMs, 16)]),
        w32 s.sec.causes, w32 s.sec.holdRefusals, 0]) := by
  subst hu
  change execStatus .. = _
  rw [execStatus, secService_runs hc ht hlen hs rfl rfl (.inl rfl)]
  rfl

variable (hav : s.sec.available = true)
include hav

theorem execRandom_answers (ht : s.takes opSecService true p = true) (hlen : p.length = 8) (hs : p.u32 16 = 2)
    (hn : 1 ≤ p.fld 20 0 9) (hmax : p.fld 20 0 9 ≤ 256) (hreserved : p.fld 20 9 23 = 0) : exec (.random p) s =
      .next (u.tickFree.answer 0xB001 p .ok (padWords ((List.range (p.fld 20 0 9)).map (Config.random s.freeCtr)))) := by
  subst hu
  change execRandom .. = _
  rw [execRandom, secService_runs hc ht hlen hs (by simp [hn, hmax, hreserved]) rfl (.inr hav)]
  rfl

theorem execAttest_answers {body : List Byte} (ht : s.takes opSecService true p = true) (hlen : p.length = 52)
    (hs : p.u32 16 = 3) (hbody : body = s.attested (p.bytesFrom 20)) : exec (.attest p) s =
      .next (u.answer 0xB001 p .ok (bytesWords (body ++ fixBytes 96 (Config.signature 0 body)))) := by
  subst hu hbody
  change execAttest .. = _
  rw [execAttest, secService_runs hc ht hlen hs rfl rfl (.inr hav)]
  rfl

section Fallback
variable {i : Nat} (ht : s.takes opSecService (s.isSafety p.inst && decide ((s.slot i).holder = some p.inst)) p = true)
  (hi : i = p.fld 20 0 6) (hlen : p.length = 16) (hs : p.u32 16 = 0x10) (hreserved : p.fld 20 7 25 = 0)
include ht hi hlen hs hreserved

/-- CLEAR restores the hatch. -/
theorem execFallbackSet_clears (hclear : p.flag 20 6 = true) : exec (.fallbackSet p) s = .next ((u.setSec { u.sec with
    fallback := u.sec.fallback.set i none
    fallbackNext := u.sec.fallbackNext.set i none }).answer 0xB001 p .ok []) := by
  subst hu hi
  change execFallbackSet .. = _
  rw [execFallbackSet, secService_runs hc ht hlen hs (by simp [hreserved, hclear]) rfl (.inr hav)]
  simp only [hclear, if_true]
  rfl

theorem execFallbackSet_sets (hclear : p.flag 20 6 = false) (halign : p.u64 24 % 64 = 0)
    (hmap : mappedRange (s.inst p.inst).pages (p.u64 24) 16384 = true) : exec (.fallbackSet p) s = .next ((u.setSec { u.sec with
      fallbackNext := u.sec.fallbackNext.set i (some (u.readInst p.inst (p.u64 24) 16384)) }).answer 0xB001 p .ok []) := by
  subst hu hi
  change execFallbackSet .. = _
  rw [execFallbackSet, secService_runs hc ht hlen hs (by simp [hreserved, halign, hmap]) rfl (.inr hav)]
  simp only [hclear, Bool.false_eq_true, if_false]
  rfl

end Fallback

theorem execLayerEscalate_sets {i : Nat} (ht : s.takes opSecService (decide (p.inst = 0) || (s.isSafety p.inst &&
    decide ((s.slot i).holder = some p.inst))) p = true) (hi : i = p.fld 20 0 6) (hlen : p.length = 8) (hs : p.u32 16 = 0x11)
    (hreserved : p.fld 20 6 2 = 0) (hreserved22 : p.u16 22 = 0) (hunit : s.unitOk (hSlot i) = true) :
    exec (.layerEscalate p) s = .next ((u.setSec { u.sec with
      escLayer := u.sec.escLayer.set i (some (p.u8 21)) }).answer 0xB001 p .ok []) := by
  subst hu hi
  change execLayerEscalate .. = _
  rw [execLayerEscalate, secService_runs hc ht hlen hs (by simp [hreserved, hreserved22]) hunit (.inr hav)]
  rfl

theorem execPipeEscalate_sets {i : Nat} (ht : s.takes opSecService (decide (p.inst = 0) || (s.isSafety p.inst &&
    s.hasRegion p.inst i)) p = true) (hi : i = p.fld 20 0 3) (hlen : p.length = 8) (hs : p.u32 16 = 0x12)
    (hreserved : p.fld 20 3 5 = 0) (hreserved22 : p.u16 22 = 0) (hunit : s.unitOk (hPipe i) = true) :
    exec (.pipeEscalate p) s = .next ((u.setSec { u.sec with
      escPipe := u.sec.escPipe.set i (some (p.u8 21)) }).answer 0xB001 p .ok []) := by
  subst hu hi
  change execPipeEscalate .. = _
  rw [execPipeEscalate, secService_runs hc ht hlen hs (by simp [hreserved, hreserved22]) hunit (.inr hav)]
  rfl

theorem execTonePattern_sets {i n : Nat} (ht : s.takes opSecService (decide (p.inst = 0) || s.isSafety p.inst) p = true)
    (hi : i = p.fld 20 0 4) (hn : n = p.fld 21 0 5) (hlen : p.length = 8 + 4 * n) (hs : p.u32 16 = 0x13) (hpattern : 5 ≤ i)
    (hreserved : p.fld 20 4 4 = 0) (hmin : 1 ≤ n) (hmax : n ≤ 16) (hreserved21 : p.fld 21 5 3 = 0) (hreserved22 : p.u16 22 = 0)
    (hsegs : (p.wordsFrom 24).all segmentOk = true) : exec (.tonePattern p) s = .next ((u.setSec { u.sec with
      patterns := u.sec.patterns.set i (some ((p.wordsFrom 24).map (fun w => (w % 65536, w / 65536)))) }).answer 0xB001 p .ok
        []) := by
  subst hu hi hn
  have hok : (decide (5 ≤ p.fld 20 0 4) && decide (p.fld 20 4 4 = 0) && decide (1 ≤ p.fld 21 0 5) && decide (p.fld 21 0 5 ≤ 16) &&
      decide (p.fld 21 5 3 = 0) && decide (p.u16 22 = 0) && (p.wordsFrom 24).all segmentOk) = true := by
    rw [hsegs]
    simp [hpattern, hreserved, hmin, hmax, hreserved21, hreserved22]
  change execTonePattern .. = _
  rw [execTonePattern, secService_runs hc ht hlen hs hok rfl (.inr hav)]
  rfl

theorem execAlarmTest_asserts (ht : s.takes opSecService (decide (p.inst = 0)) p = true) (hlen : p.length = 8)
    (hs : p.u32 16 = 0x20) (hmin : 1 ≤ p.u16 20) (hmax : p.u16 20 ≤ 10000) (hreserved : p.u16 22 = 0) :
    exec (.alarmTest p) s = .next ((u.assertCause 5 0xFFFF).answer 0xB001 p .ok []) := by
  subst hu
  change execAlarmTest .. = _
  rw [execAlarmTest, secService_runs hc ht hlen hs (by simp [hmin, hmax, hreserved]) rfl (.inr hav)]
  rfl

/-! ### The migration key -/

section Migration
variable (ht : s.takes opMigrationKey true p = true) (hlen : p.length = 44) (hfused : s.sec.keyFused = true)
include ht hlen hfused

omit hu in
/-- A form of MIGRATION_KEY that passes the checks runs. -/
theorem migrationKey_runs {op : Nat} {k : State → Ans} (hop : p.u32 16 = op) :
    migrationKey op p s k = .next (Ans.close (s.markApplied p) opMigrationKey p (k (s.markApplied p))) := by
  rw [migrationKey, packet_taken ht, checks_pass (by simp [hc, hlen, hop]), checks_pass (by exact hav),
    checks_pass (by exact hfused), checks_nil]

theorem execMigrationKeyInstall_installs {key : Nat} (hop : p.u32 16 = 0) (hkey : Config.unwrap (p.bytesFrom 20) = some key) :
    exec (.migrationKeyInstall p) s = .next ((u.setSec { u.sec with key := some key }).answer 0xB002 p .ok []) := by
  subst hu
  change execMigrationKeyInstall .. = _
  rw [execMigrationKeyInstall, migrationKey_runs hc hav ht hlen hfused hop]
  simp only [hkey]
  rfl

theorem execMigrationKeyErase_erases (hop : p.u32 16 = 1) :
    exec (.migrationKeyErase p) s = .next ((u.setSec { u.sec with key := none }).answer 0xB002 p .ok []) := by
  subst hu
  change execMigrationKeyErase .. = _
  rw [execMigrationKeyErase, migrationKey_runs hc hav ht hlen hfused hop]
  rfl

end Migration

/-! ### Debug (R518) -/

theorem execDebugChallenge_answers {req : Nat} {nonce : List Byte} (ht : s.takes opDebugChallenge true p = true)
    (hlen : p.length = 4) (hreserved : p.fld 16 4 28 = 0) (hfails : s.sec.debugFails < 8)
    (hreq : req = impliedEnables (p.fld 16 0 4)) (hnonce : nonce = (List.range 48).map (Config.random s.freeCtr)) :
    exec (.debugChallenge p) s = .next ((u.tickFree.setSec { u.sec with challenge := some (Challenge.mk nonce req s.devTime)
      }).answer 0xB003 p .ok (bytesWords (leBytes 8 Config.deviceId ++ nonce ++ leBytes 4 req))) := by
  subst hu hreq hnonce
  change execDebugChallenge .. = _
  rw [execDebugChallenge, packet_taken ht, checks_pass (by simp [hc, hlen, hreserved]), checks_pass (by exact hav),
    checks_pass (by simpa using hfails), checks_nil]
  rfl

theorem execDebugResponse_unlocks {c : Challenge} {pub : List Byte} {spent : State} (ht : s.takes opDebugResponse true p = true)
    (hlen : p.length = 192) (hfails : s.sec.debugFails < 8) (hchallenge : s.sec.challenge = some c)
    (htime : s.devTime ≤ c.time + 60000000000) (harmed : (bitOf c.request 3 && s.armed) = false)
    (hpub : pub = (p.bytesFrom 16).drop 96) (hspent : spent = u.setSec { u.sec with challenge := none })
    (hverifies : Config.verifies pub ((p.bytesFrom 16).take 96)
      (leBytes 8 Config.deviceId ++ c.nonce ++ leBytes 4 c.request) = true)
    (hkey : Config.sha384 pub = Config.debugKeyHash) : exec (.debugResponse p) s =
      .next (((spent.setSec { spent.sec with addedDebug := spent.sec.addedDebug ||| c.request }).debugUnlock c.request).answer
        0xB004 p .ok []) := by
  subst hu hpub hspent
  have hchallenge' : (s.markApplied p).sec.challenge = some c := hchallenge
  have harmed' : (bitOf c.request 3 && (s.markApplied p).armed) = false := harmed
  change execDebugResponse .. = _
  rw [execDebugResponse, packet_taken ht, checks_pass (by simp [hc, hlen]), checks_pass (by simpa using hfails), checks_nil]
  simp only [hchallenge', harmed', hverifies, hkey]
  rw [checks_pass (by simpa using htime), checks_pass (by exact hav), checks_nil]
  rfl

end Service

/-! ### Mailbox and gateway (R502 to R505) -/

section Mailbox
variable {s : State} {slot : Nat}

theorem execMailboxFullSet_toCupper (data : List Byte) (hslot : slot < 16) (hav : s.sec.available = true)
    (hfree : (s.sec.toCupper.get slot).full = false) : exec (.mailboxFullSet true slot data) s =
      .next ((s.setSec { s.sec with toCupper := s.sec.toCupper.upd slot (fun m => { m with
        full := true
        data := data.take 64 }) }).edge (47 + slot)) := by
  change execMailboxFullSet .. = _
  rw [execMailboxFullSet]
  simp only [if_neg (show ¬ 16 ≤ slot by omega), hav, hfree, if_true, Bool.not_true, Bool.false_eq_true, if_false]

theorem execMailboxFullSet_toBarista (data : List Byte) (hslot : slot < 16)
    (hfree : (s.sec.toBarista.get slot).full = false) : exec (.mailboxFullSet false slot data) s =
      .next ((s.setSec { s.sec with toBarista := s.sec.toBarista.upd slot (fun m => { m with
        full := true
        data := data.take 64 }) }).edge 63) := by
  change execMailboxFullSet .. = _
  rw [execMailboxFullSet]
  simp only [if_neg (show ¬ 16 ≤ slot by omega), hfree, Bool.false_eq_true, if_false]

/-- A write to a full slot is discarded and counted. -/
theorem execMailboxFullSet_discards (data : List Byte) (hslot : slot < 16) (hfull : (s.sec.toBarista.get slot).full = true) :
    exec (.mailboxFullSet false slot data) s = .next (s.setSec { s.sec with discarded := s.sec.discarded + 1 }) := by
  change execMailboxFullSet .. = _
  rw [execMailboxFullSet]
  simp only [if_neg (show ¬ 16 ≤ slot by omega), hfull, Bool.false_eq_true, if_false, if_true]

theorem execGatewayTimeout_owed {m : Mbox} (hm : m = s.sec.toCupper.get slot) (howed : m.owed = true) :
    exec (.gatewayTimeout slot) s = .next ((s.setSec { s.sec with
      toCupper := s.sec.toCupper.set slot { m with cause := none } }).finishOpt m.cause .timeout []) := by
  subst hm
  change execGatewayTimeout .. = _
  rw [execGatewayTimeout]
  simp only [howed, if_true]

variable (hav : s.sec.available = true)
include hav

theorem execGatewayCall_calls {entry inst : Nat} {data : List Byte} (core : Nat) (cause : Option Packet) (opcode : Nat)
    (hslot : slot < 16) (hentry : entry < 64) (hfree : (s.sec.toCupper.get slot).full = false)
    (howed : (s.sec.toCupper.get slot).owed = false) (hmark : entryMarked entry = true) (horigin : s.originOk entry inst = true)
    (hlen : data.length ≤ entryArgs entry) : exec (.gatewayCall core slot entry inst data cause opcode) s =
      .next ((s.setSec { s.sec with
        toCupper := s.sec.toCupper.set slot { full := true
                                              data := data
                                              entry := entry
                                              core := core
                                              owed := true
                                              cause := cause.map (fun p => { opcode := opcode, p := p }) } }).edge
          (47 + slot)) := by
  change execGatewayCall .. = _
  rw [execGatewayCall]
  simp only [if_neg (show ¬ (16 ≤ slot ∨ 64 ≤ entry) by omega), hav, hfree, howed, hmark, horigin,
    decide_eq_false (show ¬ entryArgs entry < data.length by omega), Bool.not_true, Bool.or_self, Bool.false_eq_true, if_false]

theorem execGatewayReturn_returns (data : List Byte) (howed : (s.sec.toCupper.get slot).owed = true)
    (hfree : (s.sec.toBarista.get slot).full = false) : exec (.gatewayReturn slot data) s = .next ((s.setSec { s.sec with
      toCupper := s.sec.toCupper.upd slot (fun m => { m with
        owed := false
        cause := none })
      toBarista := s.sec.toBarista.upd slot (fun m => { m with
        full := true
        data := data.take 64 }) }).edge 63) := by
  change execGatewayReturn .. = _
  rw [execGatewayReturn]
  simp only [hav, howed, hfree, Bool.not_true, Bool.or_self, Bool.false_eq_true, if_false]

/-! ### The watchdog (R500, R525) -/

omit slot in
theorem execSecureWdogKick_kicks : exec .secureWdogKick s = .next (s.setSec { s.sec with wdogKick := s.devTime }) := by
  change execSecureWdogKick .. = _
  rw [execSecureWdogKick, if_pos hav]

theorem execSecureWdog_expires (hrun : s.sec.halted = false) : exec .secureWdog s = .next (s.secureLost 1) := by
  have hcounts : s.wdogCounts = true := by simp [State.wdogCounts, hav, hrun]
  change execSecureWdog .. = _
  rw [execSecureWdog, if_pos hcounts]

theorem execCupperSramUncorr_lost : exec .cupperSramUncorr s = .next (s.secureLost 3) := by
  change execCupperSramUncorr .. = _
  rw [execCupperSramUncorr, if_pos hav]

end Mailbox

theorem execCupperRestart_restarts {s t : State} {slot : Nat} (hav : s.sec.available = false) (hfatal : s.sec.wdogFatal = false)
    (hcause : s.sec.unavail = 1 ∨ s.sec.unavail = 3) (himage : s.imageIn 1 = some slot) (ht : t = s.startCupper slot) :
    exec .cupperRestart s =
      .next ((((t.setSec { t.sec with lastRestart := some s.devTime }).clearFact hCupper).settle hCupper).secureState 2) := by
  have htime : t.devTime = s.devTime := by subst ht; rfl
  subst ht
  change execCupperRestart .. = _
  rw [execCupperRestart, if_neg (by rcases hcause with h | h <;> simp [hav, hfatal, h])]
  simp only [himage, State.restartCupper, htime]

/-! ### Violations and JTAG (R498, R517, R519) -/

section Access
variable (s : State)

theorem execSecViolation_write (initiator inst len : Nat) : exec (.secViolation initiator inst true len) s =
    .next ((s.setSec { s.sec with violations := s.sec.violations + 1 }).raiseErr 0xB001 0 hCupper inst 0 initiator) := by
  change execSecViolation .. = _
  rw [execSecViolation, if_pos rfl]

theorem execSecViolation_read (initiator inst len : Nat) : exec (.secViolation initiator inst false len) s =
    .next (((s.setBus (List.replicate len 0)).setSec { s.sec with violations := s.sec.violations + 1 }).raiseErr 0xB001 0
      hCupper inst 0 initiator) := by
  change execSecViolation .. = _
  rw [execSecViolation, if_neg Bool.false_ne_true]
  rfl

theorem execJtagAccess_idcode : exec (.jtagAccess .idcode) s = .next (s.setBus (leBytes 4 Config.idcode)) := rfl

theorem execJtagAccess_bypass : exec (.jtagAccess .bypass) s = .next s := rfl

variable {s}

theorem execJtagAccess_memory (hen : bitOf s.sec.debug 1 = true) (a n : Nat) (bs : List Byte) :
    exec (.jtagAccess (.readMem a n)) s = .next (s.setBus (Mem.read s.dram a n)) ∧
      exec (.jtagAccess (.writeMem a bs)) s = .next (s.setDram (Mem.write s.dram a bs)) := by
  constructor
  · change execJtagAccess (.readMem a n) s = _
    rw [execJtagAccess, if_pos hen]
  · change execJtagAccess (.writeMem a bs) s = _
    rw [execJtagAccess, if_pos hen]

theorem execJtagAccess_refused (hen : bitOf s.sec.debug 1 = false) (a n : Nat) (bs : List Byte) :
    exec (.jtagAccess (.readMem a n)) s = .next s ∧ exec (.jtagAccess (.writeMem a bs)) s = .next s := by
  constructor
  · change execJtagAccess (.readMem a n) s = _
    rw [execJtagAccess, if_neg (by simp [hen])]
  · change execJtagAccess (.writeMem a bs) s = _
    rw [execJtagAccess, if_neg (by simp [hen])]

end Access

/-- Settles O56: each clause is the rule of its row above. -/
theorem secureWorldCompletes : Obligations.SecureWorldCompletes := by
  intro s
  refine ⟨?services, fun slot data hslot => ⟨execMailboxFullSet_toCupper data hslot, execMailboxFullSet_toBarista data hslot,
      execMailboxFullSet_discards data hslot⟩, ?available, fun slot m => execGatewayTimeout_owed,
    fun slot t => execCupperRestart_restarts, rfl,
    fun i n l => ⟨execSecViolation_write s i n l, execSecViolation_read s i n l⟩, execJtagAccess_idcode s,
    execJtagAccess_bypass s, fun a n hen => (execJtagAccess_memory hen a n []).1,
    fun a bs hen => (execJtagAccess_memory hen a 0 bs).2, fun a n bs hen => execJtagAccess_refused hen a n bs⟩
  case services =>
    intro p u i hu hc
    refine ⟨execStatus_answers hu hc, fun hav => ⟨fun ht => ⟨execRandom_answers hu hc hav ht,
        fun body => execAttest_answers hu hc hav ht⟩, fun ht hi hlen hs hr => ⟨execFallbackSet_clears hu hc hav ht hi hlen hs hr,
        execFallbackSet_sets hu hc hav ht hi hlen hs hr⟩, execLayerEscalate_sets hu hc hav, execPipeEscalate_sets hu hc hav,
      fun n => execTonePattern_sets hu hc hav, execAlarmTest_asserts hu hc hav,
      fun ht hlen hf => ⟨fun key => execMigrationKeyInstall_installs hu hc hav ht hlen hf,
        execMigrationKeyErase_erases hu hc hav ht hlen hf⟩,
      fun req nonce => execDebugChallenge_answers hu hc hav, fun c pub spent => execDebugResponse_unlocks hu hc hav⟩⟩
  case available =>
    intro hav
    exact ⟨fun core slot entry inst data cause opcode => execGatewayCall_calls hav core cause opcode,
      fun slot data => execGatewayReturn_returns hav data, execSecureWdogKick_kicks hav, execSecureWdog_expires hav,
      execCupperSramUncorr_lost hav⟩

end Sys2Proof.Machine
end

section
/-! PROOFS. The management port: block writes, messages, basic registers, recovery (O58). -/
namespace Sys2Proof.Machine
open Sys2Proof

theorem State.ctrl_on {s : State} (hon : s.mgmtOn = true) (command completion : Nat) (data : List Byte) :
    s.ctrl command completion data = s.mgmtSend (ctrlBody command completion data) := if_pos hon

theorem State.mgmtOn_iff {s : State} : s.mgmtOn = true ↔ s.power.state ≠ .shelf := by simp [State.mgmtOn]

/-! ### Block writes and messages (R126, R127, R640, R641) -/

/-- A start of message opens the assembly of its tag. -/
theorem State.mgmtPacket_starts (s : State) (tag : Nat) (body : List Byte) :
    s.mgmtPacket tag true false body = s.setBoot { s.boot with
      asm := s.boot.asm.filter (fun m => decide (m.1 ≠ tag)) ++ [(tag, body)] } := by
  simp only [State.mgmtPacket, if_true, List.nil_append, Bool.not_false]

/-- A message of one packet is whole. -/
theorem State.mgmtPacket_whole (s : State) (tag : Nat) {body : List Byte} (hok : mgmtTypeOk body = true) :
    s.mgmtPacket tag true true body = s.setBoot { s.boot with
      asm := s.boot.asm.filter (fun m => decide (m.1 ≠ tag))
      arrived := s.boot.arrived ++ [(tag, body)] } := by
  simp only [State.mgmtPacket, if_true, List.nil_append, Bool.not_true, Bool.false_eq_true, if_false, hok]
  rfl

section Port
variable {s : State} (hon : s.mgmtOn = true)
include hon

section Block
variable {bytes : List Byte} {flags tag : Nat} (hflags : flags = (bytes.getD 7 0).toNat) (htag : tag = flags % 8)
  (hlen : 9 ≤ bytes.length) (haddr : (bytes.getD 0 0).toNat = 2 * (0x68 + s.board.smbaddr))
include hflags htag hlen haddr

omit hflags htag in
/-- A block write to the device is looked at. -/
theorem smbus_served : (!s.mgmtOn || decide ((bytes.getD 0 0).toNat ≠ 2 * (0x68 + s.board.smbaddr)) ||
    decide (bytes.length < 9)) = false := by
  rw [haddr]
  simp [hon, hlen]

theorem execSmbusTransaction_nacked (hpec : crc8 (bytes.take (bytes.length - 1)) ≠ bytes.getD (bytes.length - 1) 0) :
    exec (.smbusTransaction bytes) s = .next ((s.setBoot { s.boot with
      nacked := true
      skipping := true
      asm := s.boot.asm.filter (fun m => decide (m.1 ≠ tag)) }).mgmtDiscard) := by
  subst hflags htag
  change execSmbusTransaction .. = _
  rw [execSmbusTransaction]
  simp only [smbus_served hon hlen haddr, Bool.false_eq_true, if_false, if_pos hpec]

/-- A good block write with a start of message is a packet of its message. -/
theorem execSmbusTransaction_packet {t : State} (hpec : crc8 (bytes.take (bytes.length - 1)) = bytes.getD (bytes.length - 1) 0)
    (hcommand : (bytes.getD 1 0).toNat = 0x0F) (hcount : (bytes.getD 2 0).toNat + 4 = bytes.length)
    (heid : (bytes.getD 5 0).toNat = s.boot.eid.getD 0) (hstart : bitOf flags 7 = true)
    (ht : t = s.setBoot { s.boot with nacked := false }) : exec (.smbusTransaction bytes) s =
      .next ((t.setBoot { t.boot with skipping := false }).mgmtPacket tag true (bitOf flags 6)
        ((bytes.take (bytes.length - 1)).drop 8)) := by
  subst hflags htag ht
  have hours : (decide ((bytes.getD 1 0).toNat ≠ 0x0F) || decide ((bytes.getD 2 0).toNat + 4 ≠ bytes.length) ||
      decide ((bytes.getD 5 0).toNat ≠ (s.setBoot { s.boot with nacked := false }).boot.eid.getD 0)) = false := by
    rw [hcommand, hcount, heid]
    simp
  change execSmbusTransaction .. = _
  rw [execSmbusTransaction]
  simp only [smbus_served hon hlen haddr, hours, hstart, Bool.not_true, Bool.and_false, Bool.false_eq_true, if_false,
    if_neg (not_not_intro hpec)]

end Block

/-! ### Basic registers (R642) -/

theorem execBasicRegisterRead_refused {reg len : Nat} (hbad : basicReadOk reg len = false) :
    exec (.basicRegisterRead reg len) s = .next (s.mgmtSend (mgmtBody 2 [1])) := by
  change execBasicRegisterRead .. = _
  rw [execBasicRegisterRead, if_neg (by simp [hon]), if_pos (by simp [hbad])]

/-- A read that stops short of the upper half of DEV_TIME latches nothing. -/
theorem execBasicRegisterRead_low {reg len : Nat} (hok : basicReadOk reg len = true) (hshort : reg + len ≤ 0x28) :
    exec (.basicRegisterRead reg len) s = .next (s.mgmtSend (mgmtBody 2
      (0 :: ((s.basicBytes (s.boot.timeHi.getD (s.devTime / 2 ^ 32 % 2 ^ 32))).drop reg).take len))) := by
  have hlow : ¬ 0x28 < reg + len := by omega
  have hhigh : ¬ 0x2C < reg + len := by omega
  change execBasicRegisterRead .. = _
  rw [execBasicRegisterRead, if_neg (by simp [hon]), if_neg (by simp [hok])]
  simp only [hlow, hhigh, decide_false, Bool.and_false, Bool.false_eq_true, if_false]
  rfl

section Recovery
variable (hstage : s.boot.stage = 14)
include hstage

theorem execBasicRegisterWrite_page {data : List Byte} (hlen : data.length = 256) :
    exec (.basicRegisterWrite 0x40 data) s = .next ((s.recPage data).mgmtSend (mgmtBody 3 [0])) := by
  change execBasicRegisterWrite .. = _
  rw [execBasicRegisterWrite, if_neg (by simp [hon]), if_neg (by simp [hlen]), if_neg (by simp [hstage])]
  simp only [hlen, and_self, if_true]

theorem execBasicRegisterWrite_word {reg : Nat} {data : List Byte} (hlow : 0x30 ≤ reg) (hhigh : reg ≤ 0x13C)
    (hlen : data.length = 4) : exec (.basicRegisterWrite reg data) s =
      .next ((s.recWrite reg (leNat data)).mgmtSend (mgmtBody 3 [0])) := by
  have hin : ¬ (data.length < 4 ∨ 256 < data.length ∨ reg < 0x30 ∨ 0x140 < reg + data.length) := by omega
  have hword : data.take 4 = data := List.take_of_length_le (by omega)
  change execBasicRegisterWrite .. = _
  rw [execBasicRegisterWrite, if_neg (by simp [hon]), if_neg (by simpa [or_assoc] using hin), if_neg (by simp [hstage])]
  simp [hlen, hword]

end Recovery

/-! ### Control commands (R641) -/

theorem execSetEndpointId_assigns {op eid : Nat} (hop : op = 0 ∨ op = 1) (hmin : 8 ≤ eid) (hmax : eid < 255) :
    exec (.setEndpointId op eid) s =
      .next ((s.setBoot { s.boot with eid := some eid }).mgmtSend (ctrlBody 1 0 [0, BitVec.ofNat 8 eid, 0])) := by
  have hon' : (s.setBoot { s.boot with eid := some eid }).mgmtOn = true := hon
  change execSetEndpointId .. = _
  rw [execSetEndpointId, if_neg (by simp [hon]), if_pos ⟨hop, hmin, hmax⟩, State.ctrl_on hon']

theorem execGetEndpointId_answers :
    exec .getEndpointId s = .next (s.mgmtSend (ctrlBody 2 0 [BitVec.ofNat 8 (s.boot.eid.getD 0), 0, 0])) := by
  change execGetEndpointId .. = _
  rw [execGetEndpointId, State.ctrl_on hon]

theorem execGetEndpointUuid_answers : exec .getEndpointUuid s = .next (s.mgmtSend (ctrlBody 3 0 Config.uuid)) := by
  change execGetEndpointUuid .. = _
  rw [execGetEndpointUuid, State.ctrl_on hon]

theorem execGetMctpVersionSupport_answers {t : Nat} (ht : t = 0xFF ∨ t = 0) :
    exec (.getMctpVersionSupport t) s = .next (s.mgmtSend (ctrlBody 4 0 [1, 0xF1, 0xF3, 0xF0, 0x00])) := by
  change execGetMctpVersionSupport .. = _
  rw [execGetMctpVersionSupport, if_pos ht, State.ctrl_on hon]

theorem execGetMessageTypeSupport_answers : exec .getMessageTypeSupport s = .next (s.mgmtSend (ctrlBody 5 0 [1, 0x7E])) := by
  change execGetMessageTypeSupport .. = _
  rw [execGetMessageTypeSupport, State.ctrl_on hon]

theorem execGetVendorDefinedMessageSupport_answers : exec (.getVendorDefinedMessageSupport 0) s =
    .next (s.mgmtSend (ctrlBody 6 0 [0xFF, 0, BitVec.ofNat 8 (Config.vendorId / 256), BitVec.ofNat 8 Config.vendorId, 0, 0])) := by
  change execGetVendorDefinedMessageSupport .. = _
  rw [execGetVendorDefinedMessageSupport, if_pos rfl, State.ctrl_on hon]

theorem execErrorUnsupportedCmd_answers (c : Nat) : exec (.errorUnsupportedCmd c) s = .next (s.mgmtSend (ctrlBody c 5 [])) := by
  change execErrorUnsupportedCmd .. = _
  rw [execErrorUnsupportedCmd, State.ctrl_on hon]

end Port

theorem execMctpMessageTimeout_discards {s : State} {tag : Nat} (hopen : s.boot.asm.any (fun m => decide (m.1 = tag)) = true) :
    exec (.mctpMessageTimeout tag) s = .next ((s.setBoot { s.boot with
      asm := s.boot.asm.filter (fun m => decide (m.1 ≠ tag)) }).mgmtDiscard) := by
  change execMctpMessageTimeout .. = _
  rw [execMctpMessageTimeout, if_pos hopen]

/-! ### Ibnov messages (R127, R128) -/

theorem execMctpIbnovMessage_broken {s t : State} {tag : Nat} (bytes : List Byte) (ht : t = s.mgmtServed tag) :
    exec (.mctpIbnovMessage tag true bytes) s = .next t.mgmtDiscard := by
  subst ht
  change execMctpIbnovMessage .. = _
  rw [execMctpIbnovMessage, if_pos rfl]

/-- A framed message is accepted when its trailer is right. -/
theorem execMctpIbnovMessage_framed {s t : State} {tag : Nat} {bytes : List Byte} {h : Header} {p : Packet}
    (hh : h = parseHeader bytes) (hp : p = toPacket 0 (.mgmt tag) h bytes) (ht : t = s.mgmtServed tag)
    (hacc : s.accepting = true) (hflight : t.mgmtInFlight < 4) (hcredit : t.creditsHeld 0 < (t.inst 0).credits)
    (hmin : 16 ≤ bytes.length) (hframe : h.frameOk = true) (hlen : bytes.length = 20 + h.length) :
    exec (.mctpIbnovMessage tag false bytes) s = .next (
      if trailerOk h bytes = true then (t.count 0 0 2).takePacket p h.opcode (t.acceptCheck 0 2 false h)
      else t.answerBroken h.opcode p .badCrc) := by
  subst ht hp
  have hroom : ¬ (4 ≤ (s.mgmtServed tag).mgmtInFlight ∨
      ((s.mgmtServed tag).inst 0).credits ≤ (s.mgmtServed tag).creditsHeld 0) := by omega
  have hframed : (decide (bytes.length < 16) || !h.frameOk || decide (bytes.length ≠ 20 + h.length)) = false := by
    simp [hframe, hmin, ← hlen]
  change execMctpIbnovMessage .. = _
  rw [execMctpIbnovMessage, ← hh, if_neg Bool.false_ne_true, if_neg (by simp [hacc]), if_neg hroom]
  simp only [hframed, Bool.false_eq_true, if_false]
  cases trailerOk h bytes <;> rfl

/-! ### Recovery (R643) -/

section Image
variable {s : State} (hstage : s.boot.stage = 14) (hwaits : s.boot.recResult ≠ 3)
include hstage hwaits

theorem State.recovering_waits : s.recovering = true := by simp [State.recovering, hstage, hwaits]

theorem execRecoveryStart_starts : exec (.recoveryStart s.failedUnit) s = .next ((s.setFirmware { s.firmware with
    slots := s.firmware.slots.set (2 * s.failedUnit) .empty }).setBoot { s.boot with
      recUnit := s.failedUnit
      recData := []
      recOffset := 0
      recResult := 1 }) := by
  change execRecoveryStart .. = _
  rw [execRecoveryStart, State.recStart, if_pos (by simp [State.recovering_waits hstage hwaits])]
  rfl

section Page
variable {data : List Byte} (hlen : data.length = 256)
include hlen

theorem execRecoveryData_follows (hnext : s.boot.recOffset = s.boot.recData.length) : exec (.recoveryData data) s =
    .next (s.setBoot { s.boot with
      recData := s.boot.recData ++ data
      recOffset := (s.boot.recOffset + 256) % 2 ^ 24
      recResult := 2 }) := by
  change execRecoveryData .. = _
  rw [execRecoveryData, State.recPage, if_neg (by simp [State.recovering_waits hstage hwaits, hlen]),
    if_neg (not_not_intro hnext)]

theorem execRecoveryData_misplaced (hnext : s.boot.recOffset ≠ s.boot.recData.length) : exec (.recoveryData data) s =
    .next (s.setBoot { s.boot with recResult := 5 }) := by
  change execRecoveryData .. = _
  rw [execRecoveryData, State.recPage, if_neg (by simp [State.recovering_waits hstage hwaits, hlen]), if_pos hnext]

end Page

section Commit
variable {u : Nat} {d : List Byte} {ok : Bool} (hu : u = s.failedUnit) (hd : d = s.boot.recData)
  (hok : ok = (headerOk u (s.firmware.counter.get u) d && decide (272 + imgBodyLen d ≤ d.length) && bodyOk d))
include hu hd hok

theorem execRecoveryCommit_good {t : State}
    (ht : t = (s.setFirmware { s.firmware with slots := s.firmware.slots.set (2 * u) (slotOf d true) }).prefer u 0)
    (hgood : ok = true) : exec .recoveryCommit s = .next (t.setBoot { t.boot with recResult := 3 }) := by
  subst ht hu hd
  change execRecoveryCommit .. = _
  rw [execRecoveryCommit, State.recCommit]
  simp only [State.recovering_waits hstage hwaits, Bool.not_true, Bool.false_eq_true, if_false, ← hok, hgood, if_true]

theorem execRecoveryCommit_bad (hbad : ok = false) :
    exec .recoveryCommit s = .next (s.setBoot { s.boot with recResult := 4 }) := by
  subst hu hd
  change execRecoveryCommit .. = _
  rw [execRecoveryCommit, State.recCommit]
  simp only [State.recovering_waits hstage hwaits, Bool.not_true, Bool.false_eq_true, if_false, ← hok, hbad]

end Commit
end Image

/-- Settles O58: each clause is the rule of its row above. -/
theorem managementPortCompletes : Obligations.ManagementPortCompletes := by
  intro s hstate
  have hon : s.mgmtOn = true := State.mgmtOn_iff.mpr hstate
  refine ⟨?block, fun tag => execMctpMessageTimeout_discards, ?message,
    fun reg len => ⟨execBasicRegisterRead_refused hon, execBasicRegisterRead_low hon⟩,
    fun data hs => execBasicRegisterWrite_page hon hs, fun reg data hs => execBasicRegisterWrite_word hon hs,
    fun op eid => execSetEndpointId_assigns hon, execGetEndpointId_answers hon, execGetEndpointUuid_answers hon,
    fun t => execGetMctpVersionSupport_answers hon, execGetMessageTypeSupport_answers hon,
    execGetVendorDefinedMessageSupport_answers hon, execErrorUnsupportedCmd_answers hon, fun hs hw =>
      ⟨execRecoveryStart_starts hs hw,
        fun data hlen => ⟨execRecoveryData_follows hs hw hlen, execRecoveryData_misplaced hs hw hlen⟩,
        fun u d ok t hu hd hok ht => ⟨execRecoveryCommit_good hs hw hu hd hok ht, execRecoveryCommit_bad hs hw hu hd hok⟩⟩⟩
  case block =>
    intro bytes flags tag body t hflags htag hlen haddr
    refine ⟨execSmbusTransaction_nacked hon hflags htag hlen haddr, fun hpec hcommand hcount heid hstart hbody ht => ?packet⟩
    have hexec := execSmbusTransaction_packet hon hflags htag hlen haddr hpec hcommand hcount heid hstart ht
    rw [← hbody] at hexec
    refine ⟨fun hmore => ?starts, fun hend htype => ?whole⟩
    case starts =>
      rw [hexec, hmore, State.mgmtPacket_starts]
      rfl
    case whole =>
      rw [hexec, hend, State.mgmtPacket_whole _ _ htype]
      rfl
  case message =>
    intro tag bytes h p t hh hp ht
    refine ⟨execMctpIbnovMessage_broken bytes ht, fun hacc hflight hcredit hmin hframe hlen => ?framed⟩
    have hexec := execMctpIbnovMessage_framed hh hp ht hacc hflight hcredit hmin hframe hlen
    exact ⟨fun hok => by rw [hexec, if_pos hok], fun hbad => by rw [hexec, if_neg (by simp [hbad])]⟩

end Sys2Proof.Machine
end
